-- ==== Sys2Proof/Word.lean ====
section
/-! DEFINITION. The words of the ZK6400: bytes, 32-bit registers (R126), byte strings in network order (R8) and sparse tables. -/

namespace Sys2Proof

/-- One byte of a wire format (R8). -/
abbrev Byte := BitVec 8

/-- One 32-bit register (R126). -/
abbrev Word := BitVec 32

/-- A wire format as its bytes, byte 0 the first byte sent (R8). -/
abbrev Bytes := List Byte

/-- A sparse table of objects by index, ascending and without repeats where the operations of Machine/Tables.lean built it. -/
abbrev Tbl (α : Type) := List (Nat × α)

end Sys2Proof
end

