-- ==== Sys2Proof/Syntax/Forms.lean ====
section
/-! DEFINITION. The operand forms of the commands: who sends an access, which register it names, what a mailbox request carries. -/

namespace Sys2Proof

/-- The four requesters of R112. -/
inductive Requester where
  | pf0 | pf1 | spi | i2c
  deriving DecidableEq, Repr, Inhabited

/-- The registers of the manual's register tables, by name (R143, R145, R147, R177, R178, R136, R204, R238, R268, R308, R346,
R347, R378, R410, R437, R472, R513, R531, R563). Indices are those of the name. -/
inductive Reg where
  | glbId | glbStrap | glbStat | glbBootStat | glbRstCause | glbRstCtl | glbRstCmd | glbCpuRestart | glbWdt | glbCpuHb
  | glbErrCtl | glbAccerr | glbAccerrAddr | glbEpochLo | glbIntStat | glbIntEn | glbIntMgmtEn | glbScratch
  | pwrCap | pwrLoad | pwrDomReady | pwrDefer | pwrMemIdle | pwrRailoff | pwrRailClr | pwrThermCtl | pwrThermStat
  | pwrPfwCtl | pwrPfwStat | pwrHostHold | pwrHostDrop
  | pwrRailStat (k : Nat) | pwrRailMeas (k : Nat) | pwrRegion (r : Nat) | pwrDomStat (d : Nat)
  | errStat | errOverflow | errLost | errSummary | errAccCnt | errCnt (s : Nat) | errInj
  | mbxDb (c : Nat) | mbxReqHead (c : Nat) | mbxRspTail (c : Nat) | mbxRspHead (c : Nat) | mbxStat (c : Nat)
  | mbxCtl (c : Nat) | mbxBudget (c : Nat) | mbxServed (c : Nat) | mbxGstat
  | evtCtl | evtBaseLo | evtBaseHi | evtSize | evtProd | evtCons | evtBatch | evtHoldoff | evtStat | evtLost | evtSeq
  | wideSel | wideStat | wideCmd | wideData (i : Nat) | wideWdata (i : Nat)
  | nvmStat | nvmStoreCnt | nvmArb | nvmErr | nvmCorrCnt | nvmJtagNonce | nvmJtagCtl | nvmJtagTime | nvmLgEpochLo | nvmJrnlSeq
  | pctrCtl | pctrWin | pctrMask | pctrRingLo | pctrRingHi | pctrRingSize | pctrProd | pctrCons | pctrStat | pctrWinSeq
  | pctrWrapSum | pctrClr | pctrBwRx (p : Nat) | pctrBwTx (p : Nat)
  | cliPstat (n p : Nat) | cliLstat (n k : Nat) | cliPrbsCnt (n k : Nat)
  | lineStat (n : Nat) | lineLstat (n k : Nat) | lineOhxSlip (n : Nat) | lineOhxErr (n : Nat)
  | lineRszStat (n : Nat) | lineRszId (n : Nat) | lineRszCnt (n : Nat)
  | xcCstat (i : Nat) | xcCsize (i : Nat) | xcPgstat (g : Nat) | xcMgstat (m : Nat) | xcMgskew (m : Nat)
  | pktZstat (n i : Nat) | pktCtxcnt (n k : Nat)
  | qmClr (n : Nat) | qmFree (n : Nat) | qmFill (n : Nat) | qmWmStat (n : Nat)
  | memcStat | memcGrant (n : Nat) | memcGstat (g : Nat)
  | pmonStat | pmonPhase | pmonSec | pmonPending | pmonExcl
  | mateStat | matePhase | mateCnt | mateReplay
  | timRefStat (r : Nat) | timDpllStat (d : Nat) | timOutStat
  deriving DecidableEq, Repr, Inhabited

/-- What a register access names: a BAR0 offset, or a register at the offset that its LTAB entry gives (R125). -/
inductive RegTarget where
  | offset (o : Nat)
  | named (r : Reg)
  deriving DecidableEq, Repr, Inhabited

/-- What an I²C transaction names: the 7-bit target address and the register offset (R54, R121). -/
structure I2cPlace where
  addr : Nat
  off : Nat
  deriving DecidableEq, Repr, Inhabited

/-- One mailbox request as Thino or the ROM takes it from a ring (R151, R152). The command's row is the OPCODE field. -/
structure Req where
  /-- the ring it stands in, 0 to 7 -/
  ch : Nat
  /-- TAG -/
  tag : BitVec 16
  /-- the CHANNEL field of its header -/
  chField : Nat
  /-- the payload; its length is the LENGTH field -/
  payload : Bytes
  /-- ns of the current epoch at which it reaches its commit point (X of R161) -/
  ns : Nat
  /-- the firmware faults while it serves the request (INTERNAL of R159) -/
  internal : Bool := false
  deriving DecidableEq, Repr, Inhabited

/-- The overhead of one layer in one received frame (R381, R386): which layer, its blocks, and what its overhead says. -/
structure LayerRx where
  /-- KIND, TCM level, SIDE and OBJECT of R381 -/
  kind : Nat
  level : Nat := 0
  side : Bool := false
  obj : Nat
  /-- blocks received and blocks with a BIP-8 violation, over the instances of the layer -/
  blocks : Nat := 1
  errored : Nat := 0
  /-- BIP-8 violations by instance, 0 to 8 -/
  viol : List Nat := []
  /-- received blocks whose BEI is 1 to 8 -/
  far : Nat := 0
  /-- STAT of instance 1 -/
  stat : Nat := 1
  /-- BDI, IAE and BEI/BIAE of 0b1011, by instance -/
  bdi : List Bool := []
  iae : List Bool := []
  biae : List Bool := []
  /-- the 64 bytes of the TTI cycle that ends with this frame -/
  tti : Option Bytes := none
  /-- at the end of a multiframe: PT, the CSF indication (1 client signal fail), then the MSI entries by slot or HO TS -/
  psi : Option (List Nat) := none
  deriving DecidableEq, Repr, Inhabited

end Sys2Proof
end

