-- ==== Sys2Proof/Syntax/Inputs.lean ====
section
/-! DEFINITION. Operand forms of the commands that carry measurements. -/

namespace Sys2Proof

/-- What one DPLL shows in a whole second (R483, R492, R495): frequencies in 0.01 ppb. -/
structure DpllMeas where
  dpll : Nat
  /-- frequency error against the selected reference, as a 1 s mean -/
  err : Int
  /-- output offset against XO_IN -/
  freq : Int
  /-- phase error against the reference in ns -/
  phase : Int := 0
  /-- the running anchor: mean output frequency, mean temperature in 0.1 °C, mid-point as an epoch -/
  anchor : Option (Int × Int × Nat) := none
  deriving DecidableEq, Repr, Inhabited

/-- A header of a container's stream as received, with the bytes between the frame before and it (R226, R227, R231). -/
structure HeaderIn where
  skipped : Bytes
  bytes : Bytes
  deriving DecidableEq, Repr, Inhabited

/-- One period of justification control: whether the CRCs of Cm and of CnD are correct, and its stage, 0 of the client into the
container, 1 of the container into its parent (R253). -/
structure JcCrc where
  cm : Bool
  cnd : Bool
  stage : Nat := 1
  deriving DecidableEq, Repr, Inhabited

/-- Whose ANN_RETRY expires (R294): the announcement of a flow, or its withdrawal from the container named. -/
structure CtxTimer where
  flow : Nat
  wdr : Option Nat := none
  deriving DecidableEq, Repr, Inhabited

/-- A round of block grants (R21, R317): what each of the four slices asks for in Mb/s, the length of the round in ns, and the blocks
that aligned merges of each slice write and read in it. -/
structure GrantRound where
  demands : List Nat
  ns : Nat
  merge : List Nat
  deriving DecidableEq, Repr, Inhabited

/-- An error that a memory or an engine detects by itself (R110, R149). -/
inductive EngineErr where
  /-- words of MRAM corrected in the epoch (MRAM_CORR) -/
  | mramCorr (words : Nat)
  /-- an uncorrectable read in an MRAM area, numbered as in R534 (MRAM_FAIL) -/
  | mramUncorr (area : Nat)
  /-- an uncorrectable error of the epoch counter (EPOCH_FAULT) -/
  | epochFault
  /-- an uncorrectable error of the table-commit engine (COMMIT_ENGINE) -/
  | commitEngine
  /-- a parity error on the XC container path (XC_PARITY) -/
  | xcParity (c : Nat)
  /-- a FATAL code of an engine: LTAB TYPE, instance, cause (ENGINE_FATAL) -/
  | engineFatal (ty inst cause : Nat)
  deriving DecidableEq, Repr, Inhabited

end Sys2Proof
end

