-- ==== Sys2Proof/Config.lean ====
section
/-! DEFINITION. What one part fixes, and the free values: constants without a body, so that nothing can be proved of their values. -/

namespace Sys2Proof

/-- The free value number `k` of the run, 64 bits: a value the manual leaves open. Log entry 3. -/
opaque Config.freeValue : Nat → BitVec 64

/-- The time within its epoch of the event number `k`, before reduction to 0 to 999,999 (R171 NS). Log entry 4. -/
opaque Config.freeNs : Nat → Nat

/-- The code of the transmit direction in RESIZE_SWITCH, and how far that of the receive direction lies from it (R379). Log entry 17. -/
opaque Config.switchDir : Nat
opaque Config.switchGap : Nat

/-- Device Serial Number, from fuses (R115, R179 INVENTORY). Log entry 5. -/
opaque Config.serial : BitVec 64

/-- SHA-384 of FIPS 180-4 (R95), left uninterpreted. Log entry 6. -/
opaque Config.sha384 : Bytes → Bytes

/-- Validity of an ECDSA P-384 signature: public key, message, signature (R95), left uninterpreted. Log entry 6. -/
opaque Config.ecdsaValid : Bytes → Bytes → Bytes → Bool

/-- Hash of the vendor root key fused into the device (R95). Log entry 6. -/
opaque Config.vendorKeyHash : Bytes

/-- Hash of the customer key, when one is fused (R95). Log entry 6. -/
opaque Config.customerKeyHash : Option Bytes

/-- Bytes of the ROM part of LTAB that the manual does not state, by offset from the header at BAR0 0x0000_1000 and,
from 2^20 on, by offset in the register entries (R125, R137 to R140). Log entry 7. -/
opaque Config.ltabRomByte : Nat → Byte

/-- Register entries of a ROM block whose registers the manual does not describe (R138 REG_COUNT), by block window base. Log
entry 7. -/
opaque Config.romRegCount : Nat → Nat

/-- Unused register entry positions before the run of a ROM block (R140), by block window base. Log entry 7. -/
opaque Config.romGap : Nat → Nat

/-- DECODE_BITS of a block whose value only the ROM part of LTAB gives (R125), by block window base. Log entry 7. -/
opaque Config.romDecodeBits : Nat → Nat

/-- The dword of its block at which the ROM part of LTAB puts a register whose offset the manual does not state (R125). Log
entry 7. -/
opaque Config.romOffset : Reg → Nat

/-- The vendor ID of Gyelos Microsystems and the Revision ID of the PCIe functions (R115). Log entry 140. -/
opaque Config.vendorId : BitVec 16
opaque Config.pcieRevision : Byte

/-- BIP-8 of a layer in frame n and instance k, over bytes that State does not hold (log entry 177). -/
opaque Config.bip8 : Nat → Nat → Nat → Nat

/-- The width and the rate to which training number n brings the PCIe link, by their place in the lists of R115 (log entry 176). -/
opaque Config.linkWidth : Nat → Nat
opaque Config.linkRate : Nat → Nat

/-- The CRC of the FlexO overhead of an instance, from its instance number, group number and remote PHY fault: G.709.1 gives it, not
the manual (R215). Log entry 147. -/
opaque Config.flexoCrc : Nat → Nat → Bool → Nat

/-- The IDCODE that the TAP answers (R49). Log entry 141. -/
opaque Config.idcode : BitVec 32

/-- AVS target in 5 mV steps above 0.700 V, from the fused process code and the region temperature (R74). Log entry 8. -/
opaque Config.avsTarget : Nat → Int → Nat

/-- The data rate of GDDR6 that a MEM_RATE other than 16, 20 and 24 gives (R544): the manual states none. Log entry 13. -/
opaque Config.memRateOf : Nat → Nat

/-- The bursts of GDDR6 that one block of 2 KiB and its descriptor take (R340, R521): the manual states no burst length. Log entry
158. -/
opaque Config.blockBursts : Nat

/-- B × ln(1 + t / TAU) of R495 in 10^-15, from B, t in ms and TAU in s: the manual states no rounding. Log entry 21. -/
opaque Config.glideLn : Int → Int → Nat → Int

/-- The errors that engines detect by themselves by the free value number `k` (R110, R149): no row of the table is about their
detection. Log entry 125. -/
opaque Config.engineErrs : Nat → List EngineErr

/-- Whether a microcode part of the BULK window passes the verification of R36, from its bytes: the manual gives a part alone no
signature layout. Log entry 35. -/
opaque Config.partValid : Bytes → Bool

/-- Whether a TARGET of TIME_STATUS names a reference, where it is also the number of a DPLL or of an output (R507 to R509, R512):
the manual gives the three kinds overlapping numbers. Log entry 39. -/
opaque Config.targetIsRef : Nat → Bool

/-- The CRC-32 digest of a state component (R469), from its contents: the manual gives no byte layout. Log entry 24. -/
opaque Config.digest : Nat → List Nat → Word

/-- The LTAB block entries and register entries that an LTAB extension part adds (R141): the manual gives the part no layout.
Log entry 28. -/
opaque Config.extBlocks : Bytes → List Bytes
opaque Config.extRegs : Bytes → List Bytes

end Sys2Proof
end

