-- ==== Sys2Proof/Machine/Parts/Client.lean ====
section
/-! DEFINITION. The state of the client ports and of the performance counters. -/

namespace Sys2Proof.Machine

/-- A quality level as ESMC carries it (R199, R200). -/
structure Ql where
  /-- QL-FAILED -/
  failed : Bool := true
  ssm : Nat := 0xF
  essm : Nat := 0
  clockId : Bytes := []
  /-- the extended QL TLV was present -/
  ext : Bool := false
  /-- from an event PDU -/
  event : Bool := false
  eeec : Nat := 0
  eec : Nat := 0
  deriving DecidableEq, Repr, Inhabited

/-- A candidate slot of the framer (R218). -/
structure Cand where
  pos : Nat
  mfas : Nat
  /-- further correct frames seen -/
  n : Nat := 0
  deriving DecidableEq, Repr, Inhabited

/-- The OTUCn framer and multiframe (R217 to R219, R222). -/
structure Framer where
  inFrame : Bool := false
  pos : Nat := 0
  /-- retained position -/
  ret : Option Nat := none
  /-- consecutive errored FAS in IN_FRAME -/
  bad : Nat := 0
  /-- consecutive correct FAS at the retained position in OOF -/
  retGood : Nat := 0
  /-- busy candidate slots, the earliest opened first -/
  cands : List Cand := []
  /-- the previous frame's MFAS, adopted count -/
  mfas : Nat := 0
  /-- consecutive MFAS mismatches -/
  mis : Nat := 0
  /-- the newest received MFAS that broke the count -/
  odd : Option Nat := none
  /-- consecutive multiframes whose availability bits differ, or agree, with the map in force -/
  avBad : Nat := 0
  avGood : Nat := 0
  deriving DecidableEq, Repr, Inhabited

/-- A client port in operation (R190 to R203); its live and sticky bits stand in SLn_CLI_PSTATp. -/
structure CliPort where
  /-- received quality level in force -/
  ql : Ql := {}
  /-- content of the newest ESMC report (R200) -/
  reported : Option Bytes := none
  /-- valid PDUs since the port came up -/
  pdus : Nat := 0
  /-- information and event PDUs sent, and the newest sent QL -/
  lastTx : Option Ql := none
  /-- an event PDU is due (R200) -/
  eventDue : Bool := false
  /-- SSM and enhanced SSM that the port sends, as last seen -/
  qlSent : Option Nat := none
  /-- FEC symbols received, and those in error before correction, in the current epoch (R194 FEC_DEG) -/
  fecSyms : Nat := 0
  fecErrs : Nat := 0
  /-- consecutive epochs below FEC_DEG_CLR -/
  fecGood : Nat := 0
  /-- conditions as detected, before the gating of R194: bit 6 LF_RX, bit 7 RF_RX -/
  faultSeen : Nat := 0
  /-- the framer of an OTN client (R216 to R218) -/
  fr : Framer := {}
  /-- live defects of an OTN client that SLn_CLI_PSTATp does not hold, as bits of R386 -/
  otn : Nat := 0
  /-- the newest frame sent on the port, and the fault signal in its place: 0 none, 1 LF, 2 RF, 3 AIS, 4 idle, 5 test -/
  sent : Bytes := []
  txSig : Nat := 0
  deriving DecidableEq, Repr, Inhabited

/-- A performance counter (R519). -/
structure Ctr where
  v : Nat := 0
  wrap : Bool := false
  deriving DecidableEq, Repr, Inhabited

/-- A dump as it is written to host memory (R530): its header fields and the counters captured, unlisted ones 0. -/
structure Dump where
  seq : Nat
  epoch : Nat
  winMs : Nat
  winUs : Nat
  banks : Nat
  phase : Bool
  restart : Bool
  partWin : Bool
  skipped : Nat
  snap : Tbl Ctr
  deriving DecidableEq, Repr, Inhabited

/-- Performance counters and telemetry beyond the registers (R519 to R530). -/
structure PctrSt where
  ctr : Tbl Ctr := []
  /-- octet counters at the end of the previous window, for R527 -/
  prev : Tbl Nat := []
  /-- window length in force in ms -/
  win : Nat := 1000
  /-- the window now running is the first after D4 ready, DUMP_EN set or a change of length (R526) -/
  part : Bool := true
  /-- parity of the pass through the ring at which DUMP_EN was set (R530) -/
  pass : Nat := 0
  /-- epoch at which the running window began -/
  start : Nat := 0
  /-- banks of a PCTR_CLR waiting for the window boundary (R525) -/
  clr : Nat := 0
  /-- PCTR_CLR.GO is in progress until the window boundary (R127, R525) -/
  clrGo : Bool := false
  /-- the next dump carries RESTART (R525, R533) -/
  restart : Bool := true
  /-- captures skipped since the last dump written (R530) -/
  skipped : Nat := 0
  /-- a dump being written -/
  writing : Option Dump := none
  /-- dumps in host memory, by slot -/
  ring : Tbl Dump := []
  /-- bit b: PCTR_WRAP of bank b was posted in this epoch (R532) -/
  wrapSeen : Nat := 0
  /-- PCTR_DUMP_SKIPPED was posted in this epoch (R532) -/
  skipSeen : Bool := false
  deriving DecidableEq, Repr

end Sys2Proof.Machine
end

