-- ==== Sys2Proof/Machine/Parts/Infra.lean ====
section
/-! DEFINITION. The state of the always-on domain and of the host interface: time, pins, power domains, error queue, events,
mailboxes, requesters, provisioning tables and host-assisted functions. -/

namespace Sys2Proof.Machine

/-- Time (R64, R65) and the two counters of the model that number free values (log entries 3 and 4). -/
structure TimeSt where
  /-- 48-bit epoch counter (R65) -/
  epoch : BitVec 48 := 0
  /-- 64-bit real-time counter in 1/32,768 s (R64) -/
  rtc : BitVec 64 := 0
  /-- the model's own: free values drawn so far -/
  free : Nat := 0
  /-- the model's own: events stamped so far -/
  stamps : Nat := 0
  deriving DecidableEq, Repr

/-- What the fuses of the part fix (R1, R59, R556). -/
structure FuseSt where
  /-- true on a ZK6400-IB -/
  ib : Bool := false
  /-- anti-rollback fuse steps burned, 0 to 64 -/
  arb : Nat := 0
  deriving DecidableEq, Repr

/-- The levels of the management balls (R49 to R57) and the supply monitors of VDD_AON (R81). -/
structure PinSt where
  porN : Bool := false
  warmRstN : Bool := true
  perstN : Bool := false
  pfwN : Bool := true
  /-- PSEQ_EN0 to PSEQ_EN7 -/
  pseqEn : BitVec 8 := 0
  /-- PSEQ_PG0 to PSEQ_PG7 -/
  pseqPg : BitVec 8 := 0
  /-- PWR_CYCLE_REQ_N held low (R52) -/
  pwrCycleReq : Bool := false
  /-- VDD_AON below its brownout threshold (R81) -/
  brownout : Bool := false
  /-- VDD_AON below the write guard threshold (R81) -/
  guard : Bool := false
  deriving DecidableEq, Repr

/-- PWR_DOM_STATd.STATE (R145). -/
inductive DomState where
  | off | ramping | ready | isolating | faulted | selfRefresh | deferred
  deriving DecidableEq, Repr, Inhabited

/-- One power domain (R58 to R62, R76, R78 to R80). -/
structure Dom where
  st : DomState := .off
  /-- admitted, waiting for its slice rail (R76) -/
  waitRail : Bool := false
  /-- rank of R23 of the last request -/
  rank : Nat := 3
  /-- its last use is removed; it sleeps at an epoch boundary (R61) -/
  leaving : Bool := false
  /-- rank of a wake request held behind its sleep (R62), or behind the return of its rail (R80); 0 none -/
  heldWake : Nat := 0
  /-- LATCHED (R80) -/
  latched : Bool := false
  /-- epochs of its newest faults, newest first (R80) -/
  faults : List Nat := []
  /-- cause of the newest fault (R149 DOMAIN_FAULT DETAIL1) -/
  cause : Nat := 0
  /-- an isolation under R82 or R83 that bars re-wake until the region rejoins -/
  barred : Bool := false
  /-- a MEM group that was powered down, not put into self-refresh: full training is needed (R73) -/
  untrained : Bool := true
  /-- a MEM group woken for one scrub pass (R73) -/
  scrub : Bool := false
  /-- faulted, and its rail has been back within thresholds for 10 ms (R80), or a boot wakes it (R101): a request may wake it -/
  railOk : Bool := false
  deriving DecidableEq, Repr, Inhabited

/-- Power state beyond the registers: domains, thermal arming, AVS targets and the power-fail sequence. -/
structure PwrSt where
  /-- domains 0 to 23 by number; D0 is on whenever VDD_AON is within limits (R60) -/
  doms : Tbl Dom := [(0, { st := .ready })]
  /-- bit r: THERM_WARN of region r is raised and not yet re-armed (R83) -/
  warnUp : Nat := 0
  /-- bit r: the 110 °C condition of region r is raised and not yet re-armed (R83) -/
  critUp : Nat := 0
  /-- AVS targets of VDD_S0 to VDD_S3 and VDD_CMN in mV (R74) -/
  avs : Tbl Nat := []
  /-- bit k: rail k was switched off by an overvoltage (R79) -/
  ovOff : Nat := 0
  /-- bit n: PSEQ_ENn was driven low under R76 or has never been high -/
  railOff : Nat := 0xF
  /-- the last-gasp write is in progress (R84) -/
  gaspBusy : Bool := false
  /-- a warm reset waits for the last-gasp write (R57), with its GLB_RST_CAUSE bit -/
  warmDeferred : Option Nat := none
  /-- PFW_N is high and the 10 ms of R87 run -/
  liftRun : Bool := false
  /-- epoch at freeze (R84) -/
  frozenAt : Nat := 0
  /-- region differences: bit r, region r isolated under R82 -/
  skewIso : Nat := 0
  /-- bit r: region r isolated under R83 -/
  thermIso : Nat := 0
  deriving DecidableEq, Repr

/-- An ERR record in the queue (R148). -/
structure ErrRec where
  sev : Nat
  /-- 0 queued; 1 in handling; 2 suspended; 3 handled, awaiting posting -/
  st : Nat := 0
  inst : Nat
  src : Nat
  code : Nat
  epoch : BitVec 48
  d0 : Nat
  d1 : Nat
  deriving DecidableEq, Repr, Inhabited

/-- The ERR block beyond its registers (R108, R132). -/
structure ErrSt where
  /-- oldest first, at most 64 -/
  queue : List ErrRec := []
  /-- bit b: cause b of GLB_ACCERR was recorded in this epoch (R132) -/
  accSeen : Nat := 0
  deriving DecidableEq, Repr

/-- An event record (R171). -/
structure EvtRec where
  ty : Nat
  seq : BitVec 16
  phase : Bool := false
  urgent : Bool
  lost : Bool := false
  engine : Bool
  epoch : BitVec 48
  ns : Nat
  src : Nat
  inst : Nat
  obj : Nat
  detail : Bytes
  deriving DecidableEq, Repr, Inhabited

/-- Events: SEQ and the log in D0, the staging FIFO and the ring writer in D4 (R172 to R174). -/
structure EvtSt where
  seq : BitVec 16 := 0
  /-- newest 384 records, newest first (R174) -/
  log : List EvtRec := []
  /-- staging FIFO, oldest first, at most 1,024 -/
  staged : List EvtRec := []
  /-- the holdoff timer runs -/
  holdoff : Bool := false
  /-- a posting fell due and could not be made -/
  due : Bool := false
  /-- records were lost since the previous posted record -/
  lost : Bool := false
  /-- records written to host memory, by ring slot (R173) -/
  ring : Tbl EvtRec := []
  /-- the parity of the pass through the ring in which ENABLE was set: PHASE is 1 in it (R173) -/
  pass : Nat := 0
  deriving DecidableEq, Repr

/-- A logged response (R104, R157). -/
structure TagEnt where
  tag : BitVec 16
  opcode : Nat
  crc : BitVec 32
  status : Nat
  payload : Bytes
  mirrored : Bool
  epoch : Nat
  deriving DecidableEq, Repr, Inhabited

/-- A mirrored command accepted and waiting for its execution epoch X (R161, R453). -/
structure MirItem where
  opcode : Nat
  req : Req
  x : Nat
  /-- it came from this device's own host, which is owed the response -/
  own : Bool := true
  /-- X lies after its acceptance: both mates execute it at X (R161) -/
  ahead : Bool := true
  deriving DecidableEq, Repr, Inhabited

/-- Mailboxes beyond their registers: the tag log in D0 and the mirrored commands in flight. -/
structure MbxSt where
  /-- newest 64 completed tags of each channel, newest first (R104) -/
  logs : Tbl (List TagEnt) := []
  /-- mirrored commands accepted, oldest first -/
  mir : List MirItem := []
  /-- budgets in force, by channel; unlisted: the reset value (R177) -/
  inForce : Tbl Nat := []
  /-- processor time used in this epoch in 0.01 %, by the channel that holds the budget (R25) -/
  used : Tbl Nat := []
  /-- the channel last served without budget: round robin goes on after it (R25) -/
  turn : Nat := 7
  /-- since which epoch the request at the head of a channel waits for D2 (R60, R541) -/
  stall : Tbl Nat := []
  deriving DecidableEq, Repr

/-- One requester's WIDE bank (R133 to R136). -/
structure WideBank where
  sel : Word := 0
  /-- WIDE_SEL writes modulo 16 -/
  writes : Nat := 0
  ticket : Nat := 0
  errc : Nat := 0
  busy : Bool := false
  valid : Bool := false
  /-- WIDE_CMD bits whose action is in progress (R127) -/
  cmd : Nat := 0
  data : List Word := [0, 0, 0, 0]
  wdata : List Word := [0, 0]
  deriving DecidableEq, Repr, Inhabited

/-- MSI-X of one function (R118): a set bit of `mask` masks the vector. -/
structure Msix where
  mask : BitVec 16 := 0xFFFF
  pend : BitVec 16 := 0
  /-- messages sent, by vector: what the host sees -/
  sent : Tbl Nat := []
  /-- the address and data dwords of the table, by dword offset -/
  words : Tbl Word := []
  deriving DecidableEq, Repr

/-- The host side: PCIe functions, WIDE banks, SPI, I²C and the last data answered to each requester. -/
structure HostSt where
  pf0 : Msix := {}
  pf1 : Msix := {}
  /-- link training has started (R92) -/
  training : Bool := false
  /-- trainings so far: what the free width and rate of each are applied to (the model's own; log entry 176) -/
  trained : Nat := 0
  /-- PF0 is in D3hot (R117) -/
  d3hot : Bool := false
  /-- Bus Master Enable of PF0 (R117) -/
  busMaster : Bool := false
  wide : Tbl WideBank := []
  /-- the bytes of the last read answered, in ascending address order, by requester 0 PF0, 1 PF1, 2 SPI, 3 I²C -/
  answer : Tbl Bytes := []
  /-- status of the previous SPI transaction (R120) -/
  spiStatus : Nat := 0
  /-- bytes sent by the SPI target in the last transaction (R120) -/
  spiOut : Bytes := []
  /-- dwords sent by the I²C target in the last transaction (R121) -/
  i2cOut : List Word := []
  deriving DecidableEq, Repr

/-- An accepted commit (R164). -/
structure Pend where
  id : Nat
  epoch : Nat
  tables : Tbl Bytes
  /-- the commit of the stored settings at Thino start (R94 step 6) -/
  restore : Bool := false
  deriving DecidableEq, Repr, Inhabited

/-- Provisioning: records by object key (`okey`), in the shadow tables and in service (R162, R164). -/
structure ProvSt where
  shadow : Tbl Bytes := []
  /-- shadow records of several parts, not yet whole: bit p for part p written since its first part (R162) -/
  parts : Tbl Nat := []
  serv : Tbl Bytes := []
  /-- accepted commits, in epoch order, at most 4 -/
  pend : List Pend := []
  /-- last COMMIT_ID given -/
  lastId : Nat := 0
  doneId : Nat := 0
  doneEpoch : Nat := 0
  /-- last PROPOSAL_ID given, device-wide (R361) -/
  lastProp : Nat := 0
  deriving DecidableEq, Repr

/-- A report of a host-assisted object (R168, R169). -/
structure Report where
  id : Nat
  reason : Nat
  content : Bytes
  /-- no decision has been taken -/
  opened : Bool := true
  /-- the assist timeout of R35 has ended: the epoch at whose boundary the mode changes -/
  changeAt : Option Nat := none
  deriving DecidableEq, Repr, Inhabited

/-- Host-assisted functions (R32 to R35, R168 to R170); the objects are keyed by function × 2^24 + number. -/
structure AsstSt where
  /-- REPORT_ID of the newest report; kept through a control-processor restart -/
  lastReport : Nat := 0
  newest : Tbl Report := []
  /-- frozen objects (R34) -/
  frozen : List Nat := []
  deriving DecidableEq, Repr

/-- Boot and reset state beyond the registers (R94, R97, R102, R103, R106). -/
structure BootSt where
  /-- Thino is running -/
  thino : Bool := false
  /-- the ROM is running (boot, recovery or a control-processor restart) -/
  rom : Bool := false
  /-- Thino has run since the last cold or warm reset, outside recovery: BAR0 is exposed whole (R92) -/
  exposed : Bool := false
  /-- a control-processor restart is in progress, with its GLB_RST_CAUSE bit -/
  cpuRestart : Option Nat := none
  /-- the boot watchdog is armed (R94) -/
  bootWdt : Bool := false
  /-- epochs of the newest CPU_WDT restarts, newest first (R103) -/
  wdtAt : List Nat := []
  /-- consecutive warm resets without ROM_START (R106) -/
  noRom : Nat := 0
  /-- the warm reset is held: WARM_RST_N is still low (R56) -/
  warmHeld : Bool := false
  /-- the warm reset counts toward R106 until ROM_START -/
  waitRom : Bool := false
  /-- a reset with KEEP_PCIE kept the PCIe link (R100) -/
  keptPcie : Bool := false
  /-- the epoch of the last Thino watchdog service (R102) -/
  hbAt : Nat := 0
  /-- LTAB extension entries: block entries, then register entries (R141) -/
  ltabExt : List Bytes := []
  ltabExtRegs : List Bytes := []
  ltabGen : Nat := 0
  /-- RECOVERY_ENTER was accepted: the next boot enters recovery mode (R97, R179) -/
  recover : Bool := false
  /-- a warm reset is under way, from its entry until Thino starts or recovery mode is entered (R101) -/
  warm : Bool := false
  /-- the boot runs from step 3 of R94: after a reset of rung 3 (R105) -/
  step3 : Bool := false
  /-- this boot has been counted, at its activation (R554) -/
  counted : Bool := false
  /-- COMMIT_ID of the restored settings (R94 step 6, R176) -/
  restoreId : Nat := 0
  /-- bit n: slice n is being re-initialised under R36, and new microcode was loaded for it -/
  sliceOut : Nat := 0
  sliceNew : Nat := 0
  /-- common rails enabled so far: the next PSEQ_EN of R90, 4 to 8 -/
  rail : Nat := 4
  deriving DecidableEq, Repr

end Sys2Proof.Machine
end

