-- ==== Sys2Proof/Machine/Parts/Odu.lean ====
section
/-! DEFINITION. The state of the containers in the mapper and in XC, and of the resize engine of a line port. -/

namespace Sys2Proof.Machine

/-- States of a G.7044 resize (R263, R268). -/
inductive FlexState where
  | idle | lcrInc | bwrUp | bwrDown | lcrDec
  deriving DecidableEq, Repr, Inhabited

/-- The extended frame counter of a container: sent (R265) and received (R267). -/
structure ExtFc where
  /-- FC is running; the frame count of the next frame sent -/
  run : Bool := false
  fc : BitVec 32 := 0
  /-- the running count of the last valid record received, and TAG -/
  rxFc : Nat := 0
  rxTag : Nat := 0
  /-- consecutive valid records whose FC differ by 4 -/
  good : Nat := 0
  /-- consecutive records invalid or disagreeing -/
  bad : Nat := 0
  /-- a valid record that disagreed and awaits the next -/
  cand : Option Nat := none
  deriving DecidableEq, Repr, Inhabited

/-- The justification control received at one GMP stage of a container: last good Cm and CnD, consecutive periods whose CRC failed, and
whether three failed with no good Cm since (R253). -/
structure Jc where
  cm : Nat := 0
  cnd : Nat := 0
  bad : Nat := 0
  err : Bool := false
  deriving DecidableEq, Repr, Inhabited

/-- A container in operation; TX_SIG, RX_SIG and the live bits stand in XC_CSTATi (R268). -/
structure Cont where
  /-- the container runs: its R251 frame has passed -/
  up : Bool := false
  /-- slots in use now (XC_CSIZEi.NOW) -/
  nowSlots : Nat := 0
  flex : FlexState := .idle
  /-- s1 and s2 of a resize in progress, and the calendar slots it will add or leave -/
  s1 : Nat := 0
  s2 : Nat := 0
  /-- the far end acknowledged the LCR phase -/
  acked : Bool := false
  ext : ExtFc := {}
  /-- the justification control received, by stage (R253) -/
  jc : Tbl Jc := []
  /-- the decision received for the next period (R255) -/
  just : Option (Nat × Nat) := none
  /-- MIRROR_MISS was posted in this epoch -/
  missSeen : Bool := false
  /-- preempted (R352) -/
  pre : Bool := false
  /-- the signal handed on in the egress direction (R259): 0 normal, 1 AIS, 2 LCK -/
  rxSig : Nat := 0
  /-- CSF declared on receive (R256) -/
  csf : Bool := false
  /-- CSF management frames sent -/
  csfSent : Nat := 0
  /-- the record of a container that its commit has deleted, until its R251 frame -/
  last : Bytes := []
  /-- the group that XC connects it in, since the R251 frame: OBJ_TYPE, index, partner (R261, R272) -/
  conn : Option (Nat × Nat × Nat) := none
  /-- EXP bytes of its newest ODU frame; none where those of the client passed (R265) -/
  exp : Option Bytes := none
  deriving DecidableEq, Repr, Inhabited

/-- The resize engine of a line port (R350 to R376). Maps are numbers: bit i set, slot i available. -/
structure Rsz where
  /-- STATE of R378: 0 IDLE; 1 PROPOSING; 2 EVALUATING; 3 ACKED; 4 SWITCHING -/
  st : Nat := 0
  /-- ROLE: true for the responder -/
  responder : Bool := false
  propId : Nat := 0
  newMap : Nat := 0
  preempt : Bool := false
  txMap : Nat := 2 ^ 320 - 1
  rxMap : Nat := 2 ^ 320 - 1
  txDone : Bool := false
  rxDone : Bool := false
  cd : Nat := 0
  /-- SE announced -/
  se : Nat := 0
  lastReason : Nat := 0
  /-- the message now sent: MSG, REASON -/
  msg : Nat := 0
  reason : Nat := 0
  /-- an adopted prediction: the received multiframe of the receive switch, and its map -/
  pred : Option (Nat × Nat) := none
  /-- predictions that disagreed with the adopted one -/
  predBad : Nat := 0
  /-- M before the resize; containers preempted and restored by it -/
  oldM : Nat := 320
  nPre : Nat := 0
  nRes : Nat := 0
  /-- epoch of the last RESIZE_DONE -/
  doneAt : Option Nat := none
  fresh : Bool := false
  /-- the far end's newest IDLE or DONE map, and its FRESH -/
  farMap : Option Nat := none
  farFresh : Bool := false
  /-- messages still to send of ABORT, NAK or DONE; a SWITCH to announce from the next transmit multiframe, with its CD -/
  left : Nat := 0
  sched : Option Nat := none
  /-- the received multiframe and the message of the newest valid copy, if the one before the next is valid (R358) -/
  heard : Option (Nat × Bytes) := none
  deriving DecidableEq, Repr, Inhabited

end Sys2Proof.Machine
end

