-- ==== Sys2Proof/Machine/Parts/Line.lean ====
section
/-! DEFINITION. The state of a line port: FlexO instances, OTUCn framer, multiframe, beacon, OHX, capture window. -/

namespace Sys2Proof.Machine

/-- Alignment states of a FlexO instance (R212). -/
inductive AmState where
  | hunt | confirm | lock
  deriving DecidableEq, Repr, Inhabited

/-- A FlexO instance as received (R212, R213). -/
structure FlexO where
  st : AmState := .hunt
  pos : Nat := 0
  /-- consecutive frames without a valid marker -/
  miss : Nat := 0
  /-- instance and group identification fields, last good -/
  id : Nat := 0x1F
  gid : Nat := 0
  /-- skew to the other instances, in ns -/
  skew : Nat := 0
  deriving DecidableEq, Repr, Inhabited

/-- Capability beacons received (R224). -/
structure BeaconSt where
  /-- bytes of the newest beacon, and how many identical in bytes 2 to 13 were consecutive -/
  cand : Bytes := []
  n : Nat := 0
  /-- the accepted beacon -/
  acc : Option Bytes := none
  /-- consecutive beacons invalid or not assembled -/
  bad : Nat := 0
  deriving DecidableEq, Repr, Inhabited

/-- A frame of received overhead in the receive slip buffer: MFAS and 1,024 overhead bytes (R234, R237). -/
structure OhFrame where
  mfas : Nat
  oh : Bytes
  deriving DecidableEq, Repr, Inhabited

/-- The OHX port (R232 to R236). -/
structure OhxSt where
  rx : List OhFrame := []
  last : Option OhFrame := none
  count : Nat := 0
  /-- the receive slip buffer dropped a frame since the last read (R232, R234) -/
  slipped : Bool := false
  /-- 40 bytes last sent -/
  out : Bytes := []
  /-- the input slip buffer: a frame, or the place of one refused for its CRC (R235) -/
  inq : List (Option Bytes) := []
  lastIn : Option Bytes := none
  /-- system frames since a frame entered -/
  idle : Nat := 0
  /-- a slip was posted since the last commit -/
  rxSlipSeen : Bool := false
  inSlipSeen : Bool := false
  deriving DecidableEq, Repr, Inhabited

/-- The overhead of one layer as sent (R221, R391): BDI, BIAE, BEI and BIP-8 by instance, IAE, STAT and the TTI. -/
structure LayerTx where
  key : Nat
  bdi : Bool
  biae : Bool
  bei : List Nat
  tti : Bytes
  bip : List Nat := []
  iae : Bool := false
  stat : Nat := 1
  deriving DecidableEq, Repr, Inhabited

/-- The overhead of one FlexO instance as sent (R209, R215). -/
structure FlexTx where
  id : Nat
  gid : Nat
  rpf : Bool
  /-- the management and communication channels -/
  mgmt : Nat := 0
  crc : Nat
  deriving DecidableEq, Repr, Inhabited

/-- What one container sends in a frame: the byte of a maintenance signal, the STAT of its PM and TCMs, the PT and the CSF of its own
PSI where the device makes them, its two EXP bytes; none where the client's pass (R244, R258, R260, R265). Of a protected one the APS
bytes, with the value of MFAS modulo 8 of the frames that carry them (R416). -/
structure ContTx where
  cont : Nat
  fill : Option Byte
  stat : Option Nat
  pt : Option Nat
  csf : Bool
  exp : Option Bytes
  aps : Option (Nat × Bytes) := none
  /-- of an HO container, TPN of each HO TS in its own MSI, 0 for an unassigned one (R248) -/
  msi : List Nat := []
  deriving DecidableEq, Repr, Inhabited

/-- A transmitted OTUC16 frame as the model keeps it: what the overhead of R221 carries that the device itself decides. -/
structure TxFrame where
  mfas : Nat := 0
  /-- the line-port record that the frame follows -/
  rec_ : Bytes := []
  /-- ODUC EXP of instance 1 (R357) and 2 (R223) -/
  exp1 : Bytes := []
  exp2 : Bytes := []
  /-- OHX bytes inserted, as the 40-byte input frame used, where one was (R236) -/
  ohx : Option Bytes := none
  /-- MSI: TPN of each slot, 0 for unassigned and unavailable; availability bits (R222, R351) -/
  msi : List Nat := []
  avail : Nat := 0
  /-- the byte that fills each slot's payload where no container does: an unassigned and an unavailable one (R249, R351) -/
  fill : List (Option Byte) := []
  /-- every container and unassigned slot is sent as ODU-AIS or all ones (R110) -/
  fatal : Bool := false
  /-- the 16 FlexO instances in lane order (R209, R215), and for each logical lane its physical lane and whether it is inverted -/
  fx : List FlexTx := []
  lanes : List (Nat × Bool) := []
  /-- the same from the FlexO frame boundary on that lies in this frame, where one does (R210) -/
  fxNext : Option (List FlexTx × List (Nat × Bool)) := none
  /-- the containers of the port -/
  conts : List ContTx := []
  /-- overhead of the layers that the port generates (R391) -/
  layers : List LayerTx := []
  deriving DecidableEq, Repr, Inhabited

/-- A line port in operation; its live and sticky bits stand in SLn_LINE_FSTAT (R238). -/
structure LinePort where
  fx : Tbl FlexO := []
  fr : Framer := {}
  beacon : BeaconSt := {}
  ohx : OhxSt := {}
  rsz : Rsz := {}
  /-- the record whose FlexO fields the receiver and the transmitter follow: they change at a FlexO frame boundary (R210) -/
  rxRec : Option Bytes := none
  txRec : Option Bytes := none
  /-- how far the transmitted FlexO frame has come at the next OTUC frame, in units of `flexStep` (R208) -/
  flexPos : Nat := 0
  /-- the beacon being sent, as at its first frame (R223) -/
  txBeacon : Bytes := []
  /-- the message of the resize channel being sent: it changes at a message boundary (R358) -/
  txMsg : Bytes := []
  /-- symbols received and corrected in the current epoch (R214) -/
  fecSyms : Nat := 0
  fecErrs : Nat := 0
  fecGood : Nat := 0
  /-- MFAS of the next frame sent -/
  txMfas : Nat := 0
  tx : TxFrame := {}
  /-- OTUC frames received, for the multiframe count of R365 -/
  rxMf : Nat := 0
  txMf : Nat := 0
  /-- overhead capture window: SNAP_GEN, MFAS, EPOCH, OH (R237) -/
  capGen : Nat := 0
  capMfas : Nat := 0
  capEpoch : Nat := 0
  capOh : Bytes := []
  /-- the calendar in force: slot to container (R251) -/
  cal : Tbl Nat := []
  deriving DecidableEq, Repr, Inhabited

end Sys2Proof.Machine
end

