-- ==== Sys2Proof/Machine/Parts/Mate.lean ====
section
/-! DEFINITION. The state of protection groups, merge groups, the mate pair and Groomer. -/

namespace Sys2Proof.Machine

/-- A protection group (R413 to R421). The request codes are those of R417. -/
structure ProtGrp where
  /-- the commands kept, bit k for APS_CMD code k (R417, R421) -/
  cmds : Nat := 0
  /-- SF_W, SF_P, SD_W, SD_P as bits 0 to 3: as detected, and as raised after hold-off -/
  cond : Nat := 0
  raised : Nat := 0
  /-- hold-offs running, by bit of `cond`: the epoch at which each started -/
  hold : Tbl Nat := []
  /-- WTR runs, and the epoch at which it started -/
  wtr : Bool := false
  wtrAt : Nat := 0
  /-- WTR has expired and no request followed yet (R420 COND bit 4) -/
  wtrDone : Bool := false
  /-- do not revert holds -/
  dnr : Bool := false
  req : Nat := 0
  sel : Bool := false
  bridge : Bool := false
  /-- REQUESTED and BRIDGED sent -/
  requested : Nat := 0
  bridged : Nat := 0
  /-- accepted far-end APS bytes, the newest occurrence and its repeats -/
  far : Bytes := [0, 0, 0, 0]
  farSeen : Bool := false
  /-- a conflict has cleared the far end's request, until it accepts another (R418) -/
  farOut : Bool := false
  cand : Bytes := []
  candN : Nat := 0
  fopPm : Bool := false
  fopNr : Bool := false
  /-- the epoch at which the mismatch of FOP_PM, and of FOP_NR, began -/
  pmSince : Option Nat := none
  nrSince : Option Nat := none
  /-- re-initialised: selector and bridge hold until the first evaluation of accepted APS, and of SF and SD (R421) -/
  reinitAps : Bool := false
  reinitSf : Bool := false
  deriving DecidableEq, Repr, Inhabited

/-- A unit copy in the Slalom engine: FC or SEQ, arrival in ns, cleanness, content, RESTART, and how many times its numbering had
restarted (R287). -/
structure UnitCopy where
  num : Nat
  at_ : Nat
  clean : Bool
  content : Bytes
  restart : Bool := false
  era : Nat := 0
  deriving DecidableEq, Repr, Inhabited

/-- A merge group (R422 to R435). Path 0 is A, path 1 is B. -/
structure MergeGrp where
  /-- STATE: 0 IDLE; 1 SINGLE; 2 MERGED -/
  st : Nat := 0
  timing : Nat := 0
  /-- delivery set: bit 0 A, bit 1 B -/
  set_ : Nat := 0
  /-- MERGE_CMD in force: 0 automatic, 1 or 2 forced -/
  cmd : Nat := 0
  qual : Nat := 0
  lag : Nat := 0
  overSkew : Nat := 0
  /-- REJOIN_HOLD runs -/
  rejoin : Bool := false
  /-- mean skew of the newest 1 ms, and its sum and count in progress; least and greatest -/
  skew : Int := 0
  skewSum : Int := 0
  skewN : Nat := 0
  skewRange : Option (Int × Int) := none
  /-- copies waiting, by path -/
  copies : Tbl (List UnitCopy) := []
  /-- restarts of the numbering seen on each path, and the paths that failed since their newest unit, bit p for path p (R287, R428) -/
  era : Tbl Nat := []
  spoilt : Nat := 0
  /-- newest unit delivered, and the restarts before it -/
  last : Option Nat := none
  lastEra : Nat := 0
  /-- a re-time to a later path repeats ODU-AIS until the next unit is due (R431) -/
  gap : Bool := false
  /-- the unit delivered last, with its path -/
  out : Option (Nat × UnitCopy) := none
  /-- after a RESTART block: the path whose blocks are discarded (R433) -/
  discard : Option Nat := none
  /-- offset added to the due times by a re-time, in ns -/
  due : Int := 0
  /-- MERGE_UNPROTECTED was posted in this epoch -/
  unprotSeen : Bool := false
  /-- units that have arrived on one path only, by path, oldest first: restarts, number, arrival in ns (R434) -/
  arr : Tbl (List (Nat × Nat × Nat)) := []
  deriving DecidableEq, Repr, Inhabited

/-- Groomer's report fields (R468, R470). -/
structure Groomer where
  sramPass : Bool := false
  memPass : Bool := false
  bistFail : Bool := false
  sramMs : Nat := 0
  sramCorr : Nat := 0
  sramUncorr : Nat := 0
  memPasses : Nat := 0
  memCorr : Nat := 0
  memUncorr : Nat := 0
  bistRuns : Nat := 0
  bistFails : Nat := 0
  bistType : Nat := 0
  bistInst : Nat := 0
  digestCmp : Nat := 0
  digestMis : Nat := 0
  misEpoch : Nat := 0
  misMap : Nat := 0
  deriving DecidableEq, Repr

/-- A cell as it is sent, and kept for resending (R445, R446). CRC and LEN follow from the rest. -/
structure Cell where
  ty : Nat
  seq : Nat
  payload : Bytes
  first : Bool := true
  last : Bool := true
  deriving DecidableEq, Repr, Inhabited

/-- A justification decision of a JUST record held for its frame (R455). -/
structure JustRec where
  cont : Nat
  stage : Nat
  mfn : Nat
  proc : Nat
  cm : Nat
  cnd : Nat
  deriving DecidableEq, Repr, Inhabited

/-- The mate engines (R440 to R472). STATE: 0 UNPAIRED; 1 SEARCH; 2 JOINING; 3 CATCHUP; 4 IN_STEP; 5 PARTITION; 6 ALONE. -/
structure MateSt where
  st : Nat := 0
  active : Bool := false
  /-- the net drives of R450 -/
  actLow : Bool := false
  tokenLow : Bool := false
  /-- the mate's newest heartbeat: valid, ACTIVE, FATAL, PFW, PAIRING, STATE -/
  hbOk : Bool := false
  mateActive : Bool := false
  mateFatal : Bool := false
  matePfw : Bool := false
  mateSt : Nat := 0
  /-- ACT_N reads released: high for 10 µs -/
  actFree : Bool := false
  refuse : Nat := 0
  /-- own heartbeat count, newest received HB_SEQ -/
  hbSeq : Nat := 0
  echo : Nat := 0
  /-- newest heartbeat sent -/
  hbOut : Bytes := []
  /-- newest SEQ sent, by cell TYPE; the newest reliable cells kept -/
  txSeq : Tbl Nat := []
  kept : Tbl (List Cell) := []
  /-- cells waiting to be sent, in the order of their priority; the cells sent since the heartbeat before the newest, as bytes -/
  txq : List Cell := []
  wire : List Bytes := []
  /-- the newest CONTROL cell sent -/
  ctlOut : Bytes := []
  /-- decision records: newest DSEQ sent and applied; records held during a join -/
  dsent : Nat := 0
  ddone : Nat := 0
  held : List Bytes := []
  /-- JUST decisions waiting for their frames; verdicts of ADMIT records by port; stalled flows by
  container and MFN of the unit -/
  just : List JustRec := []
  admission : Tbl (Nat × List Nat) := []
  stall : Tbl (List Nat) := []
  /-- mirror frame numbers by container (R454) -/
  mfn : Tbl Nat := []
  /-- containers with PKT_STEP, and the pending ALIGN units by container: unit and entries (CTX, HEAD, DEFICIT) -/
  align : Tbl (Nat × List (Nat × Nat × Nat)) := []
  /-- joining: S adopted, image installed, J -/
  joinS : Bool := false
  image : Bool := false
  joinAt : Option Nat := none
  joinEpoch : Nat := 0
  /-- digests: own, mate's, consecutive mismatches by component, consecutive wholly equal comparisons -/
  digest : List Word := List.replicate 12 0
  mateDigest : List Word := List.replicate 12 0
  bad : Tbl Nat := []
  equal : Nat := 0
  /-- container digests for MATE_DIGEST WHICH 1: the mate's, by container -/
  contDigest : Tbl Word := []
  /-- misses since IN_STEP, and commanded switch in progress: cause and HANDOVER cells sent -/
  misses : Nat := 0
  handover : Option (Nat × Nat) := none
  lastCause : Nat := 0
  lastSwitch : Nat := 0
  /-- own STATUS of mirrored commands whose RESULT is awaited, and RESULTs whose command has not yet been executed here: X, CHANNEL,
  TAG, STATUS (R453) -/
  statuses : List (Nat × Nat × Nat × Nat) := []
  results : List (Nat × Nat × Nat × Nat) := []
  /-- a warm reset or PFW_N handover that waits for the switch: its GLB_RST_CAUSE bit -/
  thenReset : Option Nat := none
  deriving DecidableEq, Repr

end Sys2Proof.Machine
end

