-- ==== Sys2Proof/Machine/Parts/Nvm.lean ====
section
/-! DEFINITION. The MRAM as its areas (R534), and the state of STORE, staging and JTAG. The bytes of IMAGE stand in the memory
of State; every other area is kept as what it holds. -/

namespace Sys2Proof.Machine

/-- A journal record in force (R535 to R537): SEQ and BODY. -/
structure Jrec where
  seq : Nat
  body : Bytes
  deriving DecidableEq, Repr, Inhabited

/-- A settings image (R539): its header fields and entries (OBJ_TYPE, INDEX, data). -/
structure SetImg where
  format : Nat
  gen : Nat
  epoch : Nat
  entries : List (Nat × Nat × Bytes)
  /-- the image was written whole and its CRC matches -/
  ok : Bool := true
  deriving DecidableEq, Repr, Inhabited

/-- A last-gasp record (R546): the bytes before the event records and the events, with its marker state: 1 valid, 2 superseded. -/
structure Gasp where
  state : Nat
  bytes : Bytes
  deriving DecidableEq, Repr, Inhabited

/-- A STORE, or the migration of UPD_CONFIRM, in progress (R540, R557). -/
structure StoreRun where
  area : Nat
  format : Nat
  /-- the request that started it: ring, TAG; none for a migration -/
  ch : Nat
  tag : BitVec 16
  /-- X of the STORE, and the boundary at which the image is built -/
  x : Nat
  /-- it was executed at an X of a pair, and its response is owed to this device's own host (R161) -/
  mirrored : Bool := false
  own : Bool := true
  /-- it has failed, and ends with this status: PFW_N fell, or D2 faulted, before its SET_COMMIT (R78, R86); 0 not -/
  fail : Nat := 0
  deriving DecidableEq, Repr, Inhabited

/-- Persistent state and what works on it (R534 to R563). -/
structure NvmSt where
  /-- journal records in force, by TYPE × 256 + sub-index (AREA, or SECTION × 2 + COPY), and the newest SEQ -/
  jrnl : Tbl Jrec := []
  seq : Nat := 0
  /-- SET_A and SET_B -/
  setArea : Tbl SetImg := []
  /-- CAL sections by SECTION × 2 + COPY -/
  cal : Tbl Bytes := []
  gasp : Option Gasp := none
  /-- the record being written between PFW_N and its marker -/
  gaspNext : Option Bytes := none
  /-- manifests with their MSEQ, where the commit marker is valid -/
  active : Option (Nat × Bytes) := none
  staged : Option (Nat × Bytes) := none
  /-- newest MSEQ committed on the device -/
  mseq : Nat := 0
  /-- RESUME holds the resident parts of this MSEQ: part TYPE to bytes -/
  resume : Tbl Bytes := []
  /-- staging: 0 IDLE; 1 RECEIVING; 2 STAGED; 3 DAMAGED -/
  upd : Nat := 0
  /-- bytes of staging: manifest, TOTAL_LEN, BYTES_WRITTEN, an UPD_WRITE since UPD_BEGIN -/
  man : Bytes := []
  totalLen : Nat := 0
  written : Nat := 0
  wrote : Bool := false
  lastStatus : Nat := 0
  /-- a STORE or a migration in progress -/
  store : Option StoreRun := none
  /-- epoch of X of the last accepted STORE -/
  storeAt : Option Nat := none
  /-- JTAG open: the epoch of expiry, 0 until the next reset; DEBUG and BSCAN of the token -/
  jtagLeft : Option Nat := none
  jtagDebug : Bool := false
  jtagBscan : Bool := false
  deriving DecidableEq, Repr

end Sys2Proof.Machine
end

