-- ==== Sys2Proof/Machine/Parts/Packet.lean ====
section
/-! DEFINITION. The state of the packet engines and of the queue managers and GDDR6 controller. -/

namespace Sys2Proof.Machine

/-- Sender states of a flow (R294). WITHDRAWING belongs to a context that its flow has left (`Wdr`). -/
inductive SndState where
  | full | announcing | active
  deriving DecidableEq, Repr, Inhabited

/-- The sender context of one ingress flow (R293, R294). -/
structure Snd where
  st : SndState := .full
  gen : Nat := 0
  /-- the container it announces on -/
  cont : Nat := 0
  /-- the template available, and the one announced -/
  tpl : Option Bytes := none
  ann : Bytes := []
  /-- consecutive frames that failed the match (R293) -/
  miss : Nat := 0
  /-- sends of the outstanding ANNOUNCE -/
  sends : Nat := 0
  /-- an ANNOUNCE waits for room in the control queue (R289) -/
  queued : Bool := false
  /-- the reattempt delay runs (R294) -/
  delay : Bool := false
  deriving DecidableEq, Repr, Inhabited

/-- A context in WITHDRAWING(g) on the container that its flow has left (R294). -/
structure Wdr where
  gen : Nat := 0
  sends : Nat := 0
  /-- WITHDRAW waits for room in the control queue (R289) -/
  queued : Bool := false
  /-- its flow is deleted: it is sent also while the function is frozen (R299) -/
  gone : Bool := false
  deriving DecidableEq, Repr, Inhabited

/-- An entry of the receiver table (R296). -/
structure RxCtx where
  gen : Nat
  tpl : Bytes
  deriving DecidableEq, Repr, Inhabited

/-- Policer buckets in 10^-6 bit, and the instant of the last fill in ns (R280). -/
structure Bucket where
  c : Nat := 0
  p : Nat := 0
  at_ : Nat := 0
  deriving DecidableEq, Repr, Inhabited

/-- A host-assisted candidate (R301): REASON and CTX. -/
structure Candidate where
  reason : Nat
  ctx : Nat
  deriving DecidableEq, Repr, Inhabited

/-- The delineator of one container: ZPC (R227) or GFP-F (R231). Positions count the bytes of the demapped stream. -/
structure Delin where
  /-- 0 HUNT; 1 PRESYNC; 2 SYNC -/
  st : Nat := 0
  /-- correct headers since the entry marker -/
  good : Nat := 0
  /-- consecutive header failures in SYNC -/
  err : Nat := 0
  /-- position of the next marker on the grid (ZPC) -/
  grid : Nat := 0
  /-- predicted position of the next header; none while bytes are discarded up to the next marker -/
  next : Option Nat := none
  /-- SEQ of the previous marker -/
  seq : Nat := 0
  /-- position of the entry marker or header, and the first byte at which HUNT may test -/
  entry : Nat := 0
  resume : Nat := 0
  /-- the correct header, 8 bytes of ZPC or 4 of GFP-F, whose frame is due (R228) -/
  due : Option Bytes := none
  deriving DecidableEq, Repr, Inhabited

/-- A frame unit of the line assembler (R321): the flows read in it with the number of frames read from each, and what a
rewind restores. -/
structure AsmUnit where
  marks : Tbl Nat := []
  deficits : Tbl Nat := []
  round : Tbl Nat := []
  ctl : List (Nat × Nat × Bytes) := []
  rest : Nat := 0
  cur : Option Nat := none
  seq : Nat := 0
  left : Nat := 0
  restart : Bool := false
  ctlInBlock : Bool := false
  scr : Nat := 0
  deriving DecidableEq, Repr, Inhabited

/-- A flush in progress (R322): of one class or of the whole container, and the flows that have not passed their boundary. -/
structure FlushJob where
  whole : Bool
  k : Nat
  wait : List Nat
  deriving DecidableEq, Repr, Inhabited

/-- A packet container as its slice terminates it (R273 to R305, R321). -/
structure PktCont where
  zpcOk : Bool := false
  /-- payload type received, and the delineation it selects -/
  rxPt : Nat := 0
  delin : Delin := {}
  /-- control queue, oldest first, at most 64 bodies with their header CTX and GEN -/
  ctl : List (Nat × Nat × Bytes) := []
  /-- a control frame started in the current block -/
  ctlInBlock : Bool := false
  /-- next marker SEQ, RESTART due, and payload bytes still to come before the next marker -/
  seq : Nat := 0
  restart : Bool := true
  left : Nat := 0
  /-- the last 43 scrambled bits sent, and received (R226) -/
  scr : Nat := 0
  des : Nat := 0
  /-- newest header and body sent, and the markers inserted in it -/
  sent : Bytes := []
  marks : List Bytes := []
  /-- assembly units not yet handed over, oldest first (R369: at most 2 ahead) -/
  units : List AsmUnit := []
  /-- next flow of each class in the round -/
  round : Tbl Nat := []
  /-- payload bytes of a frame begun in one unit and still to be sent -/
  rest : Nat := 0
  /-- faults received for local ports (R305) -/
  faultRx : Tbl Nat := []
  /-- RESYNC_REQ with ALL outstanding (R297), a DATA_C frame has missed since it was sent, and the epoch at which a RESYNC_REQ
  named a CTX (R296) -/
  resync : Bool := false
  missed : Bool := false
  resyncCtx : Tbl Nat := []
  /-- WITHDRAW with ALL (R295) and RESYNC_REQ with ALL (R297) still to be sent once the container is ZPC_OK -/
  wdrAll : Bool := false
  lost : Bool := false
  /-- frames dropped whose CTX no range entry holds (R282) -/
  unmatched : Nat := 0
  /-- PKT_RX_TABLE_FULL was posted in this epoch -/
  fullSeen : Bool := false
  /-- the flow whose frame is being read across units -/
  cur : Option Nat := none
  /-- flushes that wait for the packet boundary of a flow (R322) -/
  jobs : List FlushJob := []
  deriving DecidableEq, Repr, Inhabited

/-- A spilled block with its descriptor (R340): its number in the layout, none while it lies in the spill reserve (R72); the frame bytes
that it holds; the offset of the first frame that starts in it; its CRC-32. The next-block pointer is its place in the queue's list,
and the owner is the queue that holds the list. -/
structure SpillBlk where
  no : Option Nat := none
  bytes : Nat := 2048
  first : Option Nat := none
  crc : Nat := 0
  deriving DecidableEq, Repr, Inhabited

/-- A frame in a queue. -/
structure QFrame where
  bytes : Bytes
  yellow : Bool := false
  /-- errored FCS at ingress (R304) -/
  efcs : Bool := false
  /-- index of R459 -/
  idx : Nat := 0
  /-- an uncorrectable item word lies in it: it is dropped at read (R335) -/
  bad : Bool := false
  deriving DecidableEq, Repr, Inhabited

/-- A flow queue or an egress port queue (R315 to R320). -/
structure Queue where
  /-- unread frames, and the frames held behind the mark, oldest first -/
  unread : List QFrame := []
  held : List QFrame := []
  marked : Bool := false
  /-- spilled blocks, oldest first (those in the spill reserve are the newest), and how many of the first are requested -/
  blocks : List SpillBlk := []
  inFlight : Nat := 0
  /-- the channel of the next block that it writes to GDDR6 (R340) -/
  chan : Nat := 0
  /-- bytes readable before the first spilled block -/
  head : Nat := 0
  /-- the first frames of `unread` that stand-ins have gone out for, and that leave when they arrive (R457) -/
  owed : Nat := 0
  /-- DWRR deficit (R17, R327) -/
  deficit : Nat := 0
  /-- next index of R459 -/
  idx : Nat := 0
  /-- frames dropped with a spilled block of an egress queue (log entry 136) -/
  lost : Nat := 0
  /-- sticky OVERRUN, REWIND_ERR, DUP_RESET; live FULL -/
  overrun : Bool := false
  rewindErr : Bool := false
  dupReset : Bool := false
  full : Bool := false
  /-- QM_REWIND_ERR was posted in this epoch -/
  rewindSeen : Bool := false
  deriving DecidableEq, Repr, Inhabited

/-- A watermark entry (R331, R345). -/
structure Wm where
  peak : Nat := 0
  count : Nat := 0
  live : Bool := false
  sticky : Bool := false
  stale : Bool := false
  staleSticky : Bool := false
  epoch : Nat := 0
  /-- QM_WATERMARK was posted in this epoch -/
  seen : Bool := false
  deriving DecidableEq, Repr, Inhabited

/-- The packet engine and queue manager of one slice. -/
structure PktSlice where
  /-- flow queues by context index, egress port queues by port × 8 + class -/
  flowq : Tbl Queue := []
  egq : Tbl Queue := []
  /-- watermark entries by space × 2^16 + index (R343) -/
  wm : Tbl Wm := []
  /-- cells and blocks of reset queues, not yet reclaimed (R336) -/
  leakCells : Nat := 0
  leaked : List SpillBlk := []
  /-- blocks of flushed frames whose free-list update waits for the next wake of the wake unit (R322) -/
  owed : List SpillBlk := []
  /-- the records of flows deleted with their container, which run until its R251 frame (R322) -/
  left : Tbl Bytes := []
  /-- the spill reserve is in use, and full (R348 QM_RESERVE) -/
  resUsed : Bool := false
  resFull : Bool := false
  snd : Tbl Snd := []
  /-- contexts being withdrawn, by container × 2^18 + CTX -/
  wdr : Tbl Wdr := []
  /-- generation counters (R295) -/
  gens : Tbl Nat := []
  buckets : Tbl Bucket := []
  cands : List Candidate := []
  /-- receiver table by container × 2^18 + CTX -/
  rx : Tbl RxCtx := []
  deriving DecidableEq, Repr, Inhabited

/-- What is left to a slice of a round of MEMC: spill reads, spill writes with reserve moves, and the spill write port of its
reserve, in 10^-3 bit (R21, R72, R317). -/
structure Credit where
  rd : Nat := 0
  wr : Nat := 0
  port : Nat := 0
  deriving DecidableEq, Repr, Inhabited

/-- GDDR6 controller (R337 to R342, R347). -/
structure MemcSt where
  /-- epochs of the exhausted retries of the last 1 s, newest first, by interface -/
  fails : Tbl (List Nat) := []
  /-- partition of each slice: 0 P0, 1 P1 (R20) -/
  part : Tbl Nat := []
  /-- grants and demands in 10 Gb/s -/
  grant : Tbl Nat := []
  demand : Tbl Nat := []
  credit : Tbl Credit := []
  /-- trims of each MEM group, held in D0 and used by its exits from self-refresh, and those in force in the group (R339) -/
  trims : Tbl Nat := []
  phy : Tbl Nat := []
  deriving DecidableEq, Repr

/-- Packet engines, queue managers and MEMC. -/
structure PktSt where
  slice : Tbl PktSlice := []
  cont : Tbl PktCont := []
  /-- counters of WIDE space 0x05 (R307) -/
  ctr : Tbl Ctr := []
  memc : MemcSt := {}
  deriving DecidableEq, Repr

end Sys2Proof.Machine
end

