-- ==== Sys2Proof/Machine/Parts/Pm.lean ====
section
/-! DEFINITION. The state of defect detection, failures and performance monitoring. -/

namespace Sys2Proof.Machine

/-- A streak detector: the value last seen, how often in a row, and what it has declared: live, or the accepted value (R386). -/
structure Streak where
  v : Nat := 0
  n : Nat := 0
  live : Bool := false
  acc : Option Nat := none
  deriving DecidableEq, Repr, Inhabited

/-- One overhead layer as received (R381, R386): detectors, raw defects, and the accumulators of the current second. -/
structure Layer where
  /-- STAT value and its streak, and consecutive frames whose STAT is not that of the live signal -/
  stat : Streak := {}
  statOff : Nat := 0
  /-- BDI, IAE and BIAE by instance -/
  bdi : Tbl Streak := []
  iae : Tbl Streak := []
  biae : Tbl Streak := []
  /-- TTI of the newest cycle, its repeats, and the accepted TTI -/
  tti : Bytes := []
  ttiN : Nat := 0
  ttiAcc : Option Bytes := none
  /-- PT, CSF and MSI entries of the PSI (R386) -/
  psi : List Streak := []
  /-- live AIS, LCK, OCI, LTC, BDI, IAE, BIAE, as bits of R386 -/
  raw : Nat := 0
  /-- blocks and errored blocks received, and far-end errored blocks, in the current second -/
  blk : Nat := 0
  err : Nat := 0
  fe : Nat := 0
  /-- BIP-8 violations by instance of the received frames whose BEI is still to be sent, the oldest first, at most two (R391) -/
  bei : List (List Nat) := []
  deriving DecidableEq, Repr, Inhabited

/-- The result of one closed second of one point (R398). -/
structure SecRes where
  epoch : Nat
  nes : Bool := false
  nses : Bool := false
  nbbe : Nat := 0
  fes : Bool := false
  fses : Bool := false
  fbbe : Nat := 0
  /-- the far end was not evaluated -/
  skip : Bool := false
  deriving DecidableEq, Repr, Inhabited

/-- An exact bin (R403, R404). -/
structure Bin where
  valid : Bool := false
  suspect : Bool := false
  start : Nat := 0
  secs : Nat := 0
  excl : Nat := 0
  nbbe : Nat := 0
  nes : Nat := 0
  nses : Nat := 0
  nuas : Nat := 0
  fbbe : Nat := 0
  fes : Nat := 0
  fses : Nat := 0
  fuas : Nat := 0
  neUn : Bool := false
  feUn : Bool := false
  /-- epoch of the last clear: no adjustment reaches seconds before it (R401) -/
  cleared : Nat := 0
  deriving DecidableEq, Repr, Inhabited

/-- A previous interval until PM_INTERVAL is posted for it (R403): its start and its end, and how many points had SUSPECT on its bin, once
its bin has left the previous place. -/
structure PendBin where
  start : Nat
  end_ : Nat
  n : Option Nat := none
  deriving DecidableEq, Repr, Inhabited

/-- The availability rule of one end (R400): its state, its run, and the seconds of the run, newest first. -/
structure Avail where
  un : Bool := false
  run : List SecRes := []
  deriving DecidableEq, Repr, Inhabited

/-- A monitoring point (R381 to R408). -/
structure Point where
  /-- bit c: class c declared -/
  decl : Nat := 0
  /-- bit c: epoch of class c so far a defect epoch; the newest whole epoch -/
  epochNow : Nat := 0
  epochLast : Nat := 0
  /-- consecutive defect or clean epochs of each class -/
  runSet : Tbl Nat := []
  runClr : Tbl Nat := []
  /-- host-assisted: the set last reported -/
  repSet : Nat := 0
  /-- DEG and its run (R387) -/
  deg : Bool := false
  degBad : Nat := 0
  degGood : Nat := 0
  /-- near-end defect or far-end BDI seen in the current second, as bits of R386 correlated at any moment; SSF included -/
  seen : Nat := 0
  /-- the current second is excluded (R399) -/
  excl : Bool := false
  /-- the point was created by a commit and begins at the next second (R30) -/
  fresh : Bool := true
  /-- epoch at the start of its first second -/
  since : Nat := 0
  near : Avail := {}
  far : Avail := {}
  /-- 0 current 15-minute, 1 previous 15-minute, 2 current 24-hour, 3 previous 24-hour -/
  bins : Tbl Bin := []
  /-- history 1 to 96, newest first, in the compact form -/
  hist : List Bin := []
  /-- bins to clear at the next second: bit 0 current 15-minute, bit 1 current 24-hour, bit 2 all (R407) -/
  clr : Nat := 0
  deriving DecidableEq, Repr, Inhabited

/-- One second of the host-assisted backlog (R402): its epoch, and per point its blocks, errors, far errors and seen bits. -/
structure BackSec where
  epoch : Nat
  data : Tbl (Nat × Nat × Nat × Nat)
  deriving DecidableEq, Repr, Inhabited

/-- The PM engine (R385, R397 to R410). -/
structure PmSt where
  pts : Tbl Point := []
  layers : Tbl Layer := []
  backlog : List BackSec := []
  /-- PMON_PHASE in force, in ms -/
  phase : Nat := 0
  /-- PM_EXCLUDED was posted in this epoch -/
  exclSeen : Bool := false
  /-- start epochs of the current and the previous 15-minute and 24-hour intervals -/
  cur15 : Nat := 0
  cur24 : Nat := 0
  prev15 : Nat := 0
  prev24 : Nat := 0
  /-- the previous intervals for which PM_INTERVAL is still to be posted, oldest first -/
  fin15 : List PendBin := []
  fin24 : List PendBin := []
  /-- the boundary of the last second closed (R30) -/
  secAt : Nat := 0
  /-- PMON_PHASE was written and takes effect at the next second (R403) -/
  phaseDue : Bool := false
  deriving DecidableEq, Repr

end Sys2Proof.Machine
end

