-- ==== Sys2Proof/Machine/Parts/Timing.lean ====
section
/-! DEFINITION. The state of timing: references, DPLLs, outputs. Frequencies are integers in 0.01 ppb. -/

namespace Sys2Proof.Machine

/-- A reference (R475, R483 to R489). -/
structure TimRef where
  /-- record of R507 in force -/
  rec_ : Bytes := []
  f : Int := 0
  d : Int := 0
  epoch : Nat := 0
  los : Bool := false
  oor : Bool := false
  qualified : Bool := false
  /-- disqualified by drift now -/
  hardDisq : Bool := false
  hardUnconf : Bool := false
  softLive : Bool := false
  conflict : Bool := false
  /-- enabled and not yet measured -/
  fresh : Bool := true
  /-- wait-to-restore runs -/
  wtr : Bool := false
  /-- HOLDOFF_MS runs for a selected reference -/
  hold : Bool := false
  deriving DecidableEq, Repr, Inhabited

/-- A Glide model (R495, R510): the 36-byte record. -/
abbrev Model := Bytes

/-- A DPLL (R479 to R498). -/
structure Dpll where
  /-- record of R508 in force -/
  rec_ : Bytes := []
  /-- 0 FREERUN; 1 ACQUIRING; 2 LOCKED; 3 HOLDOVER -/
  st : Nat := 0
  sel : Option Nat := none
  qlTx : Nat := 0
  /-- forced: 0 none; 1 reference; 5 holdover; 6 freerun -/
  forced : Nat := 0
  forceRef : Nat := 0
  manual : Option Nat := none
  /-- bit r: reference r locked out -/
  lockout : Nat := 0
  /-- output frozen within HOLDOFF_MS (R485) -/
  frozen : Bool := false
  /-- 0 NONE; 1 AVERAGE; 2 LEARNED; 3 LOADED -/
  model : Nat := 0
  mrec : Model := []
  anchor : Bool := false
  anchorF : Int := 0
  /-- mean temperature of the anchor in 0.1 °C, and the epoch of its mid-point -/
  anchorT : Int := 0
  anchorAt : Nat := 0
  /-- pairs of references in RANK_CONFLICT (R489) -/
  conf : List (Nat × Nat) := []
  trusted : Bool := false
  /-- the XO was found untrusted by a stale model (R496) -/
  stale : Bool := false
  /-- host temperature of DPLL_CMD TEMP -/
  hostTemp : Option Int := none
  /-- minutes recorded since the last RELEARN or reset: frequency and temperature, newest first, at most 30 days -/
  mins : List (Int × Int) := []
  /-- a model was loaded in HOLDOVER: the output moves to its prediction at 10 ppb per second at most (R497) -/
  slew : Bool := false
  /-- output offset, P, phase error -/
  freq : Int := 0
  p : Int := 0
  phase : Int := 0
  /-- consecutive seconds of frequency error below 10 ppb -/
  lockRun : Nat := 0
  /-- epoch of entry into the state -/
  since : Nat := 0
  /-- a fit waiting for a host decision (R504) -/
  fit : Option Model := none
  /-- an assisted selection's reference was disqualified since the last report -/
  lostSel : Bool := false
  /-- host-assisted selection: the last decided reference, eligible set, QLs, conflicts reported -/
  repSet : Nat := 0
  repQl : List Nat := []
  repConf : Nat := 0
  mateSteer : Bool := false
  deriving DecidableEq, Repr, Inhabited

/-- An ALIGN waiting for its boundary (R501). -/
structure AlignPend where
  target : Nat
  mode : Nat
  ref : Nat
  offset : Int
  epoch : Nat
  /-- MODE 1: 1 Hz edges measured, and whether the input was in LOS meanwhile -/
  edges : Nat := 0
  lost : Bool := false
  deriving DecidableEq, Repr, Inhabited

/-- Timing (R475 to R518). -/
structure TimSt where
  ref : Tbl TimRef := []
  dpll : Tbl Dpll := []
  /-- output records by TARGET 0x10 to 0x19; OFFSET_NS of PPS_OUT and FP_OUT by TARGET -/
  out : Tbl Bytes := []
  offset : Tbl Int := []
  pend : Option AlignPend := none
  /-- XO_WARMUP_MIN has passed since D3 became ready, by DPLL -/
  warm : Nat := 0
  /-- pulses sent on PPS_OUT and FP_OUT -/
  pps : Nat := 0
  fp : Nat := 0
  /-- the next PPS or FP pulse is omitted (R501) -/
  skipPps : Bool := false
  skipFp : Bool := false
  deriving DecidableEq, Repr

end Sys2Proof.Machine
end

