-- ==== Sys2Proof/Machine/Parts/Dev.lean ====
section
/-! DEFINITION. Everything of the device but its byte-addressed memories and its queue of waiting commands. -/

namespace Sys2Proof.Machine

/-- The device, part by part. -/
structure Dev where
  time : TimeSt := {}
  fuse : FuseSt := {}
  pin : PinSt := {}
  /-- every register of the register tables that differs from its reset value -/
  regs : List (Reg × Word) := []
  pwr : PwrSt := {}
  err : ErrSt := {}
  evt : EvtSt := {}
  mbx : MbxSt := {}
  host : HostSt := {}
  prov : ProvSt := {}
  asst : AsstSt := {}
  boot : BootSt := {}
  /-- client ports by slice × 16 + port -/
  cli : Tbl CliPort := []
  pctr : PctrSt := {}
  /-- line ports 0 to 3 -/
  line : Tbl LinePort := []
  /-- containers by index -/
  cont : Tbl Cont := []
  /-- container counters of WIDE space 0x06, by container × 8 + k (R270) -/
  cctr : Tbl Ctr := []
  pm : PmSt := {}
  pkt : PktSt := {}
  /-- protection groups and merge groups by index -/
  prot : Tbl ProtGrp := []
  merge : Tbl MergeGrp := []
  mate : MateSt := {}
  groom : Groomer := {}
  tim : TimSt := {}
  nvm : NvmSt := {}
  deriving DecidableEq, Repr

end Sys2Proof.Machine
end

