-- ==== Sys2Proof/Machine/Bits.lean ====
section
/-! DEFINITION. Bit fields, network-order byte fields (R8) and the CRCs of the wire formats. -/

namespace Sys2Proof

/-- Bits [hi:lo] of a register, as a number (R7). -/
def bits (w : Word) (hi lo : Nat) : Nat := (w.toNat >>> lo) % 2 ^ (hi + 1 - lo)

/-- Bit i of a register. -/
def bit (w : Word) (i : Nat) : Bool := w.getLsbD i

/-- The mask of bits [hi:lo]. -/
def mask (hi lo : Nat) : Word := BitVec.ofNat 32 ((2 ^ (hi + 1 - lo) - 1) * 2 ^ lo)

/-- A register with bits [hi:lo] set to v. -/
def putBits (w : Word) (hi lo v : Nat) : Word :=
  (w &&& ~~~ mask hi lo) ||| (BitVec.ofNat 32 (v * 2 ^ lo) &&& mask hi lo)

/-- A register with bit i set to b. -/
def putBit (w : Word) (i : Nat) (b : Bool) : Word := putBits w i i b.toNat

/-- The Bool of a bit of a number, bit 0 the least significant. -/
def nbit (n i : Nat) : Bool := n.testBit i

/-- A number with bit i set to b. -/
def nputBit (n i : Nat) (b : Bool) : Nat :=
  if n.testBit i == b then n else if b then n + 2 ^ i else n - 2 ^ i

/-- Sum of a list. -/
def total (l : List Nat) : Nat := l.foldl (· + ·) 0

/-- A 1 for each index of a list of length n that satisfies p, bit i for index i. -/
def bitmap (n : Nat) (p : Nat → Bool) : Nat := total ((List.range n).map fun i => if p i then 2 ^ i else 0)

/-- Byte i of a wire format; a byte beyond its end reads 0. -/
def u8 (b : Bytes) (i : Nat) : Nat := (b.getD i 0).toNat

/-- The 2-byte field at offset i, most significant byte first (R8). -/
def u16 (b : Bytes) (i : Nat) : Nat := u8 b i * 256 + u8 b (i + 1)

/-- The 4-byte field at offset i. -/
def u32 (b : Bytes) (i : Nat) : Nat := u16 b i * 65536 + u16 b (i + 2)

/-- The 6-byte field at offset i. -/
def u48 (b : Bytes) (i : Nat) : Nat := u16 b i * 2 ^ 32 + u32 b (i + 2)

/-- The 8-byte field at offset i. -/
def u64 (b : Bytes) (i : Nat) : Nat := u32 b i * 2 ^ 32 + u32 b (i + 4)

/-- Bit B.b of a wire format, b counted from 0 at the most significant bit (R8). -/
def wbit (b : Bytes) (i j : Nat) : Bool := (u8 b i).testBit (7 - j)

/-- k bytes of a value, most significant first (R8); the value is taken modulo 256^k. -/
def be : Nat → Nat → Bytes
  | 0, _ => []
  | k + 1, v => BitVec.ofNat 8 (v / 256 ^ k) :: be k v

/-- k zero bytes, a reserved field as sent (R9). -/
def zeros (k : Nat) : Bytes := List.replicate k 0

/-- A wire format cut or filled with zeros to k bytes. -/
def fit (k : Nat) (b : Bytes) : Bytes := b.take k ++ zeros (k - b.length)

/-- The k bytes from offset i. -/
def slice (b : Bytes) (i k : Nat) : Bytes := fit k (b.drop i)

/-- A wire format with the bytes at offset i replaced. -/
def patch (b : Bytes) (i : Nat) (v : Bytes) : Bytes := fit i b ++ v ++ b.drop (i + v.length)

/-- A two's complement byte as an integer. -/
def s8 (n : Nat) : Int := if n % 256 < 128 then ((n % 256 : Nat) : Int) else ((n % 256 : Nat) : Int) - 256

/-- A two's complement 16-bit field as an integer. -/
def s16 (n : Nat) : Int := if n % 65536 < 32768 then ((n % 65536 : Nat) : Int) else ((n % 65536 : Nat) : Int) - 65536

/-- A two's complement 32-bit field as an integer. -/
def s32 (n : Nat) : Int :=
  if n % 2 ^ 32 < 2 ^ 31 then ((n % 2 ^ 32 : Nat) : Int) else ((n % 2 ^ 32 : Nat) : Int) - ((2 ^ 32 : Nat) : Int)

/-- An integer as k bits of two's complement. -/
def twos (k : Nat) (i : Int) : Nat := (i % ((2 ^ k : Nat) : Int)).toNat

/-- Eight steps of a reflected CRC register. -/
def crcByteRefl (poly : BitVec 32) : Nat → BitVec 32 → BitVec 32
  | 0, c => c
  | k + 1, c => crcByteRefl poly k (if c.getLsbD 0 then (c >>> 1) ^^^ poly else c >>> 1)

/-- CRC-32 of IEEE 802.3 over a byte string (R137, R140, R157). -/
def crc32 (b : Bytes) : BitVec 32 :=
  ~~~ b.foldl (fun c x => crcByteRefl 0xEDB88320 8 (c ^^^ (x.setWidth 32))) 0xFFFFFFFF

/-- Eight steps of an unreflected 16-bit CRC register. -/
def crcByte16 (poly : BitVec 16) : Nat → BitVec 16 → BitVec 16
  | 0, c => c
  | k + 1, c => crcByte16 poly k (if c.getLsbD 15 then (c <<< 1) ^^^ poly else c <<< 1)

/-- A 16-bit CRC, most significant bit first: polynomial, initial value, bytes. -/
def crc16 (poly ini : BitVec 16) (b : Bytes) : BitVec 16 :=
  b.foldl (fun c x => crcByte16 poly 8 (c ^^^ BitVec.shiftLeft (x.setWidth 16) 8)) ini

/-- A count that stops at its limit. -/
def satAdd (lim a n : Nat) : Nat := min lim (a + n)

/-- a − b modulo m, for counters that wrap. -/
def subMod (m a b : Nat) : Nat := (a % m + (m - b % m)) % m

end Sys2Proof
end

