-- ==== Sys2Proof/Machine/Regs.lean ====
section
/-! DEFINITION. The register tables: for each register its fields with access type and reset value (R7, R127), its power
domain, and its BAR0 offset where the manual states one (R122, R125). -/

namespace Sys2Proof.Machine

/-- Access types of R127; a bit in no field is RSV. -/
inductive AccTy where
  | rw | ro | w1c | w1s | wo | sc | ctr
  deriving DecidableEq, Repr

/-- One field of a register table (R7). -/
structure Fld where
  hi : Nat
  lo : Nat
  ty : AccTy
  rst : Nat := 0
  deriving DecidableEq, Repr

/-- A field from its bits, type and reset value. -/
def fld (hi lo : Nat) (ty : AccTy) (rst : Nat := 0) : Fld := ⟨hi, lo, ty, rst⟩

/-- The fields of each register. -/
def regFields : Reg → List Fld
  -- R143
  | .glbId => [fld 31 16 .ro 0x6400, fld 15 8 .ro 0xB0, fld 7 0 .ro 1]
  | .glbStrap => [fld 6 0 .ro]
  | .glbStat => [fld 5 0 .ro]
  | .glbBootStat => [fld 9 0 .ro]
  | .glbRstCause => [fld 8 0 .w1c]
  | .glbRstCtl => [fld 2 2 .rw 1, fld 1 1 .rw 0, fld 0 0 .rw 1]
  | .glbRstCmd => [fld 31 16 .wo, fld 1 0 .sc]
  | .glbCpuRestart => [fld 31 16 .wo, fld 0 0 .sc]
  | .glbWdt => [fld 13 0 .rw 0x64]
  | .glbCpuHb => [fld 31 0 .ro]
  | .glbErrCtl => [fld 0 0 .rw 1]
  | .glbAccerr => [fld 7 0 .w1c]
  | .glbAccerrAddr => [fld 28 0 .ro]
  | .glbEpochLo => [fld 31 0 .ro]
  | .glbIntStat => [fld 15 0 .w1c]
  | .glbIntEn => [fld 15 0 .rw]
  | .glbIntMgmtEn => [fld 15 0 .rw]
  | .glbScratch => [fld 31 0 .rw]
  -- R145
  | .pwrCap => [fld 15 0 .rw 0x5BCC]
  | .pwrLoad => [fld 15 0 .ro 0x19]
  | .pwrDomReady => [fld 23 0 .ro 1]
  | .pwrDefer => [fld 23 0 .ro]
  | .pwrMemIdle => [fld 13 0 .rw 0xA]
  | .pwrRailoff => [fld 3 0 .rw 0xF]
  | .pwrRailClr => [fld 4 0 .sc]
  | .pwrThermCtl => [fld 15 8 .rw 0x64, fld 0 0 .rw 1]
  | .pwrThermStat => [fld 21 16 .ro, fld 10 8 .ro, fld 6 0 .w1c]
  | .pwrPfwCtl => [fld 0 0 .rw 1]
  | .pwrPfwStat => [fld 4 4 .w1c, fld 3 2 .ro, fld 1 1 .w1c, fld 0 0 .ro]
  | .pwrHostHold => [fld 23 0 .w1s]
  | .pwrHostDrop => [fld 23 0 .wo]
  | .pwrRailStat _ => [fld 23 16 .ro 0x80, fld 11 10 .ro, fld 9 8 .w1c, fld 7 0 .ctr]
  | .pwrRailMeas _ => [fld 31 0 .ro]
  | .pwrRegion _ => [fld 24 16 .ro, fld 11 0 .ro]
  | .pwrDomStat _ => [fld 31 16 .ro, fld 15 8 .ctr, fld 5 5 .ro, fld 4 4 .w1c, fld 3 0 .ro]
  -- R147
  | .errStat => [fld 11 8 .ro, fld 6 0 .ro]
  | .errOverflow => [fld 0 0 .w1c]
  | .errLost => [fld 31 0 .ctr]
  | .errSummary => [fld 4 0 .w1c]
  | .errAccCnt => [fld 31 0 .ctr]
  | .errCnt _ => [fld 31 0 .ctr]
  | .errInj => [fld 31 16 .wo, fld 8 8 .sc, fld 2 0 .wo]
  -- R177
  | .mbxDb _ => [fld 6 0 .rw]
  | .mbxReqHead _ => [fld 6 0 .ro]
  | .mbxRspTail _ => [fld 6 0 .ro]
  | .mbxRspHead _ => [fld 6 0 .rw]
  | .mbxStat _ => [fld 7 5 .ro, fld 4 3 .w1c, fld 2 0 .ro]
  | .mbxCtl _ => [fld 31 16 .wo, fld 1 1 .rw, fld 0 0 .sc]
  | .mbxBudget c =>
    if c = 7 then [fld 7 0 .ro 0]
    else [fld 7 0 .rw ([5, 30, 10, 10, 15, 10, 20].getD c 0)]
  | .mbxServed _ => [fld 31 0 .ctr]
  | .mbxGstat => [fld 1 0 .ro]
  -- R178
  | .evtCtl => [fld 1 1 .sc, fld 0 0 .rw]
  | .evtBaseLo => [fld 31 12 .rw]
  | .evtBaseHi => [fld 31 0 .rw]
  | .evtSize => [fld 4 0 .rw 6]
  | .evtProd => [fld 16 0 .ro]
  | .evtCons => [fld 16 0 .rw]
  | .evtBatch => [fld 8 0 .rw 0x10]
  | .evtHoldoff => [fld 13 0 .rw 0x64]
  | .evtStat => [fld 26 16 .ro, fld 3 3 .ro 1, fld 2 2 .w1c, fld 1 0 .ro]
  | .evtLost => [fld 31 0 .ctr]
  | .evtSeq => [fld 15 0 .ro]
  -- R136
  | .wideSel => [fld 30 24 .rw, fld 23 0 .rw]
  | .wideStat => [fld 11 8 .ro, fld 4 0 .ro]
  | .wideCmd => [fld 1 0 .sc]
  | .wideData _ => [fld 31 0 .ro]
  | .wideWdata _ => [fld 31 0 .rw]
  -- R563
  | .nvmStat => [fld 19 16 .ro, fld 9 7 .ro, fld 4 0 .ro]
  | .nvmStoreCnt => [fld 31 0 .ro]
  | .nvmArb => [fld 22 16 .ro, fld 6 0 .ro]
  | .nvmErr => [fld 4 0 .w1c]
  | .nvmCorrCnt => [fld 31 0 .ctr]
  | .nvmJtagNonce => [fld 31 0 .ro]
  | .nvmJtagCtl => [fld 0 0 .sc]
  | .nvmJtagTime => [fld 31 0 .ro]
  | .nvmLgEpochLo => [fld 31 0 .ro]
  | .nvmJrnlSeq => [fld 31 0 .ro]
  -- R531
  | .pctrCtl => [fld 0 0 .rw]
  | .pctrWin => [fld 13 0 .rw 0x3E8]
  | .pctrMask => [fld 6 0 .rw 0x7F]
  | .pctrRingLo => [fld 31 12 .rw]
  | .pctrRingHi => [fld 31 0 .rw]
  | .pctrRingSize => [fld 12 8 .rw 0x14, fld 3 0 .rw 2]
  | .pctrProd => [fld 8 0 .ro]
  | .pctrCons => [fld 8 0 .rw]
  | .pctrStat => [fld 31 16 .ctr, fld 4 4 .ro, fld 3 3 .w1c, fld 2 2 .ro, fld 1 1 .w1c, fld 0 0 .ro 1]
  | .pctrWinSeq => [fld 31 0 .ro]
  | .pctrWrapSum => [fld 6 0 .w1c]
  | .pctrClr => [fld 31 16 .wo, fld 8 8 .sc, fld 6 0 .wo]
  | .pctrBwRx _ => [fld 31 0 .ro]
  | .pctrBwTx _ => [fld 31 0 .ro]
  -- R204
  | .cliPstat _ _ => [fld 29 16 .w1c, fld 15 15 .ro, fld 13 0 .ro]
  | .cliLstat _ _ => [fld 12 8 .ro 0x1F, fld 3 0 .ro]
  | .cliPrbsCnt _ _ => [fld 31 0 .ctr]
  -- R238
  | .lineStat _ => [fld 31 16 .w1c, fld 15 0 .ro]
  | .lineLstat _ _ => [fld 20 16 .ro 0x1F, fld 12 8 .ro 0x1F, fld 3 0 .ro]
  | .lineOhxSlip _ => [fld 31 16 .ctr, fld 15 0 .ctr]
  | .lineOhxErr _ => [fld 15 0 .ctr]
  -- R378
  | .lineRszStat _ => [fld 31 16 .ro, fld 15 14 .w1c, fld 8 0 .ro]
  | .lineRszId _ => [fld 31 0 .ro]
  | .lineRszCnt _ => [fld 31 16 .ctr, fld 15 8 .ctr, fld 7 0 .ctr]
  -- R268, R437
  | .xcCstat _ => [fld 31 24 .w1c, fld 20 10 .ro, fld 7 0 .ro]
  | .xcCsize _ => [fld 24 16 .ro, fld 8 0 .ro]
  | .xcPgstat _ => [fld 31 24 .w1c, fld 23 14 .ro, fld 7 0 .ro]
  | .xcMgstat _ => [fld 31 24 .w1c, fld 23 19 .ro, fld 7 0 .ro]
  | .xcMgskew _ => [fld 31 0 .ro]
  -- R308
  | .pktZstat _ _ => [fld 31 24 .w1c, fld 8 0 .ro]
  | .pktCtxcnt _ _ => [fld 16 0 .ro]
  -- R346, R347
  | .qmClr _ => [fld 31 30 .wo, fld 15 0 .wo]
  | .qmFree _ => [fld 17 0 .ro 0x30000]
  | .qmFill _ => [fld 23 0 .ro]
  | .qmWmStat _ => [fld 29 22 .ro, fld 21 21 .w1c, fld 20 12 .ro, fld 11 11 .w1c, fld 10 2 .ro, fld 1 1 .w1c, fld 0 0 .ro]
  | .memcStat => [fld 31 16 .ro 0xFF, fld 4 4 .ro, fld 1 0 .ro]
  | .memcGrant _ => [fld 31 0 .ro]
  | .memcGstat _ => [fld 27 24 .w1c, fld 23 16 .ctr, fld 7 4 .ro, fld 2 0 .ro]
  -- R410
  | .pmonStat => [fld 30 16 .ro, fld 2 0 .ro]
  | .pmonPhase => [fld 26 0 .rw]
  | .pmonSec => [fld 31 0 .ro]
  | .pmonPending => [fld 9 0 .ro]
  | .pmonExcl => [fld 31 0 .ctr]
  -- R472
  | .mateStat => [fld 31 24 .w1c, fld 23 16 .ro, fld 7 0 .ro]
  | .matePhase => [fld 31 0 .ro]
  | .mateCnt => [fld 31 16 .ctr, fld 15 0 .ctr]
  | .mateReplay => [fld 31 0 .ctr]
  -- R513
  | .timRefStat _ => [fld 31 24 .ro, fld 16 9 .ro, fld 4 0 .w1c]
  | .timDpllStat _ => [fld 31 28 .ro, fld 27 27 .ro 1, fld 26 23 .ro 0xF, fld 22 16 .ro, fld 11 8 .ro, fld 7 1 .w1c]
  | .timOutStat => [fld 16 16 .w1c, fld 10 0 .ro]

/-- The mask of the fields of a register that satisfy p. -/
def regMask (r : Reg) (p : AccTy → Bool) : Word :=
  (regFields r).foldl (fun m f => if p f.ty then m ||| mask f.hi f.lo else m) 0

/-- The estimate of a domain in 0.01 W (R58, R59). -/
def estOf (ib : Bool) (n : Nat) : Nat :=
  let cb := if n = 0 then 25 else if n = 1 then 400 else if n = 2 then 50 else if n = 3 then 200 else if n = 4 then 150
    else if n = 5 then 300 else if n < 10 then 2100 else if n < 14 then 1800 else if n < 18 then 1000
    else if n < 22 then 500 else if n = 22 then 600 else 175
  if ib && n != 0 then (cb * 103 + 99) / 100 else cb

/-- The reset value of a register (R7); `ib` is true on a ZK6400-IB (R67, R143). PWR_DOM_STATd resets with its EST, and that of D0 READY
(R58, R59, R145). A field that a strap sets has no printed number and stands at 0 here (R140; DESIGN CHOICE, log entry 183). -/
def regReset (ib : Bool) (r : Reg) : Word :=
  match r with
  | .pwrDomStat n => putBits (if n = 0 then 0x0A else 0) 31 16 (estOf ib n)
  | .pwrCap => if ib then 0x5E8E else 0x5BCC
  | .glbId => if ib then 0x6400B002 else 0x6400B001
  | r => (regFields r).foldl (fun w f => putBits w f.hi f.lo f.rst) 0

/-- The power domain whose reset returns the register to its reset value (R122, R13). -/
def regDomain : Reg → Nat
  | .evtCtl | .evtBaseLo | .evtBaseHi | .evtSize | .evtProd | .evtCons | .evtBatch | .evtHoldoff | .evtStat | .evtLost
  | .evtSeq | .pctrCtl | .pctrWin | .pctrMask | .pctrRingLo | .pctrRingHi | .pctrRingSize | .pctrProd | .pctrCons
  | .pctrStat | .pctrWinSeq | .pctrWrapSum | .pctrClr | .pctrBwRx _ | .pctrBwTx _
  | .pmonStat | .pmonPhase | .pmonSec | .pmonPending | .pmonExcl => 4
  | .cliPstat n _ | .cliLstat n _ | .cliPrbsCnt n _ => 10 + n
  | .lineStat n | .lineLstat n _ | .lineOhxSlip n | .lineOhxErr n | .lineRszStat n | .lineRszId n | .lineRszCnt n => 6 + n
  | .xcCstat _ | .xcCsize _ | .xcPgstat _ | .xcMgstat _ | .xcMgskew _ | .memcStat | .memcGrant _ => 22
  | .pktZstat n _ | .pktCtxcnt n _ | .qmClr n | .qmFree n | .qmFill n | .qmWmStat n => 14 + n
  | .memcGstat g => 18 + g
  | .mateStat | .matePhase | .mateCnt | .mateReplay => 5
  | .timRefStat _ | .timDpllStat _ | .timOutStat => 3
  | _ => 0

/-- The blocks of the address map (R122): window base, window size, domain, and whether LTAB PRIV is 0x01. -/
structure Blk where
  base : Nat
  size : Nat
  dom : Nat
  priv : Bool := false
  deriving DecidableEq, Repr

/-- The window that holds a BAR0 offset (R122, R123, R181); none where no window does.  -/
def blkAt (o : Nat) : Option Blk :=
  if o < 0x1000 then some ⟨0, 0x1000, 0, false⟩
  else if o < 0x2000 then some ⟨0x1000, 0x1000, 0, false⟩
  else if o < 0x10000 then none
  else if o < 0x20000 then some ⟨0x10000, 0x10000, 0, false⟩
  else if o < 0x30000 then some ⟨0x20000, 0x10000, 4, false⟩
  else if o < 0x40000 then some ⟨0x30000, 0x10000, 0, false⟩
  else if o < 0x50000 then some ⟨0x40000, 0x10000, 0, false⟩
  else if o < 0x60000 then some ⟨0x50000, 0x10000, 0, false⟩
  else if o < 0x70000 then some ⟨0x60000, 0x10000, 0, false⟩
  else if o < 0x80000 then none
  else if o < 0xC0000 then some ⟨0x80000, 0x40000, 3, false⟩
  else if o < 0x100000 then some ⟨0xC0000, 0x40000, 5, false⟩
  else if o < 0x200000 then some ⟨0x100000, 0x100000, 22, false⟩
  else if o < 0x240000 then some ⟨0x200000, 0x40000, 22, false⟩
  else if o < 0x340000 then
    let g := (o - 0x240000) / 0x40000
    some ⟨0x240000 + g * 0x40000, 0x40000, 18 + g, false⟩
  else if o < 0x400000 then none
  else if o < 0x800000 then some ⟨0x400000, 0x400000, 4, true⟩
  else if o < 0x1000000 then some ⟨0x800000, 0x800000, 4, false⟩
  else if o < 0x2000000 then
    let n := (o - 0x1000000) / 0x400000
    let b := 0x1000000 + n * 0x400000
    let x := o - b
    if x < 0x100000 then some ⟨b, 0x100000, 6 + n, false⟩
    else if x < 0x180000 then some ⟨b + 0x100000, 0x80000, 10 + n, false⟩
    else if x < 0x200000 then some ⟨b + 0x180000, 0x80000, 10 + n, false⟩
    else if x < 0x300000 then some ⟨b + 0x200000, 0x100000, 14 + n, false⟩
    else some ⟨b + 0x300000, 0x100000, 14 + n, false⟩
  else if o < 0x2001000 then some ⟨0x2000000, 0x1000, 0, false⟩
  else if o < 0x2100000 then none
  else if o < 0x2200000 then some ⟨0x2100000, 0x100000, 0, false⟩
  else if o < 0x2240000 then some ⟨0x2200000, 0x40000, 0, false⟩
  else if o < 0x2300000 then none
  else if o < 0x2302000 then some ⟨0x2300000, 0x2000, 4, false⟩
  else if o < 0x2400000 then none
  else if o < 0x2440000 then some ⟨0x2400000, 0x40000, 1, true⟩
  else if o < 0x2500000 then none
  else if o < 0x2504000 then some ⟨0x2500000 + (o - 0x2500000) / 0x1000 * 0x1000, 0x1000, 6 + (o - 0x2500000) / 0x1000, false⟩
  else if o < 0x2600000 then none
  else if o < 0x2A00000 then
    some ⟨0x2600000 + (o - 0x2600000) / 0x100000 * 0x100000, 0x100000, 14 + (o - 0x2600000) / 0x100000, false⟩
  else if o < 0x2A20000 then some ⟨0x2A00000, 0x20000, 4, false⟩
  else none

/-- GLB by offset modulo 2^7 (R143). -/
def glbAt (x : Nat) : Option Reg :=
  ([.glbId, .glbStrap, .glbStat, .glbBootStat, .glbRstCause, .glbRstCtl, .glbRstCmd, .glbCpuRestart, .glbWdt, .glbCpuHb,
    .glbErrCtl, .glbAccerr, .glbAccerrAddr, .glbEpochLo, .glbIntStat, .glbIntEn, .glbIntMgmtEn, .glbScratch] : List Reg)[
      x % 128 / 4]?

/-- PWR by offset modulo 2^9 (R145). -/
def pwrAt (x : Nat) : Option Reg :=
  let y := x % 512
  if y < 0x34 then
    ([.pwrCap, .pwrLoad, .pwrDomReady, .pwrDefer, .pwrMemIdle, .pwrRailoff, .pwrRailClr, .pwrThermCtl, .pwrThermStat,
      .pwrPfwCtl, .pwrPfwStat, .pwrHostHold, .pwrHostDrop] : List Reg)[y / 4]?
  else if y < 0x40 then none
  else if y < 0x90 then
    if (y - 0x40) % 8 < 4 then some (.pwrRailStat ((y - 0x40) / 8)) else some (.pwrRailMeas ((y - 0x40) / 8))
  else if y < 0xA0 then none
  else if y < 0xB4 then some (.pwrRegion ((y - 0xA0) / 4))
  else if y < 0x100 then none
  else if y < 0x160 then some (.pwrDomStat ((y - 0x100) / 4))
  else none

/-- ERR by offset modulo 2^7 (R147). -/
def errAt (x : Nat) : Option Reg :=
  let y := x % 128
  if y < 0x14 then ([.errStat, .errOverflow, .errLost, .errSummary, .errAccCnt] : List Reg)[y / 4]?
  else if y < 0x20 then none
  else if y < 0x34 then some (.errCnt ((y - 0x20) / 4))
  else if y < 0x40 then none
  else if y < 0x44 then some .errInj
  else none

/-- MBX instance 0 by offset modulo 2^9 (R177). -/
def mbxAt (x : Nat) : Option Reg :=
  let y := x % 512
  if y < 0x100 then
    let c := y / 0x20
    ([.mbxDb c, .mbxReqHead c, .mbxRspTail c, .mbxRspHead c, .mbxStat c, .mbxCtl c, .mbxBudget c, .mbxServed c] : List Reg)[
      y % 0x20 / 4]?
  else if y < 0x104 then some .mbxGstat
  else none

/-- EVT by offset modulo 2^6 (R178). -/
def evtAt (x : Nat) : Option Reg :=
  ([.evtCtl, .evtBaseLo, .evtBaseHi, .evtSize, .evtProd, .evtCons, .evtBatch, .evtHoldoff, .evtStat, .evtLost,
    .evtSeq] : List Reg)[x % 64 / 4]?

/-- WIDE by offset modulo 2^6 (R136). -/
def wideAt (x : Nat) : Option Reg :=
  let y := x % 64
  if y < 4 then some .wideSel else if y < 8 then some .wideStat else if y < 12 then some .wideCmd
  else if y < 16 then none
  else if y < 32 then some (.wideData ((y - 16) / 4))
  else if y < 40 then some (.wideWdata ((y - 32) / 4))
  else none

/-- PCTR by offset modulo 2^11 (R531). -/
def pctrAt (x : Nat) : Option Reg :=
  let y := x % 2048
  if y < 0x30 then
    ([.pctrCtl, .pctrWin, .pctrMask, .pctrRingLo, .pctrRingHi, .pctrRingSize, .pctrProd, .pctrCons, .pctrStat,
      .pctrWinSeq, .pctrWrapSum, .pctrClr] : List Reg)[y / 4]?
  else if y < 0x100 then none
  else if y < 0x300 then if y < 0x210 then some (.pctrBwRx ((y - 0x100) / 4)) else none
  else if y < 0x410 then some (.pctrBwTx ((y - 0x300) / 4))
  else none

/-- NVM by offset modulo 2^6 (R563). -/
def nvmAt (x : Nat) : Option Reg :=
  ([.nvmStat, .nvmStoreCnt, .nvmArb, .nvmErr, .nvmCorrCnt, .nvmJtagNonce, .nvmJtagCtl, .nvmJtagTime, .nvmLgEpochLo,
    .nvmJrnlSeq] : List Reg)[x % 64 / 4]?

end Sys2Proof.Machine
end

