-- ==== Sys2Proof/Machine/Tables.lean ====
section
/-! DEFINITION. The operations of sparse tables: read, write, delete, update, all by index. -/

namespace Sys2Proof

/-- The entry at index k, or none. -/
def tfind {α : Type} : Tbl α → Nat → Option α
  | [], _ => none
  | (j, v) :: t, k => if j = k then some v else if k < j then none else tfind t k

/-- The entry at index k, or the default. -/
def tget {α : Type} (d : α) (t : Tbl α) (k : Nat) : α := (tfind t k).getD d

/-- A table with index k set to v, in ascending order of index. -/
def tset {α : Type} : Tbl α → Nat → α → Tbl α
  | [], k, v => [(k, v)]
  | (j, w) :: t, k, v => if k < j then (k, v) :: (j, w) :: t else if j = k then (k, v) :: t else (j, w) :: tset t k v

/-- A table without index k. -/
def tdel {α : Type} (t : Tbl α) (k : Nat) : Tbl α := t.filter fun e => e.1 != k

/-- A table with index k updated, from the default where it is not listed. -/
def tmod {α : Type} (d : α) (t : Tbl α) (k : Nat) (f : α → α) : Tbl α := tset t k (f (tget d t k))

/-- The indices listed. -/
def tkeys {α : Type} (t : Tbl α) : List Nat := t.map (·.1)

/-- The table without the indices that satisfy p. -/
def tdrop {α : Type} (t : Tbl α) (p : Nat → Bool) : Tbl α := t.filter fun e => !p e.1

/-- Every entry changed by a function of its index and value. -/
def tmap {α β : Type} (t : Tbl α) (f : Nat → α → β) : Tbl β := t.map fun e => (e.1, f e.1 e.2)

/-- Fold over a list of numbers: a state passed through a step for each. -/
def each {σ : Type} (l : List Nat) (f : Nat → σ → σ) (s : σ) : σ := l.foldl (fun s k => f k s) s

/-- A step taken only where a condition holds. -/
def gate {σ : Type} (c : Bool) (f : σ → σ) (s : σ) : σ := if c then f s else s

/-- Put an element before the first that it may precede. -/
def insertBy {α : Type} (le : α → α → Bool) (x : α) : List α → List α
  | [] => [x]
  | y :: l => if le x y then x :: y :: l else y :: insertBy le x l

/-- A list in the order of le; equal elements keep their order. -/
def sortBy {α : Type} (le : α → α → Bool) (l : List α) : List α := l.foldr (insertBy le) []

/-- A list with its first element that satisfies p replaced. -/
def replaceFirst {α : Type} (p : α → Bool) (x : α) : List α → List α
  | [] => []
  | y :: l => if p y then x :: l else y :: replaceFirst p x l

end Sys2Proof
end

