-- ==== Sys2Proof/Machine/Ops.lean ====
section
/-! DEFINITION. The named operations over the device: registers, free values, interrupts, events, error records, access
errors. -/

namespace Sys2Proof.Machine

/-! ### Registers -/

/-- The stored value of a register: its reset value where none is listed (R7). -/
def lookupReg (ib : Bool) : List (Reg × Word) → Reg → Word
  | [], r => regReset ib r
  | (q, w) :: t, r => if q = r then w else lookupReg ib t r

/-- The stored value of a register. -/
def reg (d : Dev) (r : Reg) : Word := lookupReg d.fuse.ib d.regs r

/-- The register list with r set to w; a register at its reset value is not listed. -/
def storeReg (ib : Bool) (l : List (Reg × Word)) (r : Reg) (w : Word) : List (Reg × Word) :=
  let rest := l.filter fun e => e.1 != r
  if w = regReset ib r then rest else (r, w) :: rest

/-- Set a register. -/
def setReg (r : Reg) (w : Word) (d : Dev) : Dev := { d with regs := storeReg d.fuse.ib d.regs r w }

/-- Bits [hi:lo] of a register. -/
def rf (d : Dev) (r : Reg) (hi lo : Nat) : Nat := bits (reg d r) hi lo

/-- Bit i of a register. -/
def rb (d : Dev) (r : Reg) (i : Nat) : Bool := bit (reg d r) i

/-- Set bits [hi:lo] of a register. -/
def setRf (r : Reg) (hi lo v : Nat) (d : Dev) : Dev := setReg r (putBits (reg d r) hi lo v) d

/-- Set bit i of a register. -/
def setRb (r : Reg) (i : Nat) (b : Bool) (d : Dev) : Dev := setReg r (putBit (reg d r) i b) d

/-- Add n to a counter that stops at all ones, in bits [hi:lo] (R127 CTR). -/
def satCtr (r : Reg) (hi lo n : Nat) (d : Dev) : Dev :=
  setRf r hi lo (min (2 ^ (hi + 1 - lo) - 1) (rf d r hi lo + n)) d

/-- Add n to a counter that wraps, in bits [hi:lo]. -/
def wrapCtr (r : Reg) (hi lo n : Nat) (d : Dev) : Dev := setRf r hi lo (rf d r hi lo + n) d

/-- Set live bit b and, when it rises, sticky bit b + off of the same register (R204, R238, R268, R308, R437, R472). -/
def setLive (r : Reg) (off b : Nat) (v : Bool) (d : Dev) : Dev :=
  let rise := v && !rb d r b
  gate rise (setRb r (b + off) true) (setRb r b v d)

/-- The window of a register whose offset only LTAB gives (R122): its base and its size. -/
def romWindow : Reg → Nat × Nat
  | .timRefStat _ | .timDpllStat _ | .timOutStat => (0x80000, 2 ^ 18)
  | .mateStat | .matePhase | .mateCnt | .mateReplay => (0xC0000, 2 ^ 18)
  | .xcCstat _ | .xcCsize _ | .xcPgstat _ | .xcMgstat _ | .xcMgskew _ => (0x100000, 2 ^ 20)
  | .memcStat | .memcGrant _ => (0x200000, 2 ^ 18)
  | .memcGstat g => (0x240000 + g * 0x40000, 2 ^ 18)
  | .lineStat n | .lineLstat n _ | .lineOhxSlip n | .lineOhxErr n | .lineRszStat n | .lineRszId n | .lineRszCnt n =>
    (0x1000000 + n * 0x400000, 2 ^ 20)
  | .cliPstat n _ | .cliLstat n _ | .cliPrbsCnt n _ => (0x1100000 + n * 0x400000, 2 ^ 19)
  | .pktZstat n _ | .pktCtxcnt n _ => (0x1200000 + n * 0x400000, 2 ^ 20)
  | .qmClr n | .qmFree n | .qmFill n | .qmWmStat n => (0x1300000 + n * 0x400000, 2 ^ 20)
  | _ => (0x800000, 2 ^ 23)

/-- BAR0 offset of a register: stated here, or a dword of its window that LTAB gives (R122, R125, R126). -/
def regOffset (r : Reg) : Nat :=
  match r with
  | .glbId => 0x0 | .glbStrap => 0x4 | .glbStat => 0x8 | .glbBootStat => 0xC | .glbRstCause => 0x10 | .glbRstCtl => 0x14
  | .glbRstCmd => 0x18 | .glbCpuRestart => 0x1C | .glbWdt => 0x20 | .glbCpuHb => 0x24 | .glbErrCtl => 0x28
  | .glbAccerr => 0x2C | .glbAccerrAddr => 0x30 | .glbEpochLo => 0x34 | .glbIntStat => 0x38 | .glbIntEn => 0x3C
  | .glbIntMgmtEn => 0x40 | .glbScratch => 0x44
  | .pwrCap => 0x30000 | .pwrLoad => 0x30004 | .pwrDomReady => 0x30008 | .pwrDefer => 0x3000C | .pwrMemIdle => 0x30010
  | .pwrRailoff => 0x30014 | .pwrRailClr => 0x30018 | .pwrThermCtl => 0x3001C | .pwrThermStat => 0x30020
  | .pwrPfwCtl => 0x30024 | .pwrPfwStat => 0x30028 | .pwrHostHold => 0x3002C | .pwrHostDrop => 0x30030
  | .pwrRailStat k => 0x30040 + 8 * k | .pwrRailMeas k => 0x30044 + 8 * k | .pwrRegion q => 0x300A0 + 4 * q
  | .pwrDomStat n => 0x30100 + 4 * n
  | .errStat => 0x60000 | .errOverflow => 0x60004 | .errLost => 0x60008 | .errSummary => 0x6000C | .errAccCnt => 0x60010
  | .errCnt s => 0x60020 + 4 * s | .errInj => 0x60040
  | .mbxDb c => 0x10000 + 0x20 * c | .mbxReqHead c => 0x10004 + 0x20 * c | .mbxRspTail c => 0x10008 + 0x20 * c
  | .mbxRspHead c => 0x1000C + 0x20 * c | .mbxStat c => 0x10010 + 0x20 * c | .mbxCtl c => 0x10014 + 0x20 * c
  | .mbxBudget c => 0x10018 + 0x20 * c | .mbxServed c => 0x1001C + 0x20 * c | .mbxGstat => 0x10100
  | .evtCtl => 0x20000 | .evtBaseLo => 0x20004 | .evtBaseHi => 0x20008 | .evtSize => 0x2000C | .evtProd => 0x20010
  | .evtCons => 0x20014 | .evtBatch => 0x20018 | .evtHoldoff => 0x2001C | .evtStat => 0x20020 | .evtLost => 0x20024
  | .evtSeq => 0x20028
  | .wideSel => 0x2000000 | .wideStat => 0x2000004 | .wideCmd => 0x2000008 | .wideData i => 0x2000010 + 4 * i
  | .wideWdata i => 0x2000020 + 4 * i
  | .nvmStat => 0x50000 | .nvmStoreCnt => 0x50004 | .nvmArb => 0x50008 | .nvmErr => 0x5000C | .nvmCorrCnt => 0x50010
  | .nvmJtagNonce => 0x50014 | .nvmJtagCtl => 0x50018 | .nvmJtagTime => 0x5001C | .nvmLgEpochLo => 0x50020
  | .nvmJrnlSeq => 0x50024
  | .pctrCtl => 0x400000 | .pctrWin => 0x400004 | .pctrMask => 0x400008 | .pctrRingLo => 0x40000C | .pctrRingHi => 0x400010
  | .pctrRingSize => 0x400014 | .pctrProd => 0x400018 | .pctrCons => 0x40001C | .pctrStat => 0x400020
  | .pctrWinSeq => 0x400024 | .pctrWrapSum => 0x400028 | .pctrClr => 0x40002C | .pctrBwRx p => 0x400100 + 4 * p
  | .pctrBwTx p => 0x400300 + 4 * p
  | r => (romWindow r).1 + Config.romOffset r % ((romWindow r).2 / 4) * 4

/-! ### Free values -/

/-- Draw the next free value (64 bits). -/
def drawFree (d : Dev) : BitVec 64 × Dev :=
  (Config.freeValue d.time.free, { d with time := { d.time with free := d.time.free + 1 } })

/-- The free value that `drawFree` would give, as a number below n (log entry 3). -/
def peekFree (d : Dev) (n : Nat) : Nat := (Config.freeValue d.time.free).toNat % n

/-- Count the free value as drawn. -/
def stepFree (d : Dev) : Dev := { d with time := { d.time with free := d.time.free + 1 } }

/-! ### Domains and servers -/

/-- The state of power domain n. -/
def dom (d : Dev) (n : Nat) : Dom := tget {} d.pwr.doms n

/-- Domain n is READY (R131). -/
def domReady (d : Dev) (n : Nat) : Bool := (dom d n).st == .ready

/-- Domain n counts in the admission sum (R23). -/
def domAwake (d : Dev) (n : Nat) : Bool :=
  match (dom d n).st with
  | .ramping | .ready | .isolating => true
  | .off | .faulted | .selfRefresh | .deferred => false

/-- WARM_RST_N leaves the PCIe balls alone: it is high, or a warm reset keeps PCIe (R56). -/
def pcieUp (d : Dev) : Bool := d.pin.warmRstN || d.boot.keptPcie

/-- A domain that stays awake for those that require it: awake, and no sleep of it has begun (R61). -/
def domUp (d : Dev) (n : Nat) : Bool := domAwake d n && (dom d n).st != .isolating

/-- Change the state of domain n. -/
def modDom (n : Nat) (f : Dom → Dom) (d : Dev) : Dev := { d with pwr := { d.pwr with doms := tmod {} d.pwr.doms n f } }

/-- GLB_STAT.FATAL. -/
def isFatal (d : Dev) : Bool := rb d .glbStat 0

/-- PWR_PFW_STAT.FROZEN: the freeze of R84. -/
def isPfwFrozen (d : Dev) : Bool := rb d .pwrPfwStat 2

/-- Provisioning is frozen by PFW_N or by the FATAL safe state (R84, R110). -/
def provFrozen (d : Dev) : Bool := isFatal d || isPfwFrozen d

/-- GLB_STAT.FROZEN follows the two freezes (R143). -/
def updFrozen (d : Dev) : Dev := setRb .glbStat 1 (provFrozen d) d

/-- The epoch as a number. -/
def now (d : Dev) : Nat := d.time.epoch.toNat

/-! ### Interrupts (R118) -/

/-- PF0 may master the bus (R117). -/
def pf0Dma (d : Dev) : Bool := domReady d 4 && d.host.training && d.host.busMaster && !d.host.d3hot

/-- Send vector k of PF0 or hold it pending (R117, R118). -/
def msixPf0 (k : Nat) (d : Dev) : Dev :=
  let m := d.host.pf0
  let m := if !m.mask.getLsbD k && pf0Dma d then { m with sent := tmod 0 m.sent k (· + 1) }
    else { m with pend := m.pend ||| BitVec.twoPow 16 k }
  { d with host := { d.host with pf0 := m } }

/-- Send vector k of PF1 or hold it pending (R118). -/
def msixPf1 (k : Nat) (d : Dev) : Dev :=
  let m := d.host.pf1
  let m := if !m.mask.getLsbD k && domReady d 4 && d.host.training then { m with sent := tmod 0 m.sent k (· + 1) }
    else { m with pend := m.pend ||| BitVec.twoPow 16 k }
  { d with host := { d.host with pf1 := m } }

/-- Source k of R118 occurs: the bit is set, and a change from 0 to 1 sends its message when enabled. -/
def raiseInt (k : Nat) (d : Dev) : Dev :=
  let rise := !rb d .glbIntStat k
  let fire := rise && rb d .glbIntEn k
  let d := setRb .glbIntStat k true d
  let d := gate fire (msixPf0 k) d
  let d := gate (k == 10) (msixPf1 0) d
  gate (k == 15) (msixPf1 1) d

/-- MGMT_INT_N is driven low (R119). -/
def mgmtIntLow (d : Dev) : Bool := (reg d .glbIntStat &&& reg d .glbIntMgmtEn) != 0 || isFatal d

/-! ### Events (R171 to R174) -/

/-- Entries of the event ring (R173, R178). -/
def evtEntries (d : Dev) : Nat := 2 ^ rf d .evtSize 4 0

/-- Records in the event ring: EVT_PROD − EVT_CONS modulo twice its entries. -/
def evtUsed (d : Dev) : Nat := subMod (2 * evtEntries d) (rf d .evtProd 16 0) (rf d .evtCons 16 0)

/-- Room in the event ring. -/
def evtRoom (d : Dev) : Nat := evtEntries d - evtUsed d

/-- Event DMA runs (R117, R174). -/
def evtDma (d : Dev) : Bool := rb d .evtCtl 0 && pf0Dma d

/-- The record as it is written into ring position `prod`: its PHASE and LOST_BEFORE (R173, R174). -/
def stampEvt (entries pass prod : Nat) (lost : Bool) (e : EvtRec) : EvtRec :=
  { e with phase := prod / entries % 2 == pass, lost := lost }

/-- Write staged records into the ring, oldest first, as many as there is room for (R172). -/
def ringWrite (entries pass : Nat) : Nat → Nat → Bool → List EvtRec → Tbl EvtRec → Tbl EvtRec × Nat × List EvtRec
  | 0, prod, _, l, t => (t, prod, l)
  | _ + 1, prod, _, [], t => (t, prod, [])
  | room + 1, prod, lost, e :: l, t =>
    ringWrite entries pass room ((prod + 1) % (2 * entries)) false l
      (tset t (prod % entries) (stampEvt entries pass prod lost e))

/-- A posting falls due: it is made at once, or held until room appears or DMA resumes (R172). -/
def postEvents (d : Dev) : Dev :=
  if d.evt.staged.isEmpty then { d with evt := { d.evt with due := false, holdoff := false } }
  else if evtDma d && decide (0 < evtRoom d) then
    let (t, prod, rest) :=
      ringWrite (evtEntries d) d.evt.pass (evtRoom d) (rf d .evtProd 16 0) d.evt.lost d.evt.staged d.evt.ring
    let d := { d with evt := { d.evt with ring := t, staged := rest, lost := false, due := false, holdoff := !rest.isEmpty } }
    raiseInt 0 (setRf .evtProd 16 0 prod d)
  else { d with evt := { d.evt with due := true } }

/-- A record enters the staging FIFO (R172), or is dropped at a full one (R174). -/
def stageEvt (e : EvtRec) (d : Dev) : Dev :=
  if !domReady d 4 then { d with evt := { d.evt with lost := true } }
  else if d.evt.staged.length ≥ 1024 then
    satCtr .evtLost 31 0 1 (setRb .evtStat 2 true { d with evt := { d.evt with lost := true } })
  else
    let first := d.evt.staged.isEmpty
    let d := { d with evt := { d.evt with staged := d.evt.staged ++ [e], holdoff := d.evt.holdoff || first } }
    gate (e.urgent || decide (d.evt.staged.length ≥ rf d .evtBatch 8 0)) postEvents d

/-- Produce an event record (R171, R174): it takes the next SEQ and enters the log of D0 and the staging FIFO.
Arguments: TYPE, SOURCE_TYPE, INSTANCE, OBJECT, DETAIL. -/
def postEvtAs (engine urgent : Bool) (ty src inst obj : Nat) (detail : Bytes) (d : Dev) : Dev :=
  let e : EvtRec := {
    ty := ty, seq := d.evt.seq, urgent := urgent, engine := engine, epoch := d.time.epoch,
    ns := Config.freeNs d.time.stamps % 1000000, src := src, inst := inst, obj := obj, detail := fit 40 detail }
  let d := { d with
    time := { d.time with stamps := d.time.stamps + 1 },
    evt := { d.evt with seq := d.evt.seq + 1, log := (e :: d.evt.log).take 384 } }
  stageEvt e d

/-- An event of an engine. -/
def postEvt (ty src inst obj : Nat) (detail : Bytes) (d : Dev) : Dev := postEvtAs true false ty src inst obj detail d

/-- An event of Thino. -/
def postThino (ty src inst obj : Nat) (detail : Bytes) (d : Dev) : Dev := postEvtAs false false ty src inst obj detail d

/-- The 64 bytes of an event record (R171). -/
def evtBytes (e : EvtRec) : Bytes :=
  be 2 e.ty ++ be 2 e.seq.toNat
    ++ [BitVec.ofNat 8 (e.phase.toNat * 128 + e.urgent.toNat * 64 + e.lost.toNat * 32 + e.engine.toNat * 16), 0]
    ++ be 6 e.epoch.toNat ++ be 4 e.ns ++ be 2 e.src ++ be 1 e.inst ++ [0] ++ be 4 e.obj ++ fit 40 e.detail

/-! ### Error records (R107 to R109) -/

/-- The 16 bytes of an ERR record (R148). -/
def errBytes (e : ErrRec) : Bytes :=
  be 1 (e.sev * 32 + e.st * 8) ++ be 1 e.inst ++ be 2 e.src ++ be 2 e.code ++ be 6 e.epoch.toNat ++ be 2 e.d0 ++ be 2 e.d1

/-- The ERR_RECORD event of a record (R171); every event of a FATAL error is URGENT (R172). The 24 bytes of source detail that follow
the record are zero (DESIGN CHOICE, log entry 143). -/
def postErr (e : ErrRec) (d : Dev) : Dev :=
  postEvtAs (decide (e.sev ≤ 1)) (e.sev == 4) 0x0008 e.src e.inst 0 (errBytes e) d

/-- The lost record's effects (R109). -/
def loseErr (sev : Nat) (d : Dev) : Dev :=
  setRb .errSummary sev true (satCtr .errLost 31 0 1 (setRb .errOverflow 0 true d))

/-- The lowest severity in the queue. -/
def minSev (q : List ErrRec) : Nat := q.foldl (fun m e => min m e.sev) 5

/-- The queue without the newest record of severity v. -/
def dropNewest (v : Nat) (q : List ErrRec) : List ErrRec := (q.reverse.eraseP fun e => e.sev == v).reverse

/-- A record arrives (R108, R109). INFO and CORRECTED records leave the queue as soon as their event is handed over. -/
def arriveErr (e : ErrRec) (d : Dev) : Dev :=
  let d := wrapCtr (.errCnt e.sev) 31 0 1 d
  let full := decide (d.err.queue.length ≥ 64)
  let low := minSev d.err.queue
  if full && !decide (low < e.sev) then loseErr e.sev d
  else
    let d := gate full (fun d => loseErr low { d with err := { d.err with queue := dropNewest low d.err.queue } }) d
    if e.sev ≤ 1 then postErr e d
    else
      let d := { d with err := { d.err with queue := d.err.queue ++ [e] } }
      gate (e.sev == 2 || e.sev == 3) (raiseInt 9) d

/-- An engine raises an error record: severity, SOURCE_TYPE, INSTANCE, CODE, DETAIL0, DETAIL1 (R107, R148). -/
def raiseErr (sev src inst code d0 d1 : Nat) (d : Dev) : Dev :=
  arriveErr { sev := sev, inst := inst, src := src, code := code, epoch := d.time.epoch, d0 := d0, d1 := d1 } d

/-! ### Access errors (R132) -/

/-- The number of a requester in GLB_ACCERR_ADDR.REQ (R143). -/
def reqNo : Requester → Nat
  | .pf0 => 0 | .pf1 => 1 | .spi => 2 | .i2c => 3

/-- An access error of cause bit b (R132). Its record names GLB, instance 0, as its source: the registers of access errors lie there
(DEDUCED, log entry 142). -/
def accErr (b : Nat) (q : Requester) (write : Bool) (off : Nat) (d : Dev) : Dev :=
  let d := setRb .glbAccerr b true d
  let d := setReg .glbAccerrAddr
    (BitVec.ofNat 32 (write.toNat * 2 ^ 28 + reqNo q * 2 ^ 26 + off % 2 ^ 26)) d
  if d.err.accSeen.testBit b then satCtr .errAccCnt 31 0 1 d
  else raiseErr 0 0x0001 0 0x0001 b (off % 65536) { d with err := { d.err with accSeen := nputBit d.err.accSeen b true } }

/-- GLB_ACCERR bits (R143). -/
abbrev accDomainOff : Nat := 0
abbrev accNarrow : Nat := 1
abbrev accCrossDw : Nat := 2
abbrev accPriv : Nat := 3
abbrev accKey : Nat := 4
abbrev accRange : Nat := 5
abbrev accUnmapped : Nat := 6
abbrev accTimeout : Nat := 7

/-! ### Objects (R162) and function modes (R32, R163, R595) -/

/-- The key of an object: type and index. -/
def okey (ty i : Nat) : Nat := ty * 2 ^ 32 + i

/-- A record in service. -/
def serv (d : Dev) (ty i : Nat) : Option Bytes := tfind d.prov.serv (okey ty i)

/-- The bytes of a record in service; all zero where there is none. -/
def servRec (d : Dev) (ty i : Nat) : Bytes := (serv d ty i).getD []

/-- The indices of the objects of a type in a table. -/
def objs (t : Tbl Bytes) (ty : Nat) : List Nat :=
  ((tkeys t).filter fun k => k / 2 ^ 32 == ty).map (· % 2 ^ 32)

/-- The key of a host-assisted object. -/
def akey (fn i : Nat) : Nat := fn * 2 ^ 24 + i

/-- MODE of a function in a table: its record, or the default of R32 (only resize acceptance is host-assisted). -/
def modeIn (t : Tbl Bytes) (fn i : Nat) : Nat :=
  match tfind t (okey 0x0B (akey fn i)) with
  | some r => u8 r 1
  | none => if fn = 5 then 1 else 0

/-- The function runs host-assisted in the tables in service. -/
def assisted (d : Dev) (fn i : Nat) : Bool := modeIn d.prov.serv fn i == 1

/-- ASSIST_TIMEOUT in ms of the record in service; 0 is off (R35). -/
def assistTimeout (d : Dev) (fn i : Nat) : Nat := u16 (servRec d 0x0B (akey fn i)) 2

/-- The object is frozen (R34). -/
def isFrozen (d : Dev) (fn i : Nat) : Bool := d.asst.frozen.contains (akey fn i)

/-- FROZEN of XC_PGSTATg and XC_MGSTATm, with its sticky bit (R437), and FROZEN and ASSIST of TIM_DPLLd_STAT (R513). -/
def showFrozen (k : Nat) (d : Dev) : Dev :=
  let fn := k / 2 ^ 24
  let i := k % 2 ^ 24
  if fn = 2 ∧ (serv d 7 i).isSome then setLive (.xcPgstat i) 24 7 (isFrozen d 2 i) d
  else if fn = 3 ∧ (serv d 8 i).isSome then setLive (.xcMgstat i) 24 7 (isFrozen d 3 i) d
  else if fn = 6 ∧ domReady d 3 then
    setRf (.timDpllStat i) 17 16 ((isFrozen d 6 i).toNat * 2 + (assisted d 6 i).toNat) d
  else d

/-- The block that reports for a function (R591): SOURCE_TYPE and INSTANCE. -/
def fnBlock (fn i : Nat) : Nat × Nat :=
  if fn = 1 ∨ fn = 8 then (0x000E, 0) else if fn = 2 ∨ fn = 3 then (0x000B, 0) else if fn = 4 then (0x0013, i)
  else if fn = 5 then (0x0010, i) else if fn = 6 ∨ fn = 7 then (0x0009, 0) else (0x0011, i / 16)

/-- A host-assisted function reports (R168); a frozen one does not. -/
def report (fn i reason : Nat) (content : Bytes) (d : Dev) : Dev :=
  if isFrozen d fn i then d
  else
    let id := (d.asst.lastReport + 1) % 2 ^ 32
    let d := { d with asst := { d.asst with
      lastReport := id,
      newest := tset d.asst.newest (akey fn i) { id := id, reason := reason, content := fit 34 content } } }
    postEvtAs true true 0x0009 (fnBlock fn i).1 (fnBlock fn i).2 i
      (be 4 id ++ be 1 fn ++ be 1 reason ++ fit 34 content) d

end Sys2Proof.Machine
end

