-- ==== Sys2Proof/Machine/Ltab.lean ====
section
/-! DEFINITION. The Layout Table (R137 to R141): the registers of each block, their names, block entries, register entries,
header. -/

namespace Sys2Proof.Machine

/-! ### The registers of a block -/

/-- Slice n of a slice block's window base, 0x0100_0000 + n × 0x0040_0000 + its place in the slice (R122). -/
def baseSlice (base : Nat) : Nat := (base - 0x1000000) / 0x400000

/-- The registers of a slice block by the block's place in its slice (R122, R204, R238, R308, R346, R378). -/
def sliceRegs (n at_ : Nat) : List Reg :=
  if at_ = 0 then
    .lineStat n :: (List.range 8).map (.lineLstat n) ++ [.lineOhxSlip n, .lineOhxErr n, .lineRszStat n, .lineRszId n, .lineRszCnt n]
  else if at_ = 0x100000 then
    (List.range 16).map (.cliPstat n) ++ (List.range 16).map (.cliLstat n) ++ (List.range 16).map (.cliPrbsCnt n)
  else if at_ = 0x200000 then (List.range 1024).map (.pktZstat n) ++ (List.range 3).map (.pktCtxcnt n)
  else if at_ = 0x300000 then [.qmClr n, .qmFree n, .qmFill n, .qmWmStat n]
  else []

/-- The registers of a block by its window base, in the order of the manual's tables; none for a block whose registers the manual
does not describe. -/
def blkRegs (base : Nat) : List Reg :=
  let table (k : Nat) (f : Nat → Option Reg) : List Reg := (List.range k).filterMap fun i => f (4 * i)
  if base = 0 then table 18 glbAt
  else if base = 0x10000 then table 65 mbxAt
  else if base = 0x20000 then table 11 evtAt
  else if base = 0x30000 then table 88 pwrAt
  else if base = 0x50000 then table 10 nvmAt
  else if base = 0x60000 then table 17 errAt
  else if base = 0x80000 then (List.range 24).map .timRefStat ++ (List.range 4).map .timDpllStat ++ [.timOutStat]
  else if base = 0xC0000 then [.mateStat, .matePhase, .mateCnt, .mateReplay]
  else if base = 0x100000 then
    (List.range 1024).map .xcCstat ++ (List.range 1024).map .xcCsize ++ (List.range 512).map .xcPgstat
      ++ (List.range 256).map .xcMgstat ++ (List.range 256).map .xcMgskew
  else if base = 0x200000 then .memcStat :: (List.range 4).map .memcGrant
  else if 0x240000 ≤ base ∧ base < 0x340000 then [.memcGstat ((base - 0x240000) / 0x40000)]
  else if base = 0x400000 then table 261 pctrAt
  else if base = 0x800000 then [.pmonStat, .pmonPhase, .pmonSec, .pmonPending, .pmonExcl]
  else if 0x1000000 ≤ base ∧ base < 0x2000000 then sliceRegs (baseSlice base) ((base - 0x1000000) % 0x400000)
  else if base = 0x2000000 then table 10 wideAt
  else []

/-! ### Names (R140) -/

/-- A number in decimal digits, at most 4. -/
def digits (n : Nat) : String :=
  let dig (k : Nat) : Char := Char.ofNat (48 + n / 10 ^ k % 10)
  String.ofList (((List.range 4).filter fun k => k == 0 || decide (10 ^ k ≤ n)).reverse.map dig)

/-- A register's name in a slice block: its slice stands in the prefix. -/
def sliceName (n : Nat) (s : String) : String := "SL" ++ digits n ++ "_" ++ s

/-- A register's name as the manual writes it, its index included (R140). -/
def regName : Reg → String
  | .glbId => "GLB_ID" | .glbStrap => "GLB_STRAP" | .glbStat => "GLB_STAT" | .glbBootStat => "GLB_BOOT_STAT"
  | .glbRstCause => "GLB_RST_CAUSE" | .glbRstCtl => "GLB_RST_CTL" | .glbRstCmd => "GLB_RST_CMD"
  | .glbCpuRestart => "GLB_CPU_RESTART" | .glbWdt => "GLB_WDT" | .glbCpuHb => "GLB_CPU_HB" | .glbErrCtl => "GLB_ERR_CTL"
  | .glbAccerr => "GLB_ACCERR" | .glbAccerrAddr => "GLB_ACCERR_ADDR" | .glbEpochLo => "GLB_EPOCH_LO"
  | .glbIntStat => "GLB_INT_STAT" | .glbIntEn => "GLB_INT_EN" | .glbIntMgmtEn => "GLB_INT_MGMT_EN" | .glbScratch => "GLB_SCRATCH"
  | .pwrCap => "PWR_CAP" | .pwrLoad => "PWR_LOAD" | .pwrDomReady => "PWR_DOM_READY" | .pwrDefer => "PWR_DEFER"
  | .pwrMemIdle => "PWR_MEM_IDLE" | .pwrRailoff => "PWR_RAILOFF" | .pwrRailClr => "PWR_RAIL_CLR"
  | .pwrThermCtl => "PWR_THERM_CTL" | .pwrThermStat => "PWR_THERM_STAT" | .pwrPfwCtl => "PWR_PFW_CTL"
  | .pwrPfwStat => "PWR_PFW_STAT" | .pwrHostHold => "PWR_HOST_HOLD" | .pwrHostDrop => "PWR_HOST_DROP"
  | .pwrRailStat k => "PWR_RAIL_STAT" ++ digits k | .pwrRailMeas k => "PWR_RAIL_MEAS" ++ digits k
  | .pwrRegion r => "PWR_REGION" ++ digits r | .pwrDomStat n => "PWR_DOM_STAT" ++ digits n
  | .errStat => "ERR_STAT" | .errOverflow => "ERR_OVERFLOW" | .errLost => "ERR_LOST" | .errSummary => "ERR_SUMMARY"
  | .errAccCnt => "ERR_ACC_CNT" | .errCnt s => "ERR_CNT" ++ digits s | .errInj => "ERR_INJ"
  | .mbxDb c => "MBX_DB" ++ digits c | .mbxReqHead c => "MBX_REQ_HEAD" ++ digits c | .mbxRspTail c => "MBX_RSP_TAIL" ++ digits c
  | .mbxRspHead c => "MBX_RSP_HEAD" ++ digits c | .mbxStat c => "MBX_STAT" ++ digits c | .mbxCtl c => "MBX_CTL" ++ digits c
  | .mbxBudget c => "MBX_BUDGET" ++ digits c | .mbxServed c => "MBX_SERVED" ++ digits c | .mbxGstat => "MBX_GSTAT"
  | .evtCtl => "EVT_CTL" | .evtBaseLo => "EVT_BASE_LO" | .evtBaseHi => "EVT_BASE_HI" | .evtSize => "EVT_SIZE"
  | .evtProd => "EVT_PROD" | .evtCons => "EVT_CONS" | .evtBatch => "EVT_BATCH" | .evtHoldoff => "EVT_HOLDOFF"
  | .evtStat => "EVT_STAT" | .evtLost => "EVT_LOST" | .evtSeq => "EVT_SEQ"
  | .wideSel => "WIDE_SEL" | .wideStat => "WIDE_STAT" | .wideCmd => "WIDE_CMD" | .wideData i => "WIDE_DATA" ++ digits i
  | .wideWdata i => "WIDE_WDATA" ++ digits i
  | .nvmStat => "NVM_STAT" | .nvmStoreCnt => "NVM_STORE_CNT" | .nvmArb => "NVM_ARB" | .nvmErr => "NVM_ERR"
  | .nvmCorrCnt => "NVM_CORR_CNT" | .nvmJtagNonce => "NVM_JTAG_NONCE" | .nvmJtagCtl => "NVM_JTAG_CTL"
  | .nvmJtagTime => "NVM_JTAG_TIME" | .nvmLgEpochLo => "NVM_LG_EPOCH_LO" | .nvmJrnlSeq => "NVM_JRNL_SEQ"
  | .pctrCtl => "PCTR_CTL" | .pctrWin => "PCTR_WIN" | .pctrMask => "PCTR_MASK" | .pctrRingLo => "PCTR_RING_LO"
  | .pctrRingHi => "PCTR_RING_HI" | .pctrRingSize => "PCTR_RING_SIZE" | .pctrProd => "PCTR_PROD" | .pctrCons => "PCTR_CONS"
  | .pctrStat => "PCTR_STAT" | .pctrWinSeq => "PCTR_WIN_SEQ" | .pctrWrapSum => "PCTR_WRAP_SUM" | .pctrClr => "PCTR_CLR"
  | .pctrBwRx p => "PCTR_BW_RX" ++ digits p | .pctrBwTx p => "PCTR_BW_TX" ++ digits p
  | .cliPstat n p => sliceName n ("CLI_PSTAT" ++ digits p) | .cliLstat n k => sliceName n ("CLI_LSTAT" ++ digits k)
  | .cliPrbsCnt n k => sliceName n ("CLI_PRBS_CNT" ++ digits k)
  | .lineStat n => sliceName n "LINE_FSTAT" | .lineLstat n k => sliceName n ("LINE_LSTAT" ++ digits k)
  | .lineOhxSlip n => sliceName n "LINE_OHX_SLIP" | .lineOhxErr n => sliceName n "LINE_OHX_ERR"
  | .lineRszStat n => sliceName n "LINE_RSZ_STAT" | .lineRszId n => sliceName n "LINE_RSZ_ID"
  | .lineRszCnt n => sliceName n "LINE_RSZ_CNT"
  | .xcCstat i => "XC_CSTAT" ++ digits i | .xcCsize i => "XC_CSIZE" ++ digits i | .xcPgstat g => "XC_PGSTAT" ++ digits g
  | .xcMgstat m => "XC_MGSTAT" ++ digits m | .xcMgskew m => "XC_MGSKEW" ++ digits m
  | .pktZstat n i => sliceName n ("PKT_ZSTAT" ++ digits i) | .pktCtxcnt n k => sliceName n ("PKT_CTXCNT" ++ digits k)
  | .qmClr n => sliceName n "QM_CLR" | .qmFree n => sliceName n "QM_FREE" | .qmFill n => sliceName n "QM_FILL"
  | .qmWmStat n => sliceName n "QM_WM_STAT"
  | .memcStat => "MEMC_STAT" | .memcGrant n => "MEMC_GRANT" ++ digits n | .memcGstat _ => "MEMC_GSTAT"
  | .pmonStat => "PMON_STAT" | .pmonPhase => "PMON_PHASE" | .pmonSec => "PMON_SEC" | .pmonPending => "PMON_PENDING"
  | .pmonExcl => "PMON_EXCL"
  | .mateStat => "MATE_STAT" | .matePhase => "MATE_PHASE" | .mateCnt => "MATE_CNT" | .mateReplay => "MATE_REPLAY"
  | .timRefStat r => "TIM_REF" ++ digits r ++ "_STAT" | .timDpllStat i => "TIM_DPLL" ++ digits i ++ "_STAT"
  | .timOutStat => "TIM_OUT_STAT"

/-- NAME_HASH of a name: CRC-32 over its ASCII characters (R140). -/
def nameHash (s : String) : Nat := (crc32 (s.toList.map fun c => BitVec.ofNat 8 c.toNat)).toNat

/-- The 16 bytes of a register's entry: NAME_HASH, OFFSET, RESET, FIELD_MASK (R140). -/
def regEntry (ib : Bool) (r : Reg) : Bytes :=
  be 4 (nameHash (regName r)) ++ be 4 (regOffset r) ++ be 4 (regReset ib r).toNat ++ be 4 (regMask r fun _ => true).toNat

/-! ### Block entries (R138, R139) -/

/-- One ROM block entry: TYPE, INSTANCE, BASE, WINDOW_LOG2, DECODE_BITS where the manual states it, DOMAIN, PRIV, FLAGS. -/
structure RomBlk where
  ty : Nat
  inst : Nat := 0
  base : Nat
  log2 : Nat
  dec : Option Nat := none
  dom : Nat := 0
  priv : Nat := 0
  flags : Nat := 0
  deriving DecidableEq, Repr

/-- FLAGS: EXT is bit 0.7, TABLE bit 0.6, BANKED bit 0.5 (R8, R138). -/
abbrev flagExt : Nat := 1
abbrev flagTable : Nat := 2
abbrev flagBanked : Nat := 4

/-- The five blocks of slice n (R122, R139). -/
def sliceBlks (n : Nat) : List RomBlk :=
  let b := 0x1000000 + n * 0x400000
  [{ ty := 0x10, inst := n, base := b, log2 := 20, dom := 6 + n }, { ty := 0x11, inst := n, base := b + 0x100000, log2 := 19, dom := 10 + n },
   { ty := 0x12, inst := n, base := b + 0x180000, log2 := 19, dom := 10 + n },
   { ty := 0x13, inst := n, base := b + 0x200000, log2 := 20, dom := 14 + n }, { ty := 0x14, inst := n, base := b + 0x300000, log2 := 20, dom := 14 + n }]

/-- The 52 entries of the ROM part, in ascending BASE order (R122, R139, R181, R237, R343, R409). -/
def romBlks : List RomBlk :=
  ([{ ty := 1, base := 0, log2 := 12, dec := some 7 }, { ty := 2, base := 0x1000, log2 := 12, dec := some 12 },
    { ty := 3, base := 0x10000, log2 := 16, dec := some 9 }, { ty := 4, base := 0x20000, log2 := 16, dec := some 6, dom := 4 },
    { ty := 5, base := 0x30000, log2 := 16, dec := some 9 }, { ty := 6, base := 0x40000, log2 := 16 },
    { ty := 7, base := 0x50000, log2 := 16, dec := some 6 }, { ty := 8, base := 0x60000, log2 := 16, dec := some 7 },
    { ty := 9, base := 0x80000, log2 := 18, dom := 3 }, { ty := 0xA, base := 0xC0000, log2 := 18, dom := 5 },
    { ty := 0xB, base := 0x100000, log2 := 20, dom := 22 }, { ty := 0xC, base := 0x200000, log2 := 18, dom := 22 }] : List RomBlk)
  ++ (List.range 4).map (fun g => ({ ty := 0xC, inst := g + 1, base := 0x240000 + g * 0x40000, log2 := 18, dom := 18 + g } : RomBlk))
  ++ ([{ ty := 0xD, base := 0x400000, log2 := 22, dec := some 11, dom := 4, priv := 1 },
    { ty := 0xE, base := 0x800000, log2 := 23, dom := 4 }] : List RomBlk)
  ++ (List.range 4).flatMap sliceBlks
  ++ ([{ ty := 0x20, base := 0x2000000, log2 := 12, dec := some 6, flags := flagBanked },
    { ty := 2, inst := 1, base := 0x2100000, log2 := 20, dec := some 20 }, { ty := 3, inst := 1, base := 0x2200000, log2 := 18, dec := some 18 },
    { ty := 0x15, base := 0x2300000, log2 := 13, dec := some 13, dom := 4 },
    { ty := 0x100, base := 0x2400000, log2 := 18, dec := some 18, dom := 1, priv := 1, flags := flagTable }] : List RomBlk)
  ++ (List.range 4).map (fun n =>
    ({ ty := 0x110, inst := n, base := 0x2500000 + n * 0x1000, log2 := 12, dec := some 12, dom := 6 + n, flags := flagTable } : RomBlk))
  ++ (List.range 4).map (fun n =>
    ({ ty := 0x120, inst := n, base := 0x2600000 + n * 0x100000, log2 := 20, dec := some 20, dom := 14 + n, flags := flagTable } : RomBlk))
  ++ [{ ty := 0x130, base := 0x2A00000, log2 := 17, dec := some 17, dom := 4, flags := flagTable }]

/-- REG_COUNT of a ROM block: the registers that the manual describes; of a block that it leaves to the ROM part, below 256. -/
def romRegs (b : RomBlk) : Nat :=
  let n := (blkRegs b.base).length
  if b.flags = flagTable then 0 else if n = 0 then Config.romRegCount b.base % 256 else n

/-- Each ROM block with the index of its first register entry: the runs follow each other in BASE order with unused positions
between them, and that of PWR starts at 512 (R140, R142; log entry 7). -/
def ltabRuns : Nat → List RomBlk → List (Nat × RomBlk)
  | _, [] => []
  | p, b :: l =>
    let s := if b.ty = 5 then 512 else p + Config.romGap b.base % 32
    (s, b) :: ltabRuns (s + romRegs b) l

/-- The position after the last ROM run. -/
def romRegEnd : Nat := match (ltabRuns 0 romBlks).getLast? with
  | some e => e.1 + romRegs e.2
  | none => 0

/-- The 32 bytes of ROM entry i with its REG_INDEX (R138); what only the ROM part states is left to Config (log entry 7). -/
def romEntry (i : Nat) (e : Nat × RomBlk) : Bytes :=
  let b := e.2
  be 2 b.ty ++ be 1 b.inst ++ [if b.ty = 5 then 0x10 else Config.ltabRomByte (32 + 32 * i + 3)] ++ be 4 b.base ++ be 1 b.log2
    ++ be 1 (b.dec.getD (Config.romDecodeBits b.base)) ++ be 1 b.dom ++ be 1 b.priv ++ be 2 (romRegs b) ++ be 1 b.flags ++ zeros 1
    ++ be 4 e.1 ++ zeros 12

/-- Block entries of an extension: EXT set, their runs after the highest position in use (R138, R140). -/
def extEntries : Nat → List Bytes → List Bytes
  | _, [] => []
  | p, e :: l =>
    let e := fit 32 e
    patch (patch e 14 (be 1 (Nat.lor (u8 e 14) flagExt))) 16 (be 4 p) :: extEntries (p + u16 e 12) l

/-- Block entries in use, at most 127 (R137). -/
def ltabBlockCount (d : Dev) : Nat := 52 + min 75 d.boot.ltabExt.length

/-- Every block entry in use: ROM, then extension. -/
def ltabBlocks (d : Dev) : Bytes :=
  (((ltabRuns 0 romBlks).zip (List.range 52)).flatMap fun e => romEntry e.2 e.1)
    ++ (extEntries romRegEnd (d.boot.ltabExt.take 75)).flatten

/-! ### Register entries and header (R137, R140) -/

/-- The register entry at a ROM position: of the run that holds it; 16 zero bytes in none. -/
def romRegEntry (d : Dev) (j : Nat) : Bytes :=
  if 512 ≤ j ∧ j < 574 then regEntry d.fuse.ib ((blkRegs 0x30000).getD (j - 512) .pwrCap)
  else match (ltabRuns 0 romBlks).find? fun e => decide (e.1 ≤ j ∧ j < e.1 + romRegs e.2) with
    | none => zeros 16
    | some e => match (blkRegs e.2.base)[j - e.1]? with
      | some r => regEntry d.fuse.ib r
      | none => (List.range 16).map fun k => Config.ltabRomByte (2 ^ 20 + 16 * j + k)

/-- Register entries of the extension, within the 65,536 positions of the table (R137). -/
def extRegCount (d : Dev) : Nat := min d.boot.ltabExtRegs.length (65536 - romRegEnd)

/-- The 16 bytes of register entry j; an unused position reads zero (R140). -/
def ltabRegEntry (d : Dev) (j : Nat) : Bytes :=
  if j < romRegEnd ∨ j < 574 then romRegEntry d j
  else if j - romRegEnd < extRegCount d then fit 16 (d.boot.ltabExtRegs.getD (j - romRegEnd) [])
  else zeros 16

/-- REG_COUNT of the header. -/
def ltabRegCount (d : Dev) : Nat := romRegEnd + extRegCount d

/-- Header bytes 0 to 27. -/
def ltabHead (d : Dev) : Bytes :=
  [0x5A, 0x4B, 0x4C, 0x54, 1, 0] ++ be 2 (ltabBlockCount d) ++ be 2 52 ++ [32, 16] ++ be 4 0x2100000
    ++ be 4 (ltabRegCount d) ++ be 4 d.boot.ltabGen ++ zeros 4

/-- CRC of the table (R137). -/
def ltabCrc (d : Dev) : Nat :=
  (crc32 (ltabHead d ++ ltabBlocks d ++ (List.range (ltabRegCount d)).flatMap (ltabRegEntry d))).toNat

/-- The 4 bytes at offset x of LTAB instance 0. -/
def ltabWindow (d : Dev) (x : Nat) : Bytes :=
  if x < 28 then slice (ltabHead d) x 4 else if x < 32 then be 4 (ltabCrc d) else slice (ltabBlocks d) (x - 32) 4

end Sys2Proof.Machine
end

