-- ==== Sys2Proof/Machine/Counters.lean ====
section
/-! DEFINITION. Performance counters: their numbers (R520), counting with wrap (R519, R522), windows and dumps (R525 to R530). -/

namespace Sys2Proof.Machine

/-- The bank of a counter number (R520); none outside the banks. -/
def ctrBank (n : Nat) : Option Nat :=
  if n < 0x80 then some 0 else if n < 0xC0 then some 1 else if n < 0x100 then none
  else if n < 0x180 then some 2 else if n < 0x400 then none else if n < 0x800 then some 3
  else if n < 0x2800 then some 4 else if n < 0x3000 then some 5 else if n < 0x13000 then some 6 else none

/-- Counter numbers (R520, R521): instance and event. -/
def ctrMemc (i e : Nat) : Nat := i * 8 + e
def ctrLine (n e : Nat) : Nat := 0x80 + n * 16 + e
def ctrSlice (n e : Nat) : Nat := 0x100 + n * 32 + e
def ctrClient (i e : Nat) : Nat := 0x400 + i * 16 + e
def ctrDelin (i e : Nat) : Nat := 0x800 + i * 8 + e
def ctrEgq (i e : Nat) : Nat := 0x2800 + i * 4 + e
def ctrCq (i e : Nat) : Nat := 0x3000 + i * 8 + e

/-- The value of a counter. -/
def ctrVal (d : Dev) (n : Nat) : Ctr := tget {} d.pctr.ctr n

/-- Counter n counts k events; its source domain and D4 must be READY (R519, R522, R532). -/
def count (dm n k : Nat) (d : Dev) : Dev :=
  if !(domReady d dm && domReady d 4) || k == 0 then d
  else
    let c := ctrVal d n
    let wraps := decide (c.v + k ≥ 2 ^ 48)
    let d := { d with pctr := { d.pctr with
      ctr := tset d.pctr.ctr n { v := (c.v + k) % 2 ^ 48, wrap := c.wrap || wraps } } }
    if !wraps then d
    else
      let b := (ctrBank n).getD 0
      let d := setRb .pctrWrapSum b true d
      if d.pctr.wrapSeen.testBit b then d
      else postEvt 0x0B02 0x000D 0 b (be 3 n)
        { d with pctr := { d.pctr with wrapSeen := nputBit d.pctr.wrapSeen b true } }

/-- Zero the counters whose number satisfies p (R522, R525). -/
def zeroCtrs (p : Nat → Bool) (d : Dev) : Dev := { d with pctr := { d.pctr with ctr := tdrop d.pctr.ctr p } }

/-- Counters of one object (R520): base, instance, events per instance. -/
def zeroObj (base i ev : Nat) (d : Dev) : Dev :=
  zeroCtrs (fun n => decide (base + i * ev ≤ n ∧ n < base + (i + 1) * ev)) d

/-- The counter is in a bank of the mask. -/
def inBanks (m n : Nat) : Bool := match ctrBank n with
  | some b => m.testBit b
  | none => false

/-- Counters of a bank (R520). -/
def bankSize (b : Nat) : Nat := [128, 64, 128, 1024, 8192, 2048, 65536].getD b 0

/-- Counters in the banks of a mask (R530 ENTRIES). -/
def dumpEntries (m : Nat) : Nat := total ((List.range 7).map fun b => if m.testBit b then bankSize b else 0)

/-- The first counter number of a bank (R520). -/
def bankBase (b : Nat) : Nat := [0, 0x80, 0x100, 0x400, 0x800, 0x2800, 0x3000].getD b 0

/-- The 8 bytes of one entry of a dump (R530). -/
def entryBytes (c : Ctr) : Bytes := be 6 c.v ++ [BitVec.ofNat 8 (c.wrap.toNat * 128), 0]

/-- Header bytes 0 to 59 of a dump (R530). -/
def dumpHead (w : Dump) : Bytes :=
  [0x5A, 0x4B, 0x50, 0x44] ++ be 4 w.seq ++ be 6 w.epoch ++ be 2 w.winMs ++ be 4 w.winUs ++ be 4 (dumpEntries w.banks)
    ++ be 1 w.banks ++ be 1 (w.phase.toNat * 128 + w.restart.toNat * 64 + w.partWin.toNat * 32) ++ be 2 (min 65535 w.skipped)
    ++ zeros 32

/-- The entries of a dump, in ascending counter number (R530). -/
def dumpBody (w : Dump) : Bytes :=
  ((List.range 7).filter fun b => w.banks.testBit b).flatMap fun b =>
    (List.range (bankSize b)).flatMap fun i => entryBytes (tget {} w.snap (bankBase b + i))

/-- The bytes of a dump as they stand in host memory (R530). -/
def dumpBytes (w : Dump) : Bytes :=
  dumpHead w ++ be 4 (crc32 (dumpHead w ++ dumpBody w)).toNat ++ dumpBody w

/-- Mean rate in Mb/s of an octet counter over a window of `us` µs (R527). -/
def meanRate (d : Dev) (us n : Nat) : Nat :=
  (subMod (2 ^ 48) (ctrVal d n).v (tget 0 d.pctr.prev n)) * 8 / us

/-- The octet counter of PCTR_BW p, received or sent (R527). -/
def bwCtr (p : Nat) (tx : Bool) : Nat :=
  if p < 4 then ctrLine p (if tx then 11 else 10) else ctrClient (p - 4) (if tx then 3 else 1)

/-- Step 2 of R526. -/
def computeBw (us : Nat) (d : Dev) : Dev :=
  let d := each (List.range 68) (fun p d =>
    setReg (.pctrBwRx p) (BitVec.ofNat 32 (meanRate d us (bwCtr p false)))
      (setReg (.pctrBwTx p) (BitVec.ofNat 32 (meanRate d us (bwCtr p true))) d)) d
  { d with pctr := { d.pctr with
    prev := (List.range 68).flatMap fun p =>
      [(bwCtr p false, (ctrVal d (bwCtr p false)).v), (bwCtr p true, (ctrVal d (bwCtr p true)).v)] } }

/-- Slots of the dump ring (R528). -/
def dumpSlots (d : Dev) : Nat := 2 ^ rf d .pctrRingSize 3 0

/-- Slots in use: PROD − CONS. -/
def dumpUsed (d : Dev) : Nat := subMod (2 * dumpSlots d) (rf d .pctrProd 8 0) (rf d .pctrCons 8 0)

/-- The pass through the ring of the next slot. -/
def ringPass (d : Dev) : Nat := rf d .pctrProd 8 0 / dumpSlots d

/-- A capture is skipped (R529, R532): cause. -/
def skipDump (cause : Nat) (d : Dev) : Dev :=
  let d := gate (cause == 4) (setRb .pctrStat 3 true) (setRb .pctrStat 1 true (satCtr .pctrStat 31 16 1 d))
  let d := { d with pctr := { d.pctr with skipped := d.pctr.skipped + 1 } }
  if d.pctr.skipSeen then d
  else postEvt 0x0B01 0x000D 0 0 (be 1 cause ++ [0] ++ be 2 (rf d .pctrStat 31 16))
    { d with pctr := { d.pctr with skipSeen := true } }

/-- The capture is dumped, or skipped (R528, R529). -/
def startDump (w : Dump) (d : Dev) : Dev :=
  if dumpUsed d ≥ dumpSlots d then skipDump 1 d
  else if d.pctr.writing.isSome then skipDump 2 d
  else if !pf0Dma d then skipDump 3 d
  else if 64 + dumpEntries w.banks * 8 > 2 ^ rf d .pctrRingSize 12 8 then skipDump 4 d
  else { d with pctr := { d.pctr with writing := some w, restart := false, skipped := 0 } }

/-- PCTR_WINDOW_END: the actions of R526 in their order, at an epoch boundary that is a multiple of the window. -/
def pctrWindowEnd (d : Dev) : Dev :=
  if !domReady d 4 || now d % d.pctr.win != 0 then d
  else
    let ms := rf d .pctrWin 13 0
    let us := subMod (2 ^ 48) (now d) d.pctr.start * 1000
    let m := rf d .pctrMask 6 0
    let w : Dump := {
      seq := ((reg d .pctrWinSeq).toNat + 1) % 2 ^ 32, epoch := now d, winMs := d.pctr.win, winUs := us, banks := m,
      phase := ringPass d % 2 == d.pctr.pass, restart := d.pctr.restart,
      partWin := d.pctr.part || decide (us < d.pctr.win * 1000), skipped := d.pctr.skipped,
      snap := d.pctr.ctr.filter fun e => inBanks m e.1 }
    let d := wrapCtr .pctrWinSeq 31 0 1 (computeBw us d)
    let c := d.pctr.clr
    let d := gate (rb d .pctrCtl 0) (startDump w) d
    let d := gate (c != 0) (fun d => zeroCtrs (inBanks c)
      (setReg .pctrWrapSum (reg d .pctrWrapSum &&& ~~~ BitVec.ofNat 32 c)
        { d with pctr := { d.pctr with
            restart := true, clr := 0, prev := d.pctr.prev.filter fun e => !inBanks c e.1 } })) d
    { d with pctr := { d.pctr with win := ms, part := ms != d.pctr.win, start := now d, clrGo := false } }

/-- PCTR_DUMP_WRITTEN: the slot is written whole, PCTR_PROD advances and source 14 is raised (R528). -/
def pctrDumpWritten (d : Dev) : Dev :=
  match d.pctr.writing with
  | none => d
  | some w =>
    let prod := rf d .pctrProd 8 0
    let n := dumpSlots d
    let d := { d with pctr := { d.pctr with ring := tset d.pctr.ring (prod % n) w, writing := none } }
    raiseInt 14 (setRf .pctrProd 8 0 ((prod + 1) % (2 * n)) d)

/-- PCTR_CLR_GO with KEY: the named banks are zeroed at the next window boundary (R525); without it the caller drops the write. -/
def pctrClrGo (banks : Nat) (d : Dev) : Dev :=
  if !domReady d 4 then d else { d with pctr := { d.pctr with clr := d.pctr.clr ||| (banks % 128), clrGo := true } }

end Sys2Proof.Machine
end

