-- ==== Sys2Proof/Machine/ClientRec.lean ====
section
/-! DEFINITION. The client-port record: types, modes, its own checks and the commit checks (R183 to R191). -/

namespace Sys2Proof.Machine

/-- The lane-rate families of R183: 0 E1, 1 E2, 2 O2, 3 O2E, 4 O4, 5 F. -/
structure CliType where
  lanes : Nat
  family : Nat
  /-- FEC codes allowed -/
  fecs : List Nat
  /-- MAC rate, or n of OTUCn, in units of 10^-7 Gb/s of accounted PACKET or OTN rate (R187) -/
  rate : Nat
  /-- accounted rate of the CBR stream, in 10^-7 Gb/s; 0 where CBR is not allowed -/
  cbr : Nat := 0
  /-- lanes carry PAM4 -/
  pam4 : Bool := false
  deriving DecidableEq, Repr

/-- The client types (R183) with the accounted rates of R187 in units of 10^-7 Gb/s. -/
def cliType (ty : Nat) (dual : Bool) : Option CliType :=
  let g := 10 ^ 7
  let e2 (l mac : Nat) : Option CliType := some ⟨l, 1, [2], mac * g, mac * g * 257 / 256, true⟩
  if ty = 0x01 then some ⟨1, 0, [0], 10 * g, 10 * g * 66 / 64, false⟩
  else if ty = 0x02 then some ⟨1, 0, [0, 1], 25 * g, 25 * g * 66 / 64, false⟩
  else if ty = 0x03 then e2 1 50
  else if ty = 0x04 then some ⟨4, 0, [0, 1], 100 * g, 100 * g * 66 / 64, false⟩
  else if ty = 0x05 then some ⟨2, 1, [2], 100 * g, 100 * g * 66 / 64, true⟩
  else if ty = 0x06 then some ⟨1, 1, [2], 100 * g, 100 * g * 66 / 64, true⟩
  else if ty = 0x07 then e2 4 200 else if ty = 0x08 then e2 2 200 else if ty = 0x09 then e2 1 200
  else if ty = 0x0A then e2 8 400 else if ty = 0x0B then e2 4 400 else if ty = 0x0C then e2 2 400
  else if ty = 0x0D then e2 8 800 else if ty = 0x0E then e2 4 800
  else if ty = 0x0F then some ⟨8, 1, [2], 1600 * g, 0, true⟩
  else if ty = 0x20 then some ⟨1, 2, [3], 100374000, 0, false⟩
  else if ty = 0x21 then some ⟨1, 3, [3], 103996000, 0, false⟩
  else if ty = 0x22 then some ⟨4, 4, [3], 1047944000, 0, false⟩
  else if 0x30 ≤ ty ∧ ty ≤ 0x34 then
    let n := 2 ^ (ty - 0x30)
    some ⟨if dual then n / 2 else n, 5, [2], n * 1052584000, 0, true⟩
  else none

/-- Fields of the record (R190). -/
def cpType (b : Bytes) : Nat := u8 b 0
/-- The OTU instances of an OTN client: n of OTUCn, one of OTUk (R183, R216). -/
def otuInstances (b : Bytes) : Nat := if 0x30 ≤ cpType b ∧ cpType b ≤ 0x34 then 2 ^ (cpType b - 0x30) else 1
def cpMode (b : Bytes) : Nat := u8 b 1
def cpFirst (b : Bytes) : Nat := u8 b 2
def cpFec (b : Bytes) : Nat := u8 b 3
def cpCont (b : Bytes) : Nat := u16 b 4
def cpMaxFrame (b : Bytes) : Nat := u16 b 6
def cpEsmc (b : Bytes) : Bool := wbit b 8 0
def cpRecClk (b : Bytes) : Bool := wbit b 8 1
def cpSquelch (b : Bytes) : Bool := wbit b 8 2
def cpRfOnFail (b : Bytes) : Bool := wbit b 8 3
def cpDual (b : Bytes) : Bool := wbit b 8 4
def cpRecClkLane (b : Bytes) : Nat := u8 b 9
def cpLoop (b : Bytes) : Nat := u8 b 10
def cpPatTx (b : Bytes) : Nat := u8 b 11
def cpPatRx (b : Bytes) : Nat := u8 b 12
def cpDegSet (b : Bytes) : Nat := u8 b 14
def cpDegClr (b : Bytes) : Nat := u8 b 15
def cpTxMap (b : Bytes) : Nat := u32 b 16
def cpRxMap (b : Bytes) : Nat := u32 b 20
def cpTxPol (b : Bytes) : Nat := u8 b 24
def cpRxPol (b : Bytes) : Nat := u8 b 25

/-- The lane count of a record (R183, R190). -/
def cpLanes (b : Bytes) : Nat := match cliType (cpType b) (cpDual b) with
  | some t => t.lanes
  | none => 0

/-- The lanes a record occupies (R188). -/
def cpLaneList (b : Bytes) : List Nat := (List.range (cpLanes b)).map (cpFirst b + ·)

/-- The type is one of the Ethernet types. -/
def cpEth (b : Bytes) : Bool := decide (1 ≤ cpType b ∧ cpType b ≤ 0x0F)

/-- MODE allowed with TYPE (R184). -/
def cpModeOk (b : Bytes) : Bool :=
  let t := cpType b
  if cpMode b = 0 then decide (1 ≤ t ∧ t ≤ 0x0E)
  else if cpMode b = 1 then cpEth b
  else if cpMode b = 2 then decide (0x20 ≤ t ∧ t ≤ 0x22)
  else if cpMode b = 3 then decide (0x30 ≤ t ∧ t ≤ 0x34)
  else false

/-- Nibble i of a 4-byte map, nibble 0 the least significant (R190). -/
def mapNibble (m i : Nat) : Nat := m / 16 ^ i % 16

/-- The bank lane that RX_MAP gives a logical lane: for per-lane patterns, loopbacks and the recovered clock (R189). -/
def cpRxLane (b : Bytes) (i : Nat) : Nat := cpFirst b + mapNibble (cpRxMap b) i

/-- A lane map names each offset below L once and is 0 above (R191). -/
def mapOk (l m : Nat) : Bool :=
  (List.range l).all (fun i => decide (mapNibble m i < l) && (List.range i).all fun j => mapNibble m j != mapNibble m i)
    && (List.range 8).all fun i => decide (i < l) || mapNibble m i == 0

/-- DUAL_INST suits TYPE (R190). -/
def dualOk (b : Bytes) : Bool :=
  if cpType b = 0x34 then cpDual b
  else if 0x31 ≤ cpType b ∧ cpType b ≤ 0x33 then true
  else !cpDual b

/-- A pattern code suits the port (R201). -/
def patOk (t : CliType) (eth : Bool) (c : Nat) : Bool :=
  decide (c ≤ 10) && (t.pam4 || !(decide (6 ≤ c ∧ c ≤ 8))) && (eth || c != 10)

/-- The first field offset that fails among checks, in their order (R159). -/
def firstBad (l : List (Nat × Bool)) : Option Nat := (l.find? fun e => !e.2).map (·.1)

/-- The single-record checks of a client port, in field order (R190, R191). -/
def checkClient (b : Bytes) : Option Nat :=
  match cliType (cpType b) (cpDual b) with
  | none => some 0
  | some t =>
    firstBad [
      (1, cpModeOk b),
      (2, decide (cpFirst b ≤ 15)),
      (3, t.fecs.contains (cpFec b)),
      (4, cpMode b == 0 || cpMode b == 2 || cpCont b == 0xFFFF),
      (6, if cpMode b = 1 then decide (1518 ≤ cpMaxFrame b ∧ cpMaxFrame b ≤ 16000) else cpMaxFrame b == 0),
      (8, dualOk b),
      (9, decide (cpRecClkLane b < t.lanes)),
      (10, decide (cpLoop b ≤ 3)),
      (11, patOk t (cpEth b) (cpPatTx b)),
      (12, patOk t (cpEth b) (cpPatRx b)),
      (13, decide (u8 b 13 ≤ 15)),
      (14, decide (2 ≤ cpDegSet b ∧ cpDegSet b ≤ 8)),
      (15, decide (3 ≤ cpDegClr b ∧ cpDegClr b ≤ 9 ∧ cpDegSet b < cpDegClr b)),
      (16, mapOk t.lanes (u32 b 16)),
      (20, mapOk t.lanes (u32 b 20)),
      (24, decide (u8 b 24 < 2 ^ t.lanes)),
      (25, decide (u8 b 25 < 2 ^ t.lanes))]

/-- The accounted rate of a port, in 10^-7 Gb/s (R187). -/
def cpRate (b : Bytes) : Nat := match cliType (cpType b) (cpDual b) with
  | none => 0
  | some t => if cpMode b = 0 then t.cbr else t.rate

/-- The family of a port. -/
def cpFamily (b : Bytes) : Nat := match cliType (cpType b) (cpDual b) with
  | none => 0
  | some t => t.family

/-- The ports of slice n in a table: port number and record. -/
def slicePorts (t : Tbl Bytes) (n : Nat) : List (Nat × Bytes) :=
  (List.range 16).filterMap fun p => (tfind t (okey 1 (n * 16 + p))).map fun b => (p, b)

/-- Two records share a lane (R188). -/
def lanesMeet (a b : Bytes) : Bool := (cpLaneList a).any fun l => (cpLaneList b).contains l

/-- Two records put lanes of different families into one quad (R188). -/
def quadClash (a b : Bytes) : Bool :=
  cpFamily a != cpFamily b && (cpLaneList a).any fun l => (cpLaneList b).any fun k => k / 4 == l / 4

/-- One lane check of slice n (R188): port and reason, 1 overlap, 2 alignment, 3 family. Of two ports that clash the
higher-numbered is named, that of the first clashing pair (DESIGN CHOICE, log entry 145). -/
def laneRefusal (t : Tbl Bytes) (reason n : Nat) : Option (Nat × Nat) :=
  let ps := slicePorts t n
  let bad (e : Nat × Bytes) : Bool :=
    if reason = 2 then cpFirst e.2 % cpLanes e.2 != 0
    else ps.any fun q => decide (q.1 < e.1) && (if reason = 1 then lanesMeet q.2 e.2 else quadClash q.2 e.2)
  (ps.find? bad).map fun e => (n * 16 + e.1, reason)

/-- The accounted rates of slice n, in 10^-7 Gb/s. -/
def sliceRate (t : Tbl Bytes) (n : Nat) : Nat := total ((slicePorts t n).map fun e => cpRate e.2)

/-- The port at which the rate sum of slice n, taken in ascending order of port, passes 2,400 Gb/s (R187; that port is the one that
CLIENT_CFG_REFUSED names: DESIGN CHOICE, log entry 145). -/
def rateRefusal (t : Tbl Bytes) (n : Nat) : Option (Nat × Nat) :=
  if sliceRate t n ≤ 2400 * 10 ^ 7 then none
  else
    ((slicePorts t n).find? fun e =>
      decide (total (((slicePorts t n).filter fun q => decide (q.1 ≤ e.1)).map fun q => cpRate q.2) > 2400 * 10 ^ 7)).map
      fun e => (n * 16 + e.1, 4)

/-- CLIENT_SLICE of a container record (R248). -/
def contClientSliceOf (b : Bytes) : Nat := u8 b 2

/-- The container check of a CBR or OTN port (R191). -/
def contRefusal (t : Tbl Bytes) (n : Nat) : Option (Nat × Nat) :=
  ((slicePorts t n).find? fun e =>
    (cpMode e.2 == 0 || cpMode e.2 == 2) &&
      !(decide (cpCont e.2 ≤ 1023) && match tfind t (okey 2 (cpCont e.2)) with
        | some c => contClientSliceOf c == n
        | none => false)).map fun e => (n * 16 + e.1, 5)

/-- The client-port checks of COMMIT (R191, step 3 of R594), each over every slice before the next: port and reason of the first
refusal. -/
def clientRefusal (t : Tbl Bytes) : Option (Nat × Nat) :=
  [laneRefusal t 1, laneRefusal t 2, laneRefusal t 3, rateRefusal t, contRefusal t].findSome? fun f => (List.range 4).findSome? f

end Sys2Proof.Machine
end

