-- ==== Sys2Proof/Machine/OduRec.lean ====
section
/-! DEFINITION. The records of containers, calendar entries, line ports, protection groups and merge groups: fields, their own
checks, and the commit checks of R250, R353 and R425. -/

namespace Sys2Proof.Machine

/-! ### Container records (R242 to R248) -/

/-- Fields of the container record (R248). -/
def ctType (b : Bytes) : Nat := u8 b 0
def ctPayload (b : Bytes) : Nat := u8 b 1
def ctClientSlice (b : Bytes) : Nat := u8 b 2
def ctPrio (b : Bytes) : Nat := u8 b 3
def ctSlots (b : Bytes) : Nat := u16 b 4
def ctParent (b : Bytes) : Nat := u16 b 6
def ctTpn (b : Bytes) : Nat := u16 b 8
def ctPort (b : Bytes) : Nat := u16 b 10
def ctDemuxTpn (b : Bytes) : Nat := u16 b 12
def ctTag (b : Bytes) : Nat := u16 b 14
def ctExtFc (b : Bytes) : Bool := wbit b 16 0
def ctLock (b : Bytes) : Bool := wbit b 16 1
def ctHecCorr (b : Bytes) : Bool := wbit b 16 2
def ctPfcs (b : Bytes) : Bool := wbit b 16 3
def ctCsfEn (b : Bytes) : Bool := wbit b 16 4
/-- HO TS i + 1 is in the map (R248). -/
def ctHoTs (b : Bytes) (i : Nat) : Bool := wbit b (20 + i / 8) (7 - i % 8)
/-- The HO TS of the map, from 0. -/
def ctHoList (b : Bytes) : List Nat := (List.range 80).filter (ctHoTs b)
/-- The container is carried directly in the ODUC16. -/
def ctDirect (b : Bytes) : Bool := ctParent b == 0xFFFF

/-- Line slice of a container index (R11). -/
def lineOf (i : Nat) : Nat := i / 256 % 4

/-- Line slots of a container carried directly (R242). -/
def lineSlots (ty s : Nat) : Nat := if ty = 6 then s else [1, 1, 2, 2, 8, 20].getD ty 0

/-- HO TS of an ODUflex of s slots in an HO parent (R596): types 2, 3, 4 or 5 of the parent. -/
def flexHoTs (parent s : Nat) : Nat :=
  let r := if parent = 2 then 1249409620 else if parent = 4 then 1254703729 else 1301709251
  let n := s * 5177915 * 1000 * 1000020
  let q := r * 999980
  (n + q - 1) / q

/-- The HO TS of an ODU2, ODU3 and ODU4 (R247). -/
def hoSlots (ty : Nat) : Nat := if ty = 2 then 8 else if ty = 4 then 32 else 80

/-- HO TS of a container in an ODU2, ODU3 or ODU4 parent (R242, R596); none where not supported. -/
def hoTs (ty parent s : Nat) : Option Nat :=
  if parent ≠ 2 ∧ parent ≠ 4 ∧ parent ≠ 5 then none
  else if ty = 0 then some 1
  else if ty = 1 then some 2
  else if ty = 2 then if parent = 2 then none else some 8
  else if ty = 3 then if parent = 2 then none else if parent = 4 then some 9 else some 8
  else if ty = 6 then some (flexHoTs parent s)
  else none

/-- HO TS that an HO container offers (R247). -/
def hoCapacity (ty : Nat) : Nat := if ty = 2 then 8 else if ty = 4 then 32 else 80

/-- Rate of a container in kb/s (R242, R243). -/
def ctRate (b : Bytes) : Nat :=
  if ctType b = 6 then ctSlots b * 5177915
  else [1244160, 2498775, 10037274, 10399525, 40319219, 104794446].getD (ctType b) 0

/-- The single-record checks of a container (R248), in field order; `i` is its index. -/
def checkCont (i : Nat) (b : Bytes) : Option Nat :=
  firstBad [
    (0, decide (ctType b ≤ 6)),
    (1, decide (ctPayload b ≤ 5)),
    (2, decide (ctClientSlice b ≤ 3) && (ctPayload b != 5 || ctClientSlice b == lineOf i)),
    (3, decide (ctPrio b ≤ 7)),
    (4, if ctType b = 6 then decide (1 ≤ ctSlots b ∧ ctSlots b ≤ 320)
        else !ctDirect b || ctSlots b == lineSlots (ctType b) 0),
    (6, ctDirect b || decide (ctParent b ≤ 1023)),
    (8, decide (1 ≤ ctTpn b ∧ ctTpn b ≤ 320)),
    (10, if ctPayload b ≤ 2 then decide (ctPort b ≤ 63) else ctPort b == 0xFFFF),
    (12, ctPayload b == 2 || ctDemuxTpn b == 0),
    (20, !ctDirect b || (ctHoList b).isEmpty)]

/-- The container of a calendar entry; none for unassigned (R249). -/
def calCont (b : Bytes) : Option Nat := if u16 b 0 = 0xFFFF then none else some (u16 b 0)

/-- The single-record check of a calendar entry (R249). -/
def checkCal (b : Bytes) : Option Nat := firstBad [(0, u16 b 0 == 0xFFFF || decide (u16 b 0 ≤ 1023))]

/-- The containers of a table: index and record. -/
def conts (t : Tbl Bytes) : List (Nat × Bytes) :=
  (objs t 2).filterMap fun i => (tfind t (okey 2 i)).map fun b => (i, b)

/-- The assigned calendar entries of a table: calendar index and container. -/
def calEntries (t : Tbl Bytes) : List (Nat × Nat) :=
  (objs t 3).filterMap fun i => (tfind t (okey 3 i)).bind fun b => (calCont b).map fun c => (i, c)

/-- The slots of container c on port p in a table, ascending. -/
def calSlots (t : Tbl Bytes) (p c : Nat) : List Nat :=
  ((calEntries t).filter fun e => e.2 == c && e.1 / 320 == p).map (·.1 % 320)

/-- The record of container i in a table. -/
def contRec (t : Tbl Bytes) (i : Nat) : Option Bytes := tfind t (okey 2 i)

/-! ### Line-port records (R210, R354) -/

/-- The default line-port record (R210, R354); the fields without a stated default are those of log entry 12: the identity lane map, and the
least degrade thresholds that the field ranges admit (DESIGN CHOICE). -/
def defaultLine : Bytes :=
  [0, 0x80, 2, 3] ++ zeros 8 ++ [0x76, 0x54, 0x32, 0x10] ++ zeros 144 ++ List.replicate 40 0xFF
    ++ [0xE0, 8, 0, 1] ++ be 2 319 ++ be 2 200 ++ be 2 1000 ++ zeros 14

/-- The line-port record of port p in a table, or the default record (R350). -/
def lineRecIn (t : Tbl Bytes) (p : Nat) : Bytes := (tfind t (okey 0x0A p)).getD defaultLine

/-- The line-port record in service. -/
def lineRec (d : Dev) (p : Nat) : Bytes := lineRecIn d.prov.serv p

/-- Fields of the line-port record (R210, R354). -/
def lrDetectOnly (b : Bytes) : Bool := u8 b 0 == 1
def lrBeaconTx (b : Bytes) : Bool := wbit b 1 0
def lrOhxEn (b : Bytes) : Bool := wbit b 1 1
def lrDegSet (b : Bytes) : Nat := u8 b 2
def lrDegClr (b : Bytes) : Nat := u8 b 3
def lrTxGid (b : Bytes) : Nat := u32 b 4
def lrExpGid (b : Bytes) : Nat := u32 b 8
def lrTxMap (b : Bytes) : Nat := u32 b 12
def lrTxPol (b : Bytes) : Nat := u8 b 16
def lrNodeId (b : Bytes) : Nat := u64 b 20
def lrCapMfas (b : Bytes) : Nat := u8 b 28
/-- The map of 320 bits at an offset: slot i is bit i of the number (R354). -/
def mapAt (b : Bytes) (o : Nat) : Nat := total ((List.range 40).map fun j => u8 b (o + j) * 256 ^ j)
/-- 40 bytes of a map. -/
def mapBytes (m : Nat) : Bytes := (List.range 40).map fun j => BitVec.ofNat 8 (m / 256 ^ j)
def lrMap (b : Bytes) : Nat := mapAt b 160
def lrResizeEn (b : Bytes) : Bool := wbit b 200 0
def lrAccGrow (b : Bytes) : Bool := wbit b 200 1
def lrAccShrink (b : Bytes) : Bool := wbit b 200 2
def lrAccPre (b : Bytes) : Bool := wbit b 200 3
def lrLead (b : Bytes) : Nat := u8 b 201
def lrMinSlots (b : Bytes) : Nat := u16 b 202
def lrMaxStep (b : Bytes) : Nat := u16 b 204
def lrAckTmo (b : Bytes) : Nat := u16 b 206
def lrMinInt (b : Bytes) : Nat := u16 b 208
def lrPreMax (b : Bytes) : Nat := u8 b 210

/-- An overhead byte that an OHX_IN entry may name (R221, R233): instance, row and column from 0, at their G.709 places. -/
def ohxInOk (inst row col : Nat) : Bool :=
  if row = 0 then col == 10 || col == 11 || col == 13
  else if row = 1 then col == 0 || col == 1 || col == 13
  else if row = 2 then (col == 12 || col == 13) && decide (2 ≤ inst)
  else decide (col ≤ 3) || decide (8 ≤ col ∧ col ≤ 13)

/-- Entry i of OHX_IN: enabled, instance, row, column (R233). -/
def ohxEntry (b : Bytes) (o i : Nat) : Bool × Nat × Nat × Nat :=
  (wbit b (o + 2 * i) 0, u8 b (o + 2 * i) % 16, u8 b (o + 2 * i + 1) / 64, u8 b (o + 2 * i + 1) % 16)

/-- The single-record checks of a line port (R210, R233, R354), in field order. -/
def checkLine (b : Bytes) : Option Nat :=
  firstBad ([
    (0, decide (u8 b 0 ≤ 1)),
    (2, decide (2 ≤ lrDegSet b ∧ lrDegSet b ≤ 8)),
    (3, decide (3 ≤ lrDegClr b ∧ lrDegClr b ≤ 9 ∧ lrDegSet b < lrDegClr b)),
    (12, mapOk 8 (u32 b 12)),
    (17, decide (u8 b 17 ≤ 15))]
    ++ (List.range 32).map (fun i =>
      let e := ohxEntry b 96 i
      (96 + 2 * i, !e.1 || ohxInOk e.2.1 e.2.2.1 e.2.2.2))
    ++ [(160, lrMap b != 0),
    (201, decide (4 ≤ lrLead b ∧ lrLead b ≤ 63)),
    (202, decide (1 ≤ lrMinSlots b ∧ lrMinSlots b ≤ 320)),
    (204, decide (1 ≤ lrMaxStep b ∧ lrMaxStep b ≤ 319)),
    (206, decide (10 ≤ lrAckTmo b ∧ lrAckTmo b ≤ 10000)),
    (208, decide (lrMinInt b ≤ 60000)),
    (210, decide (lrPreMax b ≤ 7))])

/-! ### Groups (R414, R423) -/

/-- Fields of the protection-group record (R414). -/
def pgArch (b : Bytes) : Nat := u8 b 0
def pgMon (b : Bytes) : Nat := u8 b 1
def pgLevel (b : Bytes) : Nat := u8 b 2
def pgRevertive (b : Bytes) : Bool := wbit b 3 0
def pgSdEn (b : Bytes) : Bool := wbit b 3 1
def pgWork (b : Bytes) : Nat := u16 b 4
def pgProt (b : Bytes) : Nat := u16 b 6
def pgHoldoff (b : Bytes) : Nat := u8 b 8
def pgWtr (b : Bytes) : Nat := u8 b 9

/-- The single-record checks of a protection group (R414, R425 reasons 1, 5), in field order. -/
def checkPg (b : Bytes) : Option Nat :=
  firstBad [
    (0, decide (pgArch b ≤ 2)),
    (1, decide (pgMon b ≤ 2)),
    (2, if pgMon b = 2 then decide (1 ≤ pgLevel b ∧ pgLevel b ≤ 6) else pgLevel b == 0),
    (4, decide (pgWork b ≤ 1023)),
    (6, decide (pgProt b ≤ 1023)),
    (8, decide (pgHoldoff b ≤ 100)),
    (9, decide (1 ≤ pgWtr b ∧ pgWtr b ≤ 12))]

/-- Fields of the merge-group record (R423). -/
def mgMode (b : Bytes) : Nat := u8 b 0
def mgRetime (b : Bytes) : Bool := wbit b 1 0
def mgPref (b : Bytes) : Nat := u8 b 2
def mgMaxSkew (b : Bytes) : Nat := u8 b 3
def mgA (b : Bytes) : Nat := u16 b 4
def mgB (b : Bytes) : Nat := u16 b 6
def mgRate (b : Bytes) : Nat := u32 b 8
def mgGuardUs (b : Bytes) : Nat := u16 b 12
def mgRejoin (b : Bytes) : Nat := u16 b 14

/-- The single-record checks of a merge group (R423), in field order. -/
def checkMg (b : Bytes) : Option Nat :=
  firstBad [
    (0, decide (mgMode b ≤ 1)),
    (2, decide (mgPref b ≤ 1)),
    (3, decide (1 ≤ mgMaxSkew b ∧ mgMaxSkew b ≤ 40)),
    (4, decide (mgA b ≤ 1023)),
    (6, decide (mgB b ≤ 1023)),
    (8, decide (1000 ≤ mgRate b ∧ mgRate b ≤ 1650000)),
    (12, decide (mgGuardUs b ≤ 1000)),
    (14, decide (mgRejoin b ≤ 60000))]

/-- The groups of a table: type 7 or 8, index, first and second container. -/
def groupPairs (t : Tbl Bytes) : List (Nat × Nat × Nat × Nat) :=
  (objs t 7).filterMap (fun g => (tfind t (okey 7 g)).map fun b => (7, g, pgWork b, pgProt b))
    ++ (objs t 8).filterMap (fun g => (tfind t (okey 8 g)).map fun b => (8, g, mgA b, mgB b))

/-- The group that joins container i as PROT or PATH_B: its partner (R425). -/
def partnerOf (t : Tbl Bytes) (i : Nat) : Option Nat :=
  ((groupPairs t).find? fun e => e.2.2.2 == i).map fun e => e.2.2.1

/-- The group that container i belongs to: type, index, partner. -/
def groupOf (t : Tbl Bytes) (i : Nat) : Option (Nat × Nat × Nat) :=
  ((groupPairs t).find? fun e => e.2.2.1 == i || e.2.2.2 == i).map fun e =>
    (e.1, e.2.1, if e.2.2.1 == i then e.2.2.2 else e.2.2.1)

/-- A LO container of these types enters its HO parent by AMP; every other pair of R246 by GMP. -/
def ampPair (lo ho : Nat) : Bool := (lo == 1 && (ho == 2 || ho == 4)) || (lo == 2 && ho == 4)

/-! ### Commit checks of containers and calendar (R250, R353) -/

/-- Why a commit is refused: the reason, the OBJECT and its kind (R250). -/
structure MapRef where
  reason : Nat
  obj : Nat
  kind : Nat
  deriving DecidableEq, Repr

/-- The container runs in a group with a ZPC payload or alone: a ZPC container (R352). -/
def isZpc (b : Bytes) : Bool := ctPayload b == 4

/-- Reason 1: exactly SLOTS entries, all on the port of the line slice. -/
def refuse1 (t : Tbl Bytes) : Option MapRef :=
  ((conts t).find? fun e => ctDirect e.2 &&
    (let mine := (calEntries t).filter fun c => c.2 == e.1
     mine.length != ctSlots e.2 || mine.any fun c => c.1 / 320 != lineOf e.1)).map fun e => ⟨1, e.1, 0⟩

/-- A commit leaves the calendar and the containers of port p as they are: what it refuses there, its line-port record alone causes
(R250). -/
def lineAlone (old new : Tbl Bytes) (p : Nat) : Bool :=
  (calEntries old).filter (fun c => c.1 / 320 == p) == (calEntries new).filter (fun c => c.1 / 320 == p)
    && (conts old).filter (fun e => lineOf e.1 == p) == (conts new).filter (fun e => lineOf e.1 == p)

/-- A refusal on port p: the port with kind 2 where its record alone causes it. -/
def blame (old new : Tbl Bytes) (p : Nat) (m : MapRef) : MapRef := if lineAlone old new p then ⟨m.reason, p, 2⟩ else m

/-- Reason 2: every assigned slot available, but for ZPC and preempted containers (R353). -/
def refuse2 (old t : Tbl Bytes) (pre : Nat → Bool) : Option MapRef :=
  ((calEntries t).find? fun c =>
    !((lrMap (lineRecIn t (c.1 / 320))).testBit (c.1 % 320)) && match contRec t c.2 with
      | some b => !isZpc b && !pre c.2
      | none => true).map fun c => blame old t (c.1 / 320) ⟨2, c.1, 1⟩

/-- Reason 3: every calendar entry names a container carried directly. -/
def refuse3 (t : Tbl Bytes) : Option MapRef :=
  ((calEntries t).find? fun c => match contRec t c.2 with
    | some b => !ctDirect b
    | none => true).map fun c => ⟨3, c.1, 1⟩

/-- The members of an HO container. -/
def membersOf (t : Tbl Bytes) (h : Nat) : List (Nat × Bytes) := (conts t).filter fun e => ctParent e.2 == h

/-- Reason 4: HO_TS_MAP bits disjoint within a parent, and as many as R242 says. -/
def refuse4 (t : Tbl Bytes) : Option MapRef :=
  ((conts t).find? fun e => !ctDirect e.2 &&
    match contRec t (ctParent e.2) with
    | none => false
    | some h =>
      (match hoTs (ctType e.2) (ctType h) (ctSlots e.2) with
        | some n => (ctHoList e.2).length != n
        | none => false)
      || (membersOf t (ctParent e.2)).any fun q =>
        decide (q.1 < e.1) && (ctHoList e.2).any fun x => (ctHoList q.2).contains x).map fun e => ⟨4, e.1, 0⟩

/-- TYPE and s that PAYLOAD asks for, from the client port's type where one is named (R244). -/
def payloadOk (t : Tbl Bytes) (b : Bytes) : Bool :=
  let cli := (tfind t (okey 1 (ctPort b))).map cpType
  let want (ty : Nat) : Bool := match cli with
    | none => ty == 3 || ty == 5 || (ty == 6 && [5, 10, 40, 80, 160].contains (ctSlots b))
    | some c =>
      if c = 0x01 then ty == 3
      else if c = 0x02 then ty == 6 && ctSlots b == 5
      else if c = 0x03 then ty == 6 && ctSlots b == 10
      else if c = 0x04 ∨ c = 0x05 ∨ c = 0x06 then ty == 5
      else if 0x07 ≤ c ∧ c ≤ 0x09 then ty == 6 && ctSlots b == 40
      else if 0x0A ≤ c ∧ c ≤ 0x0C then ty == 6 && ctSlots b == 80
      else if c = 0x0D ∨ c = 0x0E then ty == 6 && ctSlots b == 160
      else false
  let otn (ty : Nat) : Bool := match cli with
    | none => ty == 2 || ty == 3 || ty == 5
    | some c => if c = 0x20 then ty == 2 else if c = 0x21 then ty == 3 else if c = 0x22 then ty == 5 else false
  if ctPayload b = 0 then want (ctType b)
  else if ctPayload b = 1 then otn (ctType b)
  else if ctPayload b = 2 then true
  else if ctPayload b = 3 ∨ ctPayload b = 4 then ctType b == 6
  else ctType b == 2 || ctType b == 4 || ctType b == 5

/-- Parent rules of R245 and R246. -/
def parentOk (t : Tbl Bytes) (i : Nat) (b : Bytes) : Bool :=
  ctDirect b ||
    ((ctPayload b == 2 || ctPayload b == 3)
      && (ctType b == 0 || ctType b == 1 || ctType b == 2 || ctType b == 3 || ctType b == 6)
      && match contRec t (ctParent b) with
        | none => false
        | some h => ctPayload h == 5 && lineOf (ctParent b) == lineOf i
            && (match hoTs (ctType b) (ctType h) (ctSlots b) with
              | some n => ctType b == 6 || ctSlots b == n
              | none => false))

/-- Reason 5: rows of R242, R244 and R246, and R245. -/
def refuse5 (t : Tbl Bytes) : Option MapRef :=
  ((conts t).find? fun e => !(payloadOk t e.2 && parentOk t e.1 e.2)).map fun e => ⟨5, e.1, 0⟩

/-- Reason 6: CLIENT_PORT exists in CLIENT_SLICE with the MODE of PAYLOAD and names the container; PROT and PATH_B take their
source from their partner (R425). -/
def refuse6 (t : Tbl Bytes) : Option MapRef :=
  ((conts t).find? fun e => decide (ctPayload e.2 ≤ 2) && (partnerOf t e.1).isNone &&
    !(ctPort e.2 / 16 == ctClientSlice e.2 && match tfind t (okey 1 (ctPort e.2)) with
      | none => false
      | some p => cpMode p == (if ctPayload e.2 = 0 then 0 else if ctPayload e.2 = 1 then 2 else 3)
          && (ctPayload e.2 == 2 || cpCont p == e.1))).map fun e => ⟨6, e.1, 0⟩

/-- Two containers fed by one source (R247): the same client port, and the same tributary for PAYLOAD 2. -/
def sameSource (a b : Bytes) : Bool :=
  decide (ctPayload a ≤ 2) && ctPayload a == ctPayload b && ctPort a == ctPort b
    && (ctPayload a != 2 || ctDemuxTpn a == ctDemuxTpn b)

/-- The containers that client slice n terminates: PAYLOAD 0 to 4 (R15, R247). -/
def terminated (t : Tbl Bytes) (n : Nat) : List (Nat × Bytes) :=
  (conts t).filter fun e => decide (ctPayload e.2 ≤ 4) && ctClientSlice e.2 == n

/-- Reason 7: the limits of R247 and R15. -/
def refuse7 (old t : Tbl Bytes) : Option MapRef :=
  let ho (p : Nat) := (conts t).filter fun e => ctPayload e.2 == 5 && lineOf e.1 == p
  let direct (p : Nat) := (conts t).filter fun e => ctDirect e.2 && lineOf e.1 == p
  let avail (p : Nat) := ((List.range 320).filter fun s => (lrMap (lineRecIn t p)).testBit s).length
  ((((List.range 4).findSome? fun p => ((ho p).drop 32).head?.map fun e => (⟨7, e.1, 0⟩ : MapRef)).orElse fun _ =>
    (List.range 4).findSome? fun n => ((terminated t n).drop 256).head?.map fun e => (⟨7, e.1, 0⟩ : MapRef)).orElse fun _ =>
    (List.range 4).findSome? fun n =>
      if total ((terminated t n).map fun e => ctRate e.2) > 2400000000 then
        (terminated t n).getLast?.map fun e => (⟨7, e.1, 0⟩ : MapRef)
      else none).orElse fun _ =>
    (((List.range 4).findSome? fun p =>
      if total ((direct p).map fun e => ctSlots e.2) > avail p then (direct p).getLast?.map fun e => blame old t p ⟨7, e.1, 0⟩
      else none).orElse fun _ =>
    (((conts t).find? fun e => ctPayload e.2 == 5 &&
      decide (total ((membersOf t e.1).map fun m => (ctHoList m.2).length) > hoCapacity (ctType e.2))).map
        fun e => (⟨7, e.1, 0⟩ : MapRef)).orElse fun _ =>
    ((conts t).find? fun e => (conts t).any fun q => decide (q.1 < e.1) && sameSource q.2 e.2
      && !((groupPairs t).any fun g => (g.2.2.1 == q.1 && g.2.2.2 == e.1) || (g.2.2.1 == e.1 && g.2.2.2 == q.1))).map
        fun e => (⟨7, e.1, 0⟩ : MapRef))

/-- Two containers share a parent: the ODUC16 of one port, or one HO container. -/
def sameParent (i : Nat) (a : Bytes) (j : Nat) (b : Bytes) : Bool :=
  ctParent a == ctParent b && (!ctDirect a || lineOf i == lineOf j)

/-- Reason 8: TPN unique within each parent, and within its range (R248). -/
def refuse8 (t : Tbl Bytes) : Option MapRef :=
  ((conts t).find? fun e =>
    ((conts t).any fun q => decide (q.1 < e.1) && sameParent q.1 q.2 e.1 e.2 && ctTpn q.2 == ctTpn e.2)
      || (!ctDirect e.2 && match contRec t (ctParent e.2) with
          | some h => decide (ctTpn e.2 > hoCapacity (ctType h))
          | none => false)).map fun e => ⟨8, e.1, 0⟩

/-- A container that exists before and after the commit changes its place or size (R250 reasons 9, 10). -/
def placeChanged (old new : Tbl Bytes) (i : Nat) (a b : Bytes) : Bool :=
  ctType a != ctType b || ctSlots a != ctSlots b || ctParent a != ctParent b || ctHoList a != ctHoList b
    || calSlots old (lineOf i) i != calSlots new (lineOf i) i

/-- Reason 9: no container changes in place, but a PAYLOAD 3 container carried directly may change SLOTS and entries. -/
def refuse9 (old new : Tbl Bytes) : Option MapRef :=
  ((conts new).find? fun e => match contRec old e.1 with
    | none => false
    | some a =>
      let gfp := ctPayload a == 3 && ctPayload e.2 == 3 && ctDirect a && ctDirect e.2 && ctType a == ctType e.2
      placeChanged old new e.1 a e.2 && !gfp).map fun e => ⟨9, e.1, 0⟩

/-- Reason 10: no container in a G.7044 resize changes. -/
def refuse10 (old new : Tbl Bytes) (flexing : Nat → Bool) : Option MapRef :=
  ((conts new).find? fun e => flexing e.1 && match contRec old e.1 with
    | none => false
    | some a => a != e.2 || placeChanged old new e.1 a e.2).map fun e => ⟨10, e.1, 0⟩

/-- Available slots of container c on port p under a map. -/
def availSlots (t : Tbl Bytes) (m p c : Nat) : List Nat := (calSlots t p c).filter fun s => m.testBit s

/-- Reason 11: the map in force would leave a non-ZPC container partly available, or a new or changed ZPC container without
a slot (R353). -/
def refuse11 (old new : Tbl Bytes) : Option MapRef :=
  ((conts new).find? fun e => ctDirect e.2 &&
    (let p := lineOf e.1
     let n := (availSlots new (lrMap (lineRecIn new p)) p e.1).length
     if isZpc e.2 then n == 0 && match contRec old e.1 with
       | none => true
       | some a => a != e.2
     else n != 0 && n != (calSlots new p e.1).length)).map fun e => blame old new (lineOf e.1) ⟨11, e.1, 0⟩

/-- Reason 12: the port's resize state is not IDLE and the commit touches it (R353). -/
def refuse12 (old new : Tbl Bytes) (busy : Nat → Bool) : Option MapRef :=
  ((List.range 4).find? fun p => busy p &&
    ((calEntries old).filter (fun c => c.1 / 320 == p) != (calEntries new).filter (fun c => c.1 / 320 == p)
      || (conts old).filter (fun e => lineOf e.1 == p) != (conts new).filter (fun e => lineOf e.1 == p)
      || (lineRecIn old p).drop 160 != (lineRecIn new p).drop 160)).map fun p => ⟨12, p, 2⟩

/-- The container and calendar checks of COMMIT (step 4 of R594): R250 in ascending reasons, then R353. -/
def mapRefusal (old new : Tbl Bytes) (pre flexing busy : Nat → Bool) : Option MapRef :=
  (refuse1 new).orElse fun _ => (refuse2 old new pre).orElse fun _ => (refuse3 new).orElse fun _ =>
  (refuse4 new).orElse fun _ => (refuse5 new).orElse fun _ => (refuse6 new).orElse fun _ =>
  (refuse7 old new).orElse fun _ => (refuse8 new).orElse fun _ => (refuse9 old new).orElse fun _ =>
  (refuse10 old new flexing).orElse fun _ => (refuse11 old new).orElse fun _ => refuse12 old new busy

end Sys2Proof.Machine
end

