-- ==== Sys2Proof/Machine/PmRec.lean ====
section
/-! DEFINITION. Monitoring-point records: fields, their own checks and the commit checks of R383. -/

namespace Sys2Proof.Machine

/-- Fields of the monitoring-point record (R382). -/
def mpKind (b : Bytes) : Nat := u8 b 0
def mpLevel (b : Bytes) : Nat := u8 b 1
def mpSide (b : Bytes) : Bool := wbit b 2 0
def mpSrc (b : Bytes) : Bool := wbit b 2 1
def mpTimAct (b : Bytes) : Bool := wbit b 2 2
def mpLtcAct (b : Bytes) : Bool := wbit b 2 3
def mpLaser (b : Bytes) : Bool := wbit b 2 4
def mpTimMode (b : Bytes) : Nat := u8 b 3
def mpObj (b : Bytes) : Nat := u32 b 4
def mpDegThr (b : Bytes) : Nat := u32 b 8
def mpDegM (b : Bytes) : Nat := u8 b 12
def mpIntSet (b : Bytes) (c : Nat) : Nat := u16 b (16 + 2 * c)
def mpIntClr (b : Bytes) (c : Nat) : Nat := u16 b (32 + 2 * c)
def mpTxTti (b : Bytes) : Bytes := slice b 48 64
def mpSapi (b : Bytes) : Bytes := slice b 112 16
def mpDapi (b : Bytes) : Bytes := slice b 128 16

/-- The cases of R383 that the record alone decides, in field order. -/
def checkMp (b : Bytes) : Option Nat :=
  firstBad ([
    (0, decide (1 ≤ mpKind b ∧ mpKind b ≤ 6)),
    (1, if mpKind b = 4 then decide (1 ≤ mpLevel b ∧ mpLevel b ≤ 6) else mpLevel b == 0),
    (2, !(mpSrc b && mpSide b) && (!mpLaser b || mpKind b == 3)),
    (3, decide (mpTimMode b ≤ 3)),
    (8, decide (1 ≤ mpDegThr b ∧ mpDegThr b ≤ 2 ^ 24)),
    (12, decide (2 ≤ mpDegM b ∧ mpDegM b ≤ 10))]
    ++ (List.range 8).map (fun c => (16 + 2 * c, decide (mpIntSet b c ≤ 300)))
    ++ (List.range 8).map (fun c => (32 + 2 * c, decide (mpIntClr b c ≤ 300))))

/-- The points of a table: index and record. -/
def points (t : Tbl Bytes) : List (Nat × Bytes) :=
  (objs t 9).filterMap fun i => (tfind t (okey 9 i)).map fun b => (i, b)

/-- The client port of a SECTION or ODUC object (R381): 0x100 + slice × 16 + port. -/
def objClient (o : Nat) : Option Nat := if 0x100 ≤ o ∧ o < 0x140 then some (o - 0x100) else none

/-- OBJECT exists and fits KIND and SIDE (R383 reason 1). -/
def mpObjOk (t : Tbl Bytes) (b : Bytes) : Bool :=
  let o := mpObj b
  let k := mpKind b
  if k = 1 ∨ k = 2 then
    decide (o ≤ 3) || match objClient o with
      | none => false
      | some i => match tfind t (okey 1 i) with
        | none => false
        | some c => if k = 1 then cpMode c == 2 || cpMode c == 3 else cpMode c == 3
  else if k = 5 then decide (o ≤ 63) && match tfind t (okey 1 o) with
      | none => false
      | some c => cpEth c
  else match contRec t o with
    | none => false
    | some c =>
      if k = 6 then (ctPayload c == 3 || ctPayload c == 4) && !mpSide b
      else !mpSide b || ctPayload c == 1 || ctPayload c == 2

/-- Two points watch the same (R383 reason 2). -/
def mpSame (a b : Bytes) : Bool :=
  mpKind a == mpKind b && mpObj a == mpObj b && mpSide a == mpSide b && mpLevel a == mpLevel b

/-- Reason 5 of R383 for a point. -/
def mpSrcBad (t : Tbl Bytes) (i : Nat) (b : Bytes) : Bool :=
  let pl := (contRec t (mpObj b)).map ctPayload
  (mpSrc b && mpSide b)
    || (mpSrc b && mpKind b == 3 && (pl == some 1 || pl == some 2))
    || (mpSrc b && mpKind b == 4 && (points t).any fun q =>
          decide (q.1 < i) && mpKind q.2 == 4 && mpSrc q.2 && mpObj q.2 == mpObj b && mpLevel q.2 == mpLevel b)
    || (mpLaser b && !(mpKind b == 3 && (pl == some 0 || pl == some 1)))

/-- The refusal of monitoring points (R383): point and reason, reasons ascending. -/
def pmRefusal (t : Tbl Bytes) : Option (Nat × Nat) :=
  let ps := points t
  let bad (f : Nat × Bytes → Bool) (r : Nat) : Option (Nat × Nat) := (ps.find? f).map fun e => (e.1, r)
  (bad (fun e => !mpObjOk t e.2) 1).orElse fun _ =>
  (bad (fun e => ps.any fun q => decide (q.1 < e.1) && mpSame q.2 e.2) 2).orElse fun _ =>
  (bad (fun e => !(if mpKind e.2 = 4 then decide (1 ≤ mpLevel e.2 ∧ mpLevel e.2 ≤ 6) else mpLevel e.2 == 0)
    || decide (mpTimMode e.2 > 3)) 3).orElse fun _ =>
  (bad (fun e => (List.range 8).any (fun c => decide (mpIntSet e.2 c > 300 ∨ mpIntClr e.2 c > 300))
    || !decide (2 ≤ mpDegM e.2 ∧ mpDegM e.2 ≤ 10) || mpDegThr e.2 == 0) 4).orElse fun _ =>
  bad (fun e => mpSrcBad t e.1 e.2) 5

/-- The key of an overhead layer: KIND, TCM level, SIDE, OBJECT (R381). -/
def lkey (kind level : Nat) (side : Bool) (obj : Nat) : Nat := ((kind * 8 + level) * 2 + side.toNat) * 2 ^ 16 + obj

/-- SIDE of a point, which PATH and TCM alone have (R382). -/
def mpSideOf (b : Bytes) : Bool := (mpKind b == 3 || mpKind b == 4) && mpSide b

/-- The layer a point watches. -/
def mpLayer (b : Bytes) : Nat := lkey (mpKind b) (mpLevel b) (mpSideOf b) (mpObj b)

/-- The point in service that watches a layer. -/
def pointOn (d : Dev) (kind level : Nat) (side : Bool) (obj : Nat) : Option (Nat × Bytes) :=
  (points d.prov.serv).find? fun e => mpLayer e.2 == lkey kind level side obj

/-- The monitoring-point record of point i in service. -/
def mpRec (d : Dev) (i : Nat) : Bytes := servRec d 9 i

end Sys2Proof.Machine
end

