-- ==== Sys2Proof/Machine/PacketRec.lean ====
section
/-! DEFINITION. The records of flows, policers, packet containers, queue classes and memory quotas: fields, their own checks, the
commit checks of R278 and R330; and the commit checks of protection and merge groups (R425) with the reservations of R424. -/

namespace Sys2Proof.Machine

/-! ### Flow records (R276) -/

def flPort (b : Bytes) : Nat := u8 b 0
def flKeyType (b : Bytes) : Nat := u8 b 1
def flClass (b : Bytes) : Nat := u8 b 2
def flFcsFwd (b : Bytes) : Bool := wbit b 3 0
def flPolice (b : Bytes) : Bool := wbit b 3 1
def flMode (b : Bytes) : Nat := u8 b 3 / 16 % 4
def flCont (b : Bytes) : Nat := u16 b 4
def flQuantum (b : Bytes) : Nat := u16 b 6
def flOvid (b : Bytes) : Nat := u16 b 8 % 4096
def flIvid (b : Bytes) : Nat := u16 b 10 % 4096
def flEtype (b : Bytes) : Nat := u16 b 12
def flDa (b : Bytes) : Nat := u48 b 14
def flExt (b : Bytes) : Nat := u8 b 20
def flRelearn (b : Bytes) : Nat := u8 b 21
def flTlen (b : Bytes) : Nat := u8 b 22
def flTemplate (b : Bytes) : Bytes := slice b 24 (min 26 (flTlen b))

/-- The client slice of a context index (R276). -/
def ctxSlice (c : Nat) : Nat := c / 65536 % 4

/-- The single-record checks of a flow, in field order. -/
def checkFlow (b : Bytes) : Option Nat :=
  firstBad [
    (0, decide (flPort b ≤ 15)),
    (1, decide (flKeyType b ≤ 5)),
    (2, decide (flClass b ≤ 7)),
    (3, decide (flMode b ≤ 2)),
    (4, decide (flCont b ≤ 1023)),
    (6, decide (64 ≤ flQuantum b)),
    (20, decide (flExt b ≤ 4)),
    (22, if flMode b = 1 then decide (14 ≤ flTlen b ∧ flTlen b ≤ 26) else flTlen b == 0)]

/-- The flows of a table: context index and record. -/
def flows (t : Tbl Bytes) : List (Nat × Bytes) :=
  (objs t 4).filterMap fun i => if i < 2 ^ 18 then (tfind t (okey 4 i)).map fun b => (i, b) else none

/-- The key that two flows of one port may not share (R278 reason 3). -/
def flKey (b : Bytes) : Nat × Nat × Nat :=
  (flKeyType b,
    if flKeyType b = 1 then flOvid b else if flKeyType b = 2 then flOvid b * 4096 + flIvid b
    else if flKeyType b = 4 then flOvid b else if flKeyType b = 5 then flEtype b else 0,
    if flKeyType b = 3 ∨ flKeyType b = 4 then flDa b else 0)

/-! ### Policer records (R279) -/

def plTwoRate (b : Bytes) : Bool := u8 b 0 == 1
/-- Bytes counted for a frame of L bytes. -/
def plBytes (b : Bytes) (l : Nat) : Nat := if u8 b 1 = 1 then l + 20 else l
def plCir (b : Bytes) : Nat := u32 b 4
def plPir (b : Bytes) : Nat := u32 b 8
def plCbs (b : Bytes) : Nat := u32 b 12
def plPbs (b : Bytes) : Nat := u32 b 16

/-- The single-record checks of a policer, in field order. -/
def checkPolicer (b : Bytes) : Option Nat :=
  firstBad [
    (0, decide (u8 b 0 ≤ 1)),
    (1, decide (u8 b 1 ≤ 1)),
    (4, decide (plCir b ≤ 1600000000)),
    (8, !plTwoRate b || decide (plCir b ≤ plPir b)),
    (12, decide (plCbs b ≤ 16777216)),
    (16, !plTwoRate b || decide (plPbs b ≤ 16777216))]

/-! ### Packet-container records (R281) -/

/-- The object index of the packet-container record of a container. -/
def pcIndex (c : Nat) : Nat := 0x100000 + c

def pcFallback (b : Bytes) : Bool := wbit b 0 0
def pcLineFcsFwd (b : Bytes) : Bool := wbit b 0 1
def pcCompress (b : Bytes) : Bool := wbit b 0 2
def pcRanges (b : Bytes) : Nat := u8 b 1
def pcRetry (b : Bytes) : Nat := u16 b 2
def pcHold (b : Bytes) : Nat := u16 b 4
/-- Offset of range entry e. -/
def pcAt (e : Nat) : Nat := 8 + 8 * e
def rgFirst (b : Bytes) (e : Nat) : Nat := (u8 b (pcAt e) * 65536 + u16 b (pcAt e + 1)) % 2 ^ 18
def rgLast (b : Bytes) (e : Nat) : Nat := (u8 b (pcAt e + 3) * 65536 + u16 b (pcAt e + 4)) % 2 ^ 18
def rgPort (b : Bytes) (e : Nat) : Nat := u8 b (pcAt e + 6) / 16
def rgClass (b : Bytes) (e : Nat) : Nat := u8 b (pcAt e + 6) / 2 % 8
def rgDrop (b : Bytes) (e : Nat) : Bool := wbit b (pcAt e + 6) 7
def rgFar (b : Bytes) (e : Nat) : Nat := u8 b (pcAt e + 7)

/-- The checks of a packet-container record by offset: those of the part written are made at OBJ_SET, where a used entry is one
below the RANGE_COUNT of the same part (R593). -/
def pcChecks (b : Bytes) : List (Nat × Bool) :=
  [(1, decide (pcRanges b ≤ 32)),
   (2, decide (1 ≤ pcRetry b ∧ pcRetry b ≤ 1000)),
   (4, decide (1 ≤ pcHold b ∧ pcHold b ≤ 1000))]
  ++ (List.range 32).flatMap fun e =>
    [(pcAt e + 3, decide (pcRanges b ≤ e) || decide (rgFirst b e ≤ rgLast b e)),
     (pcAt e + 7, decide (rgFar b e ≤ 63) || rgFar b e == 0xFF)]

/-- The packet containers of a table that have a record: container and record. -/
def pktRecs (t : Tbl Bytes) : List (Nat × Bytes) :=
  (objs t 4).filterMap fun i =>
    if 0x100000 ≤ i then (tfind t (okey 4 i)).map fun b => (i - 0x100000, b) else none

/-- The container carries packets: PAYLOAD 3 or 4. -/
def isPkt (b : Bytes) : Bool := ctPayload b == 3 || ctPayload b == 4

/-- A MODE PACKET port of slice n exists. -/
def packetPort (t : Tbl Bytes) (n p : Nat) : Bool := match tfind t (okey 1 (n * 16 + p)) with
  | some c => cpMode c == 1
  | none => false

/-- The refusal of flow and packet-container records (R278): object index and reason. -/
def pktRefusal (t : Tbl Bytes) : Option (Nat × Nat) :=
  let fs := flows t
  let badF (f : Nat × Bytes → Bool) (r : Nat) : Option (Nat × Nat) := (fs.find? f).map fun e => (e.1, r)
  (badF (fun e => !packetPort t (ctxSlice e.1) (flPort e.2)) 1).orElse fun _ =>
  (badF (fun e => match contRec t (flCont e.2) with
    | some c => !(isPkt c && ctClientSlice c == ctxSlice e.1)
    | none => true) 2).orElse fun _ =>
  (badF (fun e => fs.any fun q => decide (q.1 < e.1) && ctxSlice q.1 == ctxSlice e.1 && flPort q.2 == flPort e.2
      && flKeyType e.2 != 0 && flKey q.2 == flKey e.2) 3).orElse fun _ =>
  (badF (fun e => flKeyType e.2 == 0 && fs.any fun q => decide (q.1 < e.1) && ctxSlice q.1 == ctxSlice e.1
      && flPort q.2 == flPort e.2 && flKeyType q.2 == 0) 4).orElse fun _ =>
  (badF (fun e => (flMode e.2 == 1 && !decide (14 ≤ flTlen e.2 ∧ flTlen e.2 ≤ 26)) || decide (flExt e.2 > 4)) 5).orElse fun _ =>
  (((conts t).find? fun e => isPkt e.2 && (partnerOf t e.1).isNone && (tfind t (okey 4 (pcIndex e.1))).isNone).map
    fun e => (pcIndex e.1, 6)).orElse fun _ =>
  ((pktRecs t).find? fun e => match contRec t e.1 with
    | none => true
    | some c => !isPkt c || decide (pcRanges e.2 > 32)
        || (List.range (pcRanges e.2)).any fun k => decide (rgFirst e.2 k > rgLast e.2 k)
            || !packetPort t (ctClientSlice c) (rgPort e.2 k)).map fun e => (pcIndex e.1, 7)

/-- A policer below MAX_FRAME of the port of its flow in CBS, or in PBS with two rates (R279). R278 gives it no reason: COMMIT
refuses it with BAD_PARAM and posts no event (DESIGN CHOICE, log entry 135). -/
def policerRefused (t : Tbl Bytes) : Bool :=
  (objs t 5).any fun c => match tfind t (okey 5 c), tfind t (okey 4 c) with
    | some p, some f => match tfind t (okey 1 (ctxSlice c * 16 + flPort f)) with
      | some q => decide (plCbs p < cpMaxFrame q) || (plTwoRate p && decide (plPbs p < cpMaxFrame q))
      | none => false
    | _, _ => false

/-! ### Queue-class and memory-quota records (R328, R329) -/

/-- The defaults of a queue-class record (R328). -/
def defaultQc : Bytes :=
  [2, 0x80, 0, 0] ++ be 4 65536 ++ be 4 1048576 ++ be 4 524288 ++ be 2 128 ++ be 2 0 ++ be 4 262144 ++ be 4 131072 ++ zeros 4

/-- The queue-class record of container c and class k in a table. -/
def qcIn (t : Tbl Bytes) (c k : Nat) : Bytes := (tfind t (okey 6 (c * 8 + k))).getD defaultQc

def qcProt (b : Bytes) : Nat := u8 b 0
def qcSpill (b : Bytes) : Bool := wbit b 1 0
def qcStaleAct (b : Bytes) : Bool := wbit b 1 1
def qcFlushGen (b : Bytes) : Nat := u8 b 2
def qcOnchip (b : Bytes) : Nat := u16 b 16
def qcStaleMs (b : Bytes) : Nat := u16 b 18
/-- A limit in KiB; a queue that never spills is capped at ONCHIP_CELLS × 256 bytes (R315). In bytes. -/
def qcCap (b : Bytes) (kib : Nat) : Nat := if qcSpill b then kib * 1024 else min (kib * 1024) (qcOnchip b * 256)
def qcFlowMax (b : Bytes) : Nat := qcCap b (u32 b 4)
def qcClassMax (b : Bytes) : Nat := qcCap b (u32 b 8)
def qcYellowMax (b : Bytes) : Nat := u32 b 12 * 1024
def qcHigh (b : Bytes) : Nat := u32 b 20
def qcLow (b : Bytes) : Nat := u32 b 24

/-- The checks of a queue-class record: offset, reason of R330, result. -/
def qcChecks (b : Bytes) : List (Nat × Nat × Bool) :=
  [(0, 0, decide (qcProt b ≤ 2)),
   (4, 2, decide (16 ≤ u32 b 4 ∧ u32 b 4 ≤ 16777216)),
   (8, 2, decide (16 ≤ u32 b 8 ∧ u32 b 8 ≤ 16777216)),
   (12, 2, decide (u32 b 12 ≤ u32 b 8)),
   (16, 4, decide (24 ≤ qcOnchip b ∧ qcOnchip b ≤ 4096)),
   (18, 0, decide (qcStaleMs b ≤ 10000)),
   (24, 3, decide (qcLow b < qcHigh b))]

/-- The single-record checks of a queue class. -/
def checkQc (b : Bytes) : Option Nat := firstBad ((qcChecks b).map fun e => (e.1, e.2.2))

/-- The defaults of a memory-quota record (R329). -/
def defaultMq : Bytes :=
  be 4 0 ++ [80, 83, 86, 89, 92, 95, 98, 100, 5, 2] ++ be 2 0 ++ be 4 65536 ++ be 4 32768 ++ be 4 16384 ++ [90, 80] ++ zeros 34

/-- The memory-quota record of a slice in a table. -/
def mqIn (t : Tbl Bytes) (n : Nat) : Bytes := (tfind t (okey 0x0C n)).getD defaultMq

def mqBlocks (b : Bytes) : Nat := u32 b 0
def mqAdmit (b : Bytes) (k : Nat) : Nat := u8 b (4 + k)
def mqMargin (b : Bytes) : Nat := u8 b 12
def mqEgStale (b : Bytes) : Nat := u16 b 14
def mqPortMax (b : Bytes) : Nat := u32 b 16 * 1024
def mqEgHigh (b : Bytes) : Nat := u32 b 20
def mqEgLow (b : Bytes) : Nat := u32 b 24
def mqPoolHigh (b : Bytes) : Nat := u8 b 28
def mqPoolLow (b : Bytes) : Nat := u8 b 29

/-- The checks of a memory-quota record: offset, reason of R330, result. -/
def mqChecks (b : Bytes) : List (Nat × Nat × Bool) :=
  (List.range 8).map (fun k => (4 + k, 1, decide (10 ≤ mqAdmit b k ∧ mqAdmit b k ≤ 100)
      && (k == 0 || decide (mqAdmit b (k - 1) ≤ mqAdmit b k))))
  ++ [(12, 0, decide (mqMargin b ≤ 50)),
   (13, 0, decide (u8 b 13 ≤ 2)),
   (14, 0, decide (mqEgStale b ≤ 10000)),
   (24, 3, decide (mqEgLow b < mqEgHigh b)),
   (28, 0, decide (mqPoolHigh b ≤ 100)),
   (29, 3, decide (mqPoolLow b < mqPoolHigh b))]

/-- The single-record checks of a memory quota. -/
def checkMq (b : Bytes) : Option Nat := firstBad ((mqChecks b).map fun e => (e.1, e.2.2))

/-! ### Slices, layout and blocks (R19, R340, R341, R424) -/

/-- Slice n is provisioned in a table (R19). -/
def provisioned (t : Tbl Bytes) (n : Nat) : Bool :=
  !(slicePorts t n).isEmpty || (tfind t (okey 0x0A n)).isSome
    || (conts t).any fun e => lineOf e.1 == n || ctClientSlice e.2 == n

/-- The provisioned slices of a table. -/
def provSlices (t : Tbl Bytes) : List Nat := (List.range 4).filter (provisioned t)

/-- LAYOUT of MEMC_STAT for a table: 0 none, 1 partitioned, 2 interleaved (R19). -/
def layoutOf (t : Tbl Bytes) : Nat := let k := (provSlices t).length; if k = 0 then 0 else if k ≤ 2 then 1 else 2

/-- Blocks of the layout: per partition, or interleaved in all (R340). -/
def layoutBlocks (pop16 : Bool) (layout : Nat) : Nat :=
  if layout = 2 then if pop16 then 16646144 else 8323072 else if pop16 then 8323072 else 4161536

/-- Blocks that a merge group reserves (R424). -/
def mgBlocks (b : Bytes) : Nat := if mgMode b = 1 then (mgRate b * mgMaxSkew b * 1000 + 16383) / 16384 else 0

/-- The merge groups of a table. -/
def merges (t : Tbl Bytes) : List (Nat × Bytes) :=
  (objs t 8).filterMap fun g => (tfind t (okey 8 g)).map fun b => (g, b)

/-- The client slice of a merge group. -/
def mgSlice (t : Tbl Bytes) (b : Bytes) : Nat := match contRec t (mgA b) with
  | some c => ctClientSlice c
  | none => 0

/-- Blocks reserved on slice n. -/
def reservedBlocks (t : Tbl Bytes) (n : Nat) : Nat :=
  total (((merges t).filter fun e => mgSlice t e.2 == n).map fun e => mgBlocks e.2)

/-- The block quota of slice n (R341). -/
def quotaBlocks (pop16 : Bool) (t : Tbl Bytes) (n : Nat) : Nat :=
  let q := mqBlocks (mqIn t n)
  let l := layoutOf t
  if q != 0 then q
  else if l = 2 then
    (layoutBlocks pop16 2 - total ((provSlices t).map (reservedBlocks t))) / (provSlices t).length
  else layoutBlocks pop16 1 - reservedBlocks t n

/-- The deep-buffered limit of one slice in Mb/s: its guaranteed share, or its partition (R19, R21, R338). -/
def sliceLimit (pop16 : Bool) (rate : Nat) (t : Tbl Bytes) : Nat :=
  let full := (if pop16 then 4800000 else 2400000) * rate / 24
  if layoutOf t = 2 then full / (provSlices t).length else full / 2

/-- Aligned-merge rates on slice n, in Mb/s. -/
def mergeRate (t : Tbl Bytes) (n : Nat) : Nat :=
  total (((merges t).filter fun e => mgMode e.2 == 1 && mgSlice t e.2 == n).map fun e => mgRate e.2)

/-- The refusal of queue-class and memory-quota records (R330): record index, reason, and whether it is a memory-quota record. -/
def qmRefusal (pop16 : Bool) (rate : Nat) (t : Tbl Bytes) : Option (Nat × Nat × Bool) :=
  let qcs := (objs t 6).filterMap fun i => (tfind t (okey 6 i)).map fun b => (i, false, qcChecks b)
  let mqs := (objs t 0x0C).filterMap fun i => (tfind t (okey 0x0C i)).map fun b => (i, true, mqChecks b)
  let bad (r : Nat) : Option (Nat × Nat × Bool) :=
    ((qcs ++ mqs).find? fun e => e.2.2.any fun c => c.2.1 == r && !c.2.2).map fun e => (e.1, r, e.2.1)
  let l := layoutOf t
  (bad 1).orElse fun _ => (bad 2).orElse fun _ => (bad 3).orElse fun _ => (bad 4).orElse fun _ =>
  (if l = 2 then
    if total ((provSlices t).map fun n => quotaBlocks pop16 t n + reservedBlocks t n) > layoutBlocks pop16 2 then
      (provSlices t).head?.map fun n => (n, 5, true)
    else none
  else ((provSlices t).find? fun n =>
    decide (quotaBlocks pop16 t n + reservedBlocks t n > layoutBlocks pop16 1)).map fun n => (n, 5, true)).orElse fun _ =>
  ((provSlices t).find? fun n => decide (mergeRate t n > sliceLimit pop16 rate t)).map fun n => (n, 6, true)

/-! ### Protection and merge groups (R425) -/

/-- Both containers of a group. -/
def groupRecs (t : Tbl Bytes) (a b : Nat) : Option (Bytes × Bytes) :=
  (contRec t a).bind fun x => (contRec t b).map fun y => (x, y)

/-- The container is named by more than one place of the groups. -/
def namedTwice (t : Tbl Bytes) (i : Nat) : Bool :=
  decide (((groupPairs t).flatMap fun e => [e.2.2.1, e.2.2.2]).count i > 1)

/-- A SIDE 0 TCM point at a level of a container. -/
def tcmPoint (t : Tbl Bytes) (lvl c : Nat) : Bool :=
  (points t).any fun e => mpKind e.2 == 4 && mpLevel e.2 == lvl && !mpSide e.2 && mpObj e.2 == c

/-- The reasons of R425 that a protection group gives. -/
def pgBad (t : Tbl Bytes) (b : Bytes) (r : Nat) : Bool :=
  match groupRecs t (pgWork b) (pgProt b) with
  | none => r == 1
  | some (x, y) =>
    if r = 1 then pgWork b == pgProt b || namedTwice t (pgWork b) || namedTwice t (pgProt b)
    else if r = 2 then ctType x != ctType y || ctPayload x != ctPayload y || ctClientSlice x != ctClientSlice y
      || ctPort x != ctPort y
    else if r = 3 then decide (ctPayload x > 3)
    else if r = 5 then (checkPg b).isSome
    else if r = 6 then pgMon b == 2 && !(tcmPoint t (pgLevel b) (pgWork b) && tcmPoint t (pgLevel b) (pgProt b))
    else false

/-- The reasons of R425 that a merge group gives. -/
def mgBad (t : Tbl Bytes) (b : Bytes) (r : Nat) : Bool :=
  match groupRecs t (mgA b) (mgB b) with
  | none => r == 1
  | some (x, y) =>
    let odu := ctPayload x != 4
    if r = 1 then mgA b == mgB b || namedTwice t (mgA b) || namedTwice t (mgB b)
    else if r = 2 then ctType x != ctType y || ctPayload x != ctPayload y || ctClientSlice x != ctClientSlice y
      || ctPort x != ctPort y
      || (odu && (ctSlots x != ctSlots y || ctTag x != ctTag y || !ctExtFc x || !ctExtFc y))
    else if r = 3 then
      if mgMode b = 1 then !(ctPayload x == 0 || ctPayload x == 1 || ctPayload x == 2 || ctPayload x == 4)
      else ctPayload x != 4
    else if r = 4 then lineOf (mgA b) == lineOf (mgB b)
    else if r = 5 then (checkMg b).isSome
    else if r = 7 then mgMode b == 1 && odu && decide (mgRate b * 1000 < ctRate x)
    else false

/-- The refusal of groups (R425): group and reason, reasons ascending; protection groups before merge groups. -/
def groupRefusal (t : Tbl Bytes) : Option (Nat × Nat) :=
  let pgs := (objs t 7).filterMap fun g => (tfind t (okey 7 g)).map fun b => (g, b)
  (List.range 8).findSome? fun r =>
    ((pgs.find? fun e => pgBad t e.2 r).map fun e => (e.1, r)).orElse fun _ =>
      ((merges t).find? fun e => mgBad t e.2 r).map fun e => (e.1, r)

end Sys2Proof.Machine
end

