-- ==== Sys2Proof/Machine/Relay.lean ====
section
/-! DEFINITION. What an active mate sends over the mate link (R445, R446, R453 to R455), and the events of the mate, packet,
queue, protection and timing engines. -/

namespace Sys2Proof.Machine

/-! ### Events by block (R591) -/

def evtMate (ty obj : Nat) (detail : Bytes) (d : Dev) : Dev := raiseInt 13 (postEvt ty 0x000A 0 obj detail d)
def evtTim (ty obj : Nat) (detail : Bytes) (d : Dev) : Dev := raiseInt 12 (postEvt ty 0x0009 0 obj detail d)
def evtXc (ty obj : Nat) (detail : Bytes) (d : Dev) : Dev := postEvt ty 0x000B 0 obj detail d
def evtPkt (ty n obj : Nat) (detail : Bytes) (d : Dev) : Dev := postEvt ty 0x0013 n obj detail d
def evtQm (ty n obj : Nat) (detail : Bytes) (d : Dev) : Dev := postEvt ty 0x0014 n obj detail d
def evtLine (ty n obj : Nat) (detail : Bytes) (d : Dev) : Dev := postEvt ty 0x0010 n obj detail d
def evtCli (ty n obj : Nat) (detail : Bytes) (d : Dev) : Dev := postEvt ty 0x0011 n obj detail d
def evtNvm (ty obj : Nat) (detail : Bytes) (d : Dev) : Dev := postEvt ty 0x0007 0 obj detail d
def evtGlb (ty obj : Nat) (detail : Bytes) (d : Dev) : Dev := postThino ty 0x0001 0 obj detail d
def evtPwr (ty obj : Nat) (detail : Bytes) (d : Dev) : Dev := postEvt ty 0x0005 0 obj detail d

/-! ### The mate link -/

/-- Change the mate state. -/
def modMate (f : MateSt → MateSt) (d : Dev) : Dev := { d with mate := f d.mate }

/-- MATE_STAT LIVE bits (R472). -/
abbrev mLinkUp : Nat := 0
abbrev mHbLoss : Nat := 1
abbrev mPartition : Nat := 2
abbrev mPhase : Nat := 3
abbrev mDigest : Nat := 4
abbrev mMiss : Nat := 5
abbrev mPinFault : Nat := 6
abbrev mRefused : Nat := 7

def mateLive (d : Dev) (b : Nat) : Bool := rb d .mateStat b
def setMateLive (b : Nat) (v : Bool) (d : Dev) : Dev := setLive .mateStat 24 b v d

/-- The pair is IN_STEP. -/
def inStep (d : Dev) : Bool := d.mate.st == 4

/-- A reliable cell type (R446): COMMAND, DECISION, RESULT, STATE. -/
def reliable (ty : Nat) : Bool := ty == 3 || ty == 4 || ty == 5 || ty == 7

/-- The place of a cell type in the order of priority: CONTROL, HEARTBEAT, DECISION, COMMAND, RESULT, DIGEST, STATE, IDLE (R446). -/
def cellRank (ty : Nat) : Nat := match ty with
  | 2 => 0
  | 1 => 1
  | 4 => 2
  | 3 => 3
  | 5 => 4
  | 6 => 5
  | 7 => 6
  | _ => 7

/-- A cell joins those that wait, behind every cell of its priority or a higher one. -/
def queueCell (c : Cell) : List Cell → List Cell
  | [] => [c]
  | x :: l => if cellRank c.ty < cellRank x.ty then c :: x :: l else x :: queueCell c l

/-- The 60 bytes of a cell before its CRC. -/
def cellHead (c : Cell) : Bytes :=
  be 1 c.ty ++ be 1 (c.first.toNat * 128 + c.last.toNat * 64) ++ be 2 c.seq ++ be 1 (min 52 c.payload.length) ++ zeros 3
    ++ c.payload.take 52 ++ zeros (52 - c.payload.length)

/-- The 64 bytes of a cell (R445). -/
def cellBytes (c : Cell) : Bytes := cellHead c ++ be 4 (crc32 (cellHead c)).toNat

/-- Send one cell of a message: it takes the next SEQ of its type, waits in the order of priority, and a reliable one is kept (R445,
R446). -/
def sendPart (ty : Nat) (first last : Bool) (payload : Bytes) (d : Dev) : Dev :=
  let c : Cell := { ty := ty, seq := (tget 65535 d.mate.txSeq ty + 1) % 65536, payload := payload, first := first, last := last }
  modMate (fun m => { m with
    txSeq := tset m.txSeq ty c.seq
    txq := queueCell c m.txq
    kept := if reliable ty then tset m.kept ty ((c :: tget [] m.kept ty).take 16384) else m.kept }) d

/-- A message of one cell. -/
def sendCell (ty : Nat) (payload : Bytes) (d : Dev) : Dev := sendPart ty true true payload d

/-- The cells of a message, 52 payload bytes each, the first of them marked FIRST as given and the one that ends it LAST. -/
def sendParts (ty : Nat) (first : Bool) : Nat → Bytes → Dev → Dev
  | 0, _, d => d
  | k + 1, b, d =>
    if b.isEmpty then d else sendParts ty false k (b.drop 52) (sendPart ty first (decide (b.length ≤ 52)) (b.take 52) d)

/-- A message in cells of 52 payload bytes (R445). -/
def sendMsg (ty k : Nat) (b : Bytes) (d : Dev) : Dev := sendParts ty true k b d

/-- The cells that wait go out in their order. The model lets them do so at each heartbeat (DESIGN CHOICE, log entry 191). -/
def flushCells (d : Dev) : Dev := modMate (fun m => { m with wire := m.txq.map cellBytes, txq := [] }) d

/-- A CONTROL cell (R446): CODE, TYPE, SEQ, EPOCH. -/
def sendControl (code ty seq epoch : Nat) (d : Dev) : Dev :=
  let p := be 1 code ++ be 1 ty ++ be 2 seq ++ be 6 epoch
  modMate (fun m => { m with ctlOut := p }) (sendCell 2 p d)

/-- Decision kinds (R455). -/
abbrev kJust : Nat := 1
abbrev kAdmit : Nat := 2
abbrev kStall : Nat := 3
abbrev kContext : Nat := 4
abbrev kAlign : Nat := 5
abbrev kProt : Nat := 6
abbrev kMerge : Nat := 7
abbrev kResize : Nat := 8
abbrev kTiming : Nat := 9

/-- The device forwards records of a kind: on an active with the pair in CATCHUP or IN_STEP, every kind; while JOINING, from
the boundary S on, CONTEXT and prompt records (R460). -/
def forwards (d : Dev) (kind : Nat) : Bool :=
  d.mate.active && (d.mate.st == 3 || d.mate.st == 4
    || (d.mate.st == 2 && d.mate.joinS && (kind == kContext || decide (kProt ≤ kind))))

/-- Forward a decision record (R454): KIND, OBJECT, AT, body. -/
def fwd (kind obj atv : Nat) (body : Bytes) (d : Dev) : Dev :=
  if !forwards d kind then d
  else
    let n := (d.mate.dsent + 1) % 2 ^ 32
    let len := if kind = kAlign then 0 else 14 + body.length
    let r := be 1 kind ++ be 1 len ++ be 4 n ++ be 4 obj ++ be 4 atv ++ body
    sendMsg 4 (r.length / 52 + 1) r (modMate (fun m => { m with dsent := n }) d)

/-- The low 32 bits of the epoch, the AT of a prompt record. -/
def epoch32 (d : Dev) : Nat := now d % 2 ^ 32

/-- The mirror frame number of a container (R454). -/
def mfnOf (d : Dev) (c : Nat) : Nat := tget 0 d.mate.mfn c

/-- Count a miss of a decision record (R456). -/
def mateMiss (d : Dev) : Dev :=
  setMateLive mMiss true (modMate (fun m => { m with misses := m.misses + 1 }) d)

/-- The device is a standby that follows its mate: JOINING, CATCHUP or IN_STEP. -/
def following (d : Dev) : Bool := !d.mate.active && decide (2 ≤ d.mate.st ∧ d.mate.st ≤ 4)

end Sys2Proof.Machine
end

