-- ==== Sys2Proof/Machine/Cal.lean ====
section
/-! DEFINITION. The journal records in force and the calibration sections of the MRAM (R536, R543 to R545). -/

namespace Sys2Proof.Machine

/-- Journal record types (R536). -/
abbrev jSetCommit : Nat := 1
abbrev jSetBegin : Nat := 2
abbrev jCalCommit : Nat := 3
abbrev jUpdState : Nat := 4
abbrev jActivate : Nat := 5
abbrev jBootAttempt : Nat := 6
abbrev jArbTarget : Nat := 7
abbrev jConfirm : Nat := 8
abbrev jPairing : Nat := 9
abbrev jResume : Nat := 10

/-- The record in force of a type and sub-index (AREA, or SECTION × 2 + COPY). -/
def jget (d : Dev) (ty sub : Nat) : Option Jrec := tfind d.nvm.jrnl (ty * 256 + sub)

/-- Its body; all zero where there is none. -/
def jbody (d : Dev) (ty sub : Nat) : Bytes := match jget d ty sub with
  | some r => r.body
  | none => []

/-- The copy of a section in force, or none. -/
def calCopy (d : Dev) (sec : Nat) : Option Nat :=
  match jget d jCalCommit (sec * 2), jget d jCalCommit (sec * 2 + 1) with
  | none, none => none
  | some _, none => some 0
  | none, some _ => some 1
  | some a, some b => some (if a.seq < b.seq then 1 else 0)

/-- A section in force whose CRC passes. -/
def calSection (d : Dev) (sec : Nat) : Option Bytes :=
  (calCopy d sec).bind fun c =>
    (tfind d.nvm.cal (sec * 2 + c)).bind fun b =>
      let j := jbody d jCalCommit (sec * 2 + c)
      if u32 j 8 = (crc32 b).toNat ∧ u32 j 4 = b.length then some b else none

/-- The BOARD section, where it is valid (R544). -/
def board (d : Dev) : Option Bytes :=
  (calSection d 0).bind fun b => if slice b 0 4 = [0x5A, 0x4B, 0x43, 0x42] ∧ u16 b 4 = 1 then some b else none

end Sys2Proof.Machine
end

