-- ==== Sys2Proof/Machine/Wake.lean ====
section
/-! DEFINITION. The wake controller: estimates, admission in the order of R23, deferral, MEM wake units (R58 to R62, R67 to R72). -/

namespace Sys2Proof.Machine

/-- STRAP_MEMPOP: 16 components (R47, R143). -/
def pop16 (d : Dev) : Bool := rb d .glbStrap 1

def est (d : Dev) (n : Nat) : Nat := estOf d.fuse.ib n

/-- The sum of the estimates of the awake domains: PWR_LOAD (R23, R145). -/
def load (d : Dev) : Nat := total (((List.range 24).filter (domAwake d)).map (est d))

/-- PWR_CAP.CAP. -/
def cap (d : Dev) : Nat := rf d .pwrCap 15 0

/-- The domains that a domain requires (R58). -/
def requires (n : Nat) : List Nat :=
  if n = 5 then [3] else if 6 ≤ n ∧ n < 14 then [3] else if 14 ≤ n ∧ n < 18 then [n - 4]
  else if 18 ≤ n ∧ n < 22 then [22] else if n = 22 then [3] else []

/-- The slice whose rail feeds a domain (R58). -/
def railSlice (n : Nat) : Option Nat :=
  if 6 ≤ n ∧ n < 10 then some (n - 6) else if 10 ≤ n ∧ n < 14 then some (n - 10)
  else if 14 ≤ n ∧ n < 18 then some (n - 14) else none

/-- The populated MEM groups (R47, R70). -/
def memGroups (d : Dev) : List Nat := if pop16 d then [0, 1, 2, 3] else [0, 1]

/-- The layout in force (R19, R22): of the tables in service. -/
def layout (d : Dev) : Nat := layoutOf d.prov.serv

/-- The MEM groups of a partition (R19). -/
def partGroups (d : Dev) (p : Nat) : List Nat :=
  if pop16 d then [2 * p, 2 * p + 1] else [p]

/-- The wake unit of a MEM group (R70). -/
def unitOf (d : Dev) (g : Nat) : List Nat :=
  if layout d = 2 then memGroups d else partGroups d (if pop16 d then g / 2 else g)

/-- The MEM groups of slice n's wake unit; none where the slice has no partition. -/
def sliceUnit (d : Dev) (n : Nat) : List Nat :=
  if layout d = 2 then memGroups d
  else match tfind d.pkt.memc.part n with
    | some p => partGroups d p
    | none => []

/-- The wake unit of slice n is READY, and none of its groups is being retrained (R72, R342). -/
def unitReady (d : Dev) (n : Nat) : Bool :=
  !(sliceUnit d n).isEmpty && (sliceUnit d n).all fun g => domReady d (18 + g) && rf d (.memcGstat g) 2 0 != 4

/-- A domain that a MEMPOP strap leaves out never wakes (R47). -/
def wakeable (d : Dev) (n : Nat) : Bool := !(decide (20 ≤ n ∧ n < 22) && !pop16 d) && decide (n < 24)

/-- A faulted domain waits until its rail has been good for 10 ms, a latched one for the host (R80), a barred one for its region
(R82, R83). No slice domain and no MEM group wakes without a valid BOARD section (R589). -/
def mayWake (d : Dev) (n : Nat) : Bool :=
  let x := dom d n
  wakeable d n && !x.latched && !x.barred && (x.st != .faulted || x.railOk) && (!decide (6 ≤ n ∧ n < 22) || (board d).isSome)

/-- The domains that one request wakes together: a MEM group's wake unit, or the domain itself; of them those that may wake. -/
def wakeSet (d : Dev) (n : Nat) : List Nat :=
  (if 18 ≤ n ∧ n < 22 then (unitOf d (n - 18)).map (18 + ·) else [n]).filter (mayWake d)

/-- PSEQ_ENk is high. -/
def railOn (d : Dev) (k : Nat) : Bool := d.pin.pseqEn.getLsbD k

/-- PWR_RAIL_STATk as it reads: EN and PG are the levels of the balls, 1 for k = 8 and 9 (R145). -/
def railStat (d : Dev) (k : Nat) : Word :=
  putBit (putBit (reg d (.pwrRailStat k)) 11 (decide (8 ≤ k) || railOn d k)) 10 (decide (8 ≤ k) || d.pin.pseqPg.getLsbD k)

/-- PWR_REGIONr as it reads: MV is the voltage sense of this moment, which no command carries: a free value (R145; log entry 129). -/
def regionLive (d : Dev) (r : Nat) : Word :=
  putBits (reg d (.pwrRegion r)) 11 0 ((Config.freeValue (d.time.free + r)).toNat % 4096)

/-- The senses of the five regions have been read. -/
def senseRead (d : Dev) : Dev := each (List.range 5) (fun _ => stepFree) d

/-- Drive PSEQ_ENk. -/
def setRail (k : Nat) (v : Bool) (d : Dev) : Dev :=
  { d with
    pin := { d.pin with pseqEn := if v then d.pin.pseqEn ||| BitVec.twoPow 8 k else d.pin.pseqEn &&& ~~~ BitVec.twoPow 8 k }
    pwr := { d.pwr with railOff := nputBit d.pwr.railOff k (!v) } }

/-- Admit one domain: it counts from now; a slice domain whose rail is off drives PSEQ_ENn and waits (R76). -/
def admitDom (rank n : Nat) (d : Dev) : Dev :=
  match railSlice n with
  | none => modDom n (fun x => { x with st := .ramping, rank := rank, leaving := false, heldWake := 0, railOk := false }) d
  | some s =>
    let wait := !(railOn d s && d.pin.pseqPg.getLsbD s)
    let d := gate (!railOn d s && !d.pwr.ovOff.testBit s) (setRail s true) d
    modDom n (fun x => { x with
      st := .ramping, waitRail := wait, rank := rank, leaving := false, heldWake := 0, railOk := false }) d

/-- The DETAIL of PWR_DEFERRED and PWR_WAKE_ADMITTED (R176). -/
def deferDetail (d : Dev) (e rank : Nat) : Bytes := be 2 e ++ be 2 (load d) ++ be 2 (cap d) ++ be 1 rank

/-- The rank of a request that joins deferred ones: the first of theirs and its own (R23). -/
def bestRank (d : Dev) (rank : Nat) (l : List Nat) : Nat :=
  l.foldl (fun a k => if (dom d k).st == .deferred then min a (dom d k).rank else a) rank

/-- One request is decided (R23, R68, R69): it fits and is admitted, or it is deferred with one event; a request that is already
deferred keeps the better rank. `exempt` is a wake for the last-gasp write. -/
def decide1 (exempt : Bool) (rank n : Nat) (d : Dev) : Dev :=
  let set_ := (wakeSet d n).filter fun k => !domAwake d k
  let rank := bestRank d rank set_
  let need := total (set_.map (est d))
  let was := set_.any fun k => (dom d k).st == .deferred
  let fits := (requires n).all (domUp d) && (exempt || decide (load d + need ≤ cap d))
  let det := deferDetail d need rank
  if set_.isEmpty then d
  else if fits then
    let d := each set_ (admitDom rank) d
    gate was (evtPwr 0x0102 n det) d
  else
    let d := each set_ (fun k => modDom k fun x => { x with st := .deferred, rank := rank, heldWake := 0 }) d
    gate (!was) (fun d => raiseInt 11 (evtPwr 0x0101 n det d)) d

/-- A wake request is kept for later, at the better rank. -/
def holdWake (rank n : Nat) (d : Dev) : Dev :=
  modDom n (fun x => { x with heldWake := if x.heldWake = 0 then rank else min rank x.heldWake }) d

/-- A wake request for domain n at a rank of R23: a pending sleep is cancelled, or completes first (R62); a faulted domain waits for
its rail (R80). A latched, barred or absent domain does not wake (R80, R82, R83), nor a slice domain or a MEM group without a valid
BOARD section (R589): the request is dropped (DESIGN CHOICE, log entry 126). D2 is exempt from PWR_CAP for a last-gasp write (R69). -/
def requestOne (rank n : Nat) (d : Dev) : Dev :=
  let x := dom d n
  if !wakeable d n || x.latched || x.barred then d
  else if !domUp d n && (requires n).any (fun k => (dom d k).st == .isolating || (dom d k).heldWake != 0) then holdWake rank n d
  else match x.st with
    | .ready | .ramping => modDom n (fun x => { x with leaving := false }) d
    | .isolating => holdWake rank n d
    | .faulted => if x.railOk then decide1 (n == 2 && d.pwr.gaspBusy) rank n d else holdWake rank n d
    | .off | .selfRefresh | .deferred => decide1 (n == 2 && d.pwr.gaspBusy) rank n d

/-- The requests held behind the sleep of a domain they require go on once it is off (R61, R62). -/
def heldNext (d : Dev) : Dev :=
  each (22 :: (List.range 22 ++ [23])) (fun k d =>
    let x := dom d k
    gate (x.heldWake != 0 && (x.st == .off || x.st == .selfRefresh)) (requestOne x.heldWake k) d) d

/-- A wake request with the domains it requires, each a request of its own (R61). -/
def requestWake (rank n : Nat) (d : Dev) : Dev :=
  let base := requires n
  let deep := base.flatMap requires
  let d := each (deep.flatMap requires) (requestOne rank) d
  let d := each deep (requestOne rank) d
  requestOne rank n (each base (requestOne rank) d)

/-- The deferred requests are re-evaluated in the order of R23: rank first, lower domain numbers first. -/
def reevaluate (d : Dev) : Dev :=
  each [1, 2, 3] (fun rank d =>
    each (List.range 24) (fun n d =>
      if (dom d n).st == .deferred && (dom d n).rank == rank then decide1 false rank n d else d) d) d

/-- Spill pressure of slice n: its wake unit is requested in rank 1, by its first group that is not awake (R71, R80). -/
def spillPressure (n : Nat) (d : Dev) : Dev :=
  match (sliceUnit d n).find? fun g => !domAwake d (18 + g) with
  | some g => requestWake 1 (18 + g) d
  | none => d

end Sys2Proof.Machine
end

