-- ==== Sys2Proof/Machine/Queues.lean ====
section
/-! DEFINITION. The queue primitive and the queue manager of a slice: levels, spill and refill, mark, rewind and release, flush,
admission, watermarks, stale timers, reset (R312 to R336). -/

namespace Sys2Proof.Machine

/-! ### Access -/

def psl (d : Dev) (n : Nat) : PktSlice := tget {} d.pkt.slice n
def modPsl (n : Nat) (f : PktSlice → PktSlice) (d : Dev) : Dev := { d with pkt := { d.pkt with slice := tmod {} d.pkt.slice n f } }
def pct (d : Dev) (c : Nat) : PktCont := tget {} d.pkt.cont c
def modPct (c : Nat) (f : PktCont → PktCont) (d : Dev) : Dev := { d with pkt := { d.pkt with cont := tmod {} d.pkt.cont c f } }

/-- The flow queue of context index c, and the egress queue of a slice by port × 8 + class. -/
def flowQ (d : Dev) (c : Nat) : Queue := tget {} (psl d (ctxSlice c)).flowq c
def egQ (d : Dev) (n i : Nat) : Queue := tget {} (psl d n).egq i

/-- A queue named by slice, kind and index. -/
def queueAt (d : Dev) (n : Nat) (eg : Bool) (i : Nat) : Queue := if eg then egQ d n i else flowQ d i

def modQueue (n : Nat) (eg : Bool) (i : Nat) (f : Queue → Queue) (d : Dev) : Dev :=
  modPsl n (fun s => if eg then { s with egq := tmod {} s.egq i f } else { s with flowq := tmod {} s.flowq i f }) d

/-- The flow record of a context index, and its container: in service, or as deleted with its container until its R251 frame. -/
def flowRec (d : Dev) (c : Nat) : Bytes := (tfind (psl d (ctxSlice c)).left c).getD (servRec d 4 c)
def flowCont (d : Dev) (c : Nat) : Nat := flCont (flowRec d c)
/-- The record of a container: in service, or as deleted until its R251 frame. -/
def ctRec (d : Dev) (c : Nat) : Bytes := (serv d 2 c).getD (tget {} d.cont c).last
/-- The containers in service, and those deleted that run until their R251 frame (R251). -/
def contsNow (d : Dev) : List (Nat × Bytes) :=
  conts d.prov.serv ++ ((tkeys d.cont).filter fun c => (tget {} d.cont c).up && (serv d 2 c).isNone).map fun c => (c, ctRec d c)
/-- The group that XC connects a container in: OBJ_TYPE, index, partner (R261, R272). -/
def connOf (d : Dev) (c : Nat) : Option (Nat × Nat × Nat) := (tget {} d.cont c).conn
/-- The members of an HO container that run. -/
def membersNow (d : Dev) (h : Nat) : List (Nat × Bytes) := (contsNow d).filter fun e => ctParent e.2 == h && (tget {} d.cont e.1).up
/-- The packet-container record in service that serves container c: PROT and PATH_B use their partner's (R425). -/
def pcRec (d : Dev) (c : Nat) : Bytes := servRec d 4 (pcIndex ((partnerOf d.prov.serv c).getD c))
def qcRec (d : Dev) (c k : Nat) : Bytes := qcIn d.prov.serv c k
def mqRec (d : Dev) (n : Nat) : Bytes := mqIn d.prov.serv n
/-- The client slice of a container in service. -/
def contSlice (d : Dev) (c : Nat) : Nat := ctClientSlice (ctRec d c)
/-- The containers of client slice n. -/
def clientConts (d : Dev) (n : Nat) : List Nat := ((contsNow d).map (·.1)).filter fun c => contSlice d c == n
/-- The flows of a container. -/
def flowsOf (d : Dev) (c : Nat) : List (Nat × Bytes) :=
  (flows d.prov.serv ++ (psl d (contSlice d c)).left).filter fun e => flCont e.2 == c

/-! ### Levels and cells (R313, R324) -/

def framesBytes (l : List QFrame) : Nat := total (l.map fun f => f.bytes.length)
/-- Occupied bytes: unread and held (R320). -/
def qBytes (q : Queue) : Nat := framesBytes q.unread + framesBytes q.held
/-- Cells of a number of bytes. -/
def cellsFor (b : Nat) : Nat := (b + 255) / 256
/-- Spilled blocks of a queue, those of them in the spill reserve, and the frame bytes in a list of blocks. -/
def Queue.spilled (q : Queue) : Nat := q.blocks.length
def Queue.reserve (q : Queue) : Nat := (q.blocks.filter (·.no.isNone)).length
def blkBytes (l : List SpillBlk) : Nat := total (l.map (·.bytes))
/-- Occupied cells, and those of them on chip. -/
def qCells (q : Queue) : Nat := cellsFor (qBytes q)
def qOnchip (q : Queue) : Nat := cellsFor (qBytes q - blkBytes q.blocks)
/-- The deficit of a queue that has no frame left to schedule returns to 0 (R327). -/
def qEmptied (q : Queue) : Queue := if q.unread.length ≤ q.owed then { q with deficit := 0 } else q

/-- All queues of a slice. -/
def sliceQueues (d : Dev) (n : Nat) : List Queue := ((psl d n).flowq ++ (psl d n).egq).map (·.2)

/-- Used cells of the pool, spilled blocks, and reserve blocks in use of a slice. -/
def usedCells (d : Dev) (n : Nat) : Nat := total ((sliceQueues d n).map qOnchip) + (psl d n).leakCells
def spilledBlocks (d : Dev) (n : Nat) : Nat := total ((sliceQueues d n).map (·.spilled)) + (psl d n).leaked.length + (psl d n).owed.length
def reserveBlocks (d : Dev) (n : Nat) : Nat :=
  total ((sliceQueues d n).map (·.reserve)) + ((psl d n).leaked.filter (·.no.isNone)).length
def freeCells (d : Dev) (n : Nat) : Nat := 196608 - usedCells d n
def quota (d : Dev) (n : Nat) : Nat := quotaBlocks (pop16 d) d.prov.serv n

/-- The three pool levels in percent: cell pool, spill quota, spill reserve (R331). -/
def poolPct (d : Dev) (n i : Nat) : Nat :=
  if i = 0 then 100 * usedCells d n / 196608
  else if i = 1 then 100 * spilledBlocks d n / max 1 (quota d n)
  else 100 * reserveBlocks d n / 2048

/-- F is below p percent (R324). -/
def fillBelow (d : Dev) (n p : Nat) : Bool :=
  decide (100 * usedCells d n < p * 196608) && decide (100 * spilledBlocks d n < p * max 1 (quota d n))

/-- Bytes of the container queue of container c and class k (R312). -/
def cqBytes (d : Dev) (c k : Nat) : Nat :=
  total (((flowsOf d c).filter fun e => flClass e.2 == k).map fun e => qBytes (flowQ d e.1))

/-! ### Watermarks (R331, R332) -/

/-- The key of an entry: space of SLn_QM_CLR and index (R343). -/
def wmKey (space i : Nat) : Nat := space * 65536 + i
def wmOf (d : Dev) (n space i : Nat) : Wm := tget {} (psl d n).wm (wmKey space i)
def modWm (n space i : Nat) (f : Wm → Wm) (d : Dev) : Dev :=
  modPsl n (fun s => { s with wm := tmod {} s.wm (wmKey space i) f }) d

/-- The level of an entry, and its WM_HIGH and WM_LOW (R331): KiB for queues, percent for pools. -/
def wmLevel (d : Dev) (n space i : Nat) : Nat :=
  if space = 1 then cqBytes d (i / 8) (i % 8) / 1024
  else if space = 2 then qBytes (egQ d n i) / 1024
  else poolPct d n i
def wmHigh (d : Dev) (n space i : Nat) : Nat :=
  if space = 1 then qcHigh (qcRec d (i / 8) (i % 8)) else if space = 2 then mqEgHigh (mqRec d n) else mqPoolHigh (mqRec d n)
def wmLow (d : Dev) (n space i : Nat) : Nat :=
  if space = 1 then qcLow (qcRec d (i / 8) (i % 8)) else if space = 2 then mqEgLow (mqRec d n) else mqPoolLow (mqRec d n)

/-- The watermark of an entry follows its level (R331). -/
def updWm (n space i : Nat) (d : Dev) : Dev :=
  let v := wmLevel d n space i
  let w := wmOf d n space i
  let w := { w with peak := max w.peak v }
  if !w.live && decide (wmHigh d n space i ≤ v) then
    let d := modWm n space i (fun _ => { w with
      live := true, sticky := true, count := min 255 (w.count + 1), epoch := epoch32 d, seen := true }) d
    gate (!w.seen) (evtQm 0x0902 n i (be 1 space)) d
  else modWm n space i (fun _ => { w with live := w.live && !decide (v < wmLow d n space i) }) d

/-- The pools of a slice follow a change; QM_RESERVE is posted when the reserve starts to be used, empties or fills (R348). -/
def updPools (n : Nat) (d : Dev) : Dev :=
  let d := each [0, 1, 2] (updWm n 3) d
  let r := reserveBlocks d n
  let was := (psl d n).resUsed
  let full := decide (r ≥ 2048)
  let d := gate (!was && r != 0) (evtQm 0x090A n n [1]) d
  let d := gate (was && r == 0) (evtQm 0x090A n n [2]) d
  let d := gate (full && !(psl d n).resFull) (evtQm 0x090A n n [3]) d
  modPsl n (fun s => { s with resUsed := r != 0, resFull := full }) d

/-- The entries that a queue belongs to follow a change. -/
def updLevels (n : Nat) (eg : Bool) (i : Nat) (d : Dev) : Dev :=
  let d := if eg then updWm n 2 i d
    else updWm n 1 (flowCont d i * 8 + flClass (flowRec d i)) d
  updPools n d

/-- The entry of a write to SLn_QM_CLR is cleared (R332): space 0 is a flow entry. -/
def clearEntry (n space i : Nat) (d : Dev) : Dev :=
  if space = 0 then
    modPsl n (fun s => { s with flowq := tmod {} s.flowq (n * 65536 + i) fun q =>
      { q with overrun := false, rewindErr := false, dupReset := false } }) d
  else modWm n space i (fun w => { w with
    sticky := false, staleSticky := false, count := 0, peak := wmLevel d n space i }) d

/-! ### Spill and refill (R315, R316) -/

/-- The queue may spill, and its ONCHIP_CELLS: an egress queue uses the defaults. -/
def spillEn (d : Dev) (eg : Bool) (i : Nat) : Bool :=
  eg || qcSpill (qcRec d (flowCont d i) (flClass (flowRec d i)))
def onchipMax (d : Dev) (eg : Bool) (i : Nat) : Nat :=
  if eg then 128 else qcOnchip (qcRec d (flowCont d i) (flClass (flowRec d i)))

/-- The complete blocks of a queue's tail, once it spills with a head of that many bytes. -/
def blocksDue (q : Queue) (head : Nat) : Nat := (framesBytes q.unread - head - blkBytes q.blocks) / 2048

/-! ### Block descriptors and free lists (R340) -/

/-- Where the frames of a list start, from position a on. -/
def starts : Nat → List QFrame → List Nat
  | _, [] => []
  | a, f :: l => a :: starts (a + f.bytes.length) l

/-- The next k blocks of a queue, from position a of its unread bytes on: not yet placed. -/
def newBlocks (q : Queue) (a k : Nat) : List SpillBlk :=
  (List.range k).map fun j =>
    let s := a + 2048 * j
    { first := ((starts 0 q.unread).find? fun p => decide (s ≤ p ∧ p < s + 2048)).map (· - s)
      crc := (crc32 (slice (q.unread.flatMap (·.bytes)) s 2048)).toNat }

/-- The channels of the layout of slice n: two of each component (R46, R340). -/
def channels (d : Dev) (n : Nat) : Nat := 8 * (sliceUnit d n).length

/-- The blocks in use in the layout of slice n; every other one is on a free list. -/
def usedNos (d : Dev) (n : Nat) : List Nat :=
  ((List.range 4).filter fun m => sliceUnit d m == sliceUnit d n).flatMap fun m =>
    ((sliceQueues d m).flatMap (·.blocks) ++ (psl d m).leaked ++ (psl d m).owed).filterMap (·.no)

/-- Blocks are placed on successive channels, each on the lowest free block of its channel. Block b lies on channel b modulo the number
of channels. DESIGN CHOICE (log entry 181). -/
def placeBlocks (chans : Nat) : List Nat → Nat → List SpillBlk → List SpillBlk
  | _, _, [] => []
  | used, ch, b :: l =>
    let no := (((List.range (used.length + 1)).map fun k => k * chans + ch).find? fun x => !used.contains x).getD ch
    { b with no := some no } :: placeBlocks chans (no :: used) ((ch + 1) % max 1 chans) l

/-- Blocks of a queue placed in GDDR6: its first k that lie in the reserve (R72, R340). -/
def placeQueue (n : Nat) (eg : Bool) (i k : Nat) (d : Dev) : Dev :=
  let chans := channels d n
  let used := usedNos d n
  modQueue n eg i (fun q =>
    let g := q.spilled - q.reserve
    { q with
      blocks := q.blocks.take g ++ placeBlocks chans used q.chan ((q.blocks.drop g).take k) ++ q.blocks.drop (g + k)
      chan := (q.chan + k) % max 1 chans }) d

/-- A block of 2 KiB in the unit of `Credit`. -/
abbrev blockCost : Nat := 16384000

/-- What is left of the round to slice n, in blocks. -/
def creditOf (d : Dev) (n : Nat) : Credit := tget {} d.pkt.memc.credit n
def modCredit (n : Nat) (f : Credit → Credit) (d : Dev) : Dev :=
  { d with pkt := { d.pkt with memc := { d.pkt.memc with credit := tmod {} d.pkt.memc.credit n f } } }
def readsLeft (d : Dev) (n : Nat) : Nat := (creditOf d n).rd / blockCost
def writesLeft (d : Dev) (n : Nat) : Nat := (creditOf d n).wr / blockCost
def portLeft (d : Dev) (n : Nat) : Nat := (creditOf d n).port / blockCost
def useRead (n k : Nat) (d : Dev) : Dev := modCredit n (fun x => { x with rd := x.rd - k * blockCost }) d
def useWrite (n k : Nat) (d : Dev) : Dev := modCredit n (fun x => { x with wr := x.wr - k * blockCost }) d
def usePort (n k : Nat) (d : Dev) : Dev := modCredit n (fun x => { x with port := x.port - k * blockCost }) d

/-- The GDDR6 interfaces of a MEM group (R337, R520). -/
def ifaces (g : Nat) : List Nat := (List.range 4).map (4 * g + ·)

/-- Burst events counted on interfaces that the manual does not tell: which takes how many is a free value (log entry 158). -/
def spreadBursts (ev k : Nat) : List Nat → Dev → Dev
  | [], d => d
  | [i], d => count (18 + i / 4) (ctrMemc i ev) k d
  | i :: l, d =>
    let x := peekFree d (k + 1)
    spreadBursts ev (k - x) l (count (18 + i / 4) (ctrMemc i ev) x (stepFree d))

/-- Bursts of k blocks of slice n, read (event 0) or written (1): a block lies on one channel of the layout, and blocks rotate over all
(R340, R521). -/
def blockBursts (ev n k : Nat) (d : Dev) : Dev := spreadBursts ev (Config.blockBursts * k) ((sliceUnit d n).flatMap ifaces) d

/-- A written queue spills under R315, as far as the grant of its slice allows: the remainder stays on chip (R21). Blocks of a queue
that has some in the reserve wait until those have moved, in queue order. While the wake unit is not ready its blocks go to the
reserve. Either way the spill write port of the slice carries them (R72). -/
def spillQueue (n : Nat) (eg : Bool) (i : Nat) (d : Dev) : Dev :=
  let q := queueAt d n eg i
  let start := q.spilled == 0
    && (decide (qOnchip q > onchipMax d eg i) || (decide (freeCells d n < 49152) && decide (qOnchip q > 24)))
  if !spillEn d eg i || (q.spilled == 0 && !start) then d
  else
    let head := if start then 2048 else q.head
    let due := blocksDue q head
    let put (add : Nat) : Dev → Dev := modQueue n eg i (fun q => { q with
      blocks := q.blocks ++ newBlocks q (head + blkBytes q.blocks) add, head := head })
    if due = 0 then d
    else if unitReady d n then
      let add := if q.reserve = 0 then min (min due (writesLeft d n)) (portLeft d n) else 0
      if add = 0 then d
      else blockBursts 1 n add <| count (14 + n) (ctrSlice n 1) add
        (useWrite n add (usePort n add (placeQueue n eg i add (put add d))))
    else
      let room := 2048 - reserveBlocks d n
      let d := spillPressure n d
      let add := min (min due room) (portLeft d n)
      if add = 0 then d
      else count (14 + n) (ctrSlice n 3) add (usePort n add (put add d))

/-- The blocks that cover 1.5 µs at the drain rate of a queue, at least 1 (R316). The drain rate is taken as that of its container's
slots, or of its port. DESIGN CHOICE (log entry 184). -/
def drainBlocks (d : Dev) (n : Nat) (eg : Bool) (i : Nat) : Nat :=
  if eg then (1500 * cpRate (servRec d 1 (n * 16 + i / 8)) + 16383) / 16384
  else max 1 (((tget {} d.cont (flowCont d i)).nowSlots * 7734375 + 16383999) / 16384000)

/-- Up to k more blocks of a queue are requested (R316): from the reserve at once, from GDDR6 where the wake unit is ready and the
grant has a read left (R317); a request that cannot be served raises spill pressure or waits. -/
def askBlocks (n : Nat) (eg : Bool) (i : Nat) : Nat → Dev → Dev
  | 0, d => d
  | k + 1, d =>
    let q := queueAt d n eg i
    if decide (q.spilled > q.inFlight) && decide (total ((sliceQueues d n).map (·.inFlight)) < 512) then
      let ask := modQueue n eg i (fun q => { q with inFlight := q.inFlight + 1 })
      if q.spilled - q.inFlight ≤ q.reserve then askBlocks n eg i k (ask d)
      else if !unitReady d n then spillPressure n d
      else if readsLeft d n = 0 then d
      else askBlocks n eg i k (blockBursts 0 n 1 (useRead n 1 (ask d)))
    else d

/-- The head of a queue holds fewer than 4 unread cells, or not the whole of its first frame (R316). -/
def headShort (q : Queue) : Bool :=
  decide (q.head < 1024) || (match q.unread with
    | [] => false
    | f :: _ => decide (q.head < f.bytes.length))

/-- The head of a queue is refilled from its spilled blocks (R316): as many are kept in flight as its drain rate asks for. -/
def refillQueue (n : Nat) (eg : Bool) (i : Nat) (d : Dev) : Dev :=
  let q := queueAt d n eg i
  gate (headShort q) (askBlocks n eg i (max 1 (drainBlocks d n eg i) - q.inFlight)) d

/-- The frame at the head can be read: it is on chip (R319), and no stand-in went out for it (R457). -/
def qHead (q : Queue) : Option QFrame := match q.unread with
  | [] => none
  | f :: _ => if q.spilled != 0 && decide (f.bytes.length > q.head) then none else some f
def qReadable (q : Queue) : Option QFrame := if q.owed = 0 then qHead q else none

/-- Read one frame (R320). -/
def qRead (q : Queue) : Queue := match q.unread with
  | [] => q
  | f :: l => { q with
      unread := l
      held := if q.marked then q.held ++ [f] else q.held
      head := if q.spilled = 0 then 0 else q.head - f.bytes.length
      full := if q.marked then q.full else false }

/-- The frames that the assembly units of a flow's container have read from it, stand-ins included (R321, R457). -/
def unitReads (d : Dev) (f : Nat) : Nat := total ((pct d (flowCont d f)).units.map fun u => tget 0 u.marks f)

/-- Frames that stand-ins went out for leave the queue as they arrive (R457): of `inUnits` reads of units not handed over, those are
held for a rewind. Arguments: fuel, those reads, the queue. -/
def settleOwed : Nat → Nat → Queue → Queue
  | 0, _, q => q
  | k + 1, inUnits, q =>
    if q.owed = 0 || (qHead q).isNone then q
    else
      let keep := q.marked && decide (q.owed ≤ inUnits - q.held.length)
      settleOwed k inUnits { qRead { q with marked := keep } with marked := q.marked, owed := q.owed - 1 }

/-- The frames with an uncorrectable item word that have come to the head of a queue are dropped, and how many (R335). The first
argument is fuel. -/
def qDropBad : Nat → Queue → Queue × Nat
  | 0, q => (q, 0)
  | k + 1, q =>
    if (qReadable q).any (·.bad) then
      let x := qDropBad k { qRead q with held := q.held }
      (x.1, x.2 + 1)
    else (q, 0)

/-- Dropped frames are counted in their flow's class, or in their egress queue (R335; log entry 136). -/
def countLost (n : Nat) (eg : Bool) (i k : Nat) (d : Dev) : Dev :=
  if eg then modQueue n eg i (fun q => { q with lost := q.lost + k }) d
  else count (14 + n) (ctrCq (flowCont d i * 8 + flClass (flowRec d i)) 7) k d

/-- A queue after its read side has moved, or some of its bytes have arrived: stand-ins' frames leave (R457), and frames with an
uncorrectable item word are dropped (R335). -/
def settleQueue (n : Nat) (eg : Bool) (i : Nat) (d : Dev) : Dev :=
  let q := queueAt d n eg i
  let q := settleOwed q.owed (unitReads d i) q
  let x := qDropBad q.unread.length q
  gate (x.2 != 0) (countLost n eg i x.2) (modQueue n eg i (fun _ => qEmptied x.1) d)

/-- A requested block is in the prefetch buffer (R316). -/
def blockArrives (n : Nat) (eg : Bool) (i : Nat) (d : Dev) : Dev :=
  let q := queueAt d n eg i
  if q.inFlight = 0 then d
  else match q.blocks with
  | [] => d
  | b :: l =>
    let d := modQueue n eg i (fun q => { q with
      blocks := l, inFlight := q.inFlight - 1, head := if l.isEmpty then 0 else q.head + b.bytes }) d
    refillQueue n eg i (updPools n (settleQueue n eg i (count (14 + n) (ctrSlice n 2) 1 d)))

/-- The queues of a slice, flow queues first: kind and index. -/
def queueList (d : Dev) (n : Nat) : List (Bool × Nat) :=
  (psl d n).flowq.map (fun e => (false, e.1)) ++ (psl d n).egq.map fun e => (true, e.1)

/-- Each queue of a slice passed through a step. -/
def eachQueue (n : Nat) (f : Bool → Nat → Dev → Dev) (d : Dev) : Dev := (queueList d n).foldl (fun d e => f e.1 e.2 d) d

/-- Reserve contents move to GDDR6 when the wake unit is ready, in queue order and as far as the grant allows (R72, R317); the free
lists that waited for it are brought up to date (R322). -/
def drainReserve (n : Nat) (d : Dev) : Dev :=
  if !unitReady d n then d
  else updPools n (eachQueue n (fun eg i d =>
    let k := min (queueAt d n eg i).reserve (writesLeft d n)
    gate (k != 0) (fun d =>
      blockBursts 1 n k <| count (14 + n) (ctrSlice n 1) k
        (useWrite n k (placeQueue n eg i k d))) d)
    (modPsl n (fun s => { s with owed := [] }) d))

/-- Whether a frame of l bytes at position p has a byte from position a up to b. -/
def touches (a b p l : Nat) : Bool := decide (a < b ∧ a < p + l ∧ p < b)

/-- The frames of a list, the first at position p, that have no byte from a up to b. -/
def cutFrames (a b : Nat) : Nat → List QFrame → List QFrame
  | _, [] => []
  | p, f :: l =>
    let r := cutFrames a b (p + f.bytes.length) l
    if touches a b p f.bytes.length then r else f :: r

/-- The bytes of s to s + l − 1 that belong to frames which have a byte from a up to b. -/
def cutBytes (a b s l : Nat) : Nat → List QFrame → Nat
  | _, [] => 0
  | p, f :: r =>
    (if touches a b p f.bytes.length then min (s + l) (p + f.bytes.length) - max s p else 0) + cutBytes a b s l (p + f.bytes.length) r

/-- The blocks of a queue, the first at position s, without the bytes of those frames. -/
def cutBlocks (a b : Nat) (fs : List QFrame) : Nat → List SpillBlk → List SpillBlk
  | _, [] => []
  | s, x :: l => { x with bytes := x.bytes - cutBytes a b s x.bytes 0 fs } :: cutBlocks a b fs (s + x.bytes) l

/-- k spilled blocks of a queue are lost, from its block j on: every frame with a byte in them is dropped and counted; head, tail and
the other blocks are kept (R22, R78, R335). -/
def loseBlocks (n : Nat) (eg : Bool) (i j k : Nat) (d : Dev) : Dev :=
  let q := queueAt d n eg i
  if k = 0 then d
  else
    let a := q.head + blkBytes (q.blocks.take j)
    let b := a + blkBytes ((q.blocks.drop j).take k)
    let kept := cutFrames a b 0 q.unread
    let l := cutBlocks a b q.unread q.head q.blocks
    let l := l.take j ++ l.drop (j + k)
    let d := modQueue n eg i (fun q => qEmptied { q with
      owed := (cutFrames a b 0 (q.unread.take q.owed)).length
      unread := kept, blocks := l, inFlight := q.inFlight - min k (q.inFlight - j)
      head := if l.isEmpty then 0 else q.head - cutBytes a b 0 q.head 0 q.unread }) d
    updLevels n eg i (settleQueue n eg i (countLost n eg i (q.unread.length - kept.length) d))

/-- Every spilled block of a slice is discarded at a change of layout, which rebuilds the descriptors and free lists, those in the
reserve included, since they count as spilled (R22, R315, R340); at the loss of its wake unit those in GDDR6 (R78). -/
def dropSpilled (withReserve : Bool) (n : Nat) (d : Dev) : Dev :=
  updPools n (eachQueue n (fun eg i d =>
    let q := queueAt d n eg i
    loseBlocks n eg i 0 (if withReserve then q.spilled else q.spilled - q.reserve) d)
    (modPsl n (fun s => { s with owed := [], leaked := s.leaked.filter (·.no.isNone) }) d))

/-! ### Mark, rewind, release, read (R318 to R321) -/

/-- Mark (R320). -/
def qMark (q : Queue) : Queue := { q with marked := true }

/-- Release (R320). -/
def qRelease (q : Queue) : Queue := if q.marked then { q with marked := false, held := [], full := false } else q

/-- Rewind with a mark set (R320). -/
def qRewind (q : Queue) : Queue :=
  { q with
    unread := q.held ++ q.unread, held := []
    head := if q.spilled = 0 then 0 else q.head + framesBytes q.held }

/-- After a read the stale condition of an entry ends, the levels follow and a refill is requested (R316, R331, R333). -/
def afterRead (n : Nat) (eg : Bool) (i : Nat) (d : Dev) : Dev :=
  let sp := if eg then 2 else 1
  let k := if eg then i else flowCont d i * 8 + flClass (flowRec d i)
  refillQueue n eg i (updLevels n eg i (settleQueue n eg i (modWm n sp k (fun w => { w with stale := false }) d)))

/-- A flow queue is rewound (R320); a stand-in of a rewound unit has not gone out (R457). -/
def rewindFlow (c : Nat) (d : Dev) : Dev :=
  let n := ctxSlice c
  let q := flowQ d c
  if q.marked then
    let back := unitReads d c - q.held.length
    count (14 + n) (ctrSlice n 14) 1 (modQueue n false c (fun q => qRewind { q with owed := q.owed - back }) d)
  else
    let d := count (14 + n) (ctrSlice n 15) 1 (modQueue n false c (fun q => { q with rewindErr := true, rewindSeen := true }) d)
    gate (!q.rewindSeen) (evtQm 0x0906 n c []) d

/-- A flow queue is released (R320). -/
def releaseFlow (c : Nat) (d : Dev) : Dev :=
  updLevels (ctxSlice c) false c (modQueue (ctxSlice c) false c qRelease d)

/-! ### Admission (R318, R325, R326) -/

/-- The pool holds the cells that a frame of l bytes needs in queue q. -/
def cellsFree (d : Dev) (n : Nat) (q : Queue) (l : Nat) : Bool :=
  decide (cellsFor (qBytes q + l) - qCells q ≤ freeCells d n)

/-- The tests of R325: the cause of the first that fails, 1 FLOW_FULL to 5 NO_CELL. -/
def flowRefusal (d : Dev) (c l : Nat) (yellow : Bool) : Option Nat :=
  let n := ctxSlice c
  let r := flowRec d c
  let k := flClass r
  let qc := qcRec d (flCont r) k
  let mq := mqRec d n
  let q := flowQ d c
  let level := cqBytes d (flCont r) k
  if qBytes q + l > qcFlowMax qc then some 1
  else if level + l > qcClassMax qc then some 2
  else if !fillBelow d n (mqAdmit mq k) then some 3
  else if yellow && !(decide (level < qcYellowMax qc) && fillBelow d n (mqAdmit mq k - mqMargin mq)) then some 4
  else if !cellsFree d n q l then some 5
  else none

/-- A policed frame is admitted to its flow queue, or refused whole (R318, R325). -/
def writeFlow (c : Nat) (yellow efcs : Bool) (b : Bytes) (d : Dev) : Dev :=
  let n := ctxSlice c
  let r := flowRec d c
  match flowRefusal d c b.length yellow with
  | some cause =>
    count (14 + n) (ctrCq (flCont r * 8 + flClass r) cause) 1
      (modQueue n false c (fun q => { q with full := true, overrun := true }) d)
  | none =>
    let d := modQueue n false c (fun q => { q with
      unread := q.unread ++ [{ bytes := b, yellow := yellow, efcs := efcs, idx := q.idx }]
      idx := (q.idx + 1) % 65536, full := false }) d
    updLevels n false c (spillQueue n false c d)

/-- A delivered frame enters the egress queue of port p and class k of slice n, or is refused (R326). -/
def writeEgress (n p k : Nat) (b : Bytes) (d : Dev) : Dev :=
  let i := p * 8 + k
  let q := egQ d n i
  let mq := mqRec d n
  let cause := if qBytes q + b.length > mqPortMax mq then 1
    else if !fillBelow d n (mqAdmit mq k) then 2 else if !cellsFree d n q b.length then 3 else 0
  if cause != 0 then
    count (14 + n) (ctrEgq (n * 128 + i) cause) 1 (modQueue n true i (fun q => { q with full := true, overrun := true }) d)
  else
    let d := modQueue n true i (fun q => { q with unread := q.unread ++ [{ bytes := b }], full := false }) d
    updLevels n true i (spillQueue n true i d)

/-! ### Flush (R322) -/

/-- The complete frames of one flow are discarded at its boundary; the held region stays. Their blocks in GDDR6 are freed, in
self-refresh at the next wake (R322). -/
def flushFlow (c : Nat) (d : Dev) : Dev :=
  let n := ctxSlice c
  let r := flowRec d c
  let k := (flowQ d c).unread.length
  let asleep := (sliceUnit d n).any fun g => (dom d (18 + g)).st == .selfRefresh
  let d := gate asleep (modPsl n fun s => { s with owed := s.owed ++ (flowQ d c).blocks.filter (·.no.isSome) }) d
  let d := count (14 + n) (ctrCq (flCont r * 8 + flClass r) 6) k
    (modQueue n false c (fun q =>
      { q with unread := [], blocks := [], inFlight := 0, head := 0, owed := 0, deficit := 0, full := false }) d)
  updLevels n false c d

/-- QM_FLUSH_DONE of a job on slice n (R348). -/
def flushDone (n c : Nat) (j : FlushJob) (d : Dev) : Dev :=
  evtQm 0x0904 n (c * 8 + (if j.whole then 7 else j.k)) (be 1 j.whole.toNat) d

/-- A flush is triggered on one class of a container, or on all of them (R322). A container with no available slots has no frame being
read: its flush completes at once (R323). -/
def startFlush (c : Nat) (whole : Bool) (k : Nat) (d : Dev) : Dev :=
  let scope := ((flowsOf d c).filter fun e => whole || flClass e.2 == k).map (·.1)
  let x := tget {} d.cont c
  let stopped := x.pre || x.nowSlots == 0
  let wait := scope.filter fun f => !stopped && (pct d c).cur == some f
  let d := gate (stopped && (pct d c).cur.any scope.contains) (modPct c fun p => { p with cur := none }) d
  let j : FlushJob := { whole := whole, k := k, wait := wait }
  let n := contSlice d c
  let d := count (14 + n) (ctrSlice n 16) 1 (each (scope.filter fun f => !wait.contains f) flushFlow d)
  if wait.isEmpty then flushDone n c j d else modPct c (fun p => { p with jobs := p.jobs ++ [j] }) d

/-- Flow f reaches its packet boundary: the flushes that wait for it take effect (R322). -/
def flushBoundary (f : Nat) (d : Dev) : Dev :=
  let c := flowCont d f
  let mine := (pct d c).jobs.filter fun j => j.wait.contains f
  if mine.isEmpty then d
  else
    let d := flushFlow f d
    let d := modPct c (fun p => { p with
      cur := if p.cur == some f then none else p.cur
      jobs := p.jobs.filter fun j => !j.wait.contains f }) d
    mine.foldl (fun d j => flushDone (contSlice d c) c j d) d

/-- Every complete frame of a flow queue that leaves service is discarded and counted as a flush drop (R322). -/
def dropFlow (c : Nat) (d : Dev) : Dev :=
  let d := flushFlow c d
  let c' := flowCont d c
  gate (tfind d.pkt.cont c').isSome (modPct c' fun p => { p with cur := if p.cur == some c then none else p.cur }) d

/-- The packet container c of slice n, which has been deleted, is flushed with the flows fs that were deleted with it (R322), and the
marks of its units are released. -/
def flushStop (n c : Nat) (fs : List Nat) (d : Dev) : Dev :=
  let d := each fs dropFlow d
  let d := each (((pct d c).units.flatMap fun u => tkeys u.marks).eraseDups) releaseFlow d
  let d := modPsl n (fun s => { s with left := tdrop s.left fs.contains }) d
  flushDone n c { whole := true, k := 0, wait := [] } (count (14 + n) (ctrSlice n 16) 1 d)

/-- The flows of slice n that were deleted with container c. -/
def leftOf (d : Dev) (n c : Nat) : List Nat := ((psl d n).left.filter fun e => flCont e.2 == c).map (·.1)

/-! ### Stale timers and queue reset (R333, R335, R336) -/

/-- The stale timer of an entry expires: space 1 a container queue, 2 an egress queue. -/
def staleExpiry (n space i : Nat) (d : Dev) : Dev :=
  let on := if space = 1 then decide (qcStaleMs (qcRec d (i / 8) (i % 8)) != 0) && decide (contSlice d (i / 8) = n)
    else decide (space = 2) && decide (mqEgStale (mqRec d n) != 0)
  let nonEmpty := if space = 1 then decide (cqBytes d (i / 8) (i % 8) > 0) else decide (qBytes (egQ d n i) > 0)
  if !(on && nonEmpty) then d
  else
    let d := evtQm 0x0903 n i [] (modWm n space i (fun w => { w with stale := true, staleSticky := true }) d)
    gate (space == 1 && qcStaleAct (qcRec d (i / 8) (i % 8))) (startFlush (i / 8) false (i % 8)) d

/-- A queue is reset (R336): its items are discarded, its space counts as used until the sweep. A unit of the line assembler that
held a mark on it is finished without it. -/
def resetQueue (n : Nat) (eg : Bool) (i : Nat) (d : Dev) : Dev :=
  let q := queueAt d n eg i
  let d := modPsl n (fun s => { s with leakCells := s.leakCells + qOnchip q, leaked := s.leaked ++ q.blocks }) d
  let d := modQueue n eg i (fun q => { q with
    unread := [], held := [], marked := false, blocks := [], inFlight := 0, head := 0, owed := 0, deficit := 0, full := false
    dupReset := q.dupReset || !eg }) d
  let c := flowCont d i
  let d := gate (!eg && (tfind d.pkt.cont c).isSome)
    (modPct c fun p => { p with units := p.units.map fun u => { u with marks := tdel u.marks i } }) d
  updLevels n eg i (evtQm 0x0905 n i [] (count (14 + n) (ctrSlice n 8) 1 d))

/-- The sweep reclaims the cells, or the blocks, of reset queues (R336). -/
def sweepDone (n : Nat) (blocks : Bool) (d : Dev) : Dev :=
  updPools n (modPsl n (fun s => if blocks then { s with leaked := [] } else { s with leakCells := 0 }) d)

end Sys2Proof.Machine
end

