-- ==== Sys2Proof/Machine/Zpc.lean ====
section
/-! DEFINITION. ZPC wire formats (R283 to R288), the control queue (R289), the encapsulator and the line assembler (R17, R287,
R291, R321, R327), the sender and receiver context protocol (R293 to R301), delivery (R282, R292, R304). -/

namespace Sys2Proof.Machine

/-! ### Wire formats -/

/-- The CRC-16 of R223. -/
def crcCcitt (b : Bytes) : Nat := (crc16 0x1021 0xFFFF b).toNat

/-- HEC of a header and CRC of a block marker (R285). -/
def zpcHec (b : Bytes) : Nat := Nat.xor (crcCcitt b) 0x0001
def markCrc (b : Bytes) : Nat := Nat.xor (crcCcitt b) 0x0100

/-- A ZPC header (R283): LEN, TYPE, EFCS, CTX, GEN. -/
def zpcHeader (len ty : Nat) (efcs : Bool) (ctx gen : Nat) : Bytes :=
  let h := be 6 (len % 2 ^ 14 * 2 ^ 34 + ty % 8 * 2 ^ 31 + efcs.toNat * 2 ^ 30 + ctx % 2 ^ 18 * 2 ^ 12 + gen % 4 * 2 ^ 10)
  h ++ be 2 (zpcHec h)

/-- Fields of a received header. -/
def zhLen (b : Bytes) : Nat := u48 b 0 / 2 ^ 34 % 2 ^ 14
def zhType (b : Bytes) : Nat := u48 b 0 / 2 ^ 31 % 8
def zhEfcs (b : Bytes) : Bool := wbit b 2 1
def zhCtx (b : Bytes) : Nat := u48 b 0 / 2 ^ 12 % 2 ^ 18
def zhGen (b : Bytes) : Nat := u48 b 0 / 2 ^ 10 % 4
def zhOk (b : Bytes) : Bool := u16 b 6 == zpcHec (slice b 0 6)
/-- LEN in the range of its TYPE (R284). -/
def zhLenOk (b : Bytes) : Bool :=
  let l := zhLen b
  let t := zhType b
  if t = 0 then true else if t = 1 then decide (38 ≤ l ∧ l ≤ 15986) else if t = 2 then decide (64 ≤ l ∧ l ≤ 16000)
  else t == 3 && l == 36

/-- A block marker (R286): SEQ, NEXT, NO_HDR, RESTART. -/
def zpcMarker (seq next : Nat) (noHdr restart : Bool) : Bytes :=
  let m := be 4 seq ++ be 2 (next % 2048 * 32 + noHdr.toNat * 16 + restart.toNat * 8)
  m ++ be 2 (markCrc m)

def zmSeq (b : Bytes) : Nat := u32 b 0
def zmNext (b : Bytes) : Nat := u16 b 4 / 32
def zmNoHdr (b : Bytes) : Bool := wbit b 5 3
def zmRestart (b : Bytes) : Bool := wbit b 5 4
def zmOk (b : Bytes) : Bool := u16 b 6 == markCrc (slice b 0 6)

/-- CODE of a control frame (R288). -/
abbrev ccAnnounce : Nat := 1
abbrev ccAck : Nat := 2
abbrev ccWithdraw : Nat := 3
abbrev ccResync : Nat := 4
abbrev ccFault : Nat := 5

/-- The body of a control frame (R288). -/
def ctlBody (code : Nat) (allF : Bool) (status : Nat) (tpl : Bytes) (fault farPort : Nat) : Bytes :=
  let b := be 1 code ++ be 1 (allF.toNat * 128) ++ be 1 status ++ be 1 tpl.length ++ fit 26 tpl ++ be 1 fault ++ be 1 farPort
  b ++ be 4 (crc32 b).toNat

def cbAll (b : Bytes) : Bool := wbit b 1 0
def cbStatus (b : Bytes) : Nat := u8 b 2
def cbTlen (b : Bytes) : Nat := u8 b 3
def cbTemplate (b : Bytes) : Bytes := slice b 4 (min 26 (cbTlen b))
def cbFault (b : Bytes) : Nat := u8 b 30
def cbFarPort (b : Bytes) : Nat := u8 b 31
/-- The body is whole, its CRC passes and it has the CODE. -/
def cbOk (code : Nat) (b : Bytes) : Bool :=
  b.length == 36 && u8 b 0 == code && u32 b 32 == (crc32 (slice b 0 32)).toNat

/-- The FCS of a frame as its 4 bytes in the order sent: CRC-32, least significant byte first (IEEE 802.3). -/
def fcsOf (b : Bytes) : Bytes := (be 4 (crc32 b).toNat).reverse

/-- The FCS of a whole frame is good. -/
def fcsGood (b : Bytes) : Bool := b.drop (b.length - 4) == fcsOf (b.take (b.length - 4))

/-- The frame with its FCS computed and inverted (R304). -/
def fcsInvert (b : Bytes) : Bytes :=
  let p := b.take (b.length - 4)
  p ++ (fcsOf p).map (fun x => x ^^^ 0xFF)

/-- The self-synchronous x^43 + 1 scrambler of G.7041 (R226): the last 43 bits sent, as a number, and a byte string. Answers the
bytes sent and the last 43 bits after them. -/
def scramble : Nat → Bytes → Bytes × Nat
  | st, [] => ([], st)
  | st, x :: l =>
    let y := x ^^^ BitVec.ofNat 8 (st / 2 ^ 35)
    let r := scramble ((st * 256 + y.toNat) % 2 ^ 43) l
    (y :: r.1, r.2)

/-- Its inverse, from the last 43 bits received. -/
def descramble : Nat → Bytes → Bytes × Nat
  | st, [] => ([], st)
  | st, y :: l =>
    let r := descramble ((st * 256 + y.toNat) % 2 ^ 43) l
    ((y ^^^ BitVec.ofNat 8 (st / 2 ^ 35)) :: r.1, r.2)

/-- A GFP header field of 2 bytes with its HEC (G.7041). -/
def gfpHec (b : Bytes) : Bytes := b ++ be 2 (crc16 0x1021 0 b).toNat

/-- The GFP-F core header of a payload area, XORed as sent (R226). -/
def gfpCoreOf (area : Bytes) : Bytes := ((gfpHec (be 2 area.length)).zip [0xB6, 0xAB, 0x31, 0xE0]).map fun e => e.1 ^^^ e.2

/-- The payload area of a GFP-F client data frame (R256): type header of UPI 0x01 with a null extension header, frame, payload FCS
when asked. -/
def gfpArea (pfcs : Bool) (b : Bytes) : Bytes :=
  gfpHec (be 2 (pfcs.toNat * 4096 + 1)) ++ b ++ (if pfcs then be 4 (crc32 b).toNat else [])

/-- The payload area of a client management frame: PTI 0b100, no payload (R256; G.7041, PRESUMED). -/
def gfpMgmt (upi : Nat) : Bytes := gfpHec (be 2 (0x8000 + upi))

/-- The type header of a payload area passes its tHEC. -/
def gfpTypeOk (area : Bytes) : Bool := gfpHec (area.take 2) == area.take 4
/-- PTI, PFI and UPI of a payload area. -/
def gfpPti (area : Bytes) : Nat := u8 area 0 / 32
def gfpPfi (area : Bytes) : Bool := wbit area 0 3
def gfpUpi (area : Bytes) : Nat := u8 area 1
/-- The client frame of a payload area, and whether its payload FCS fails. -/
def gfpClient (area : Bytes) : Bytes × Bool :=
  let n := area.length - 4 - (if gfpPfi area then 4 else 0)
  let b := slice area 4 n
  (b, gfpPfi area && area.drop (4 + n) != be 4 (crc32 b).toNat)

/-! ### Live bits and counters -/

/-- LIVE bit b of SLn_PKT_ZSTATi (R308). -/
def zLive (c b : Nat) (v : Bool) (d : Dev) : Dev := setLive (.pktZstat (contSlice d c) c) 24 b v d

/-- A flow counter k of ingress flow c, or of range entry c × 32 + e (R307), counts n. -/
def countFlow (c k n : Nat) (d : Dev) : Dev :=
  let i := c * 8 + k
  if n = 0 then d
  else
    let x := tget {} d.pkt.ctr i
    { d with pkt := { d.pkt with ctr := tset d.pkt.ctr i { v := (x.v + n) % 2 ^ 48, wrap := x.wrap || decide (x.v + n ≥ 2 ^ 48) } } }
def countRange (c e k n : Nat) (d : Dev) : Dev := countFlow (2 ^ 18 + c * 32 + e) k n d

/-! ### Sender contexts (R293 to R301) -/

def sndOf (d : Dev) (f : Nat) : Snd := tget {} (psl d (ctxSlice f)).snd f
def modSnd (f : Nat) (g : Snd → Snd) (d : Dev) : Dev := modPsl (ctxSlice f) (fun s => { s with snd := tmod {} s.snd f g }) d

/-- The number of a sender state in a CONTEXT record and digest; WITHDRAWING is 3 and a released context 4 (log entry 130). -/
def sndNo : SndState → Nat
  | .full => 0 | .announcing => 1 | .active => 2

/-- Forward a sender state change (R300). -/
def fwdSnd (op f : Nat) (d : Dev) : Dev :=
  let s := sndOf d f
  let t := s.ann
  fwd kContext f (mfnOf d s.cont) (be 1 op ++ be 1 (sndNo s.st) ++ be 1 s.gen ++ be 1 t.length ++ fit 26 t) d

/-- A control frame enters the container's control queue; false when it is full (R289). -/
def pushCtl (c ctx gen : Nat) (body : Bytes) (d : Dev) : Dev × Bool :=
  if (pct d c).ctl.length ≥ 64 then (zLive c 4 true d, false)
  else
    let d := modPct c (fun p => { p with ctl := p.ctl ++ [(ctx, gen, body)] }) d
    (zLive c 4 (decide ((pct d c).ctl.length ≥ 64)) d, true)

/-- An ACK, RESYNC_REQ or CLIENT_FAULT: dropped and counted at a full queue (R289). -/
def pushLossy (c ctx gen : Nat) (body : Bytes) (d : Dev) : Dev :=
  match pushCtl c ctx gen body d with
  | (d, true) => d
  | (d, false) => count (14 + contSlice d c) (ctrSlice (contSlice d c) 11) 1 d

/-- Send or queue the outstanding ANNOUNCE of a flow. -/
def sendCtx (f : Nat) (d : Dev) : Dev :=
  let s := sndOf d f
  match pushCtl s.cont f s.gen (ctlBody ccAnnounce false 0 s.ann 0 0) d with
  | (d, true) => modSnd f (fun s => { s with sends := s.sends + 1, queued := false }) d
  | (d, false) => modSnd f (fun s => { s with queued := true }) d

/-- The key of a context being withdrawn, and its entry. -/
def wdrKey (c f : Nat) : Nat := c * 2 ^ 18 + f
def wdrOf (d : Dev) (c f : Nat) : Option Wdr := tfind (psl d (ctxSlice f)).wdr (wdrKey c f)
def setWdr (c f : Nat) (w : Wdr) (d : Dev) : Dev := modPsl (ctxSlice f) (fun s => { s with wdr := tset s.wdr (wdrKey c f) w }) d

/-- Forward the withdrawal, or the release, of a context (R300). -/
def fwdWdr (st c f gen : Nat) (d : Dev) : Dev := fwd kContext f (mfnOf d c) (be 1 1 ++ be 1 st ++ be 1 gen ++ zeros 27) d

/-- A context being withdrawn is released. -/
def release (c f : Nat) (w : Wdr) (d : Dev) : Dev :=
  fwdWdr 4 c f w.gen (modPsl (ctxSlice f) (fun s => { s with wdr := tdel s.wdr (wdrKey c f) }) d)

/-- The learning and announcement function of a slice is frozen, or host-assisted (R299, R301). -/
def learnFrozen (d : Dev) (n : Nat) : Bool := isFrozen d 4 n
def learnHost (d : Dev) (n : Nat) : Bool := assisted d 4 n

/-- Send or queue the WITHDRAW of a context; one whose flow is not deleted waits while the function is frozen (R32, R299). -/
def sendWdr (c f : Nat) (d : Dev) : Dev :=
  match wdrOf d c f with
  | none => d
  | some w =>
    if !w.gone && learnFrozen d (ctxSlice f) then setWdr c f { w with queued := true } d
    else match pushCtl c f w.gen (ctlBody ccWithdraw false 0 [] 0 0) d with
      | (d, true) => setWdr c f { w with sends := w.sends + 1, queued := false } d
      | (d, false) => setWdr c f { w with queued := true } d

/-- The container of a flow runs ZPC with compression possible for the flow. -/
def zpcFlow (d : Dev) (f : Nat) : Bool :=
  let r := flowRec d f
  (pct d (flCont r)).zpcOk && flMode r != 0 && (serv d 4 f).isSome && isZpc (ctRec d (flCont r))

/-- ANNOUNCE(g + 1) with a template (R294, R295). -/
def announce (f : Nat) (tpl : Bytes) (d : Dev) : Dev :=
  let n := ctxSlice f
  let g := (tget 0 (psl d n).gens f + 1) % 4
  let d := fwd kContext f (mfnOf d (flowCont d f)) (be 1 5 ++ be 1 0 ++ be 1 g ++ zeros 27)
    (modPsl n (fun s => { s with gens := tset s.gens f g }) d)
  let d := modSnd f (fun s => { s with
    st := .announcing, gen := g, cont := flowCont d f, ann := tpl, sends := 0, delay := false, miss := 0 }) d
  fwdSnd 1 f (sendCtx f d)

/-- CONTENT of a candidate report (R301). -/
def candContent (d : Dev) (f : Nat) : Bytes :=
  let s := sndOf d f
  let t := s.tpl.getD []
  be 4 f ++ be 1 (tget 0 (psl d (ctxSlice f)).gens f) ++ be 1 t.length ++ fit 26 t

/-- The slice has a report outstanding (R301). -/
def candOpen (d : Dev) (n : Nat) : Bool := match tfind d.asst.newest (akey 4 n) with
  | some r => r.opened
  | none => false

/-- A candidate is reported at once, waits in the list of 1,024, or is discarded (R301); a frozen function reports none (R34). -/
def candidate (f reason : Nat) (d : Dev) : Dev :=
  let n := ctxSlice f
  if learnFrozen d n then d
  else if !candOpen d n then report 4 n reason (candContent d f) d
  else if (psl d n).cands.length ≥ 1024 then d
  else modPsl n (fun s => { s with cands := s.cands ++ [{ reason := reason, ctx := f }] }) d

/-- The next candidate is reported (R301). -/
def nextCandidate (n : Nat) (d : Dev) : Dev :=
  match (psl d n).cands with
  | [] => d
  | k :: l => report 4 n k.reason (candContent d k.ctx) (modPsl n (fun s => { s with cands := l }) d)

/-- A template is available: announced at once in hardware mode, reported in host-assisted mode, nothing while frozen (R293,
R299, R301). `reason` is the code of R301. -/
def tryAnnounce (f reason : Nat) (d : Dev) : Dev :=
  let n := ctxSlice f
  let s := sndOf d f
  if !zpcFlow d f || learnFrozen d n || following d || s.delay then d
  else match s.tpl with
    | none => d
    | some t => if learnHost d n then candidate f reason d else announce f t d

/-- A template is set or replaced (R293, R294); while the function is frozen it is kept and not announced (R299). -/
def setTemplate (f : Nat) (t : Bytes) (d : Dev) : Dev :=
  let d := modSnd f (fun s => { s with tpl := some t, miss := 0 }) d
  let d := fwd kContext f (mfnOf d (flowCont d f)) (be 1 2 ++ be 1 0 ++ be 1 (sndOf d f).gen ++ be 1 t.length ++ fit 26 t) d
  tryAnnounce f 1 d

/-- The sender returns to FULL. -/
def sndFull (f : Nat) (d : Dev) : Dev :=
  fwdSnd 1 f (modSnd f (fun s => { s with st := .full, sends := 0, queued := false }) d)

/-- A flow enters service, or returns to ZPC_OK: TEMPLATE_MODE 1 has its template at once (R293). -/
def flowStart (f : Nat) (d : Dev) : Dev :=
  let r := flowRec d f
  if flMode r = 1 then setTemplate f (flTemplate r) d else tryAnnounce f 1 d

/-- The flow is deleted, moved to another container, set to TEMPLATE_MODE 0, or withdrawn by its host: from any state, WITHDRAW of
its current generation on its ZPC_OK container (R294, R299, R301). -/
def withdraw (f : Nat) (gone : Bool) (d : Dev) : Dev :=
  let n := ctxSlice f
  let c := flowCont d f
  let g := tget 0 (psl d n).gens f
  let d := modPsl n (fun x => { x with snd := tdel x.snd f }) d
  gate ((pct d c).zpcOk && isZpc (ctRec d c)) (fun d =>
    fwdWdr 3 c f g (sendWdr c f (setWdr c f { gen := g, gone := gone } d))) d

/-- The control frames that waited in their flows' states go when the queue has room: withdrawals first (R289). -/
def retryQueued (c : Nat) (d : Dev) : Dev :=
  let s := psl d (contSlice d c)
  let d := (s.wdr.filter fun e => e.2.queued && e.1 / 2 ^ 18 == c).foldl (fun d e => sendWdr c (e.1 % 2 ^ 18) d) d
  gate (!learnFrozen d (contSlice d c)) (fun d =>
    (s.snd.filter fun e => e.2.queued && e.2.cont == c).foldl (fun d e => sendCtx e.1 d) d) d

/-- CTX_ACK_RX: an ACK of generation g with its STATUS (R294, R298, R299). -/
def ackRx (c f g : Nat) (body : Bytes) (d : Dev) : Dev :=
  let n := contSlice d c
  let s := sndOf d f
  let stale := count (14 + n) (ctrSlice n 13) 1
  let d := count (14 + n) (ctrSlice n 10) 1 d
  let lead := gate (!following d)
  if !cbOk ccAck body then count (14 + n) (ctrSlice n 12) 1 d
  else if s.st = .announcing ∧ s.gen = g ∧ s.cont = c ∧ cbStatus body ≤ 2 then
    if cbStatus body = 0 then lead (fun d => fwdSnd 1 f (modSnd f (fun s => { s with st := .active, sends := 0 }) d)) d
    else lead (fun d =>
      let d := sndFull f d
      if learnHost d n then candidate f 2 d else modSnd f (fun s => { s with delay := true }) d) d
  else match wdrOf d c f with
    | some w => if w.gen = g ∧ cbStatus body = 3 then lead (release c f w) d else stale d
    | none => stale d

/-- ANN_RETRY passes without an ACK: the ANNOUNCE of a flow, or its WITHDRAW on a container, is sent again, or given up after 8
sends (R294). A standby follows the records of its active. -/
def annRetry (f : Nat) (wdr : Option Nat) (d : Dev) : Dev :=
  let n := ctxSlice f
  let s := sndOf d f
  if following d then d
  else match wdr with
  | some c => (match wdrOf d c f with
    | some w => if w.sends < 8 then sendWdr c f d else release c f w d
    | none => d)
  | none =>
  if s.st ≠ .announcing ∨ learnFrozen d n then d
  else if s.sends < 8 then sendCtx f d
  else
    let d := evtPkt 0x0803 n f [] (sndFull f d)
    if learnHost d n then candidate f 3 d else modSnd f (fun s => { s with delay := true }) d

/-- The reattempt delay of R294 ends. -/
def annReattempt (f : Nat) (d : Dev) : Dev :=
  if !(sndOf d f).delay then d else tryAnnounce f 1 (modSnd f (fun s => { s with delay := false }) d)

/-- A RESYNC_REQ names one flow ACTIVE(g) (R294, R298, R299). -/
def resyncFlow (f : Nat) (d : Dev) : Dev :=
  let d := sndFull f d
  if learnHost d (ctxSlice f) then candidate f 4 d else tryAnnounce f 4 d

/-- CTX_RESYNC_REQ_RX (R294, R297, R298). -/
def resyncRx (c f g : Nat) (body : Bytes) (d : Dev) : Dev :=
  let n := contSlice d c
  let d := count (14 + n) (ctrSlice n 10) 1 d
  if !cbOk ccResync body then count (14 + n) (ctrSlice n 12) 1 d
  else if cbAll body then
    let d := evtPkt 0x0804 n c [1] d
    if following d then d
    else (((psl d n).snd).filter fun e => e.2.cont == c && e.2.st == .active).foldl (fun d e => resyncFlow e.1 d) d
  else
    let s := sndOf d f
    if s.st = .active ∧ s.gen = g ∧ s.cont = c then gate (!following d) (resyncFlow f) d
    else count (14 + n) (ctrSlice n 13) 1 d

/-! ### Receiver tables (R296, R297) -/

/-- The key of an entry: the merged stream is keyed by PATH_A (R427). -/
def rxOwner (d : Dev) (c : Nat) : Nat := match connOf d c with
  | some (8, g, _) => mgA (servRec d 8 g)
  | _ => c
def rxKey (d : Dev) (c f : Nat) : Nat := rxOwner d c * 2 ^ 18 + f % 2 ^ 18

def rxOf (d : Dev) (c f : Nat) : Option RxCtx := tfind (psl d (contSlice d c)).rx (rxKey d c f)

/-- Forward a receiver table change (R300). -/
def fwdRx (op c f g : Nat) (t : Bytes) (d : Dev) : Dev :=
  fwd kContext (2 ^ 31 + rxOwner d c * 2 ^ 18 + f) (mfnOf d c) (be 1 op ++ be 1 0 ++ be 1 g ++ be 1 t.length ++ fit 26 t) d

/-- LIVE bit 5 of every ZPC container of a slice, whose receiver table they share: it is full (R308). -/
def updSliceRx (n : Nat) (d : Dev) : Dev :=
  each ((clientConts d n).filter fun c => isZpc (ctRec d c)) (fun c => zLive c 5 (decide ((psl d n).rx.length ≥ 65536))) d
def updRxFull (c : Nat) (d : Dev) : Dev := updSliceRx (contSlice d c) d

def setRx (c f g : Nat) (t : Bytes) (d : Dev) : Dev :=
  updRxFull c (modPsl (contSlice d c) (fun s => { s with rx := tset s.rx (rxKey d c f) { gen := g, tpl := t } }) d)

/-- CTX_ANNOUNCE_RX (R296). -/
def announceRx (c f g : Nat) (body : Bytes) (d : Dev) : Dev :=
  let n := contSlice d c
  let d := count (14 + n) (ctrSlice n 10) 1 d
  let ack (st : Nat) (d : Dev) : Dev := pushLossy c f g (ctlBody ccAck false st [] 0 0) d
  if !cbOk ccAnnounce body then count (14 + n) (ctrSlice n 12) 1 d
  else if following d then d
  else if !decide (14 ≤ cbTlen body ∧ cbTlen body ≤ 26) then ack 2 d
  else if (rxOf d c f).isNone && decide ((psl d n).rx.length ≥ 65536) then
    let seen := (pct d c).fullSeen
    let d := ack 1 (modPct c (fun p => { p with fullSeen := true }) d)
    gate (!seen) (evtPkt 0x0805 n c []) d
  else
    let t := cbTemplate body
    ack 0 (fwdRx 3 c f g t (setRx c f g t d))

/-- CTX_WITHDRAW_RX (R296). -/
def withdrawRx (c f g : Nat) (body : Bytes) (d : Dev) : Dev :=
  let n := contSlice d c
  let d := count (14 + n) (ctrSlice n 10) 1 d
  if !cbOk ccWithdraw body then count (14 + n) (ctrSlice n 12) 1 d
  else if following d then d
  else if cbAll body then
    let o := rxOwner d c
    let gone := (psl d n).rx.filter fun e => e.1 / 2 ^ 18 == o
    let d := modPsl n (fun s => { s with rx := tdrop s.rx fun k => k / 2 ^ 18 == o }) d
    let d := gone.foldl (fun d e => fwdRx 4 c (e.1 % 2 ^ 18) e.2.gen [] d) d
    pushLossy c 0 0 (ctlBody ccAck false 3 [] 0 0) (updRxFull c d)
  else
    let holds := match rxOf d c f with
      | some e => e.gen == g
      | none => false
    let d := gate holds (fun d => fwdRx 4 c f g [] (updRxFull c
      (modPsl n (fun s => { s with rx := tdel s.rx (rxKey d c f) }) d))) d
    pushLossy c f g (ctlBody ccAck false 3 [] 0 0) d

/-- The receiver's table of a slice is lost: RESYNC_REQ with ALL on one of its containers, at once or when it is ZPC_OK again
(R297). -/
def resyncAll (c : Nat) (d : Dev) : Dev :=
  if !(pct d c).zpcOk then modPct c (fun p => { p with lost := true }) d
  else
    let room := decide ((pct d c).ctl.length < 64)
    let d := pushLossy c 0 0 (ctlBody ccResync true 0 [] 0 0) d
    gate room (evtPkt 0x0804 (contSlice d c) c [0])
      (zLive c 3 true (modPct c (fun p => { p with resync := true, missed := false, lost := false }) d))

/-- WITHDRAW with ALL on a container whose sender is re-woken, at once or when it is ZPC_OK again (R295). -/
def withdrawAll (c : Nat) (d : Dev) : Dev :=
  if !(pct d c).zpcOk then modPct c (fun p => { p with wdrAll := true }) d
  else pushLossy c 0 0 (ctlBody ccWithdraw true 0 [] 0 0) (modPct c (fun p => { p with wdrAll := false }) d)

/-- RESYNC_HOLD passes: RESYNC_REQ with ALL again while DATA_C frames keep missing (R297). -/
def resyncRepeat (c : Nat) (d : Dev) : Dev :=
  let p := pct d c
  if !p.resync then d
  else if p.missed then resyncAll c d
  else zLive c 3 false (modPct c (fun p => { p with resync := false }) d)

/-! ### Delivery (R282, R292, R304) -/

/-- The range entry of a container that serves a CTX: the lowest below RANGE_COUNT; entry 0 for PAYLOAD 3 (R282). -/
def rangeOf (d : Dev) (c ctx : Nat) : Option Nat :=
  let r := pcRec d c
  if ctPayload (ctRec d c) = 3 then some 0
  else (List.range (min 32 (pcRanges r))).find? fun e => decide (rgFirst r e ≤ ctx ∧ ctx ≤ rgLast r e)

/-- A frame whose CTX no range entry holds is dropped and counted; the spec names no counter for it (log entry 136). -/
def dropUnmatched (c : Nat) (d : Dev) : Dev := modPct c (fun p => { p with unmatched := p.unmatched + 1 }) d

/-- A restored frame is delivered to its range entry, with the FCS rules of R304. -/
def deliver (c ctx : Nat) (fromC efcs damaged : Bool) (b : Bytes) (d : Dev) : Dev :=
  let n := contSlice d c
  let o := rxOwner d c
  let r := pcRec d c
  match rangeOf d c ctx with
  | none => dropUnmatched c d
  | some e =>
    let bad := !efcs && (damaged || !fcsGood b)
    let d := gate efcs (countRange o e 3 1) d
    let d := gate bad (countRange o e 4 1) d
    if rgDrop r e then countRange o e 5 1 d
    else if bad && !pcLineFcsFwd r then d
    else
      let b := if efcs || bad then fcsInvert b else b
      let d := countRange o e 0 1 (countRange o e 1 b.length d)
      let d := gate fromC (countRange o e 2 1) d
      writeEgress n (rgPort r e) (rgClass r e) b d

/-- DATA_C_RX (R292, R296). -/
def dataCRx (c f g : Nat) (efcs : Bool) (body : Bytes) (d : Dev) : Dev :=
  let n := contSlice d c
  match rxOf d c f with
  | some e =>
    if e.gen = g then deliver c f true efcs false (e.tpl ++ body) d
    else missC n c f g d
  | none => missC n c f g d
where
  /-- A context miss: dropped, counted, RESYNC_REQ at most once per CTX per RESYNC_HOLD, counted in whole epochs (R296; log entry 161). -/
  missC (_n c f g : Nat) (d : Dev) : Dev :=
    let d := match rangeOf d c f with
      | some e => countRange (rxOwner d c) e 6 1 d
      | none => dropUnmatched c d
    let d := modPct c (fun p => { p with missed := true }) d
    let held := (tfind (pct d c).resyncCtx f).any fun t => decide (now d ≤ t + pcHold (pcRec d c))
    if held then d
    else
      let d := modPct c (fun p => { p with resyncCtx := tset p.resyncCtx f (now d) }) d
      gate (!following d) (pushLossy c f g (ctlBody ccResync false 0 [] 0 0)) d

/-- DATA_F_RX: the body of a ZPC frame, or the payload area of a GFP-F client data frame (R256, R292, R304). A GFP-F frame of another
type, or whose type header fails, is not delivered. -/
def dataFRx (c f : Nat) (efcs gfp : Bool) (body : Bytes) (d : Dev) : Dev :=
  if !gfp then deliver c f false efcs false body d
  else if gfpTypeOk body && gfpPti body == 0 && gfpUpi body == 1 then
    deliver c f false false (gfpClient body).2 (gfpClient body).1 d
  else d

/-! ### Classification and policing (R276 to R280) -/

/-- A TPID that opens a tag (R277). -/
def isTpid (v : Nat) : Bool := v == 0x8100 || v == 0x88A8 || v == 0x9100

/-- The VIDs of the parsed tags of a frame, at most two (R277). -/
def frameTags (b : Bytes) : List Nat :=
  if !isTpid (u16 b 12) then []
  else if !isTpid (u16 b 16) then [u16 b 14 % 4096]
  else [u16 b 14 % 4096, u16 b 18 % 4096]

/-- The EtherType after the last parsed tag (R277). -/
def frameEtype (b : Bytes) : Nat := u16 b (12 + 4 * (frameTags b).length)

/-- A flow record matches a frame exactly by its KEY_TYPE (R277). -/
def flowMatches (r b : Bytes) : Bool :=
  let tags := frameTags b
  let ov := tags.head? == some (flOvid r)
  let t := flKeyType r
  if t = 0 then true
  else if t = 1 then ov
  else if t = 2 then ov && tags.getLast? == some (flIvid r) && tags.length == 2
  else if t = 3 then u48 b 0 == flDa r
  else if t = 4 then ov && u48 b 0 == flDa r
  else frameEtype b == flEtype r

/-- The flow of a frame received on port p of slice n (R277). -/
def classify (d : Dev) (n p : Nat) (b : Bytes) : Option Nat :=
  let fs := (flows d.prov.serv).filter fun e => ctxSlice e.1 == n && flPort e.2 == p
  [2, 4, 1, 3, 5, 0].findSome? fun t => (fs.find? fun e => flKeyType e.2 == t && flowMatches e.2 b).map (·.1)

/-- The buckets of a policer filled to the instant t in ns; one that has not run is full (R280). -/
def fillBucket (r : Bytes) (b : Option Bucket) (t : Nat) : Bucket :=
  let cb := plCbs r * 8000000
  let pb := plPbs r * 8000000
  match b with
  | none => { c := cb, p := pb, at_ := t }
  | some b => { c := min cb (b.c + plCir r * (t - b.at_)), p := min pb (b.p + plPir r * (t - b.at_)), at_ := t }

/-- The verdict of a policer for a frame of l bytes: 0 green, 1 yellow, 2 red; and its buckets (R280). -/
def policeOn (r : Bytes) (b : Bucket) (l : Nat) : Nat × Bucket :=
  let a := plBytes r l * 8000000
  if !plTwoRate r then
    if a ≤ b.c then (0, { b with c := b.c - a }) else (2, b)
  else if b.p < a then (2, b)
  else if a ≤ b.c then (0, { b with c := b.c - a, p := b.p - a })
  else (1, { b with p := b.p - a })

/-- Police a frame of flow f at instant t; a flow without POLICE_EN, or without a policer record, is green. -/
def police (f l t : Nat) (d : Dev) : Nat × Dev :=
  match serv d 5 f with
  | none => (0, d)
  | some r =>
    if !flPolice (flowRec d f) then (0, d)
    else
      let n := ctxSlice f
      let (v, b) := policeOn r (fillBucket r (tfind (psl d n).buckets f) t) l
      (v, modPsl n (fun s => { s with buckets := tset s.buckets f b }) d)

/-- The leading bytes of a frame that a template takes (R290). -/
def templateOf (ext : Nat) (b : Bytes) : Bytes := b.take (14 + 4 * (frameTags b).length + ext)

/-- Learning from a classified frame (R293); none while the function is frozen (R32). -/
def learn (f : Nat) (b : Bytes) (d : Dev) : Dev :=
  let r := flowRec d f
  if flMode r ≠ 2 ∨ following d ∨ learnFrozen d (ctxSlice f) then d
  else match (sndOf d f).tpl with
    | none => setTemplate f (templateOf (flExt r) b) d
    | some t =>
      if b.take t.length == t then modSnd f (fun s => { s with miss := 0 }) d
      else if flRelearn r != 0 && decide (flRelearn r ≤ (sndOf d f).miss + 1) then setTemplate f (templateOf (flExt r) b) d
      else modSnd f (fun s => { s with miss := s.miss + 1 }) d

/-- The verdict held in ADMIT records for the next frame of a port, on a standby IN_STEP (R455, R456). -/
def heldVerdict (d : Dev) (i : Nat) : Option Nat := match tfind d.mate.admission i with
  | some (_, v :: _) => some v
  | _ => none

/-- The verdict in force: the active decides and forwards it; a standby IN_STEP takes the record, or decides for itself and
counts a miss (R455, R456). -/
def settleVerdict (i own : Nat) (d : Dev) : Nat × Dev :=
  if following d && inStep d then
    match heldVerdict d i with
    | some v => (v, modMate (fun m => { m with admission := tmod (0, []) m.admission i fun e => (e.1 + 1, e.2.drop 1) }) d)
    | none => (own, mateMiss d)
  else
    let idx := (tget (0, []) d.mate.admission i).1
    let d := fwd kAdmit i idx (be 1 1 ++ be 1 (own * 64) ++ zeros 36) d
    (own, modMate (fun m => { m with admission := tmod (0, []) m.admission i fun e => ((e.1 + 1) % 2 ^ 32, e.2) }) d)

/-- A classified frame is policed and queued (R16, R280, R304, R325). -/
def admitFrame (i f : Nat) (errored : Bool) (t : Nat) (b : Bytes) (d : Dev) : Dev :=
  let d := gate errored (countFlow f 6 1) d
  if errored && !flFcsFwd (flowRec d f) then d
  else
    let d := learn f b d
    let (v, d) := police f b.length t d
    let own := if v = 2 then 2 else if (flowRefusal d f b.length (v == 1)).isSome then 3 else v
    let (w, d) := settleVerdict i own d
    if w = 2 then countFlow f 2 1 d
    else
      let d := gate (v == 1) (countFlow f 3 1) d
      let d := gate (w ≤ 1) (fun d => countFlow f 0 1 (countFlow f 1 b.length d)) d
      if w = 3 ∧ (flowRefusal d f b.length (v == 1)).isNone then d
      else writeFlow f (v == 1) errored b d

/-! ### The container scheduler (R17, R327) -/

/-- A container that carries ZPC, sends its flows as GFP-F, or sends only idle frames (R273, R274). -/
def carriesZpc (d : Dev) (c : Nat) : Bool := isZpc (ctRec d c) && (pct d c).zpcOk
def carriesGfp (d : Dev) (c : Nat) : Bool :=
  ctPayload (ctRec d c) == 3 || (isZpc (ctRec d c) && !(pct d c).zpcOk && pcFallback (pcRec d c))

/-- The frame goes as DATA_C (R291). -/
def asDataC (d : Dev) (f : Nat) (b : Bytes) : Bool :=
  let s := sndOf d f
  s.st == .active && s.cont == flowCont d f && pcCompress (pcRec d (flowCont d f)) && b.take s.ann.length == s.ann

/-- The payload cost of a frame, without markers (R306, R327). -/
def frameCost (d : Dev) (c f : Nat) (x : QFrame) : Nat :=
  let l := x.bytes.length
  if carriesZpc d c then if asDataC d f x.bytes then l - (sndOf d f).ann.length + 8 else l + 8
  else 8 + l + (if ctPfcs (ctRec d c) then 4 else 0)

/-- The key of the flows that STALL records name for a unit: container and MFN (R455). -/
def stallKey (c mfn : Nat) : Nat := c * 2 ^ 32 + mfn

/-- The standby serves the flows of a container as its mate does, stand-ins included: it is IN_STEP and PKT_STEP is set (R457). -/
def standsIn (d : Dev) (c : Nat) : Bool :=
  following d && d.mate.st == 4 && rb d (.pktZstat (contSlice d c) c) 8

/-- The frame of a flow that the scheduler may serve, and whether a stand-in has to go out for it: one whose bytes the standby lacks
(R319, R457). -/
def nextFrame (d : Dev) (c f : Nat) : Option (QFrame × Bool) :=
  let q := flowQ d f
  match qReadable q with
  | some x => some (x, false)
  | none => if standsIn d c then (q.unread[q.owed]?).map fun x => (x, true) else none

/-- The flows of a container and class that can be served now, with the cost of their next frame; a flow named in a STALL record
of the unit is stalled (R319, R457). -/
def ready (d : Dev) (c k : Nat) : List (Nat × Nat) :=
  let stalled := tget [] d.mate.stall (stallKey c (mfnOf d c))
  ((flowsOf d c).filter fun e => flClass e.2 == k && !stalled.contains e.1).filterMap fun e =>
    (nextFrame d c e.1).map fun x => (e.1, frameCost d c e.1 x.1)

/-- Deficit weighted round robin over the ready flows of one class: the deficits grow by the quanta, in the order of the round,
until one frame fits. Arguments: fuel, ready flows, position, deficits. Answers the flow and the deficits. -/
def dwrr (d : Dev) (l : List (Nat × Nat)) : Nat → Nat → Tbl Nat → Option (Nat × Tbl Nat)
  | 0, _, _ => none
  | k + 1, cur, t =>
    match l.find? fun e => e.1 == cur with
    | some e =>
      if e.2 ≤ tget 0 t cur then some (cur, tset t cur (tget 0 t cur - e.2))
      else next k cur t
    | none => next k cur t
where
  /-- The round moves to the next ready flow, which gains its quantum. -/
  next (k cur : Nat) (t : Tbl Nat) : Option (Nat × Tbl Nat) :=
    match (l.find? fun e => decide (cur < e.1)).orElse fun _ => l.head? with
    | none => none
    | some e => dwrr d l k e.1 (tset t e.1 (tget 0 t e.1 + flQuantum (flowRec d e.1)))

/-- The flow that the scheduler serves next in a container, with the new deficits of its class and the round (R17). -/
def schedule (d : Dev) (c : Nat) : Option (Nat × Nat × Tbl Nat) :=
  [7, 6, 5, 4, 3, 2, 1, 0].findSome? fun k =>
    let l := ready d c k
    if l.isEmpty then none
    else
      let t := l.foldl (fun t e => tset t e.1 (flowQ d e.1).deficit) ([] : Tbl Nat)
      (dwrr d l (256 * (l.length + 1)) (tget 0 (pct d c).round k) t).map fun r => (k, r.1, r.2)

/-- A frame of the scheduled flow is read, marked at its first read within the unit (R320, R321, R327); one that a stand-in goes
out for stays until it arrives (R457). -/
def takeFrame (c k f : Nat) (t : Tbl Nat) (standIn : Bool) (d : Dev) : Dev :=
  let n := ctxSlice f
  let inUnit := !(pct d c).units.isEmpty
  let d := t.foldl (fun d e => modQueue n false e.1 (fun q => { q with deficit := e.2 }) d) d
  let d := modQueue n false f (fun q =>
    let q := if inUnit then qMark q else qRelease q
    let q := if standIn then { q with owed := q.owed + 1 } else qRead q
    if q.unread.length ≤ q.owed then { q with deficit := 0 } else q) d
  let d := modPct c (fun p => { p with
    round := tset p.round k f
    units := match p.units.reverse with
      | [] => []
      | u :: l => (l.reverse) ++ [{ u with marks := tmod 0 u.marks f (· + 1) }] }) d
  if standIn then refillQueue n false f d else count (14 + n) (ctrCq (c * 8 + k) 0) 1 (afterRead n false f d)

/-! ### The encapsulator (R287, R289) -/

/-- The markers that fall into the next n payload bytes: fuel, bytes left of the block, bytes left of the frame, SEQ, RESTART,
markers so far. Answers bytes left, SEQ, RESTART, markers. -/
def markers : Nat → Nat → Nat → Nat → Bool → List Bytes → Nat × Nat × Bool × List Bytes
  | 0, left, _, seq, rs, ms => (left, seq, rs, ms)
  | k + 1, left, n, seq, rs, ms =>
    if left = 0 then
      let m := if n < 2048 then zpcMarker seq n false rs else zpcMarker seq 0 true rs
      markers k 2048 n ((seq + 1) % 2 ^ 32) false (ms ++ [m])
    else if left < n then markers k 0 (n - left) seq rs ms
    else (left - n, seq, rs, ms)

/-- A marker is due before the next header: it starts a block whose first header follows at once. -/
def openBlock (c : Nat) (d : Dev) : Dev :=
  let p := pct d c
  if p.left != 0 then modPct c (fun p => { p with marks := [] }) d
  else modPct c (fun p => { p with
    left := 2048, seq := (p.seq + 1) % 2 ^ 32, restart := false, ctlInBlock := false, marks := [zpcMarker p.seq 0 false p.restart] }) d

/-- A ZPC frame goes out: its header, its body scrambled, and the markers that fall inside it (R226, R287). -/
def emitZpc (c : Nat) (isCtl : Bool) (h b : Bytes) (d : Dev) : Dev :=
  let p := pct d c
  let (left, seq, rs, ms) := markers 20 p.left (h.length + b.length) p.seq p.restart []
  modPct c (fun p => { p with
    sent := h ++ (scramble p.scr b).1, scr := (scramble p.scr b).2, left := left, seq := seq, restart := rs, marks := p.marks ++ ms
    ctlInBlock := (p.ctlInBlock || isCtl) && ms.isEmpty }) d

/-- A GFP-F frame goes out: its core header, and its payload area scrambled (R226). -/
def emitGfp (c : Nat) (area : Bytes) (d : Dev) : Dev :=
  modPct c (fun p => { p with sent := gfpCoreOf area ++ (scramble p.scr area).1, scr := (scramble p.scr area).2, marks := [] }) d

/-- One data frame of flow f as DATA_C, DATA_F or GFP-F, with its counters; GEN is the current generation of its index (R284, R291,
R307). -/
def sendData (c f : Nat) (x : QFrame) (d : Dev) : Dev :=
  let g := tget 0 (psl d (ctxSlice f)).gens f
  if !carriesZpc d c then emitGfp c (gfpArea (ctPfcs (ctRec d c)) x.bytes) d
  else if asDataC d f x.bytes then
    let b := x.bytes.drop (sndOf d f).ann.length
    countFlow f 4 1 (emitZpc c false (zpcHeader b.length 1 x.efcs f g) b d)
  else countFlow f 5 1 (emitZpc c false (zpcHeader x.bytes.length 2 x.efcs f g) x.bytes d)

/-- Fill: a ZPC IDLE frame of a body length, or a GFP-F idle frame (R284, R319). -/
def sendIdle (c len : Nat) (d : Dev) : Dev :=
  if isZpc (ctRec d c) && !carriesGfp d c then emitZpc c false (zpcHeader len 0 false 0 0) (zeros len) d
  else emitGfp c [] d

/-- The stand-in of a frame: a ZPC IDLE frame of equal LEN, or a GFP-F client data frame of the same PLI with a zero payload and a
failing FCS (R457). Each counts as a miss. -/
def sendStandIn (c f : Nat) (x : QFrame) (d : Dev) : Dev :=
  let l := x.bytes.length
  mateMiss (if carriesZpc d c then sendIdle c (frameCost d c f x - 8) d
    else
      let pfcs := ctPfcs (ctRec d c)
      emitGfp c (gfpHec (be 2 (pfcs.toNat * 4096 + 1)) ++ zeros l
        ++ (if pfcs then (be 4 (crc32 (zeros l)).toNat).map (255 - ·) else [])) d)

/-- Frames that reach the head of a queue while the container is not ZPC_OK and has no fallback are dropped (R274). -/
def dropHeads (c : Nat) (d : Dev) : Dev :=
  (flowsOf d c).foldl (fun d e => match qReadable (flowQ d e.1) with
    | none => d
    | some _ =>
      let n := ctxSlice e.1
      countFlow e.1 7 1 (afterRead n false e.1 (modQueue n false e.1 (fun q => { qRead q with held := q.held }) d))) d

/-- One frame at a frame boundary: a control frame before data unless one started in the block, data by the scheduler, else
idle of `idle` body bytes (R289, R319). Answers the payload bytes it takes. -/
def encapFrame (c idle : Nat) (d : Dev) : Nat × Dev :=
  let zpc := isZpc (ctRec d c) && !carriesGfp d c
  let d := gate zpc (openBlock c) d
  let p := pct d c
  match p.ctl, (zpc && (p.zpcOk && !p.ctlInBlock)) with
  | (ctx, gen, body) :: rest, true =>
    let n := contSlice d c
    let d := modPct c (fun p => { p with
      ctl := rest
      units := match p.units.reverse with
        | [] => []
        | u :: l => l.reverse ++ [{ u with ctl := u.ctl ++ [(ctx, gen, body)] }] }) d
    let d := retryQueued c (zLive c 4 false d)
    (44, count (14 + n) (ctrSlice n 9) 1 (emitZpc c true (zpcHeader 36 3 false ctx gen) body d))
  | _, _ =>
    if isZpc (ctRec d c) && !p.zpcOk && !pcFallback (pcRec d c) then (8 + idle, sendIdle c idle (dropHeads c d))
    else match schedule d c with
      | none =>
        let n := contSlice d c
        (if zpc then 8 + idle else 4, sendIdle c idle (count (14 + n) (ctrSlice n 4) 1 d))
      | some (k, f, t) => match nextFrame d c f with
        | none => (8 + idle, sendIdle c idle d)
        | some (x, lacks) =>
          (frameCost d c f x, modPct c (fun p => { p with cur := some f })
            ((if lacks then sendStandIn else sendData) c f x (takeFrame c k f t lacks d)))

/-- ZPC_ENCAP_FRAME: one frame of a packet container in service (R289). -/
def zpcEncapFrame (c : Nat) (d : Dev) : Dev :=
  if isPkt (ctRec d c) && (serv d 2 c).isSome && domReady d (14 + contSlice d c) then
    let d := (encapFrame c 0 d).2
    match (pct d c).cur with
    | some f => flushBoundary f (modPct c (fun p => { p with cur := none }) d)
    | none => d
  else d

/-- Frames until the unit's payload is used up; fuel bounds the count. -/
def fillUnit (c : Nat) : Nat → Nat → Dev → Dev
  | 0, _, d => d
  | k + 1, n, d =>
    let d := match (pct d c).cur with
      | some f => flushBoundary f (modPct c (fun p => { p with cur := none }) d)
      | none => d
    let (used, d) := encapFrame c (min 16383 (n - 8)) d
    if used < n then fillUnit c k (n - used) d
    else
      let over_ := used - n
      modPct c (fun p => { p with rest := over_, cur := if over_ = 0 then none else p.cur }) d

/-- An active names the flows that a unit finds stalled in STALL records, at most 12 to a record (R455, R456; log entry 156). -/
def sendStalls (c : Nat) (d : Dev) : Dev :=
  let l := ((flowsOf d c).filter fun e => !(flowQ d e.1).unread.isEmpty && (qReadable (flowQ d e.1)).isNone).map (·.1)
  each (List.range ((l.length + 11) / 12)) (fun i d =>
    let m := (l.drop (12 * i)).take 12
    fwd kStall c (mfnOf d c) (be 1 m.length ++ m.flatMap fun f => be 3 f) d) d

/-- LINE_ASSEMBLY_UNIT: one unit of n payload bytes, at most 2 units ahead (R321, R369). -/
def assembleUnit (c n : Nat) (d : Dev) : Dev :=
  let p := pct d c
  if !(isPkt (ctRec d c) && (serv d 2 c).isSome && domReady d (14 + contSlice d c)) || p.units.length ≥ 2
    || (partnerOf d.prov.serv c).isSome then d
  else
    let u : AsmUnit := {
      deficits := (flowsOf d c).map fun e => (e.1, (flowQ d e.1).deficit)
      round := p.round, rest := p.rest, cur := p.cur, seq := p.seq, left := p.left, restart := p.restart
      ctlInBlock := p.ctlInBlock, scr := p.scr }
    let d := modPct c (fun p => { p with units := p.units ++ [u] }) (sendStalls c d)
    let d := if n ≤ p.rest then modPct c (fun p => { p with rest := p.rest - n }) d
      else fillUnit c (n / 4 + 2) (n - p.rest) (modPct c (fun p => { p with rest := 0 }) d)
    modMate (fun m => { m with
      stall := tdel m.stall (stallKey c (mfnOf d c)), mfn := tmod 0 m.mfn c fun x => (x + 1) % 2 ^ 32 }) d

/-- ASSEMBLY_UNIT_HANDOFF: the marks of the oldest unit are released; a flow read again in a later unit keeps its mark at the
first frame of that unit (R321). -/
def unitHandoff (c : Nat) (d : Dev) : Dev :=
  match (pct d c).units with
  | [] => d
  | u :: rest =>
    let d := modPct c (fun p => { p with units := rest }) d
    u.marks.foldl (fun d e =>
      if rest.any fun v => (tfind v.marks e.1).isSome then
        updLevels (ctxSlice e.1) false e.1 (modQueue (ctxSlice e.1) false e.1 (fun q => { q with held := q.held.drop e.2 }) d)
      else releaseFlow e.1 d) d

/-- Every unit not yet handed over is rewound: queues, deficits, class position, control frames and stream position return to
the start of the oldest (R321, R369). -/
def rewindUnits (c : Nat) (d : Dev) : Dev :=
  match (pct d c).units with
  | [] => d
  | u :: rest =>
    let fs := (u :: rest).foldl (fun (l : List Nat) v => l ++ (tkeys v.marks).filter fun f => !l.contains f) []
    let d := fs.foldl (fun d f => updLevels (ctxSlice f) false f (rewindFlow f d)) d
    let d := u.deficits.foldl (fun d e => modQueue (ctxSlice e.1) false e.1 (fun q => { q with deficit := e.2 }) d) d
    let d := modPct c (fun p => { p with
      units := [], round := u.round, rest := u.rest, cur := u.cur, seq := u.seq, left := u.left, restart := u.restart
      ctlInBlock := u.ctlInBlock, scr := u.scr
      ctl := ((u :: rest).flatMap (·.ctl)) ++ p.ctl }) d
    zLive c 4 (decide ((pct d c).ctl.length ≥ 64)) d

/-! ### ZPC_OK (R273, R274) -/

/-- PKT_ZPC_STATE DETAIL byte 0 (R310). -/
def zpcStateNo (d : Dev) (c : Nat) : Nat := if (pct d c).zpcOk then 1 else if pcFallback (pcRec d c) then 2 else 3

/-- A WITHDRAW with ALL is still owed to the far end: not sent, or waiting in the control queue (R295). -/
def wdrOwed (p : PktCont) : Bool := p.wdrAll || p.ctl.any fun e => u8 e.2.2 0 == ccWithdraw && cbAll e.2.2

/-- ZPC_OK of a container takes the value v: on a change every sender context returns to FULL without a control frame, and
received faults end (R274, R305). WITHDRAW and RESYNC_REQ with ALL that were not sent go first when it holds again (R295, R297). -/
def setZpcOk (c : Nat) (v : Bool) (d : Dev) : Dev :=
  if (pct d c).zpcOk == v then d
  else
    let n := contSlice d c
    let faulted := if v then [] else tkeys (pct d c).faultRx
    let mine := ((psl d n).snd.filter fun e => e.2.cont == c || flowCont d e.1 == c).map (·.1)
    let d := modPct c (fun p => { p with
      zpcOk := v, ctl := [], faultRx := if v then p.faultRx else []
      wdrAll := wdrOwed p
      lost := p.lost || p.resync, resync := false, missed := false, resyncCtx := [] }) d
    let d := modPsl n (fun s => { s with wdr := tdrop s.wdr fun k => k / 2 ^ 18 == c }) d
    let d := mine.foldl (fun d f => sndFull f d) d
    let d := zLive c 0 v (zLive c 1 (!v && pcFallback (pcRec d c)) (zLive c 3 false (zLive c 4 false d)))
    let d := gate (!v) (fun d => zLive c 6 false (zLive c 7 false d)) d
    let d := each faulted (fun i => evtPkt 0x0806 n i []) d
    let d := evtPkt 0x0802 n c (be 1 (zpcStateNo d c)) d
    let d := gate (v && (pct d c).wdrAll) (withdrawAll c) d
    let d := gate (v && (pct d c).lost) (resyncAll c) d
    gate v (fun d => (flowsOf d c).foldl (fun d e => flowStart e.1 d) d) d

/-! ### Client faults across the container (R305) -/

/-- The containers that carry a flow of client port i. -/
def contsOfPort (d : Dev) (i : Nat) : List Nat :=
  (((flows d.prov.serv).filter fun e => ctxSlice e.1 * 16 + flPort e.2 == i).map fun e => flCont e.2).eraseDups.filter fun c =>
    carriesZpc d c

/-- CLIENT_FAULT with a FAULT is sent on each ZPC container of a port (R305). -/
def sendFault (i fault : Nat) (d : Dev) : Dev :=
  each (contsOfPort d i) (fun c => pushLossy c 0 0 (ctlBody ccFault false 0 [] fault i)) d

/-- FAULT of a client port: 1 Local Fault, 2 Remote Fault, 0 none, from LF_RX and RF_RX (R305). -/
def faultOf (d : Dev) (i : Nat) : Nat :=
  if rb d (.cliPstat (i / 16) (i % 16)) 6 then 1 else if rb d (.cliPstat (i / 16) (i % 16)) 7 then 2 else 0

/-- CLIENT_FAULT_REFRESH_TX: a non-zero fault of a PACKET port is repeated (R305). -/
def refreshFault (i : Nat) (d : Dev) : Dev :=
  gate (cpMode (servRec d 1 i) == 1 && faultOf d i != 0) (sendFault i (faultOf d i)) d

/-- The local ports whose range entries name a far port (R305). -/
def portsOfFar (d : Dev) (c far : Nat) : List Nat :=
  let r := pcRec d c
  (((List.range (min 32 (pcRanges r))).filter fun e => far != 0xFF && rgFar r e == far).map fun e => contSlice d c * 16 + rgPort r e).eraseDups

/-- A received FAULT applies to the ports that name the far port (R305). -/
def applyFault (c far fault : Nat) (d : Dev) : Dev :=
  (portsOfFar d c far).foldl (fun d i =>
    if tget 0 (pct d c).faultRx i = fault then d
    else
      let d := modPct c (fun p => { p with faultRx := if fault = 0 then tdel p.faultRx i else tset p.faultRx i fault }) d
      let any (v : Nat) : Bool := (pct d c).faultRx.any fun e => e.2 == v
      evtPkt 0x0806 (contSlice d c) i [] (zLive c 6 (any 1) (zLive c 7 (any 2) d))) d

/-- CLIENT_FAULT_FRAME_RX (R305). -/
def faultRx (c : Nat) (body : Bytes) (d : Dev) : Dev :=
  let n := contSlice d c
  let d := count (14 + n) (ctrSlice n 10) 1 d
  if !cbOk ccFault body then count (14 + n) (ctrSlice n 12) 1 d
  else if !(pct d c).zpcOk then d
  else applyFault c (cbFarPort body) (cbFault body) d

/-- The received fault of a port, over its containers: 0 none, 1 Local Fault, 2 Remote Fault. -/
def portFault (d : Dev) (i : Nat) : Nat :=
  let fs := d.pkt.cont.filterMap fun e => tfind e.2.faultRx i
  if fs.contains 1 then 1 else if fs.contains 2 then 2 else 0

end Sys2Proof.Machine
end

