-- ==== Sys2Proof/Machine/Delineate.lean ====
section
/-! DEFINITION. Container delineation: the ZPC delineator of R227 and the GFP-F delineator of R231. -/

namespace Sys2Proof.Machine

/-- PT of ZPC (R257) and of GFP-F (G.709). -/
abbrev ptZpc : Nat := 0x8A
abbrev ptGfp : Nat := 0x05

/-- The delineator is held in HUNT: its container carries a maintenance signal, or its line port is in OOF (R225). -/
def delinHeld (d : Dev) (c : Nat) : Bool :=
  (tget {} d.cont c).rxSig != 0 || !(tget {} d.line (lineOf c)).fr.inFrame

/-- A ZPC, or a GFP-F, delineator runs for container c (R275). -/
def zpcDelin (d : Dev) (c : Nat) : Bool := isZpc (ctRec d c) && (pct d c).rxPt == ptZpc
def gfpDelin (d : Dev) (c : Nat) : Bool :=
  ctPayload (ctRec d c) == 3 || (isZpc (ctRec d c) && (pct d c).rxPt == ptGfp)

/-- The new state of a delineator, with LIVE bit 2 (R308). -/
def setDelin (c : Nat) (x : Delin) (d : Dev) : Dev := zLive c 2 (x.st == 2) (modPct c (fun p => { p with delin := x }) d)

/-- Count an event of the DELIN bank (R521). -/
def countDelin (c e n : Nat) (d : Dev) : Dev := count (14 + contSlice d c) (ctrDelin c e) n d

/-- The header that a marker at position p names; none when no header starts in its block (R286). -/
def markHeader (p : Nat) (m : Bytes) : Option Nat := if zmNoHdr m then none else some (p + 8 + zmNext m)

/-- NEXT of a marker agrees with the predicted header (R227). -/
def markAgrees (p : Nat) (m : Bytes) (next : Option Nat) : Bool := match next with
  | none => true
  | some h => if p + 8 + 2048 ≤ h then zmNoHdr m else markHeader p m == some h

/-- HUNT, resuming at a byte position. -/
def hunt (x : Delin) (at_ : Nat) : Delin := { x with st := 0, good := 0, err := 0, next := none, resume := at_, due := none }

/-- A header failure in SYNC: discard up to a position, or HUNT at the third (R227). -/
def failHeader (x : Delin) (next : Option Nat) (after : Nat) : Delin :=
  if x.err + 1 ≥ 3 then hunt x after else { x with err := x.err + 1, next := next, due := none }

/-- ZPC_MARKER_RX: 8 bytes at a byte position of the demapped stream (R227). -/
def markerRx (c p : Nat) (m : Bytes) (d : Dev) : Dev :=
  let x := (pct d c).delin
  if !zpcDelin d c || !domReady d (14 + contSlice d c) || delinHeld d c || m.length != 8 then d
  else if x.st = 0 then
    if zmOk m && decide (x.resume ≤ p) then
      setDelin c { x with st := 1, good := 0, err := 0, grid := p + 2056, next := markHeader p m, seq := zmSeq m, entry := p } d
    else d
  else if p ≠ x.grid then d
  else if x.st = 1 then
    if zmOk m && zmSeq m == (x.seq + 1) % 2 ^ 32 && markAgrees p m x.next then
      setDelin c { x with
        grid := p + 2056, seq := zmSeq m, next := if x.next.isNone then markHeader p m else x.next } d
    else
      let d := gate (!zmOk m) (countDelin c 1 1) d
      setDelin c (hunt x (x.entry + 8)) d
  else if !zmOk m then
    -- the failed marker lies between the newest header and the position predicted from it: its frame is lost (R228)
    countDelin c 1 1 (countDelin c 0 x.due.isSome.toNat
      (setDelin c { x with grid := p + 2056, seq := (x.seq + 1) % 2 ^ 32, due := none } d))
  else
    let d := gate (zmSeq m != (x.seq + 1) % 2 ^ 32 && !zmRestart m) (countDelin c 2 1) d
    let y := { x with grid := p + 2056, seq := zmSeq m }
    if x.next.isNone then setDelin c { y with next := markHeader p m } d
    else if markAgrees p m x.next then setDelin c y d
    else countDelin c 0 1 (countDelin c 3 1 (setDelin c (failHeader y (markHeader p m) (p + 8)) d))

/-- The position of the next header after one at p with LEN body bytes, with 8 for every marker in between (R227). -/
def nextHeader (grid p len : Nat) : Nat :=
  let n := 8 + len
  let a := grid - p
  let k := if a ≤ n then 1 + (n - a) / 2048 else 0
  p + n + 8 * k

/-- The bytes between two headers that no frame of the container took pass through the descrambler (R226). -/
def skipBytes (c : Nat) (b : Bytes) (d : Dev) : Dev := modPct c (fun p => { p with des := (descramble p.des b).2 }) d

/-- ZPC_HEADER_RX: 8 header bytes at their predicted position, and the body bytes skipped before them (R227, R284). A correct header
in SYNC, or that completes it, of a frame to be handled makes its body due (R228). -/
def headerRx (c p : Nat) (skipped h : Bytes) (d : Dev) : Dev :=
  let x := (pct d c).delin
  if !zpcDelin d c || !domReady d (14 + contSlice d c) || delinHeld d c || h.length != 8 || x.st == 0 || x.next != some p then d
  else
  let d := skipBytes c skipped d
  if zhOk h then
    let good := x.good + 1
    let st := if x.st = 1 ∧ good ≥ 2 then 2 else x.st
    let sync := st == 2
    let y := { x with
      st := st, next := some (nextHeader x.grid p (zhLen h)), good := good, err := 0
      due := if sync && zhType h != 0 && zhLenOk h then some h else none }
    let d := gate (sync && zhType h == 0) (countDelin c 7 1) d
    let d := gate (sync && !zhLenOk h) (countDelin c 4 1) d
    setDelin c y d
  else if x.st = 1 then setDelin c (hunt x (x.entry + 8)) d
  else countDelin c 0 1 (countDelin c 3 1 (setDelin c (failHeader x none (p + 8)) d))

/-- A GFP core header as received, its scrambling XOR removed (R226). -/
def gfpCore (b : Bytes) : Bytes := (b.zip [0xB6, 0xAB, 0x31, 0xE0]).map fun e => e.1 ^^^ e.2
def gfpOk (b : Bytes) : Bool := u16 b 2 == (crc16 0x1021 0 (slice b 0 2)).toNat
/-- A core header with bit i of 32 inverted. -/
def flipBit (b : Bytes) (i : Nat) : Bytes := be 4 (Nat.xor (u32 b 0) (2 ^ i))
/-- The header corrected for a single-bit error; none where there is no such correction. -/
def gfpCorrect (b : Bytes) : Option Bytes := ((List.range 32).map (flipBit b)).find? gfpOk
/-- The position after a GFP frame of core header b at p. -/
def gfpNext (p : Nat) (b : Bytes) : Nat := p + 4 + u16 b 0

/-- The core header of a client frame makes its payload area due; an idle or control frame has none (R228, G.7041). -/
def gfpDue (b : Bytes) : Option Bytes := if 4 ≤ u16 b 0 then some b else none

/-- GFP_CORE_HEADER_RX: 4 bytes at a byte position, and the payload-area bytes skipped before them (R231). -/
def gfpHeaderRx (c p : Nat) (skipped raw : Bytes) (d : Dev) : Dev :=
  let x := (pct d c).delin
  let b := gfpCore raw
  if !gfpDelin d c || !domReady d (14 + contSlice d c) || delinHeld d c || raw.length != 4 then d
  else
  let d := skipBytes c skipped d
  if x.st = 0 then
    if gfpOk b && decide (x.resume ≤ p) then
      setDelin c { x with st := 1, good := 0, err := 0, next := some (gfpNext p b), entry := p } d
    else d
  else if x.next ≠ some p then d
  else if x.st = 1 then
    if !gfpOk b then setDelin c (hunt x (x.entry + 1)) d
    else setDelin c { x with
      good := x.good + 1, next := some (gfpNext p b), st := if x.good + 1 ≥ 2 then 2 else 1
      due := if x.good + 1 ≥ 2 then gfpDue b else none } d
  else if gfpOk b then setDelin c { x with err := 0, next := some (gfpNext p b), due := gfpDue b } d
  else match (if ctHecCorr (ctRec d c) then gfpCorrect b else none) with
    | some y => countDelin c 5 1 (setDelin c { x with err := 0, next := some (gfpNext p y), due := gfpDue y } d)
    | none => countDelin c 0 1 (countDelin c 6 1 (setDelin c (failHeader x (some (gfpNext p b)) (p + 4)) d))

/-- RX_PT_CHANGE: a changed payload type restarts the delineator of a PAYLOAD 4 container in HUNT (R275). -/
def rxPtChange (c pt : Nat) (d : Dev) : Dev :=
  if !isZpc (ctRec d c) || (pct d c).rxPt == pt then d
  else setDelin c {} (modPct c (fun p => { p with rxPt := pt % 256 }) d)

/-- The delineator of the container is in SYNC and not held (R225, R228). -/
def delinOk (d : Dev) (c : Nat) : Bool := (pct d c).delin.st == 2 && !delinHeld d c

/-- The containers whose frames enter the packet engine as those of container c: its own; in a protection group those of the
selected container alone (R261); in a merge group that delivers, both paths as those of PATH_A (R427). -/
def streamsOf (d : Dev) (c : Nat) : List Nat := match connOf d c with
  | some (7, g, _) =>
    let b := servRec d 7 g
    if (if (tget {} d.prot g).sel then pgProt b else pgWork b) = c then [c] else []
  | some (8, g, q) => if c = mgA (servRec d 8 g) ∧ (tget {} d.merge g).st ≠ 0 then [c, q] else []
  | _ => [c]

/-- The frame due in the stream of container c: the container whose delineator read its header, and the header (R228). -/
def frameDue (d : Dev) (c : Nat) : Option (Nat × Bytes) :=
  if domReady d (14 + contSlice d c) && (serv d 2 c).isSome then
    (streamsOf d c).findSome? fun q => if delinOk d q then (pct d q).delin.due.map fun h => (q, h) else none
  else none

/-- The frame due has been taken: its bytes have passed the descrambler, and no stream of c gives it again. -/
def takeDue (c q : Nat) (h body : Bytes) (d : Dev) : Dev :=
  each (streamsOf d c) (fun k => modPct k fun p =>
    if p.delin.due = some h then { p with delin := { p.delin with due := none } } else p) (skipBytes q body d)

/-- A received frame acts where its header is the one due (R228): its descrambled bytes go to f with the header. A frame row that
the stream cannot give changes nothing (log entry 137). -/
def received (c : Nat) (fits : Bytes → Bool) (body : Bytes) (f : Bytes → Bytes → Dev → Dev) (d : Dev) : Dev :=
  match frameDue d c with
  | some (q, h) => if fits h then f h (descramble (pct d q).des body).1 (takeDue c q h body d) else d
  | none => d

/-- The header is that of a ZPC frame of a TYPE and context whose LEN is the length of the body (R283, R284). -/
def headerFits (ty ctx : Nat) (body h : Bytes) : Bool :=
  h.length == 8 && zhType h == ty && zhCtx h == ctx && zhLen h == body.length
/-- It is that of a control frame (R288). -/
def ctlFits (ctx gen : Nat) (body h : Bytes) : Bool := headerFits 3 ctx body h && zhGen h == gen
/-- It is that of a DATA_C frame. -/
def dataCFits (ctx gen : Nat) (efcs : Bool) (body h : Bytes) : Bool :=
  headerFits 1 ctx body h && zhGen h == gen && zhEfcs h == efcs
/-- It is the core header of a GFP-F payload area (R256). -/
def areaFits (area h : Bytes) : Bool := h.length == 4 && u16 h 0 == area.length
/-- It is that of a DATA_F frame, or the core header of a GFP-F frame of this payload area. -/
def dataFFits (ctx : Nat) (efcs gfp : Bool) (body h : Bytes) : Bool :=
  if gfp then areaFits body h else headerFits 2 ctx body h && zhEfcs h == efcs

end Sys2Proof.Machine
end

