-- ==== Sys2Proof/Machine/Parts/Join.lean ====
section
/-! DEFINITION. Operands that carry state from a mate: the state image of R460, and what a scrub pass finds (R335, R468). -/

namespace Sys2Proof.Machine

/-- The active's state as of S (R460): the manual lists the parts and gives no byte layout. -/
structure JoinImage where
  serv : Tbl Bytes := []
  pend : List Pend := []
  lastId : Nat := 0
  doneId : Nat := 0
  /-- sender contexts, contexts being withdrawn and generation counters by context, receiver tables by slice -/
  snd : Tbl Snd := []
  wdr : Tbl Wdr := []
  gens : Tbl Nat := []
  rx : Tbl (Tbl RxCtx) := []
  prot : Tbl ProtGrp := []
  merge : Tbl MergeGrp := []
  rsz : Tbl Rsz := []
  dpll : Tbl Dpll := []
  mfn : Tbl Nat := []
  /-- mapper fill by container: the justification control received, by stage -/
  fill : Tbl (Tbl Jc) := []
  deriving DecidableEq, Repr, Inhabited

/-- An error that a scrub or a read finds in a queue (R335). KIND: 0 item word corrected; 1 item word uncorrectable; 2 single-bit
error in a pointer word; 3 uncorrectable pointer word, the other copy good; 4 both copies bad. -/
structure QueueErr where
  slice : Nat
  eg : Bool
  queue : Nat
  kind : Nat
  /-- position of an uncorrectable item word of 8 bytes among the unread bytes, or of a failed block among the spilled blocks, from 0 -/
  pos : Nat := 0
  deriving DecidableEq, Repr, Inhabited

end Sys2Proof.Machine
end

