-- ==== Sys2Proof/Machine/NvmOps.lean ====
section
/-! DEFINITION. The MRAM journal, calibration sections, the settings image (R535 to R545), and MRAM access through D2. -/

namespace Sys2Proof.Machine

def modNvm (f : NvmSt → NvmSt) (d : Dev) : Dev := { d with nvm := f d.nvm }

/-! ### The journal (R535 to R537) -/

/-- One record takes the next SEQ (R535). -/
def jput (k : Nat) (body : Bytes) (d : Dev) : Dev :=
  let s := (d.nvm.seq + 1) % 2 ^ 32
  setReg .nvmJrnlSeq (BitVec.ofNat 32 s)
    (modNvm (fun m => { m with seq := s, jrnl := tset m.jrnl k { seq := s, body := fit 48 body } }) d)

/-! ### MRAM access (R60, R81) -/

/-- MRAM takes a new write: D2 is READY and the write guard is not in force (R81). -/
def nvmWritable (d : Dev) : Bool := domReady d 2 && !d.pin.guard && !d.pin.brownout

/-- A last-gasp write under way first clears the marker of an earlier record, once MRAM takes writes (R81, R548). -/
def clearGasp (d : Dev) : Dev := gate (d.pwr.gaspBusy && nvmWritable d) (modNvm fun m => { m with gasp := none }) d

/-- An access wakes D2 on demand under admission, and follows once D2 is READY (R60); a sleep that has begun completes first
(R62). -/
def wakeNvm (d : Dev) : Dev :=
  let d := if (dom d 2).st = .isolating then modDom 2 (fun x => { x with st := .off, heldWake := 0 }) d else d
  let d := requestWake 3 2 d
  if (dom d 2).st = .ramping then clearGasp (modDom 2 (fun x => { x with st := .ready }) d) else d

/-- A write of MRAM: it wakes D2, and starts only where MRAM takes it (R60, R81). -/
def nvmWrite (f : Dev → Dev) (d : Dev) : Dev :=
  let d := wakeNvm d
  gate (nvmWritable d) f d

/-- The records still in force in the slots that follow are copied forward, until the next slot holds none (R537). Argument: fuel, since
at most 17 are in force. -/
def jforward : Nat → Dev → Dev
  | 0, d => d
  | k + 1, d => match d.nvm.jrnl.find? fun e => e.2.seq + 4096 == d.nvm.seq + 1 with
    | some e => jforward k (jput e.1 e.2.body d)
    | none => d

/-- Append a record; one still in force in the slot that it takes is copied forward first (R537). No journal write starts under the
write guard, or without D2 (R81). -/
def jappend (ty sub : Nat) (body : Bytes) (d : Dev) : Dev :=
  if !nvmWritable d then d else jput (ty * 256 + sub) body (jforward 18 d)

/-! ### Calibration (R543 to R545) -/

/-- Write a section to the copy not in force; it is valid through CAL_COMMIT and posts CAL_WRITTEN (R543, R545). -/
def calWrite (sec : Nat) (b : Bytes) (d : Dev) : Dev :=
  let d := wakeNvm d
  if !nvmWritable d then d
  else
    let c := match calCopy d sec with
      | some 0 => 1
      | _ => 0
    let d := modNvm (fun m => { m with cal := tset m.cal (sec * 2 + c) b }) d
    let d := jappend jCalCommit (sec * 2 + c)
      (be 1 sec ++ be 1 c ++ be 2 0 ++ be 4 b.length ++ be 4 (crc32 b).toNat) d
    evtNvm 0x0C09 sec [] d

/-- The data rate per pin of GDDR6 in Gb/s (R337, R544): 16 where the BOARD section is invalid (R589); where a valid section names
none of the three, the manual gives none, and the rate is free (log entry 13). -/
def memRate (d : Dev) : Nat := match board d with
  | some b => if u8 b 9 = 16 ∨ u8 b 9 = 20 ∨ u8 b 9 = 24 then u8 b 9 else Config.memRateOf (u8 b 9)
  | none => 16

/-! ### Settings images (R538 to R542) -/

/-- A record without its trailing zero bytes (R539). -/
def trimZeros (b : Bytes) : Bytes := (b.reverse.dropWhile (· == 0)).reverse

/-- The registers kept by STORE (R538). -/
def storedRegs : List Reg :=
  [.pwrCap, .pwrMemIdle, .pwrRailoff, .pwrThermCtl, .pwrPfwCtl, .glbRstCtl, .glbWdt, .glbErrCtl]
    ++ (List.range 7).map .mbxBudget ++ [.evtBatch, .evtHoldoff, .pctrWin, .pmonPhase]

/-- The entries of an image of the tables in service (R538, R539). -/
def imageEntries (d : Dev) : List (Nat × Nat × Bytes) :=
  (d.prov.serv.map fun e => (e.1 / 2 ^ 32, e.1 % 2 ^ 32, trimZeros e.2))
    ++ (d.tim.ref.filterMap fun e => if e.2.rec_.isEmpty then none else some (0x20, e.1, trimZeros e.2.rec_))
    ++ (d.tim.dpll.filterMap fun e => if e.2.rec_.isEmpty then none else some (0x21, e.1, trimZeros e.2.rec_))
    ++ (d.tim.out.map fun e => (0x22, e.1, trimZeros e.2))
    ++ storedRegs.map fun r => (0x30, regOffset r, be 4 (reg d r).toNat)

/-- LENGTH of an image: header and entries, each padded to 4 bytes (R539). -/
def imageLength (es : List (Nat × Nat × Bytes)) : Nat :=
  64 + total (es.map fun e => 8 + (e.2.2.length + 3) / 4 * 4)

/-- The settings area in force: of the areas whose SET_COMMIT has no later SET_BEGIN and whose image is whole and of a format
the running release reads, the one with the higher SEQ (R542). -/
def areaOk (d : Dev) (fmtMin fmt a : Nat) : Bool :=
  match jget d jSetCommit a, tfind d.nvm.setArea a with
  | some c, some i => i.ok && decide (fmtMin ≤ i.format ∧ i.format ≤ fmt)
      && match jget d jSetBegin a with
        | some b => decide (b.seq < c.seq)
        | none => true
  | _, _ => false

def areaSeq (d : Dev) (a : Nat) : Nat := match jget d jSetCommit a with
  | some r => r.seq
  | none => 0

def pickArea (d : Dev) (fmtMin fmt : Nat) : Option Nat :=
  match areaOk d fmtMin fmt 0, areaOk d fmtMin fmt 1 with
  | false, false => none
  | true, false => some 0
  | false, true => some 1
  | true, true => some (if areaSeq d 0 < areaSeq d 1 then 1 else 0)

/-- The reason for which an area with a SET_COMMIT or SET_BEGIN is skipped (R542): 1 CRC, 2 format, 3 begun. -/
def areaSkip (d : Dev) (fmtMin fmt a : Nat) : Option Nat :=
  match jget d jSetCommit a, jget d jSetBegin a with
  | none, none => none
  | none, some _ => some 3
  | some c, b =>
    let begun := match b with
      | some b => decide (c.seq < b.seq)
      | none => false
    if begun then some 3
    else match tfind d.nvm.setArea a with
      | none => some 1
      | some i => if !i.ok then some 1 else if fmtMin ≤ i.format ∧ i.format ≤ fmt then none else some 2

/-! ### Manifests (R550) -/

def mfVersion (b : Bytes) : Nat := u32 b 8
def mfSecnum (b : Bytes) : Nat := u32 b 12
def mfFormat (b : Bytes) : Nat := u16 b 16
def mfFormatMin (b : Bytes) : Nat := u16 b 18
def mfParts (b : Bytes) : Nat := u8 b 20
def mfCust (b : Bytes) : Bool := wbit b 21 0
def mfSn (b : Bytes) : Nat := u64 b 24
def partType (b : Bytes) (i : Nat) : Nat := u8 b (32 + 64 * i)
def partVersion (b : Bytes) (i : Nat) : Nat := u32 b (36 + 64 * i)
def partOffset (b : Bytes) (i : Nat) : Nat := u32 b (40 + 64 * i)
def partLength (b : Bytes) (i : Nat) : Nat := u32 b (44 + 64 * i)
def partHash (b : Bytes) (i : Nat) : Bytes := slice b (48 + 64 * i) 48
/-- The indices of the parts. -/
def partList (b : Bytes) : List Nat := List.range (min 8 (mfParts b))
/-- The part of a type. -/
def partOfType (b : Bytes) (t : Nat) : Option Nat := (partList b).find? fun i => partType b i == t
/-- The VERSION word of a part type in the active image; 0 when absent. -/
def versionOf (d : Dev) (t : Nat) : Nat := match d.nvm.active with
  | some (_, m) => match partOfType m t with
    | some i => partVersion m i
    | none => 0
  | none => 0

/-- The manifest of the active image. -/
def activeMan (d : Dev) : Bytes := match d.nvm.active with
  | some (_, m) => m
  | none => []
def activeMseq (d : Dev) : Nat := match d.nvm.active with
  | some (s, _) => s
  | none => 0

/-- FW_ID of a heartbeat: CRC-32 over the version words of the active image's parts in PART order (R447, R550). -/
def fwId (d : Dev) : Nat :=
  let m := activeMan d
  (crc32 ((partList m).flatMap fun i => be 4 (partVersion m i))).toNat

/-- NVM_ARB.COUNTER (R556). -/
def arbCounter (d : Dev) : Nat := max d.fuse.arb (u8 (jbody d jArbTarget 0) 0)

/-- The active release is unconfirmed: from its ACTIVATE record until its CONFIRM record (R555). -/
def unconfirmed (d : Dev) : Bool := match jget d jActivate 0 with
  | none => false
  | some a => u32 a.body 0 == activeMseq d && match jget d jConfirm 0 with
    | some c => u32 c.body 0 != activeMseq d
    | none => true

/-- The staging state changes: journalled as UPD_STATE and posted (R551). -/
def setUpd (v mseq : Nat) (d : Dev) : Dev :=
  let old := d.nvm.upd
  let d := modNvm (fun m => { m with upd := v }) d
  evtNvm 0x0C05 mseq (be 1 old ++ be 1 v) (jappend jUpdState 0 (be 1 v ++ be 3 0 ++ be 4 mseq) d)

/-- The pairing flag (R442). -/
def pairing (d : Dev) : Bool := u8 (jbody d jPairing 0) 0 == 1

end Sys2Proof.Machine
end

