-- ==== Sys2Proof/Machine/Memc.lean ====
section
/-! DEFINITION. The GDDR6 controller: layout and partitions (R19, R20, R22), bandwidth grants (R21, R338), burst failures and
retraining (R335, R342), training (R339). -/

namespace Sys2Proof.Machine

def modMemc (f : MemcSt → MemcSt) (d : Dev) : Dev := { d with pkt := { d.pkt with memc := f d.pkt.memc } }

/-! ### Layout and partitions -/

/-- The partitions after a commit (R20): kept while the layout stays partitioned, given in ascending slice number. -/
def newParts (oldLayout : Nat) (old : Tbl Nat) (slices : List Nat) (layout : Nat) : Tbl Nat :=
  if layout ≠ 1 then []
  else
    let keep := if oldLayout = 1 then old.filter fun e => slices.contains e.1 else []
    slices.foldl (fun t n =>
      if (tfind t n).isSome then t else tset t n (if t.any fun e => e.2 == 0 then 1 else 0)) keep

/-- The tables of a commit are in service: layout, partitions and wake units follow, and a change of layout discards every
spilled block (R20, R22, R348 MEMC_LAYOUT). `old` is the layout before. -/
def layoutChange (old : Nat) (d : Dev) : Dev :=
  let l := layout d
  let slices := provSlices d.prov.serv
  let part := newParts old d.pkt.memc.part slices l
  let was := d.pkt.memc.part
  let d := modMemc (fun m => { m with part := part }) d
  let swap := (old == 1 && l == 2) || (old == 2 && l == 1)
  let d := gate swap (each [0, 1, 2, 3] (dropSpilled true)) d
  let d := each [0, 1, 2, 3] (fun n d =>
    gate (l != old || tfind was n != tfind part n)
      (postEvt 0x0907 0x000C 0 n (be 1 l ++ be 1 (match tfind part n with
        | some p => p
        | none => 0xFF))) d) d
  -- a new wake unit that holds groups in both states wakes those in self-refresh in rank 1
  if !swap then d
  else
    each (memGroups d) (fun g d =>
      let u := unitOf d g
      let mixed := u.any (fun k => domAwake d (18 + k)) && (dom d (18 + g)).st == .selfRefresh
      gate mixed (requestWake 1 (18 + g)) d) d

/-! ### Grants (R21, R338) -/

/-- Stage 2 of R21: leftover bandwidth divided equally among the slices still unmet, until it is used or all are met. -/
def shareOut : Nat → Nat → List (Nat × Nat × Nat) → List (Nat × Nat × Nat)
  | 0, _, l => l
  | k + 1, left, l =>
    let unmet := l.filter fun e => decide (e.2.2 < e.2.1)
    if unmet.isEmpty || left == 0 then l
    else
      let q := left / unmet.length
      if q = 0 then l
      else
        let give (e : Nat × Nat × Nat) : Nat := if e.2.2 < e.2.1 then min q (e.2.1 - e.2.2) else 0
        shareOut k (left - total (l.map give)) (l.map fun e => (e.1, e.2.1, e.2.2 + give e))

/-- The grants of a round in Mb/s: demands by slice (R21). -/
def grants (limit : Nat) (slices : List Nat) (demand : Nat → Nat) : Tbl Nat :=
  let share := limit / max 1 slices.length
  let one := slices.map fun n => (n, demand n, min (demand n) share)
  (shareOut 5 (limit - total (one.map (·.2.2))) one).map fun e => (e.1, e.2.2)

/-- What a round of ns nanoseconds leaves slice n of a grant of g Mb/s after its aligned merges, which write and read m blocks and
come first (R21, R317). Whole blocks that the last round left unused lapse. The spill write port carries 1.6 Tb/s (R72). -/
def roundCredit (g ns m : Nat) (x : Credit) : Credit :=
  { rd := x.rd % blockCost + g * ns - m * blockCost
    wr := x.wr % blockCost + g * ns - m * blockCost
    port := x.port % blockCost + 1600000 * ns }

/-- The requests of slice n that wait are served from its grant in the order of R317: spill reads, then reserve moves and spill
writes. -/
def serveSlice (n : Nat) (d : Dev) : Dev :=
  let d := eachQueue n (refillQueue n) d
  updPools n (eachQueue n (spillQueue n) (drainReserve n d))

/-- MEMC_GRANT_ROUND: a round of ns nanoseconds, with the demands of slices 0 to 3 in Mb/s and the blocks that their aligned merges
write and read in it; partitioned slices have their partition's limit (R19, R21, R72, R317). -/
def grantRound (demands : List Nat) (ns : Nat) (merge : List Nat) (d : Dev) : Dev :=
  if !domReady d 22 then d
  else
    let slices := provSlices d.prov.serv
    let dem (n : Nat) : Nat := demands.getD n 0
    let full := (if pop16 d then 4800000 else 2400000) * memRate d / 24
    let g := if layout d = 2 then grants full slices dem else slices.map fun n => (n, min (dem n) (full / 2))
    let d := modMemc (fun m => { m with grant := g, demand := slices.map fun n => (n, dem n) }) d
    let d := each [0, 1, 2, 3] (fun n => setReg (.memcGrant n)
      (putBits (putBits 0 31 16 (if slices.contains n then dem n / 10000 else 0)) 15 0 (tget 0 g n / 10000))) d
    let d := modMemc (fun m => { m with credit := slices.map fun n =>
      (n, roundCredit (tget 0 g n) ns (merge.getD n 0) (tget {} m.credit n)) }) d
    each slices serveSlice d

/-! ### Burst failures (R335, R342) -/

/-- Block j of a queue fails, counted from its oldest: the frames with a byte in it are dropped (R335). A block of the spill reserve lies
in no GDDR6. -/
def dropBlock (n : Nat) (eg : Bool) (i j : Nat) (d : Dev) : Dev :=
  let q := queueAt d n eg i
  if q.spilled - q.reserve ≤ j then d
  else raiseErr 2 0x0014 n 0x0031 4 (i % 65536) (loseBlocks n eg i j 1 d)

/-- MEMC_BURST_EDC_FAIL on an interface: `failed` retries of up to 3 failed as well; the block belongs to a queue, and which of its
blocks it is is a free value (log entry 185). The 16th exhaustion within 1 s starts a retraining of the group (R342). -/
def burstEdc (iface failed n : Nat) (eg : Bool) (i : Nat) (d : Dev) : Dev :=
  let g := iface / 4
  if !domReady d (18 + g) || !(memGroups d).contains g then d
  else
    let d := count (18 + g) (ctrMemc iface 2) (1 + min failed 3) d
    if failed < 3 then count (18 + g) (ctrMemc iface 3) 1 d
    else
      let d := count (18 + g) (ctrMemc iface 5) 1 (count (18 + g) (ctrMemc iface 4) 1 d)
      let d := setRb (.memcGstat g) (24 + iface % 4) true d
      let q := queueAt d n eg i
      let d := dropBlock n eg i (peekFree d (q.spilled - q.reserve)) (stepFree d)
      let l := (now d :: (tget [] d.pkt.memc.fails iface).filter fun e => decide (now d < e + 1000)).take 16
      let d := modMemc (fun m => { m with fails := tset m.fails iface l }) d
      let d := postEvt 0x0909 0x000C (g + 1) iface [] d
      if l.length < 16 then d
      else setRf (.memcGstat g) 2 0 4 (satCtr (.memcGstat g) 23 16 1
        (modMemc (fun m => { m with fails := tdel m.fails iface }) d))

/-! ### Training (R339) -/

/-- The section TRIM: the trims of the four groups as D0 holds them. Its layout is internal to the device. DESIGN CHOICE (log entry
186). -/
def trimSection (d : Dev) : Bytes := (List.range 4).flatMap fun g => be 8 (tget 0 d.pkt.memc.trims g)

/-- Full training of a MEM group completes: the interfaces trained, as bits; the trims, a free value, are stored in D0 and in the
calibration area (R339). -/
def trainingDone (g mask_ : Nat) (d : Dev) : Dev :=
  if (dom d (18 + g)).st ≠ .ramping ∨ !(dom d (18 + g)).untrained then d
  else
    let ok := mask_ % 16 == 15
    let d := setRf (.memcGstat g) 7 4 mask_ (setRf (.memcGstat g) 2 0 (if ok then 2 else 5) d)
    let d := postEvt 0x0908 0x000C (g + 1) g (be 1 (mask_ % 16)) d
    if !ok then d
    else
      let t := peekFree d (2 ^ 64)
      let d := modMemc (fun m => { m with trims := tset m.trims g t })
        (stepFree (modDom (18 + g) (fun x => { x with untrained := false }) d))
      calWrite 1 (trimSection d) d

end Sys2Proof.Machine
end

