-- ==== Sys2Proof/Machine/Defects.lean ====
section
/-! DEFINITION. Raw defects, signal fail and correlation: the layers of R381, the defects of R386, and R387 to R390. -/

namespace Sys2Proof.Machine

/-- A line-port and a client-port live bit (R238, R204). -/
def fstat (d : Dev) (p b : Nat) : Bool := rb d (.lineStat p) b
def pstat (d : Dev) (i b : Nat) : Bool := rb d (.cliPstat (i / 16) (i % 16)) b

/-- The sum of the bits that are set. -/
def bitsOf (l : List (Nat × Bool)) : Nat := total (l.map fun e => if e.2 then 2 ^ e.1 else 0)

/-- Two bit sets share a bit. -/
def meets (a b : Nat) : Bool := Nat.land a b != 0

def modPm (f : PmSt → PmSt) (d : Dev) : Dev := { d with pm := f d.pm }
def layer (d : Dev) (key : Nat) : Layer := tget {} d.pm.layers key
def modLayer (key : Nat) (f : Layer → Layer) (d : Dev) : Dev :=
  modPm (fun m => { m with layers := tmod {} m.layers key f }) d
def point (d : Dev) (i : Nat) : Point := tget {} d.pm.pts i
def modPoint (i : Nat) (f : Point → Point) (d : Dev) : Dev := modPm (fun m => { m with pts := tmod {} m.pts i f }) d

/-- The domains that detect the defects of a layer and hold its accumulators (R26, R399): an ODUk received from the line comes through
the line block and is terminated in the mapper (R13). -/
def layerDoms (d : Dev) (kind : Nat) (side : Bool) (obj : Nat) : List Nat :=
  if kind = 1 ∨ kind = 2 then [if obj ≤ 3 then 6 + obj else 10 + (obj - 0x100) / 16]
  else if kind = 5 then [10 + obj / 16]
  else if kind = 6 then [14 + contSlice d obj]
  else if side then [10 + contSlice d obj]
  else [6 + lineOf obj, 10 + contSlice d obj]

/-- Every domain of a layer is READY. -/
def layerUp (d : Dev) (kind : Nat) (side : Bool) (obj : Nat) : Bool := (layerDoms d kind side obj).all (domReady d)

/-- The detectors and accumulators that lie in domain n are lost (R385). -/
def dropLayers (n : Nat) (d : Dev) : Dev :=
  modPm (fun m => { m with layers := tdrop m.layers fun k =>
    (layerDoms d (k / 2 ^ 20) (k / 2 ^ 16 % 2 == 1) (k % 2 ^ 16)).contains n }) d

/-! ### Overhead detectors (R386) -/

/-- One more value: a repeat extends the run. -/
def stepStreak (s : Streak) (v : Nat) : Streak := { s with v := v, n := if s.v = v ∧ s.n ≠ 0 then s.n + 1 else 1 }

/-- A flag that becomes live after t equal ones and clears after t equal zeros. -/
def stepFlag (t : Nat) (s : Streak) (v : Bool) : Streak :=
  let s := stepStreak s v.toNat
  { s with live := if s.n ≥ t then v else s.live }

/-- A value accepted after 3 equal ones. -/
def stepAcc (s : Streak) (v : Nat) : Streak :=
  let s := stepStreak s v
  { s with acc := if s.n ≥ 3 then some v else s.acc }

/-- The flags of every instance. -/
def stepFlags (t : Nat) (l : Tbl Streak) (v : List Bool) : Tbl Streak :=
  (v.zip (List.range v.length)).foldl (fun l e => tset l e.2 (stepFlag t (tget {} l e.2) e.1)) l

def anyLive (l : Tbl Streak) : Bool := l.any fun e => e.2.live

/-- The defect bit that a STAT value declares (R386): LTC on TCM only. -/
def statBit (kind v : Nat) : Option Nat :=
  if v = 7 then some 12 else if v = 5 then some 13 else if v = 6 then some 14
  else if v = 0 ∧ kind = 4 then some 15 else none

/-- The live maintenance bit of a layer: one of AIS, LCK, OCI, LTC, or 0. -/
def maintOf (raw : Nat) : Nat := Nat.land raw 0xF000

/-- A received frame of one layer enters its detectors and its accumulators of the current second (R386, R391, R398). -/
def layerStep (x : LayerRx) (l : Layer) : Layer :=
  let stat := stepStreak l.stat x.stat
  let mine := match statBit x.kind x.stat with
    | some b => 2 ^ b
    | none => 0
  let old := maintOf l.raw
  let off := if old != 0 && old == mine then 0 else l.statOff + 1
  let live := if mine != 0 && decide (stat.n ≥ 3) then mine else if off ≥ 3 then 0 else old
  let bdi := stepFlags 5 l.bdi x.bdi
  let iae := stepFlags 5 l.iae x.iae
  let biae := stepFlags 3 l.biae x.biae
  let sm := x.kind == 1 || x.kind == 4
  let rep := match x.tti with
    | some t => if t = l.tti ∧ l.ttiN ≠ 0 then l.ttiN + 1 else 1
    | none => l.ttiN
  { l with
    stat := stat, statOff := if live == old then off else 0
    bdi := bdi, iae := iae, biae := biae
    tti := x.tti.getD l.tti, ttiN := rep
    ttiAcc := if x.tti.isSome && decide (rep ≥ 3) then x.tti else l.ttiAcc
    psi := match x.psi with
      | none => l.psi
      | some v => (v.zip (List.range v.length)).map fun e => stepAcc (l.psi.getD e.2 {}) e.1
    raw := live + bitsOf [(23, anyLive bdi), (27, sm && anyLive iae), (28, sm && anyLive biae)]
    blk := l.blk + x.blocks, err := l.err + x.errored, fe := l.fe + x.far
    bei := (l.bei.drop (l.bei.length - 1)) ++ [x.viol.map (min 8)] }

/-- The frame is received where the detecting domains are READY. -/
def layerRx (x : LayerRx) (d : Dev) : Dev :=
  if !layerUp d x.kind x.side x.obj then d
  else modLayer (lkey x.kind x.level x.side x.obj) (layerStep x) d

/-- One block of a KIND without overhead: ETH and ADAPT (R381). -/
def countBlock (kind obj : Nat) (bad : Bool) (d : Dev) : Dev :=
  modLayer (lkey kind 0 false obj) (fun l => { l with blk := l.blk + 1, err := l.err + bad.toNat }) d

/-! ### Raw defects -/

/-- Condition of the line port in SLn_LINE_FSTAT, as bits of R386. -/
def lineRaw (d : Dev) (p : Nat) : Nat :=
  bitsOf ([(0, 0), (1, 1), (2, 4), (3, 3), (4, 6), (5, 5), (6, 9), (7, 11), (22, 7), (24, 15)].map fun e =>
    (e.1, fstat d p e.2))

/-- Condition of a client port, as bits of R386 (R194). -/
def clientRaw (d : Dev) (i : Nat) : Nat :=
  bitsOf ([(0, 0), (1, 1), (2, 13), (8, 2), (9, 3), (10, 4), (22, 5), (26, 6), (25, 7)].map fun e => (e.1, pstat d i e.2))

/-- TIM: the accepted trace differs from the expected one (R386). -/
def timOf (r : Bytes) (l : Layer) : Bool := match l.ttiAcc with
  | none => false
  | some t =>
    let sapi := slice t 0 16 != mpSapi r
    let dapi := slice t 16 16 != mpDapi r
    if mpTimMode r = 1 then sapi else if mpTimMode r = 2 then dapi else if mpTimMode r = 3 then sapi || dapi else false

/-- Payload types of G.709 that R244 uses, by PAYLOAD and container type (log entry 14); none where the ODUk passes whole. -/
def expPt (c : Bytes) : Option Nat :=
  if ctPayload c = 0 then
    some (if ctType c = 3 then 0x03 else if ctType c = 5 then 0x07 else 0x1C)
  else if ctPayload c = 3 then some ptGfp
  else if ctPayload c = 4 then some ptZpc
  else if ctPayload c = 5 then some 0x21
  else none

/-- PLM at the path of container c (R386). -/
def plmOf (d : Dev) (c : Nat) (l : Layer) : Bool :=
  match (l.psi.getD 0 {}).acc, expPt (ctRec d c) with
  | some pt, some e => pt != e && !(isZpc (ctRec d c) && pcFallback (pcRec d c) && pt == ptGfp)
  | _, _ => false

/-- An accepted MSI entry of a slot. -/
def msiAcc (l : Layer) (s : Nat) : Option Nat := (l.psi.getD (2 + s) {}).acc

/-- The line slots in use of a directly carried container, in the calendar in force. -/
def slotsOf (d : Dev) (c : Nat) : List Nat :=
  ((tget {} d.line (lineOf c)).cal.filter fun e => e.2 == c).map (·.1)

/-- MSIM on the slots or HO TS of container c (R386, R388). -/
def msimOf (d : Dev) (c : Nat) : Bool :=
  let r := ctRec d c
  let bad (l : Layer) (s : Nat) : Bool := match msiAcc l s with
    | some v => v != ctTpn r
    | none => false
  if ctDirect r then
    (slotsOf d c).any fun s => (tget {} d.line (lineOf c)).rsz.rxMap.testBit s && bad (layer d (lkey 2 0 false (lineOf c))) s
  else (ctHoList r).any fun s => bad (layer d (lkey 3 0 false (ctParent r))) s

/-- MSIM of a whole line port, or of an HO container. -/
def msimPort (d : Dev) (p : Nat) : Bool :=
  (contsNow d).any fun e => lineOf e.1 == p && ctDirect e.2 && msimOf d e.1
def msimHo (d : Dev) (h : Nat) : Bool := (membersNow d h).any fun e => msimOf d e.1

/-! ### Signal fail (R388, R389) -/

/-- MSIM of the ODUC of an OTN_DEMUX client (R386): entries of its MSI are accepted, and none holds the DEMUX_TPN of some container
(DEDUCED, log entry 188). -/
def msimClient (d : Dev) (i : Nat) : Bool :=
  let seen := ((layer d (lkey 2 0 false (0x100 + i))).psi.drop 2).filterMap (·.acc)
  !seen.isEmpty && (contsNow d).any fun e => ctPayload e.2 == 2 && ctPort e.2 == i && !seen.contains (ctDemuxTpn e.2)

/-- Condition 1 of R388 for a line port; a faulted line block receives nothing (R78). -/
def lineFail (d : Dev) (p : Nat) : Bool :=
  meets (lineRaw d p) 0xFF || (dom d (6 + p)).st == .faulted || match pointOn d 1 0 false p with
    | some (_, r) => mpTimAct r && timOf r (layer d (lkey 1 0 false p))
    | none => false

/-- Conditions 3 to 6 of R388 and MSIM, which concern the container itself. -/
def ownFail (d : Dev) (c : Nat) : Bool :=
  let l := layer d (lkey 3 0 false c)
  let s := slotsOf d c
  let ln := tget {} d.line (lineOf c)
  (tget {} d.cont c).pre || msimOf d c
    || (ctDirect (ctRec d c) && !s.isEmpty && s.all fun k => !ln.rsz.rxMap.testBit k)
    || meets l.raw 0x7000
    || (match pointOn d 3 0 false c with
      | some (_, r) => (mpTimAct r && timOf r l) || plmOf d c l
      | none => false)
    || (List.range 6).any fun k => match pointOn d 4 (k + 1) false c with
      | some (_, r) => mpLtcAct r && mpSrc r && meets (layer d (lkey 4 (k + 1) false c)).raw 0x8000
      | none => false

/-- A container is failed on receive (R388). -/
def rxFailed (d : Dev) (c : Nat) : Bool :=
  let r := ctRec d c
  lineFail d (lineOf c) || ownFail d c || (!ctDirect r && ownFail d (ctParent r))

/-- Conditions 1 to 3 of R388, the SSF of SIDE 0 (R389). -/
def lineSsf (d : Dev) (c : Nat) : Bool :=
  let r := ctRec d c
  let s := slotsOf d c
  lineFail d (lineOf c) || msimOf d c || (!ctDirect r && ownFail d (ctParent r)) || (tget {} d.cont c).pre
    || (ctDirect r && !s.isEmpty && s.all fun k => !(tget {} d.line (lineOf c)).rsz.rxMap.testBit k)

/-- The client condition of SSF with SIDE 1 (R389). -/
def clientSsf (d : Dev) (i : Nat) : Bool :=
  meets (clientRaw d i) 0x307 || meets (tget {} d.cli i).otn 0xC0

/-- SSF of a layer (R389). -/
def ssfOf (d : Dev) (kind : Nat) (side : Bool) (obj : Nat) : Bool :=
  if kind = 2 then match objClient obj with
    | some i => clientSsf d i
    | none => lineFail d obj
  else if kind = 3 ∨ kind = 4 then if side then clientSsf d (ctPort (ctRec d obj)) else lineSsf d obj
  else if kind = 6 then rxFailed d obj
  else false

/-! ### The defects of a point -/

/-- A delineator out of SYNC (R225). -/
def lfd (d : Dev) (c : Nat) : Bool := !delinOk d c

/-- The live defects of a point, as bits of R386; SSF is bit 29. -/
def pointLive (d : Dev) (i : Nat) (r : Bytes) : Nat :=
  let k := mpKind r
  let o := mpObj r
  let l := layer d (mpLayer r)
  let own := bitsOf [(11, timOf r l), (21, (point d i).deg)]
  let v :=
    if k = 1 then match objClient o with
      | none => Nat.lor (lineRaw d o) (Nat.lor own (Nat.land l.raw 0x18800000))
      | some c => Nat.lor (Nat.land (clientRaw d c) 0x400207) (Nat.lor (tget {} d.cli c).otn (Nat.lor own (Nat.land l.raw 0x18800000)))
    else if k = 2 then
      Nat.lor (Nat.land l.raw 0x807000) (Nat.lor own (match objClient o with
        | some c => bitsOf [(17, msimClient d c)]
        | none => bitsOf [(17, msimPort d o), (18, fstat d o 12)]))
    else if k = 3 then
      let c := ctRec d o
      let csf := bitsOf [(19, (l.psi.getD 1 {}).acc == some 1 || (!mpSide r && (tget {} d.cont o).csf))]
      Nat.lor (Nat.land l.raw 0x807000) (Nat.lor own (Nat.lor csf (if mpSide r then 0 else bitsOf [
        (16, plmOf d o l), (17, ctPayload c == 5 && msimHo d o)])))
    else if k = 4 then Nat.lor (Nat.land l.raw 0x1880F000) own
    else if k = 5 then clientRaw d o
    else if k = 6 then bitsOf [(20, lfd d o), (19, (tget {} d.cont o).csf)]
    else 0
  Nat.lor (v % 2 ^ 29) (bitsOf [(29, ssfOf d k (mpSide r) o)])

/-- The precedence of each kind (R390). -/
def precedence (r : Bytes) : List Nat :=
  let k := mpKind r
  if k = 1 then
    if (objClient (mpObj r)).isSome then [0, 1, 2, 9, 3, 4, 5, 6, 7, 11, 23, 24, 27, 28, 21, 22]
    else [0, 1, 2, 3, 4, 5, 6, 7, 11, 23, 24, 27, 28, 21, 22]
  else if k = 2 then [12, 13, 14, 11, 17, 18, 23, 21]
  else if k = 3 then [12, 13, 14, 11, 16, 17, 19, 23, 21]
  else if k = 4 then [12, 13, 14, 15, 11, 23, 27, 28, 21]
  else if k = 5 then [0, 1, 2, 9, 8, 10, 26, 25, 22]
  else [20, 19]

/-- The failure class of a defect bit (R386, R393). -/
def classOf (b : Nat) : Nat :=
  if b ≤ 2 then 0
  else if b = 5 ∨ b = 11 then 2
  else if b = 3 ∨ b = 4 ∨ b = 6 ∨ b = 7 ∨ b = 8 ∨ b = 9 ∨ b = 10 ∨ b = 20 then 1
  else if (12 ≤ b ∧ b ≤ 15) ∨ b = 26 then 3
  else if 16 ≤ b ∧ b ≤ 19 then 4
  else if b = 21 ∨ b = 22 then 5
  else if b = 23 ∨ b = 24 ∨ b = 25 ∨ b = 28 then 6
  else 7

/-- The correlated ones of live defects, in precedence order: a defect of classes SIGNAL to PAYLOAD hides those after it. -/
def corrList (live : Nat) : Bool → List Nat → List Nat
  | _, [] => []
  | hid, b :: l =>
    if live.testBit b then (if hid then corrList live hid l else b :: corrList live (hid || decide (classOf b ≤ 4)) l)
    else corrList live hid l

/-- The correlated defects of live ones at a point (R390). -/
def correlate (live : Nat) (r : Bytes) : Nat :=
  if live.testBit 29 then 0 else total ((corrList live false (precedence r)).map fun b => 2 ^ b)

/-- The correlated defects of a point now. -/
def corr (d : Dev) (i : Nat) (r : Bytes) : Nat := correlate (pointLive d i r) r

/-- The classes of a defect set, bit c for class c. -/
def classes (v : Nat) : Nat := bitmap 8 fun c => (List.range 29).any fun b => v.testBit b && classOf b == c

/-- Every point takes note of its correlated defects, for the epoch and the second in progress (R394, R398, R399). -/
def observe (d : Dev) : Dev :=
  if !domReady d 4 then d
  else
    (points d.prov.serv).foldl (fun d e =>
      let v := pointLive d e.1 e.2
      let c := correlate v e.2
      let off := !layerUp d (mpKind e.2) (mpSideOf e.2) (mpObj e.2)
      modPoint e.1 (fun p => { p with
        seen := Nat.lor p.seen (c + bitsOf [(29, v.testBit 29)]), epochNow := Nat.lor p.epochNow (classes c)
        excl := p.excl || off }) d) d

end Sys2Proof.Machine
end

