-- ==== Sys2Proof/Machine/Pm.lean ====
section
/-! DEFINITION. Failures and performance monitoring: R393 to R411. -/

namespace Sys2Proof.Machine

/-! ### The compact form (R405) -/

/-- Halve until below 4,096: mantissa with its leading one, and exponent. -/
def halve : Nat → Nat → Nat → Nat × Nat
  | 0, v, e => (v, e)
  | k + 1, v, e => if v ≥ 4096 then halve k (v / 2) (e + 1) else (v, e)

def pmEncode (v : Nat) : Nat :=
  if v ≤ 2047 then v
  else
    let (m, e) := halve 64 v 1
    if e > 31 then 0xFFFF else if e = 31 ∧ m = 4095 then 0xFFFF else e * 2048 + (m - 2048)

/-- The decoded value; none for the saturated code. -/
def pmDecode (c : Nat) : Option Nat :=
  if c = 0xFFFF then none
  else
    let e := c / 2048
    let m := c % 2048
    some (if e = 0 then m else (2048 + m) * 2 ^ (e - 1))

/-! ### Events -/

def evtPm (ty obj : Nat) (detail : Bytes) (d : Dev) : Dev := postEvt ty 0x000E 0 obj detail d

/-- PM_FAILURE of a class (R411). -/
def pmFailure (i c : Nat) (declared : Bool) (d : Dev) : Dev :=
  evtPm 0x0A01 i (be 1 c ++ be 1 declared.toNat ++ zeros 2 ++ be 4 (corr d i (mpRec d i))) d

/-- The declared set of a point becomes v; each class that changes is posted. -/
def setDeclared (i v : Nat) (d : Dev) : Dev :=
  let old := (point d i).decl
  let d := modPoint i (fun p => { p with decl := v % 256 }) d
  each (List.range 8) (fun c d => gate (old.testBit c != v.testBit c) (pmFailure i c (v.testBit c)) d) d

/-- The point exists. -/
def hasPoint (d : Dev) (i : Nat) : Bool := (serv d 9 i).isSome

/-! ### Failure integration (R394, R395, R396) -/

/-- One epoch of a point ends: the runs of each class, and what the epoch in progress starts with. -/
def closeEpoch (d : Dev) (e : Nat × Bytes) : Dev :=
  let p := point d e.1
  let run (t : Tbl Nat) (hit : Nat → Bool) : Tbl Nat :=
    (List.range 8).map fun c => (c, if hit c then tget 0 t c + 1 else 0)
  let stop := isFrozen d 1 e.1
  modPoint e.1 (fun q => { q with
    epochLast := p.epochNow, epochNow := classes (corr d e.1 e.2)
    runSet := if stop then [] else run p.runSet (p.epochNow.testBit ·)
    runClr := if stop then [] else run p.runClr (!p.epochNow.testBit ·) }) d

/-- The points at an epoch boundary. -/
def pmEpoch (d : Dev) : Dev :=
  if !domReady d 4 then d else (points d.prov.serv).foldl closeEpoch { d with pm := { d.pm with exclSeen := false } }

/-- The run that an integration time of v × 100 ms needs (R394). -/
def needRun (v : Nat) : Nat := max 1 (v * 100)

/-- The point integrates in hardware now (R394, R396). -/
def integrates (d : Dev) (i : Nat) : Bool := domReady d 4 && hasPoint d i && !assisted d 1 i && !isFrozen d 1 i

/-- FAILURE_DECLARE (R394). -/
def failureDeclare (i c : Nat) (d : Dev) : Dev :=
  let p := point d i
  if integrates d i && decide (c < 8) && !p.decl.testBit c && decide (tget 0 p.runSet c ≥ needRun (mpIntSet (mpRec d i) c)) then
    setDeclared i (nputBit p.decl c true) d
  else d

/-- FAILURE_CLEAR (R394). -/
def failureClear (i c : Nat) (d : Dev) : Dev :=
  let p := point d i
  if integrates d i && decide (c < 8) && p.decl.testBit c && decide (tget 0 p.runClr c ≥ needRun (mpIntClr (mpRec d i) c)) then
    setDeclared i (nputBit p.decl c false) d
  else d

/-- CONTENT of a failure report (R395). -/
def failureContent (d : Dev) (i : Nat) : Bytes :=
  let p := point d i
  be 1 p.epochLast ++ be 1 p.decl ++ zeros 2 ++ be 4 (corr d i (mpRec d i))
    ++ (List.range 8).flatMap (fun c =>
      be 2 (min 300 ((if p.epochLast.testBit c then tget 0 p.runSet c else tget 0 p.runClr c) / 100)))
    ++ zeros 10

/-- PM_FAILURE_REPORT: a new set of classes lasted a whole epoch (REASON 1), or differs from the declared set (REASON 2). -/
def failureReport (i reason : Nat) (d : Dev) : Dev :=
  let p := point d i
  let ok := if reason = 1 then p.epochLast != p.repSet else reason == 2 && p.epochLast != p.decl
  if domReady d 4 && hasPoint d i && assisted d 1 i && !isFrozen d 1 i && ok then
    report 1 i reason (failureContent d i) (modPoint i (fun q => { q with repSet := p.epochLast }) d)
  else d

/-- The decision of function 1 at its X (R395). -/
def decideFailure (i : Nat) (b : Bytes) (d : Dev) : Dev := gate (hasPoint d i && domReady d 4) (setDeclared i (u8 b 0)) d

/-- Integration of a point resumes: every run count is 0 (R396). -/
def restartRuns (i : Nat) (d : Dev) : Dev := modPoint i (fun p => { p with runSet := [], runClr := [] }) d

/-- FUNC_REINIT of a point (R396). -/
def reinitPoint (i : Nat) (d : Dev) : Dev :=
  let d := setDeclared i 0 d
  modPoint i (fun p => { p with runSet := [], runClr := [], epochNow := 0, epochLast := 0, repSet := 0, excl := true }) d

/-! ### One second (R398, R400, R401) -/

/-- Kinds with far-end counts (R381). -/
def hasFar (r : Bytes) : Bool := decide (1 ≤ mpKind r ∧ mpKind r ≤ 4)

/-- The result of a second: its start, blocks, errors, far errors and defects seen (R398). -/
def secOf (r : Bytes) (epoch blk err fe seen : Nat) : SecRes :=
  let bad := seen.testBit 29 || (List.range 29).any fun b => seen.testBit b && decide (classOf b ≤ 4)
  let nses := bad || decide (err * 100 ≥ 15 * blk)
  let fdef := seen.testBit 23 || seen.testBit 24
  let far := hasFar r
  let fses := far && (fdef || decide (fe * 100 ≥ 15 * blk))
  { epoch := epoch, nses := nses, nes := nses || decide (err ≥ 1), nbbe := if nses then 0 else err
    fses := fses, fes := far && (fses || decide (fe ≥ 1)), fbbe := if fses || !far then 0 else fe
    skip := bad || !far }

/-- A change to the bin that holds a second. -/
structure Adj where
  epoch : Nat
  es : Int := 0
  ses : Int := 0
  uas : Int := 0
  bbe : Int := 0

/-- One second at one end (R400): the new state, the changes, and the start of the run where the state changed. -/
def availStep (a : Avail) (s : SecRes) (ses es : Bool) (bbe : Nat) (old : SecRes → Bool × Nat) : Avail × List Adj × Option Nat :=
  let n (b : Bool) : Int := if b then 1 else 0
  let first (r : List SecRes) : Option Nat := r.getLast?.map (·.epoch)
  if !a.un then
    if ses then
      let run := s :: a.run
      if run.length ≥ 10 then
        ({ un := true, run := [] },
          { epoch := s.epoch, uas := 1 } :: a.run.map fun r => { epoch := r.epoch, es := -1, ses := -1, uas := 1 }, first run)
      else ({ a with run := run }, [{ epoch := s.epoch, es := 1, ses := 1 }], none)
    else ({ a with run := [] }, [{ epoch := s.epoch, es := n es, bbe := bbe }], none)
  else if ses then ({ a with run := [] }, [{ epoch := s.epoch, uas := 1 }], none)
  else
    let run := s :: a.run
    if run.length ≥ 10 then
      ({ un := false, run := [] },
        { epoch := s.epoch, es := n es, bbe := bbe } :: a.run.map fun r =>
          { epoch := r.epoch, uas := -1, es := n (old r).1, bbe := (old r).2 }, first run)
    else ({ a with run := run }, [{ epoch := s.epoch, uas := 1 }], none)

/-- A count changed by an integer. -/
def addI (n : Nat) (i : Int) : Nat := ((n : Int) + i).toNat

/-- A bin changed by an adjustment, unless the second lies before its clear (R401). -/
def adjBin (far : Bool) (a : Adj) (b : Bin) : Bin :=
  if a.epoch < b.cleared then b
  else if far then
    { b with fes := addI b.fes a.es, fses := addI b.fses a.ses, fuas := addI b.fuas a.uas, fbbe := addI b.fbbe a.bbe }
  else { b with nes := addI b.nes a.es, nses := addI b.nses a.ses, nuas := addI b.nuas a.uas, nbbe := addI b.nbbe a.bbe }

/-- The bins that hold a second: of each pair, the current one or the previous one; none once it is history (R401). -/
def binsOf (bins : Tbl Bin) (epoch : Nat) : List Nat :=
  [0, 2].filterMap fun k => [k, k + 1].find? fun j => decide ((tget {} bins j).start ≤ epoch)

/-- A change to the bins that hold a second. -/
def onBins (epoch : Nat) (f : Bin → Bin) (p : Point) : Point :=
  { p with bins := (binsOf p.bins epoch).foldl (fun t k => tmod {} t k f) p.bins }

def adjust (far : Bool) (l : List Adj) (p : Point) : Point := l.foldl (fun p a => onBins a.epoch (adjBin far a) p) p

/-- PM_UAS (R411). -/
def pmUas (i : Nat) (far un : Bool) (first : Nat) (d : Dev) : Dev :=
  evtPm 0x0A02 i (be 1 far.toNat ++ be 1 un.toNat ++ be 6 first) d

/-- A change to a bin by a second, unless the second lies before the bin's clear (R407). -/
def unlessCleared (epoch : Nat) (f : Bin → Bin) (b : Bin) : Bin := if epoch < b.cleared then b else f b

/-- A second is binned (R400, R401). -/
def binSecond (i : Nat) (s : SecRes) (d : Dev) : Dev :=
  let p := point d i
  let (n, nl, ne) := availStep p.near s s.nses s.nes s.nbbe fun r => (r.nes, r.nbbe)
  let (f, fl, fe) := if s.skip then (p.far, [], none) else availStep p.far s s.fses s.fes s.fbbe fun r => (r.fes, r.fbbe)
  let q := adjust true fl (adjust false nl (onBins s.epoch (unlessCleared s.epoch fun b =>
    { b with valid := true, secs := b.secs + 1 }) p))
  let mark (b : Bin) : Bin := { b with neUn := n.un, feUn := f.un }
  let q := onBins s.epoch mark q
  let d := modPoint i (fun _ => { q with
    near := n, far := f, bins := tmod {} (tmod {} q.bins 0 mark) 2 mark }) d
  let d := match ne with
    | some e => pmUas i false n.un e d
    | none => d
  match fe with
  | some e => pmUas i true f.un e d
  | none => d

/-- A second is excluded whole (R399, R404). -/
def exclSecond (i epoch : Nat) (d : Dev) : Dev :=
  modPoint i (onBins epoch (unlessCleared epoch fun b => { b with excl := b.excl + 1, suspect := true })) d

/-- A second evaluated for a point: excluded when bit 30 of what was seen is set. -/
def evalSecond (epoch i : Nat) (x : Nat × Nat × Nat × Nat) (d : Dev) : Dev :=
  if x.2.2.2.testBit 30 then exclSecond i epoch d
  else binSecond i (secOf (mpRec d i) epoch x.1 x.2.1 x.2.2.1 x.2.2.2) d

/-! ### The PM second boundary (R397) -/

/-- The accumulators of a point in the closing second: blocks, errors, far errors and defects seen, with bit 30 when excluded. -/
def snapshot (d : Dev) (e : Nat × Bytes) : Nat × Nat × Nat × Nat :=
  let l := layer d (mpLayer e.2)
  let p := point d e.1
  (l.blk, l.err, l.fe, p.seen + (if p.excl then 2 ^ 30 else 0))

/-- Step 2: PM_CLEAR (R407). The closing second, which starts at `from_`, is the first that a cleared current bin holds. -/
def clearBins (from_ : Nat) (i : Nat) (d : Dev) : Dev :=
  let p := point d i
  let zero (b : Bin) : Bin := { start := b.start, suspect := true, valid := b.valid, cleared := from_ }
  let hit (k : Nat) : Bool := p.clr.testBit 2 || (k == 0 && p.clr.testBit 0) || (k == 2 && p.clr.testBit 1)
  if p.clr = 0 then d
  else modPoint i (fun p => { p with
    bins := [0, 1, 2, 3].foldl (fun t k => if hit k then tmod {} t k zero else t) p.bins
    hist := if p.clr.testBit 2 then p.hist.map zero else p.hist
    clr := 0 }) d

/-- DEG of a point (R387). -/
def stepDeg (i : Nat) (r : Bytes) (x : Nat × Nat × Nat × Nat) (d : Dev) : Dev :=
  let s := secOf r 0 x.1 x.2.1 x.2.2.1 x.2.2.2
  let near := x.2.2.2.testBit 29 || (List.range 29).any fun b => x.2.2.2.testBit b && decide (classOf b ≤ 4)
  if near || !hasFar r || x.2.2.2.testBit 30 || (s.skip && near) then d
  else
    let bad := decide (x.2.1 ≥ mpDegThr r)
    modPoint i (fun p =>
      let b := if bad then p.degBad + 1 else 0
      let g := if bad then 0 else p.degGood + 1
      { p with
        degBad := b, degGood := g
        deg := if b ≥ mpDegM r then true else if g ≥ mpDegM r then false else p.deg }) d

/-- A new interval's bins: the current ones become the previous ones (R403); a point that has not begun has none. -/
def rotate15 (start : Nat) (early : Bool) (p : Point) : Point :=
  let cur := tget {} p.bins 0
  let prev := tget {} p.bins 1
  let pack (b : Bin) : Bin := { b with nbbe := pmEncode b.nbbe, fbbe := pmEncode b.fbbe }
  if p.fresh then p else { p with
    hist := (pack prev :: p.hist).take 96
    bins := tset (tset p.bins 1 { cur with suspect := cur.suspect || early }) 0
      { start := start, neUn := p.near.un, feUn := p.far.un } }

def rotate24 (start : Nat) (early : Bool) (p : Point) : Point :=
  let cur := tget {} p.bins 2
  if p.fresh then p else { p with
    bins := tset (tset p.bins 3 { cur with suspect := cur.suspect || early }) 2
      { start := start, neUn := p.near.un, feUn := p.far.un } }

/-- Every point. -/
def allPoints (f : Nat → Point → Point) (d : Dev) : Dev :=
  (points d.prov.serv).foldl (fun d e => modPoint e.1 (f e.1) d) d

/-- Points whose bin k carries SUSPECT. -/
def suspects (d : Dev) (k : Nat) : Nat := ((points d.prov.serv).filter fun e => (tget {} (point d e.1).bins k).suspect).length

/-- An interval that ended at e joins those that wait; the bins of the one before it, of which n carry SUSPECT, leave their place. -/
def pendNext (n start e : Nat) (l : List PendBin) : List PendBin :=
  (l.map fun b => { b with n := some (b.n.getD n) }) ++ [{ start := start, end_ := e }]

/-- Step 4: rotation at the boundaries of R403. -/
def rotate (d : Dev) : Dev :=
  let e := now d
  let early := d.pm.phaseDue
  let phase := rf d .pmonPhase 26 0
  let hit (len : Nat) : Bool := early || subMod len e phase == 0
  let d := modPm (fun m => { m with phase := phase, phaseDue := false }) d
  let d := gate (hit 900000) (fun d =>
    let n := suspects d 1
    modPm (fun m => { m with prev15 := m.cur15, cur15 := e, fin15 := pendNext n m.cur15 e m.fin15 })
      (allPoints (fun _ => rotate15 e early) d)) d
  gate (hit 86400000) (fun d =>
    let n := suspects d 3
    modPm (fun m => { m with prev24 := m.cur24, cur24 := e, fin24 := pendNext n m.cur24 e m.fin24 })
      (allPoints (fun _ => rotate24 e early) d)) d

/-- A point that a commit created begins now: its bins start in the intervals in progress, with SUSPECT (R30, R404). After a reset of
D4 every bin restarts with SUSPECT (R412). -/
def beginPoint (all : Bool) (d : Dev) (p : Point) : Point :=
  let cur (s : Nat) : Bin := { start := s, suspect := all || decide (s < now d) }
  let prev (s : Nat) : Bin := { start := s, suspect := all }
  { p with fresh := false, since := now d, bins := [(0, cur d.pm.cur15), (1, prev d.pm.prev15), (2, cur d.pm.cur24), (3, prev d.pm.prev24)] }

/-- The intervals that hold the first second after a reset of D4 (R403). -/
def firstIntervals (from_ : Nat) (m : PmSt) : PmSt :=
  let start (len : Nat) : Nat := from_ - subMod len from_ m.phase
  { m with cur15 := start 900000, prev15 := start 900000 - 900000, cur24 := start 86400000, prev24 := start 86400000 - 86400000 }

/-- Every accumulator begins a new second. -/
def newSecond (d : Dev) : Dev :=
  let d := modPm (fun m => { m with layers := tmap m.layers fun _ l => { l with blk := 0, err := 0, fe := 0 } }) d
  observe (allPoints (fun _ p => { p with seen := 0, excl := false }) d)

/-- Point i is the one that ran in the second that started at `epoch` (R399). -/
def pointHad (d : Dev) (i epoch : Nat) : Bool := hasPoint d i && !(point d i).fresh && decide ((point d i).since ≤ epoch)

/-- A second of the backlog is dropped: it is excluded, counted and posted (R402). -/
def dropSecond (s : BackSec) (d : Dev) : Dev :=
  let d := s.data.foldl (fun d x => gate (pointHad d x.1 s.epoch) (exclSecond x.1 s.epoch) d) d
  let d := satCtr .pmonExcl 31 0 1 d
  if d.pm.exclSeen then d
  else evtPm 0x0A04 0xFFFFFFFF (be 4 (reg d .pmonExcl).toNat) (modPm (fun m => { m with exclSeen := true }) d)

/-- A second is dropped from a full backlog (R402). -/
def dropOldest (d : Dev) : Dev :=
  match d.pm.backlog with
  | [] => d
  | s :: rest => dropSecond s (modPm (fun m => { m with backlog := rest }) d)

/-- The report of the oldest second of the backlog (R402). -/
def backlogReport (d : Dev) : Dev :=
  let waits := match tfind d.asst.newest (akey 8 0) with
    | some r => r.opened
    | none => false
  match d.pm.backlog with
  | [] => d
  | s :: _ =>
    if waits || isFrozen d 8 0 then d
    else
      let n (f : SecRes → Bool) : Nat := (s.data.filter fun x =>
        pointHad d x.1 s.epoch && !x.2.2.2.2.testBit 30 && f (secOf (mpRec d x.1) s.epoch x.2.1 x.2.2.1 x.2.2.2.1 x.2.2.2.2)).length
      report 8 0 1 (be 6 s.epoch ++ be 2 d.pm.backlog.length ++ be 4 (n (·.nses)) ++ be 4 (n (·.nes))) d

/-- The oldest second of the backlog is binned, or excluded; one to be binned whose 15-minute bin is history is excluded as a dropped
one is (R402). -/
def backlogSecond (bin : Bool) (d : Dev) : Dev :=
  match d.pm.backlog with
  | [] => d
  | s :: rest =>
    let d := modPm (fun m => { m with backlog := rest }) d
    if bin && decide (s.epoch < d.pm.prev15) then dropSecond s d
    else s.data.foldl (fun d x => gate (pointHad d x.1 s.epoch)
      (if bin then evalSecond s.epoch x.1 x.2 else exclSecond x.1 s.epoch) d) d

/-- The decision of function 8 at its X: ACTION, COUNT (R402). -/
def decideBinning (b : Bytes) (d : Dev) : Dev :=
  let d := each (List.range (min (u16 b 6) d.pm.backlog.length)) (fun _ => backlogSecond (u8 b 0 == 1)) d
  backlogReport d

/-- Function 8 returns to hardware mode: the whole backlog is binned at once (R402). -/
def binAll (d : Dev) : Dev := each (List.range d.pm.backlog.length) (fun _ => backlogSecond true) d

/-- PM_SECOND_BOUNDARY (R397): once at a boundary (R30). -/
def pmSecond (d : Dev) : Dev :=
  if !domReady d 4 || now d % 1000 != 0 || d.pm.secAt == now d then d
  else
    let from_ := now d - 1000
    let restart := d.pm.secAt == 0
    let d := gate restart (modPm (firstIntervals from_)) d
    let live := (points d.prov.serv).filter fun e => !(point d e.1).fresh
    let snaps := live.map fun e => (e.1, snapshot d e)
    let d := (points d.prov.serv).foldl (fun d e => clearBins from_ e.1 d) d
    let d := live.foldl (fun d e => stepDeg e.1 e.2 (snapshot d e) d) d
    let d := if assisted d 8 0 then
        let d := gate (decide (d.pm.backlog.length ≥ 900)) dropOldest d
        backlogReport (modPm (fun m => { m with backlog := m.backlog ++ [{ epoch := from_, data := snaps }] }) d)
      else snaps.foldl (fun d x => evalSecond from_ x.1 x.2 d) d
    let d := rotate (modPm (fun m => { m with secAt := now d }) d)
    newSecond (wrapCtr .pmonSec 31 0 1 (allPoints (fun _ p => if p.fresh then beginPoint restart d p else p) d))

/-- PM_BIN_FINAL of the oldest 15-minute or 24-hour interval that waits (R403). -/
def pmBinFinal (day : Bool) (d : Dev) : Dev :=
  match if day then d.pm.fin24 else d.pm.fin15 with
  | [] => d
  | b :: l =>
    let held := d.pm.backlog.any fun s => decide (b.start ≤ s.epoch ∧ s.epoch < b.end_)
    if !domReady d 4 || (if assisted d 8 0 then held else decide (now d < b.end_ + 10000)) then d
    else
      let n := b.n.getD (suspects d (if day then 3 else 1))
      let d := modPm (fun m => if day then { m with fin24 := l } else { m with fin15 := l }) d
      if (points d.prov.serv).isEmpty then d
      else evtPm 0x0A03 0xFFFFFFFF (be 6 b.start ++ be 1 day.toNat ++ zeros 1 ++ be 4 n) d

/-! ### PM_READ and PM_CLEAR (R406, R407) -/

/-- BIN values and the bin they select: 0 to 3 exact, 4 + h for history h. -/
def binSel (b : Nat) : Option Nat :=
  if b ≤ 3 then some b else if 0x101 ≤ b ∧ b ≤ 0x160 then some (4 + (b - 0x101)) else none

/-- The bin a selection shows, and whether it is a history bin. -/
def binShown (d : Dev) (i s : Nat) : Bin × Bool :=
  if s < 4 then (tget {} (point d i).bins s, false) else ((point d i).hist.getD (s - 4) {}, true)

/-- A BBE value as PM_READ shows it. -/
def bbeShown (hist : Bool) (v : Nat) : Nat := if hist then (pmDecode v).getD (2 ^ 64 - 1) else v

/-- The 64-byte record of PM_READ (R406). -/
def pmRecord (d : Dev) (i bin s : Nat) : Bytes :=
  let (b, h) := binShown d i s
  let ne := if s = 0 ∨ s = 2 then (point d i).near.un else b.neUn
  let fe := if s = 0 ∨ s = 2 then (point d i).far.un else b.feUn
  be 4 i ++ be 2 bin
    ++ be 1 (b.valid.toNat * 128 + b.suspect.toNat * 64 + h.toNat * 32 + ne.toNat * 16 + fe.toNat * 8) ++ zeros 1
    ++ be 6 b.start ++ zeros 2 ++ be 4 (if h then 0xFFFFFFFF else b.secs) ++ be 4 (if h then 0xFFFFFFFF else b.excl)
    ++ be 8 (bbeShown h b.nbbe) ++ be 4 b.nes ++ be 4 b.nses ++ be 4 b.nuas
    ++ be 4 b.fes ++ be 4 b.fses ++ be 4 b.fuas ++ be 8 (bbeShown h b.fbbe)

/-- PM_CLEAR of one point: the bins named wait for the next second (R407). -/
def requestClear (bin i : Nat) (d : Dev) : Dev :=
  let k := if bin = 0 then 1 else if bin = 2 then 2 else 4
  modPoint i (fun p => { p with clr := Nat.lor p.clr k }) d

/-! ### Registers (R403, R410) -/

/-- PMON_PHASE: clamped to its range, rounded down to a whole second (R403, R410). Answers whether RANGE is set. -/
def pmonPhase (v : Nat) : Nat × Bool :=
  let w := min (v % 2 ^ 27) 86399000
  (w / 1000 * 1000, decide (v % 2 ^ 27 > 86399000) || w % 1000 != 0)

/-- PMON_PHASE_WRITE takes effect at the next second. -/
def setPhase (v : Nat) (d : Dev) : Dev :=
  modPm (fun m => { m with phaseDue := true }) (setRf .pmonPhase 26 0 (pmonPhase v).1 d)

/-- The 8-byte entry of the point status window (R409). -/
def pointEntry (d : Dev) (i : Nat) : Bytes :=
  if !hasPoint d i then zeros 8
  else
    let p := point d i
    let r := mpRec d i
    be 4 (Nat.lor (corr d i r) (bitsOf [(29, (pointLive d i r).testBit 29)])) ++ be 1 p.decl ++ be 1 p.epochLast
      ++ be 1 (p.near.un.toNat * 128 + p.far.un.toNat * 64 + (assisted d 1 i).toNat * 32 + (isFrozen d 1 i).toNat * 16 + 8)
      ++ zeros 1

/-- A point as a commit creates it: it begins at once on a PM second boundary, else at the next one (R30). -/
def newPoint (d : Dev) : Point := if d.pm.secAt != 0 && d.pm.secAt == now d then beginPoint false d {} else {}

/-- A commit changes a point (R384): `old` and `new` records; a changed place acts as deletion and creation. -/
def pointCommit (i : Nat) (old new : Option Bytes) (d : Dev) : Dev :=
  match old, new with
  | _, none => modPm (fun m => { m with pts := tdel m.pts i }) d
  | none, some _ => modPoint i (fun _ => newPoint d) d
  | some a, some b =>
    if a = b then d
    else if mpSame a b then
      modPoint i (fun p => { p with bins := tmap p.bins fun k x => if k = 0 ∨ k = 2 then { x with suspect := true } else x }) d
    else modPoint i (fun _ => newPoint d) d

end Sys2Proof.Machine
end

