-- ==== Sys2Proof/Machine/Prot.lean ====
section
/-! DEFINITION. Linear protection switching (R413 to R421, R436 to R439). -/

namespace Sys2Proof.Machine

/-- Protection and merge events, and the counters of R270 and R438. -/
def evtProt (ty obj : Nat) (detail : Bytes) (d : Dev) : Dev := evtXc ty obj detail d

/-- A counter of WIDE space 0x06 counts n, with a wrap sticky (R270, R438). -/
def cctrAdd (k n : Nat) (d : Dev) : Dev :=
  if !domReady d 22 || n == 0 then d
  else
    let c := tget {} d.cctr k
    { d with cctr := tset d.cctr k { v := (c.v + n) % 2 ^ 48, wrap := c.wrap || decide (c.v + n ≥ 2 ^ 48) } }

def mgCtr (m k : Nat) : Nat := 0x10000 + m * 8 + k
def pgCtr (g k : Nat) : Nat := 0x20000 + g * 8 + k

def pg (d : Dev) (g : Nat) : ProtGrp := tget {} d.prot g
def modPg (g : Nat) (f : ProtGrp → ProtGrp) (d : Dev) : Dev := { d with prot := tmod {} d.prot g f }
def pgRec (d : Dev) (g : Nat) : Bytes := servRec d 7 g
def hasPg (d : Dev) (g : Nat) : Bool := (serv d 7 g).isSome && domReady d 22

/-- A live bit of XC_PGSTATg. -/
def pgLive (g b : Nat) (v : Bool) (d : Dev) : Dev := setLive (.xcPgstat g) 24 b v d

/-- SF of one container of a group (R415). -/
def sfOf (d : Dev) (r : Bytes) (c : Nat) : Bool :=
  if pgMon r = 0 then lineSsf d c
  else if pgMon r = 1 then rxFailed d c
  else
    lineSsf d c || meets (layer d (lkey 3 0 false c)).raw 0x7000 || match pointOn d 4 (pgLevel r) false c with
      | some (i, q) => meets (pointLive d i q) 0xF800
      | none => false

/-- SD of one container of a group (R415). -/
def sdOf (d : Dev) (r : Bytes) (c : Nat) : Bool :=
  let p := if pgMon r = 1 then pointOn d 3 0 false c else if pgMon r = 2 then pointOn d 4 (pgLevel r) false c else none
  match p with
  | some (i, q) => (corr d i q).testBit 21
  | none => false

/-- SF_W, SF_P, SD_W and SD_P as bits 0 to 3. -/
def condOf (d : Dev) (g : Nat) : Nat :=
  let r := pgRec d g
  bitsOf [(0, sfOf d r (pgWork r)), (1, sfOf d r (pgProt r)), (2, sdOf d r (pgWork r)), (3, sdOf d r (pgProt r))]

/-! ### The state machine (R417, R418) -/

/-- The command in force, as an APS_CMD code: the highest of those kept; 0 none (R417, R420). -/
def pgCmd (p : ProtGrp) : Nat := ([1, 2, 3, 4, 5, 6].find? p.cmds.testBit).getD 0

/-- A command joins those kept: a forced, or manual, switch takes the place of the other one of its kind; code 0 clears all (R421). -/
def addCmd (code cmds : Nat) : Nat :=
  if code = 0 then 0
  else
    let other := if code = 2 then 3 else if code = 3 then 2 else if code = 4 then 5 else if code = 5 then 4 else code
    nputBit (nputBit cmds other false) code true

/-- The local request: its code and the signal it asks for, true for normal traffic on protection (R417). -/
def localReq (r : Bytes) (p : ProtGrp) : Nat × Bool :=
  let b (i : Nat) : Bool := p.raised.testBit i
  let c (i : Nat) : Bool := p.cmds.testBit i
  if c 1 then (15, false)
  else if b 1 then (14, false)
  else if c 2 then (13, true)
  else if c 3 then (13, false)
  else if b 0 then (11, true)
  else if pgSdEn r && (b 2 || b 3) then (9, if b 2 && b 3 then p.sel else b 2)
  else if c 4 then (7, true)
  else if c 5 then (7, false)
  else if p.wtr then (5, true)
  else if c 6 then (4, p.sel)
  else if p.dnr then (1, true)
  else (0, false)

/-- Fields of accepted APS bytes (R416). -/
def apsReq (b : Bytes) : Nat := u8 b 0 / 16
def apsRequested (b : Bytes) : Nat := u8 b 1
def apsBridged (b : Bytes) : Nat := u8 b 2

/-- The local A, B, D and R bits. -/
def apsBits (r : Bytes) : Nat :=
  (decide (pgArch r ≠ 0)).toNat * 8 + (decide (pgArch r = 2)).toNat * 4 + (decide (pgArch r ≠ 0)).toNat * 2
    + (pgRevertive r).toNat

/-- The bytes sent (R416). -/
def apsSent (d : Dev) (g : Nat) : Bytes :=
  let p := pg d g
  be 1 (p.req * 16 + apsBits (pgRec d g)) ++ be 1 p.requested ++ be 1 p.bridged ++ [0]

/-- Where the APS bytes of a group stand: in the frames whose MFAS modulo 8 is 0 for the ODU path, k for TCMk (R416; G.709, PRESUMED,
log entry 154). -/
def apsLevel (r : Bytes) : Nat := if pgMon r = 2 then pgLevel r else 0

/-- The group of a container of a connected protection pair. -/
def pgOn (d : Dev) (c : Nat) : Option Nat := match connOf d c with
  | some (7, g, _) => some g
  | _ => none

/-- A protection container of a 1:1 group that is not bridged carries the NULL test signal (R418). -/
def nullSent (d : Dev) (c : Nat) : Bool := (pgOn d c).any fun g =>
  pgArch (pgRec d g) == 2 && !(pg d g).bridge && pgProt (pgRec d g) == c

/-- The group acts on the far end's request. -/
def bidirectional (r : Bytes) (p : ProtGrp) : Bool := pgArch r != 0 && !p.fopPm

/-- The far-end request that competes: a reverse request does not, nor one that a conflict has cleared (R418). -/
def farCode (p : ProtGrp) : Nat := if apsReq p.far = 2 ∨ p.farOut then 0 else apsReq p.far

/-- Both ends hold MS, or FS, for different signals (R418). -/
def apsConflict (r : Bytes) (p : ProtGrp) : Bool :=
  let l := localReq r p
  bidirectional r p && l.1 == farCode p && (l.1 == 7 || l.1 == 13) && decide (l.2.toNat ≠ apsRequested p.far)

/-- The outcome: request sent, REQUESTED, selector (R418). -/
def apsOutcome (r : Bytes) (p : ProtGrp) : Nat × Nat × Bool :=
  let l := localReq r p
  let far := farCode p
  if bidirectional r p && decide (far ≥ l.1) && far != 0 then
    let v := decide (apsRequested p.far = 1)
    (if l.1 = far then l.1 else if far = 1 then 1 else 2, v.toNat, if far = 4 then p.sel else v)
  else (l.1, l.2.toNat, l.2)

/-- The request that governs the group: the higher one of both ends (R418). -/
def apsGov (r : Bytes) (p : ProtGrp) : Nat := if bidirectional r p then max (localReq r p).1 (farCode p) else (localReq r p).1

/-- Report content of a host-assisted group (R420). -/
def protContent (d : Dev) (g : Nat) : Bytes :=
  let p := pg d g
  be 1 (p.cond + p.wtrDone.toNat * 16 + p.fopPm.toNat * 32 + p.fopNr.toNat * 64) ++ be 1 (pgCmd p) ++ fit 4 p.far
    ++ be 1 p.sel.toNat ++ be 1 p.req ++ zeros 26

/-- A host-assisted group reports; the manual gives no REASON for it, so it is a free value (log entry 15). -/
def protReport (g : Nat) (d : Dev) : Dev := report 2 g (peekFree d 256) (protContent d g) (stepFree d)

/-- XC_PGSTATg shows the group (R437). -/
def pgRegs (g : Nat) (d : Dev) : Dev :=
  let p := pg d g
  pgLive g 4 p.wtr (setRf (.xcPgstat g) 23 20 p.req (setRf (.xcPgstat g) 19 16 (apsReq p.far)
    (setRb (.xcPgstat g) 15 p.sel (setRb (.xcPgstat g) 14 p.bridge d))))

/-- The registers and records that show a group (R436, R437, R439). -/
def showPg (g : Nat) (conflict : Bool) (timer : Nat) (old : ProtGrp) (d : Dev) : Dev :=
  let p := pg d g
  let far := apsReq p.far
  let d := pgRegs g d
  let changed := old.req != p.req || apsReq old.far != far || old.sel != p.sel || old.bridge != p.bridge
  let four := be 1 p.req ++ be 1 far ++ be 1 p.sel.toNat ++ be 1 p.bridge.toNat
  let d := gate (changed || conflict) (evtProt 0x0401 g (four ++ be 1 conflict.toNat)) d
  let d := gate (old.sel != p.sel) (cctrAdd (pgCtr g (if p.sel then 0 else 1)) 1) d
  gate (changed || timer != 0) (fwd kProt g (epoch32 d) (four ++ be 1 timer)) d

/-- The commands left when a conflict clears FS, or MS (R418). -/
def dropClash (req cmds : Nat) : Nat :=
  if req = 13 then nputBit (nputBit cmds 2 false) 3 false else nputBit (nputBit cmds 4 false) 5 false

/-- Accepted A, B or D differ from the local ones (R418). -/
def pmMismatch (d : Dev) (g : Nat) : Bool :=
  let p := pg d g
  p.farSeen && u8 p.far 0 % 16 / 2 != apsBits (pgRec d g) / 2

/-- Accepted BRIDGED differs from the local REQUESTED (R418). -/
def nrMismatch (d : Dev) (g : Nat) : Bool :=
  let p := pg d g
  p.farSeen && pgArch (pgRec d g) != 0 && apsBridged p.far != p.requested

/-- FOP_PM and FOP_NR take new values; each change is posted, each declaration counted (R438, R439). -/
def setFop (g : Nat) (pmv nrv : Bool) (d : Dev) : Dev :=
  let p := pg d g
  let d := modPg g (fun p => { p with fopPm := pmv, fopNr := nrv }) d
  let d := pgLive g 5 pmv (pgLive g 6 nrv d)
  let d := cctrAdd (pgCtr g 3) ((pmv && !p.fopPm).toNat + (nrv && !p.fopNr).toNat) d
  gate (pmv != p.fopPm || nrv != p.fopNr) (evtProt 0x0402 g []) d

/-- The mismatches are judged as they stand: one that has ended clears its FOP, and one that begins is timed (R418). -/
def judgeFop (g : Nat) (d : Dev) : Dev :=
  let pm := pmMismatch d g
  let nr := nrMismatch d g
  let d := modPg g (fun p => { p with
    pmSince := if pm then some (p.pmSince.getD (now d)) else none
    nrSince := if nr then some (p.nrSince.getD (now d)) else none }) d
  setFop g ((pg d g).fopPm && pm) ((pg d g).fopNr && nr) d

/-- The state machine is evaluated (R418). A standby that follows its mate applies PROT records instead; a group in
host-assisted mode only shows its far end and its timer, and reports. `old` is the group as it was before. -/
def evalPg (old : ProtGrp) (g timer : Nat) (d : Dev) : Dev :=
  if !hasPg d g || following d || (pg d g).reinitAps || (pg d g).reinitSf then d
  else if assisted d 2 g then
    let d := modPg g (fun p => { p with wtr := p.wtr && decide (apsGov (pgRec d g) p ≤ 5) }) d
    gate (!isFrozen d 2 g) (protReport g) (showPg g false timer old d)
  else
    let r := pgRec d g
    let cur := pg d g
    let clash := apsConflict r cur
    let p := if clash then { cur with cmds := dropClash (localReq r cur).1 cur.cmds, farOut := true } else cur
    let o := apsOutcome r p
    let sel := o.2.2
    let bridge := pgArch r != 2 || apsRequested p.far == 1
    let p := { p with
      req := o.1, requested := o.2.1, sel := sel, bridge := bridge, bridged := bridge.toNat
      wtr := p.wtr && decide (apsGov r p ≤ 5), wtrDone := p.wtrDone && o.1 == 0, dnr := p.dnr && decide (o.1 ≤ 1) && sel }
    judgeFop g (showPg g clash timer old (modPg g (fun _ => p) d))

/-- What holds when a condition or command on working ends with the selector on protection: WTR or DNR (R418, R421). -/
def holdSel (r : Bytes) (d : Dev) (p : ProtGrp) : ProtGrp :=
  if !p.sel || p.wtr then p
  else if pgRevertive r then { p with wtr := true, wtrAt := now d, wtrDone := false } else { p with dnr := true }

/-- SF_SD_CHANGE (R415, R418): the conditions of the group are taken as they stand. -/
def sfSdChange (g : Nat) (d : Dev) : Dev :=
  if !hasPg d g then d
  else
    let r := pgRec d g
    let old := pg d g
    let p := old
    let c := condOf d g
    let rise := (List.range 4).filter fun b => c.testBit b && !p.cond.testBit b
    let fall := (List.range 4).filter fun b => !c.testBit b && p.cond.testBit b
    let start := !rise.isEmpty && pgHoldoff r != 0
    let held := tdrop p.hold fall.contains
    let drop (v : Nat) : Nat := fall.foldl (fun v b => nputBit v b false) v
    let add (v : Nat) : Nat := rise.foldl (fun v b => nputBit v b true) v
    let was := p.raised
    let p := { p with
      cond := c, reinitSf := false
      hold := if pgHoldoff r = 0 then held else rise.foldl (fun t b => tset t b (now d)) held
      raised := if pgHoldoff r = 0 then add (drop p.raised) else drop p.raised }
    let back := (was.testBit 0 && !p.raised.testBit 0) || (was.testBit 2 && !p.raised.testBit 2)
    let q := if back && !following d then holdSel r d p else p
    let d := modPg g (fun _ => q) d
    let d := each (List.range 4) (fun b => pgLive g b (c.testBit b)) d
    evalPg old g (if start then 1 else if q.wtr && !p.wtr then 3 else 0) d

/-- The conditions whose hold-off ends now, within its 1 ms (R418). -/
def holdDue (d : Dev) (g : Nat) : List Nat :=
  ((pg d g).hold.filter fun e => decide (e.2 + 100 * pgHoldoff (pgRec d g) ≤ now d + 1)).map (·.1)

/-- Those conditions are raised, where still present. -/
def raiseHeld (l : List Nat) (p : ProtGrp) : ProtGrp :=
  { p with raised := l.foldl (fun v b => if p.cond.testBit b then nputBit v b true else v) p.raised, hold := tdrop p.hold l.contains }

/-- APS_HOLDOFF_EXPIRY (R418): what is still present is raised. -/
def holdoffExpiry (g : Nat) (d : Dev) : Dev :=
  let l := holdDue d g
  if !hasPg d g || l.isEmpty then d else evalPg (pg d g) g 2 (modPg g (raiseHeld l) d)

/-- APS_WTR_EXPIRY (R418): NR follows. -/
def wtrExpiry (g : Nat) (d : Dev) : Dev :=
  if !hasPg d g || !(pg d g).wtr || following d then d
  else evalPg (pg d g) g 4 (modPg g (fun p => { p with wtr := false, wtrDone := true }) d)

/-- FOP_TIMER_EXPIRY: each mismatch that has lasted 50 ms is declared (R418). -/
def fopExpiry (g : Nat) (d : Dev) : Dev :=
  if !hasPg d g then d
  else
    let p := pg d g
    let due (t : Option Nat) : Bool := t.any fun e => decide (e + 50 ≤ now d)
    evalPg p g 0 (setFop g (p.fopPm || due p.pmSince) (p.fopNr || due p.nrSince) d)

/-- APS_RX_ACCEPT: one more occurrence of the APS bytes; the third identical one is accepted (R418). -/
def apsRx (g : Nat) (b : Bytes) (d : Dev) : Dev :=
  if !hasPg d g then d
  else
    let p := pg d g
    let b := fit 4 b
    let n := if b = p.cand ∧ p.candN ≠ 0 then p.candN + 1 else 1
    let d := modPg g (fun p => { p with cand := b, candN := n }) d
    if n < 3 || (p.farSeen && p.far == b && !p.reinitAps) then d
    else
      let d := gate (p.far != b || !p.farSeen) (cctrAdd (pgCtr g 2) 1) d
      let d := modPg g (fun p => { p with far := b, farSeen := true, farOut := false, reinitAps := false }) d
      evalPg p g 0 (judgeFop g d)

/-- APS_CMD (R417, R421): code 0 to 6. -/
def apsCommand (code g : Nat) (d : Dev) : Dev :=
  let r := pgRec d g
  let d := cctrAdd (pgCtr g 4) 1 d
  let p := pg d g
  let q := { p with cmds := addCmd code p.cmds }
  let q := if code = 0 && !following d && p.raised % 2 == 0 then holdSel r d q else q
  evalPg p g (if q.wtr && !p.wtr then 3 else 0) (modPg g (fun _ => q) d)

/-- The decision of function 2 at its X (R420). -/
def decideProt (g : Nat) (b : Bytes) (d : Dev) : Dev :=
  if !hasPg d g then d
  else
    let old := pg d g
    let bridged := u8 b 2
    let sel := u8 b 3 % 2 == 1
    judgeFop g (showPg g false 0 old (modPg g (fun p => { p with
      req := u8 b 0 % 16, requested := u8 b 1, bridged := bridged, bridge := bridged != 0, sel := sel
      wtrDone := false, dnr := p.dnr && sel }) d))

/-- FUNC_REINIT of a protection group (R421). -/
def reinitPg (g : Nat) (d : Dev) : Dev :=
  modPg g (fun p => { p with
    reinitAps := true, reinitSf := true, wtrAt := now d, hold := tmap p.hold fun _ _ => now d
    pmSince := p.pmSince.map fun _ => now d, nrSince := p.nrSince.map fun _ => now d, cand := [], candN := 0 }) d

/-- DECISION_PROT on a standby (R455): REQ, FAR_REQ, SEL, BRIDGE, TIMER. -/
def protRecord (g : Nat) (b : Bytes) (d : Dev) : Dev :=
  if !hasPg d g then d
  else
    let old := pg d g
    let t := u8 b 4
    showPg g false 0 old (modPg g (fun p => { p with
      req := u8 b 0 % 16, far := be 1 (u8 b 1 % 16 * 16 + u8 p.far 0 % 16) ++ (fit 4 p.far).drop 1, sel := u8 b 2 != 0, bridge := u8 b 3 != 0
      requested := (u8 b 2 != 0).toNat, bridged := (u8 b 3 != 0).toNat, dnr := u8 b 0 % 16 == 1 && u8 b 2 != 0
      wtr := if t = 3 then true else if t = 4 then false else p.wtr && decide (u8 b 0 ≤ 5)
      wtrAt := if t = 3 then now d else p.wtrAt
      raised := if t = 2 then (raiseHeld (tkeys p.hold) p).raised else p.raised
      hold := if t = 2 then [] else p.hold }) d)

/-- WTR_REMAINING in ms (R438). -/
def wtrRemaining (d : Dev) (g : Nat) : Nat :=
  let p := pg d g
  if p.wtr then p.wtrAt + pgWtr (pgRec d g) * 60000 - now d else 0

/-- PROT_STATUS of a protection group (R438). -/
def pgStatus (d : Dev) (g : Nat) : Bytes :=
  be 4 (reg d (.xcPgstat g)).toNat ++ be 4 (wtrRemaining d g) ++ fit 4 (pg d g).far ++ zeros 4

/-- The container that the selector delivers of a pair, for either of its containers. -/
def selCont (d : Dev) (g : Nat) : Nat := if (pg d g).sel then pgProt (pgRec d g) else pgWork (pgRec d g)

end Sys2Proof.Machine
end

