-- ==== Sys2Proof/Machine/Slalom.lean ====
section
/-! DEFINITION. Slalom merge (R422 to R439). Path 0 is PATH_A, path 1 is PATH_B. -/

namespace Sys2Proof.Machine

def mg (d : Dev) (g : Nat) : MergeGrp := tget {} d.merge g
def modMg (g : Nat) (f : MergeGrp → MergeGrp) (d : Dev) : Dev := { d with merge := tmod {} d.merge g f }
def mgRec (d : Dev) (g : Nat) : Bytes := servRec d 8 g
def hasMg (d : Dev) (g : Nat) : Bool := (serv d 8 g).isSome && domReady d 22

/-- The container of a path. -/
def pathCont (r : Bytes) (p : Nat) : Nat := if p = 0 then mgA r else mgB r

/-- The group carries ZPC blocks. -/
def mgZpc (d : Dev) (g : Nat) : Bool := isZpc (ctRec d (mgA (mgRec d g)))

/-- k frame periods of a container in ns (R424): a frame has 122,368 bits. -/
def framePeriods (k : Nat) (b : Bytes) : Nat := k * 122368 * 1000000 / max 1 (ctRate b)

/-- GUARD in ns (R424). -/
def guardNs (d : Dev) (g : Nat) : Nat :=
  let r := mgRec d g
  max (mgGuardUs r * 1000) (if mgZpc d g then 2000 else framePeriods 3 (ctRec d (mgA r)) + 2000)

/-- A live bit of XC_MGSTATm. -/
def mgLive (g b : Nat) (v : Bool) (d : Dev) : Dev := setLive (.xcMgstat g) 24 b v d

/-- A path's skew plus GUARD exceeds MAX_SKEW (R427, R430): that of the path that does not time the group. -/
def overPath (d : Dev) (g p : Nat) : Bool :=
  let m := mg d g
  mgMode (mgRec d g) == 1 && m.st != 0 && p != m.timing
    && decide (m.skew.natAbs + guardNs d g > mgMaxSkew (mgRec d g) * 1000000)

/-- EXTFC_LOCK is live on a container, and its received TAG is its SRC_TAG (R427). -/
def extLock (d : Dev) (c : Nat) : Bool := rb d (.xcCstat c) 0
def extTagOk (d : Dev) (c : Nat) : Bool := (tget {} d.cont c).ext.rxTag == ctTag (ctRec d c)

/-- A path is QUALIFIED (R427). -/
def qualified (d : Dev) (g p : Nat) : Bool :=
  let c := pathCont (mgRec d g) p
  !rxFailed d c && (if mgZpc d g then delinOk d c else extLock d c && extTagOk d c) && !overPath d g p

/-- Merge-buffer blocks in use: the copies of the path that does not time the group (R431, R438). -/
def bufBlocks (d : Dev) (g : Nat) : Nat :=
  let m := mg d g
  (total ((tget [] m.copies (1 - m.timing)).map fun u => u.content.length) + 2047) / 2048

/-- SKEW_NS as 4 bytes. -/
def skewBytes (d : Dev) (g : Nat) : Bytes := be 4 (twos 32 (mg d g).skew)

/-- The first unit not yet delivered. -/
def nextUnit (d : Dev) (g : Nat) : Nat := match (mg d g).last with
  | some u => (u + 1) % 2 ^ 32
  | none => 0

/-- A report of a host-assisted group (R435). -/
def mgReport (g reason p : Nat) (d : Dev) : Dev :=
  report 3 g reason (be 1 p ++ be 1 (mg d g).st ++ skewBytes d g ++ be 4 (bufBlocks d g) ++ zeros 24) d

/-- XC_MGSTATm shows STATE and TIMING (R437). -/
def mgRegs (g : Nat) (d : Dev) : Dev := setRf (.xcMgstat g) 23 20 (mg d g).st (setRb (.xcMgstat g) 19 ((mg d g).timing == 1) d)

/-- STATE, TIMING and the delivery set take new values, and are shown and forwarded (R430, R436, R439). -/
def setMg (g st timing set_ : Nat) (due : Int) (retimed : Bool) (d : Dev) : Dev :=
  let m := mg d g
  let d := modMg g (fun m => { m with st := st, timing := timing, set_ := set_, due := due, rejoin := false }) d
  let d := mgRegs g d
  let d := gate retimed (cctrAdd (mgCtr g 7) 1) d
  let d := gate (m.st != st || m.timing != timing || retimed) (evtProt 0x0404 g (skewBytes d g)) d
  gate (m.st != st || m.timing != timing || m.set_ != set_ || retimed)
    (fwd kMerge g (nextUnit d g) (be 1 st ++ be 1 set_ ++ be 1 timing)) d

/-- The due offset that keeps due times when the timing path changes (R429, R430). -/
def dueOn (m : MergeGrp) (p : Nat) : Int :=
  if m.timing = p then m.due else if p = 1 then m.due - m.skew else m.due + m.skew

/-- A path is later than the timing path. -/
def later (m : MergeGrp) (p : Nat) : Bool :=
  m.lag.testBit p || (p != m.timing && if p = 1 then decide (0 < m.skew) else decide (m.skew < 0))

/-- A re-time to a path: its arrival plus GUARD (R431). A MERGED group keeps both paths; else the group is SINGLE on the path, and the
other one joins again under R430. -/
def retime (g p : Nat) (d : Dev) : Dev :=
  let m := mg d g
  let gap := later m p && m.st != 0 && !mgZpc d g
  modMg g (fun m => { m with lag := nputBit m.lag p false, gap := m.gap || gap })
    (if m.st = 2 then setMg g 2 p 3 0 true d else setMg g 1 p (2 ^ p) 0 true d)

/-- SINGLE on a path: re-timed to it when it is LAGGING, else with due times unchanged. -/
def single (g p : Nat) (d : Dev) : Dev :=
  let m := mg d g
  if m.st = 0 then setMg g 1 p (2 ^ p) 0 false d
  else if m.lag.testBit p then retime g p (modMg g (fun m => { m with st := 1 }) d)
  else setMg g 1 p (2 ^ p) (dueOn m p) false d

/-- An aligned group forgets what it has delivered and buffered: the next unit is delivered whatever its number. -/
def forgetUnits (g : Nat) (d : Dev) : Dev :=
  gate (mgMode (mgRec d g) == 1) (modMg g fun m => { m with copies := [], last := none, lastEra := 0, era := [], gap := false }) d

/-- The group becomes IDLE. -/
def mgIdle (g : Nat) (d : Dev) : Dev := forgetUnits g (setMg g 0 (mg d g).timing 0 0 false d)

/-- The state machine of R430 in hardware mode; in host-assisted mode only what R429 keeps in hardware (R435). -/
def stepMg (g : Nat) (d : Dev) : Dev :=
  let m := mg d g
  let r := mgRec d g
  let host := assisted d 3 g
  let q (p : Nat) : Bool := m.qual.testBit p
  if following d then d
  else if m.cmd != 0 && !host then
    let p := m.cmd - 1
    if !q p then gate (m.st != 0) (mgIdle g) d
    else if m.st = 1 ∧ m.timing = p ∧ m.set_ = 2 ^ p then d
    else single g p d
  else if m.st = 0 then
    if host || m.qual == 0 then d
    else single g (if m.qual = 3 then mgPref r else if q 0 then 0 else 1) d
  else if m.st = 1 then
    let x := m.timing
    let y := 1 - x
    if !q x then if q y && !host then single g y d else mgIdle g d
    else if host then d
    else if q y && m.lag.testBit y then gate (mgRetime r) (retime g y) (modMg g (fun m => { m with rejoin := false }) d)
    else modMg g (fun m => { m with rejoin := q y }) d
  else if m.qual = 3 then d
  else if m.qual = 0 then mgIdle g d
  else
    let p := if q 0 then 0 else 1
    if host then setMg g 1 p (2 ^ p) (dueOn m p) false d else single g p d

/-- The paths are examined: QUALIFIED, LAGGING and OVER_SKEW are shown, posted and reported, and the states follow. -/
def checkPaths (g : Nat) (d : Dev) : Dev :=
  if !hasMg d g then d
  else
    let r := mgRec d g
    let m := mg d g
    let q := bitsOf [(0, qualified d g 0), (1, qualified d g 1)]
    let o := bitsOf [(0, overPath d g 0), (1, overPath d g 1)]
    let lag := Nat.land m.lag q
    -- a path that becomes QUALIFIED carries on the numbering of the other one
    let up (p : Nat) : Bool := q.testBit p && !m.qual.testBit p && q.testBit (1 - p)
    let era (p : Nat) : Nat := tget 0 m.era (if up p && !up (1 - p) then 1 - p else p)
    let failed (p : Nat) : Bool := rxFailed d (pathCont r p)
    let d := modMg g (fun m => { m with
      qual := q, overSkew := o, lag := lag, era := [(0, era 0), (1, era 1)]
      spoilt := Nat.lor m.spoilt (bitsOf [(0, failed 0), (1, failed 1)]) }) d
    let bad (c : Nat) : Bool := extLock d c && !extTagOk d c
    let d := mgLive g 0 (q.testBit 0) (mgLive g 1 (q.testBit 1) (mgLive g 2 (lag.testBit 0) (mgLive g 3 (lag.testBit 1)
      (mgLive g 4 (o != 0) (mgLive g 6 (!mgZpc d g && (bad (mgA r) || bad (mgB r))) d)))))
    let live := rf d (.xcMgstat g) 7 0
    let d := each [0, 1] (fun p d =>
      gate (m.qual.testBit p != q.testBit p || m.lag.testBit p != lag.testBit p || m.overSkew.testBit p != o.testBit p)
        (evtProt 0x0405 g (be 1 p ++ be 1 live)) d) d
    let d := if !assisted d 3 g then d
      else each [0, 1] (fun p d =>
        let up := q.testBit p && !m.qual.testBit p
        if o.testBit p && !m.overSkew.testBit p then mgReport g 3 p d
        else if m.qual.testBit p && !q.testBit p then mgReport g 4 p d
        else if lag.testBit p && (up || !m.lag.testBit p) then mgReport g 2 p d
        else if q.testBit p && !lag.testBit p && (up || m.lag.testBit p) then mgReport g 1 p d
        else d) d
    stepMg g d

/-- A path's lag as seen on its newest unit. -/
def setLag (g p : Nat) (v : Bool) (d : Dev) : Dev :=
  if (mg d g).lag.testBit p == v then d
  else
    let was := (mg d g).lag
    let d := modMg g (fun m => { m with lag := nputBit m.lag p v }) d
    let d := mgLive g (2 + p) v d
    let d := evtProt 0x0405 g (be 1 p ++ be 1 (rf d (.xcMgstat g) 7 0)) d
    let d := gate (assisted d 3 g && was.testBit p != v) (mgReport g (if v then 2 else 1) p) d
    let m := mg d g
    -- a LAGGING path is not in the delivery set (R430)
    let d := if v && m.st == 2 && !assisted d 3 g && !following d then single g (1 - p) d else d
    stepMg g d

/-! ### Units (R428, R429, R434) -/

/-- SEQ or FC x is newer than y (R433). -/
def newer (x y : Nat) : Bool := let k := subMod (2 ^ 32) x y; decide (1 ≤ k ∧ k ≤ 2 ^ 31 - 1)

/-- Unit u, after e restarts of the numbering, comes after the newest one delivered. -/
def afterLast (m : MergeGrp) (e u : Nat) : Bool := match m.last with
  | some l => decide (m.lastEra < e) || (m.lastEra == e && newer u l)
  | none => true

/-- The unit has been delivered, or passed. -/
def delivered (m : MergeGrp) (e u : Nat) : Bool := !afterLast m e u

/-- The skew of a unit that has now arrived on both paths is taken, while both are QUALIFIED, whether or not it has been delivered; those
before it on the other path come on one path only (R434). -/
def noteSkew (g p : Nat) (u : UnitCopy) (d : Dev) : Dev :=
  let m := mg d g
  if m.qual ≠ 3 then modMg g (fun m => { m with arr := [] }) d
  else
    let other := (tget [] m.arr (1 - p)).dropWhile fun x => x.1 != u.era || x.2.1 != u.num
    match other with
    | [] => modMg g (fun m => { m with arr := tmod [] m.arr p (· ++ [(u.era, u.num, u.at_)]) }) d
    | x :: rest =>
      let s : Int := if p = 1 then (u.at_ : Int) - x.2.2 else (x.2.2 : Int) - u.at_
      let (lo, hi) := m.skewRange.getD (s, s)
      modMg g (fun m => { m with
        arr := tset m.arr (1 - p) rest, skewSum := m.skewSum + s, skewN := m.skewN + 1
        skewRange := some (min lo s, max hi s) }) d

/-- The mean over the millisecond that ends, in force while both paths are QUALIFIED (R434). -/
def skewEpoch (g : Nat) (d : Dev) : Dev :=
  let m := mg d g
  let d := gate (m.skewN != 0 && m.qual == 3) (fun d =>
    let s := m.skewSum / (m.skewN : Int)
    setReg (.xcMgskew g) (BitVec.ofNat 32 (twos 32 s)) (modMg g (fun m => { m with skew := s }) d)) d
  mgLive g 5 false (modMg g (fun m => { m with skewSum := 0, skewN := 0, unprotSeen := false }) d)

/-- The due time of a unit in ns, from the timing path's arrival (R429). -/
def dueAt (d : Dev) (g e u : Nat) : Option Int :=
  let m := mg d g
  ((tget [] m.copies m.timing).find? fun x => x.era == e && x.num == u).map fun x => (x.at_ : Int) + guardNs d g + m.due

/-- A copy of the path that does not time the group passes through its buffer in GDDR6 (R431): event 1 as it is written, 0 as it is
read. -/
def bufferBursts (g ev p : Nat) (x : UnitCopy) (d : Dev) : Dev :=
  gate (p != (mg d g).timing) (blockBursts ev (mgSlice d.prov.serv (mgRec d g)) ((x.content.length + 2047) / 2048)) d

/-- The block of a ZPC unit begins with a marker that has RESTART set (R286, R287). -/
def unitRestarts (b : Bytes) : Bool := u16 b 6 == markCrc (b.take 6) && wbit b 5 4

/-- SLALOM_UNIT_ARRIVAL in aligned mode: unit, ns of the epoch, no errored byte and no failed check, content (R428, R429). A failure of
the path at any moment of the unit spoils it. -/
def unitArrival (g p u ns : Nat) (intact : Bool) (content : Bytes) (d : Dev) : Dev :=
  if !hasMg d g || mgMode (mgRec d g) != 1 then d
  else
    let p := p % 2
    let m := mg d g
    let failed := rxFailed d (pathCont (mgRec d g) p)
    let restart := mgZpc d g && unitRestarts content
    let era := tget 0 m.era p + restart.toNat
    let x : UnitCopy := {
      num := u % 2 ^ 32, at_ := now d * 1000000 + ns, clean := intact && !failed && !m.spoilt.testBit p, content := content
      restart := restart, era := era }
    let d := noteSkew g p x (modMg g (fun m => { m with era := tset m.era p era, spoilt := nputBit m.spoilt p failed }) d)
    let late := m.st != 0 && p != m.timing
      && (delivered m era x.num || match dueAt d g era x.num with
        | some t => decide ((x.at_ : Int) > t)
        | none => false)
    let d := gate (m.st != 0 && p != m.timing && m.qual.testBit p) (setLag g p late) d
    if late || delivered m era x.num then d
    else bufferBursts g 1 p x (modMg g (fun m => { m with copies := tmod [] m.copies p (· ++ [x]) }) d)

/-- Units delivered unprotected or lost (R431, R439). -/
def unprotected (g : Nat) (d : Dev) : Dev :=
  let d := mgLive g 5 true d
  if (mg d g).unprotSeen then d
  else evtProt 0x0406 g [] (modMg g (fun m => { m with unprotSeen := true }) d)

/-- The restarts before the unit of a number that is due: those of the copy that waits, the timing path's first. -/
def dueEra (m : MergeGrp) (u : Nat) : Nat :=
  (((tget [] m.copies m.timing ++ tget [] m.copies (1 - m.timing)).find? fun x => x.num == u && afterLast m x.era u).map (·.era)).getD
    m.lastEra

/-- SLALOM_DUE_DELIVERY of a unit (R429): the clean copy, by PREF where both are; the timing path's where neither is. -/
def dueDelivery (g u : Nat) (d : Dev) : Dev :=
  let m := mg d g
  let e := dueEra m u
  if !hasMg d g || mgMode (mgRec d g) != 1 || m.st == 0 || delivered m e u then d
  else
    let copy (p : Nat) : Option UnitCopy :=
      if m.set_.testBit p && !m.lag.testBit p then (tget [] m.copies p).find? fun x => x.era == e && x.num == u else none
    let pref := mgPref (mgRec d g)
    let keep (l : List UnitCopy) : List UnitCopy := l.filter fun x => decide (e < x.era) || (e == x.era && newer x.num u)
    let d := modMg g (fun m => { m with last := some u, lastEra := e, gap := false, copies := tmap m.copies fun _ l => keep l }) d
    let out (p : Nat) (x : UnitCopy) (d : Dev) : Dev :=
      bufferBursts g 0 p x <| cctrAdd (mgCtr g p) 1 (modMg g (fun m => { m with out := some (p, x) }) d)
    match copy 0, copy 1 with
    | none, none => unprotected g (cctrAdd (mgCtr g 4) 1 d)
    | some a, none => out 0 a (unprotected g (cctrAdd (mgCtr g 5) 1 d))
    | none, some b => out 1 b (unprotected g (cctrAdd (mgCtr g 5) 1 d))
    | some a, some b =>
      if a.clean && b.clean then if pref = 0 then out 0 a d else out 1 b d
      else if a.clean then out 0 a (cctrAdd (mgCtr g 2) 1 d)
      else if b.clean then out 1 b (cctrAdd (mgCtr g 2) 1 d)
      else
        let d := cctrAdd (mgCtr g 3) 1 d
        if m.timing = 0 then out 0 a d else out 1 b d

/-- REJOIN_HOLD_EXPIRY (R430). -/
def rejoinExpiry (g : Nat) (d : Dev) : Dev :=
  let m := mg d g
  if hasMg d g && m.st == 1 && m.rejoin && m.qual == 3 && m.lag == 0 && m.cmd == 0 && !assisted d 3 g && !following d then
    setMg g 2 m.timing 3 m.due false d
  else d

/-- The merge buffer is emptied; due times stay (R431, R436). -/
def emptyMerge (g : Nat) (d : Dev) : Dev :=
  modMg g (fun m => { m with copies := m.copies.filter fun e => e.1 == m.timing }) d

/-- FUNC_REINIT of a merge group (R436). -/
def reinitMg (g : Nat) (d : Dev) : Dev :=
  checkPaths g (forgetUnits g (modMg g (fun m => { m with qual := 0, lag := 0, overSkew := 0 }) d))

/-! ### First arrival (R433) -/

/-- A first-arrival path may deliver: no forced path excludes it, and in host-assisted mode it is in the delivery set. -/
def mayDeliver (d : Dev) (g p : Nat) : Bool :=
  let m := mg d g
  if assisted d 3 g then m.set_.testBit p else m.cmd == 0 || m.cmd == p + 1

/-- FIRST_ARRIVAL_BLOCK: SEQ, RESTART, the marker check, arrival in ns, content (R433, R434). -/
def firstArrival (g p seq ns : Nat) (restart markerOk : Bool) (content : Bytes) (d : Dev) : Dev :=
  if !hasMg d g || mgMode (mgRec d g) != 0 || !markerOk then d
  else
    let p := p % 2
    let x : UnitCopy := {
      num := seq % 2 ^ 32, at_ := now d * 1000000 + ns, clean := true, content := content, restart := restart }
    let d := noteSkew g p x d
    let m := mg d g
    let held := m.discard == some p
    let d := gate (held && restart) (modMg g (fun m => { m with discard := none })) d
    let fresh := match m.last with
      | some l => newer x.num l
      | none => true
    if !mayDeliver d g p || (held && !restart) || !fresh then cctrAdd (mgCtr g 6) 1 d
    else
      let d := modMg g (fun m => { m with
        last := some x.num, out := some (p, x), discard := if restart && !held then some (1 - p) else m.discard }) d
      cctrAdd (mgCtr g p) 1 d

/-- RESTART_DISCARD_TIMEOUT (R433). -/
def restartTimeout (g : Nat) (d : Dev) : Dev := if hasMg d g then modMg g (fun m => { m with discard := none }) d else d

/-! ### Commands and decisions (R432, R435, R455) -/

/-- The later of the QUALIFIED paths: a LAGGING one, else the one that the skew names (R432, R434). -/
def laterPath (m : MergeGrp) : Option Nat :=
  if m.qual = 3 then some (if m.lag = 1 then 0 else if m.lag = 2 then 1 else if m.skew ≥ 0 then 1 else 0)
  else if m.qual = 1 then some 0 else if m.qual = 2 then some 1 else none

/-- MERGE_CMD (R432); the caller has refused a path that is not QUALIFIED. In host-assisted mode it brings no path into the delivery set
and re-times nothing: ACTION 1 and 2 take the other path out (R435; DEDUCED, log entry 190). -/
def mergeCommand (action g : Nat) (d : Dev) : Dev :=
  if assisted d 3 g then
    let m := mg d g
    let p := action - 1
    if action = 0 then modMg g (fun m => { m with cmd := 0 }) d
    else if action = 3 then d
    else
      let d := modMg g (fun m => { m with cmd := action }) d
      gate (m.st == 2) (setMg g 1 p (2 ^ p) (dueOn m p) false) d
  else if action = 0 then stepMg g (modMg g (fun m => { m with cmd := 0 }) d)
  else if action = 3 then match laterPath (mg d g) with
    | some p => retime g p d
    | none => d
  else
    let p := action - 1
    single g p (modMg g (fun m => { m with cmd := action }) d)

/-- The decision of function 3 at its X: PATH, ACTION (R435). -/
def decideMerge (g : Nat) (b : Bytes) (d : Dev) : Dev :=
  if !hasMg d g then d
  else
    let p := u8 b 0 % 2
    let m := mg d g
    if u8 b 1 = 3 then retime g p d
    else if u8 b 1 = 1 then
      if m.st = 0 then single g p d
      else if m.st = 1 ∧ m.timing ≠ p then setMg g 2 m.timing 3 m.due false d
      else d
    else if u8 b 1 = 2 then
      if m.st = 2 then single g (1 - p) d else if m.st = 1 ∧ m.timing = p then mgIdle g d else d
    else d

/-- DECISION_MERGE on a standby (R455): AT, STATE, SET, TIMING. -/
def mergeRecord (g : Nat) (b : Bytes) (d : Dev) : Dev :=
  if !hasMg d g then d
  else
    let m := mg d g
    let p := u8 b 2 % 2
    let same := m.st == u8 b 0 && m.timing == p && m.set_ == u8 b 1
    -- a record that moves the timing to a LAGGING path, or changes nothing, tells of a re-time
    let retimed := same || (m.timing != p && m.lag.testBit p)
    let d := gate retimed (modMg g fun m => { m with lag := nputBit m.lag p false }) d
    setMg g (u8 b 0 % 16) p (u8 b 1 % 4) (if retimed then 0 else dueOn m p) false d

/-- PROT_STATUS of a merge group (R438). -/
def mgStatus (d : Dev) (g : Nat) : Bytes :=
  be 4 (reg d (.xcMgstat g)).toNat ++ be 4 (reg d (.xcMgskew g)).toNat ++ be 4 (bufBlocks d g) ++ be 4 (guardNs d g)

/-- Every merge group in service. -/
def eachMerge (f : Nat → Dev → Dev) (d : Dev) : Dev := each (objs d.prov.serv 8) f d

end Sys2Proof.Machine
end

