-- ==== Sys2Proof/Machine/Resize.lean ====
section
/-! DEFINITION. Elastic line capacity: maps, plans, the resize handshake and its switches (R350 to R380). -/

namespace Sys2Proof.Machine

def ln (d : Dev) (p : Nat) : LinePort := tget {} d.line p
def modLn (p : Nat) (f : LinePort → LinePort) (d : Dev) : Dev := { d with line := tmod {} d.line p f }
def rz (d : Dev) (p : Nat) : Rsz := (ln d p).rsz
def modRz (p : Nat) (f : Rsz → Rsz) (d : Dev) : Dev := modLn p (fun l => { l with rsz := f l.rsz }) d

/-- M: the slots of a map. -/
def slotCount (m : Nat) : Nat := ((List.range 320).filter fun i => m.testBit i).length

/-! ### Containers and maps (R351, R352) -/

/-- A container as the calendar in force holds it: its index, whether it is ZPC, its PRIORITY and its slots. -/
structure Held where
  c : Nat
  zpc : Bool
  prio : Nat
  slots : List Nat

/-- The containers carried directly on port p, ascending index. -/
def carried (d : Dev) (p : Nat) : List Held :=
  ((contsNow d).filter fun e => lineOf e.1 == p && ctDirect e.2 && !(slotsOf d e.1).isEmpty).map fun e =>
    { c := e.1, zpc := isZpc e.2, prio := ctPrio e.2, slots := slotsOf d e.1 }

/-- The slots of a container that a map leaves available. -/
def left (m : Nat) (h : Held) : List Nat := h.slots.filter fun s => m.testBit s

/-- A map preempts a container (R352). -/
def preempts (m : Nat) (h : Held) : Bool := if h.zpc then (left m h).isEmpty else decide ((left m h).length < h.slots.length)

/-- A container is, or stays, preempted under a map: a preempted ZPC container is restored when all its slots are available (R352). -/
def heldBy (d : Dev) (m : Nat) (h : Held) : Bool :=
  preempts m h || (h.zpc && (tget {} d.cont h.c).pre && decide ((left m h).length < h.slots.length))

/-- A map that R352 allows: no non-ZPC container partly available, no ZPC container without a slot. -/
def mapAllowed (d : Dev) (p m : Nat) : Bool :=
  (carried d p).all fun h => !(left m h).isEmpty && (h.zpc || !preempts m h) || (!h.zpc && (left m h).isEmpty)

/-- The slots of port p that no calendar entry names. -/
def unassigned (d : Dev) (p : Nat) : List Nat := (List.range 320).filter fun i => (tfind (ln d p).cal i).isNone

/-- CAL_CRC of the operating calendar under a map (R357). -/
def calCrc (d : Dev) (p m : Nat) : Nat :=
  (crc32 ((List.range 320).flatMap fun i => be 2 (if m.testBit i then match tfind (ln d p).cal i with
    | some c => ctTpn (ctRec d c)
    | none => 0 else 0))).toNat

/-- A map without, or with, some slots. -/
def dropSlots (m : Nat) (l : List Nat) : Nat := l.foldl (fun m s => nputBit m s false) m
def addSlots (m : Nat) (l : List Nat) : Nat := l.foldl (fun m s => nputBit m s true) m

/-- Containers by ascending priority then descending index, and the reverse (R359, R360). -/
def lowFirst (l : List Held) : List Held :=
  sortBy (fun a b => decide (a.prio < b.prio) || (a.prio == b.prio && decide (b.c ≤ a.c))) l
def highFirst (l : List Held) : List Held :=
  sortBy (fun a b => decide (b.prio < a.prio) || (a.prio == b.prio && decide (a.c ≤ b.c))) l

/-- The plan of a shrink to n slots (R359). Of a container that an adopted map covers in part, only its available slots can be taken
(DEDUCED, log entry 153). -/
def planShrink (d : Dev) (p n : Nat) (preempt : Bool) : Option Nat :=
  let m := (rz d p).txMap
  let need := slotCount m - n
  let free := (((unassigned d p).filter fun s => m.testBit s).reverse).take need
  let zpc := (lowFirst ((carried d p).filter (·.zpc))).foldl (fun (t : List Nat) h =>
    t ++ (((left m h).reverse).take (min ((left m h).length - 1) (need - t.length)))) free
  let hold := (lowFirst ((carried d p).filter fun h => !h.zpc))
  let r := if preempt then hold.foldl (fun (a : Nat × List Nat) h =>
      if a.1 = 0 then a else (a.1 - (left m h).length, a.2 ++ left m h)) (need - zpc.length, []) else (need - zpc.length, [])
  let gone := zpc.length + r.2.length
  if r.1 > 0 ∨ gone < need then none
  else some (dropSlots m (zpc.take (zpc.length - (gone - need)) ++ r.2))

/-- The plan of a grow to n slots (R360): what is left of the gain, and the map. Of a preempted container only the slots that are not
available are gained (DEDUCED, log entry 153). -/
def planGrow (d : Dev) (p n : Nat) : Option Nat :=
  let m := (rz d p).txMap
  let lacks (m : Nat) (h : Held) : List Nat := h.slots.filter fun s => !m.testBit s
  let whole := (highFirst ((carried d p).filter (heldBy d m))).foldl (fun (a : Nat × Nat) h =>
    let s := lacks a.2 h
    if s.length ≤ a.1 then (a.1 - s.length, addSlots a.2 s) else a) (n - slotCount m, m)
  let zpc := (highFirst ((carried d p).filter (·.zpc))).foldl (fun (a : Nat × Nat) h =>
    let s := (lacks a.2 h).take a.1
    (a.1 - s.length, addSlots a.2 s)) whole
  let free := ((unassigned d p).filter fun s => !m.testBit s).take zpc.1
  if free.length < zpc.1 then none else some (addSlots zpc.2 free)

/-- The map that RESIZE_PROPOSE plans. -/
def planMap (d : Dev) (p n : Nat) (preempt : Bool) : Option Nat :=
  if n < slotCount (rz d p).txMap then planShrink d p n preempt else planGrow d p n

/-! ### CAPABLE, BUSY (R358, R371) -/

/-- The accepted beacon of a line port (R224), and a bit of its byte 3. -/
def farBeacon (d : Dev) (p : Nat) : Bytes := (ln d p).beacon.acc.getD []
def farCap (d : Dev) (p b : Nat) : Bool := fstat d p 14 && wbit (farBeacon d p) 3 b
/-- NODE_ID of the far end. -/
def farNode (d : Dev) (p : Nat) : Nat := u64 (farBeacon d p) 6

def capable (d : Dev) (p : Nat) : Bool := lrResizeEn (lineRec d p) && farCap d p 1

/-- What of a table concerns port p: its calendar, its containers, its line record (R353). -/
def portPart (t : Tbl Bytes) (p : Nat) : Tbl Bytes :=
  t.filter fun e =>
    let ty := e.1 / 2 ^ 32
    let i := e.1 % 2 ^ 32
    (ty == 3 && i / 320 == p) || (ty == 2 && lineOf i == p) || (ty == 0x0A && i == p)

/-- A pending commit touches the port (R371, R374). -/
def pendTouches (d : Dev) (p : Nat) : Bool := d.prov.pend.any fun e => portPart e.tables p != portPart d.prov.serv p

/-- A container of the port is in a G.7044 resize. -/
def portFlexing (d : Dev) (p : Nat) : Bool := d.cont.any fun e => lineOf e.1 == p && e.2.flex != .idle

/-- A commit in service has changed AVAIL_MAP, and its R251 frame has not come (R355). -/
def mapPending (d : Dev) (p : Nat) : Bool := lrMap (lineRec d p) != (rz d p).txMap

/-- Check 8 of R371 fails. -/
def rszBusy (d : Dev) (p : Nat) : Bool :=
  (rz d p).st != 0 || portFlexing d p || pendTouches d p || mapPending d p || match (rz d p).doneAt with
    | some e => decide (now d < e + lrMinInt (lineRec d p))
    | none => false

/-- Non-ZPC containers that a map newly preempts. -/
def newlyLost (d : Dev) (p m : Nat) : List Held := (carried d p).filter fun h => !h.zpc && preempts m h && !preempts (rz d p).txMap h

/-- A non-ZPC container loses slots under a map (R371). -/
def losesSlots (d : Dev) (p m : Nat) : Bool :=
  (carried d p).any fun h => !h.zpc && (left (rz d p).txMap h).any fun s => !m.testBit s

/-- The verdict of hardware mode on a PROPOSE (R371): a reason, or 0 to accept. -/
def verdict (d : Dev) (p m : Nat) (preempt : Bool) (crc : Nat) : Nat :=
  let r := lineRec d p
  let n := slotCount m
  let cur := slotCount (rz d p).txMap
  let lost := newlyLost d p m
  if !capable d p then 1
  else if (decide (cur < n) && !lrAccGrow r) || (decide (n < cur) && !lrAccShrink r) then 2
  else if n < lrMinSlots r then 3
  else if max n cur - min n cur > lrMaxStep r then 4
  else if calCrc d p m ≠ crc ∨ !mapAllowed d p m then 5
  else if losesSlots d p m && !preempt then 6
  else if !lost.isEmpty && !(lrAccPre r && lost.all fun h => decide (h.prio ≤ lrPreMax r)) then 7
  else if rszBusy d p then 8
  else if provFrozen d then 13
  else 0

/-! ### Messages (R357, R358) -/

def rmMsg (b : Bytes) : Nat := u8 b 2
def rmPreempt (b : Bytes) : Bool := wbit b 3 0
def rmFresh (b : Bytes) : Bool := wbit b 3 2
def rmId (b : Bytes) : Nat := u32 b 4
def rmCd (b : Bytes) : Nat := u8 b 10
def rmReason (b : Bytes) : Nat := u8 b 11
def rmCrc (b : Bytes) : Nat := u32 b 18
def rmMap (b : Bytes) : Nat := mapAt b 22
/-- MAGIC and CRC are correct. -/
def rmOk (b : Bytes) : Bool := b.length == 64 && u16 b 0 == 0x5A52 && u16 b 62 == crcCcitt (b.take 62)

/-- The message that port p sends now. -/
def rszMessage (d : Dev) (p : Nat) : Bytes :=
  let z := rz d p
  let own := z.msg = 1 ∨ z.msg = 2 ∨ z.msg = 4
  let m := if own then z.newMap else z.txMap
  let b := [0x5A, 0x52] ++ be 1 z.msg
    ++ be 1 ((z.msg == 1 && z.preempt).toNat * 128 + z.responder.toNat * 64 + z.fresh.toNat * 32)
    ++ be 4 (if z.msg = 0 then 0 else z.propId) ++ be 2 (slotCount m) ++ be 1 (if z.msg = 4 then z.cd else 0)
    ++ be 1 (if z.msg = 3 ∨ z.msg = 5 then z.reason else 0) ++ be 6 (if z.msg = 4 then z.se else 0)
    ++ be 4 (calCrc d p m) ++ mapBytes m
  b ++ be 2 (crcCcitt b)

/-- SLn_LINE_RSZ_STAT and SLn_LINE_RSZ_ID show the engine (R378). -/
def showRz (p : Nat) (d : Dev) : Dev :=
  let z := rz d p
  let d := setRf (.lineRszStat p) 31 28 z.st (setRf (.lineRszStat p) 27 22 z.cd (setRf (.lineRszStat p) 21 18 z.lastReason
    (setRb (.lineRszStat p) 17 z.fresh (setRb (.lineRszStat p) 16 (capable d p)
      (setRf (.lineRszStat p) 8 0 (slotCount z.txMap) d)))))
  setReg (.lineRszId p) (BitVec.ofNat 32 z.propId) d

/-- A change of message is forwarded (R377, R455). -/
def fwdRz (p : Nat) (d : Dev) : Dev :=
  let z := rz d p
  showRz p (fwd kResize p (epoch32 d) (be 1 z.msg ++ be 1 z.cd ++ be 4 z.propId ++ be 6 z.se) d)

/-- A refusal or an abort is counted (R378). -/
def rszFail (p reason : Nat) (d : Dev) : Dev :=
  satCtr (.lineRszCnt p) 15 8 1 (setRb (.lineRszStat p) 14 true (modRz p (fun z => { z with lastReason := reason }) d))

/-- Back to IDLE, sending a message 8 times (R361, R362; NAK: log entry 16). -/
def rszEnd (p msg reason : Nat) (d : Dev) : Dev :=
  fwdRz p (modRz p (fun z => { z with st := 0, msg := msg, reason := reason, left := 8, cd := 0, sched := none }) d)

/-- RESIZE_REFUSED and RESIZE_ABORTED (R379). -/
def rszRefused (p reason : Nat) (d : Dev) : Dev := evtLine 0x0512 p p (be 1 reason) (rszFail p reason d)
def rszAborted (p reason : Nat) (d : Dev) : Dev := evtLine 0x0515 p p (be 1 reason) (rszFail p reason d)

/-! ### Switches (R352, R356, R364 to R370) -/

/-- Slots a ZPC container runs on under the transmit maps, none while it is preempted; a merged one on s_m (R352, R426). -/
def runSlots (d : Dev) (c : Nat) : Nat :=
  let own (c : Nat) : Nat := if (tget {} d.cont c).pre then 0 else ((slotsOf d c).filter fun s => (rz d (lineOf c)).txMap.testBit s).length
  match connOf d c with
  | some (8, g, q) => if isZpc (ctRec d c) then min (min (own c) (own q)) (mgRate (mgRec d g) * 100 / 515625) else own c
  | _ => own c

/-- XC_CSIZEi.NOW. -/
def setNow (c n : Nat) (d : Dev) : Dev :=
  setRf (.xcCsize c) 8 0 n { d with cont := tmod {} d.cont c fun x => { x with nowSlots := n } }

/-- A ZPC container takes its new size; a shrink rewinds its units (R368, R369, R426). -/
def resizeZpc (c : Nat) (d : Dev) : Dev :=
  let old := (tget {} d.cont c).nowSlots
  let n := runSlots d c
  if n = old then d
  else
    let own := (partnerOf d.prov.serv c).getD c
    gate (decide (n < old)) (rewindUnits own) (setNow c n d)

/-- A container and the members of an HO container. -/
def withMembers (d : Dev) (c : Nat) : List Nat := c :: (membersNow d c).map (·.1)

/-- A container is preempted or restored: LCK_PRE, flush, the event (R352, R368, R379). -/
def setPre (c : Nat) (v : Bool) (d : Dev) : Dev :=
  if (tget {} d.cont c).pre == v then d
  else
    let d := (withMembers d c).foldl (fun d k =>
      let d := setRb (.xcCstat k) 20 v { d with cont := tmod {} d.cont k fun x => { x with pre := v } }
      gate (v && isPkt (ctRec d k)) (startFlush k true 0) d) d
    evtLine 0x0516 (lineOf c) c (be 1 v.toNat) d

/-- The containers follow the transmit map of port p: counts of preempted and restored ones. -/
def followMap (p : Nat) (d : Dev) : Dev :=
  let m := (rz d p).txMap
  let l := carried d p
  let change (v : Bool) : Nat := (l.filter fun h => heldBy d m h == v && (tget {} d.cont h.c).pre != v).length
  let nPre := change true
  let nRes := change false
  let d := l.foldl (fun d h => setPre h.c (heldBy d m h) d) d
  let d := (l.filter (·.zpc)).foldl (fun d h =>
    let d := resizeZpc h.c d
    match connOf d h.c with
    | some (8, _, q) => resizeZpc q d
    | _ => d) d
  modRz p (fun z => { z with nPre := z.nPre + nPre, nRes := z.nRes + nRes }) d

/-- AVAIL_MAP of the record in service and of the shadow record (R356); so a pending commit that leaves AVAIL_MAP as it is does not
bring the old map back (R380). -/
def writeMap (p m : Nat) (d : Dev) : Dev :=
  let old := lrMap (lineRec d p)
  let put (t : Tbl Bytes) : Tbl Bytes := tset t (okey 0x0A p) (patch (lineRecIn t p) 160 (mapBytes m))
  { d with prov := { d.prov with
      serv := put d.prov.serv, shadow := put d.prov.shadow
      pend := d.prov.pend.map fun e => if lrMap (lineRecIn e.tables p) = old then { e with tables := put e.tables } else e } }

/-- Both directions have switched: DONE (R361, R362). -/
def rszComplete (p : Nat) (d : Dev) : Dev :=
  let z := rz d p
  if z.st = 4 && z.txDone && z.rxDone then
    let d := modRz p (fun z => { z with doneAt := some (now d), fresh := false }) d
    let d := setRb (.lineRszStat p) 15 true (satCtr (.lineRszCnt p) 31 16 1 d)
    let d := evtLine 0x0514 p p (be 2 z.oldM ++ be 2 (slotCount z.txMap) ++ be 2 z.nPre ++ be 2 z.nRes) d
    rszEnd p 6 0 d
  else showRz p d

/-- RESIZE_TX_SWITCH: the transmit map changes in one frame (R368). -/
def txSwitch (p : Nat) (d : Dev) : Dev :=
  let z := rz d p
  let d := modRz p (fun z => { z with txMap := z.newMap, txDone := true, cd := 0, sched := none }) d
  let d := followMap p (writeMap p z.newMap d)
  if z.st = 4 then rszComplete p d
  else showRz p (modRz p (fun z => { z with msg := 0 }) d)

/-- The switch is due: SWITCH is sent with CD 1 and a multiframe starts (R364). -/
def txDue (d : Dev) (p : Nat) : Bool :=
  let z := rz d p
  z.msg == 4 && z.cd == 1 && !z.txDone && (ln d p).txMfas == 0

/-- The direction byte of RESIZE_SWITCH: the codes of the two directions are free values that differ (R379; log entry 17). -/
def switchDir (rx : Bool) : Nat := (Config.switchDir + if rx then 1 + Config.switchGap % 255 else 0) % 256

/-- SWITCH messages with a countdown begin (R361, R366, R376). -/
def announceSwitch (p cd ns : Nat) (d : Dev) : Dev :=
  let se := now d + (ns + cd * 297610) / 1000000
  let d := modRz p (fun z => { z with msg := 4, cd := cd, se := se, sched := none, txDone := false }) d
  evtLine 0x0513 p p (be 6 se ++ be 1 cd ++ be 1 (switchDir false)) d |> fwdRz p

/-- The switch of a port at the start of a transmit multiframe: announced, counted down or made (R361, R364, R366). -/
def rszCount (p ns : Nat) (d : Dev) : Dev := match (rz d p).sched with
  | some k => if k = 0 then txSwitch p d else announceSwitch p k ns d
  | none =>
    if txDue d p then txSwitch p d
    else if (rz d p).msg = 4 ∧ (rz d p).cd > 1 then showRz p (modRz p (fun z => { z with cd := z.cd - 1 }) d)
    else d

/-- A message that is sent 8 times, NAK, ABORT or DONE, goes out once more; then IDLE follows (R358, R361, R362). -/
def rszRepeat (p : Nat) (d : Dev) : Dev :=
  let z := rz d p
  if z.st ≠ 0 ∨ !(z.msg == 3 || z.msg == 5 || z.msg == 6) then d
  else if z.left = 0 then fwdRz p (modRz p (fun z => { z with msg := 0, reason := 0 }) d)
  else modRz p (fun z => { z with left := z.left - 1 }) d

/-- The resize channel at a transmitted frame: multiframe and message boundaries (R358, R364). -/
def rszTick (p ns : Nat) (d : Dev) : Dev :=
  let mf := (ln d p).txMfas
  if mf % 32 ≠ 0 then d else rszRepeat p (gate (mf == 0) (rszCount p ns) d)

/-- RESIZE_TX_SWITCH. -/
def txSwitchCmd (p : Nat) (d : Dev) : Dev := if domReady d (6 + p) && txDue d p then txSwitch p d else d

/-- CD of a responder's own announcement, which begins with its next transmit multiframe: the least with which its switch starts at or
after received multiframe r + k (R366). The next frames of both directions are taken to start together (DEDUCED, log entry 187). -/
def answerCd (d : Dev) (p k : Nat) : Nat :=
  let wait := (256 - (ln d p).txMfas % 256) % 256
  (256 * k - ((ln d p).fr.mfas + 1) - wait + 255) / 256

/-- The responder announces its own transmit switch. -/
def scheduleOwn (p k : Nat) (d : Dev) : Dev :=
  modRz p (fun z => { z with st := 4, sched := some (max 1 (answerCd d p k)), txDone := false, rxDone := false }) d

/-- The receive map changes at a received multiframe (R365, R375). -/
def rxSwitch (p : Nat) (d : Dev) : Dev :=
  match (rz d p).pred with
  | none => d
  | some (_, m) =>
    let d := modRz p (fun z => { z with rxMap := m, rxDone := true, pred := none }) d
    rszComplete p d

/-- The predicted received multiframe has come. -/
def rxDue (d : Dev) (p : Nat) : Bool := match (rz d p).pred with
  | some (r, _) => decide (r ≤ (ln d p).rxMf)
  | none => false

/-- RESIZE_RX_SWITCH. -/
def rxSwitchCmd (p : Nat) (d : Dev) : Dev := if domReady d (6 + p) && rxDue d p then rxSwitch p d else d

/-! ### The handshake (R361 to R363, R371 to R376) -/

/-- A received message is valid, of the kind named, and the multiframe is aligned (R358). -/
def rszRx (d : Dev) (p : Nat) (msgs : List Nat) (b : Bytes) : Bool :=
  decide (p ≤ 3) && domReady d (6 + p) && rmOk b && msgs.contains (rmMsg b) && !fstat d p 8 && !fstat d p 10

/-- A message that is not valid, or comes without an aligned multiframe, is counted (R358, R521). -/
def rszBad (p : Nat) (b : Bytes) (d : Dev) : Dev :=
  gate (decide (p ≤ 3) && !(rmOk b && !fstat d p 8 && !fstat d p 10)) (count (6 + p) (ctrLine p 8) 1) d

/-- A valid message is acted on when the valid copy before it, in the same multiframe, is identical (R358). -/
def rszHear (p : Nat) (msgs : List Nat) (b : Bytes) (act : Dev → Dev) (d : Dev) : Dev :=
  if !rszRx d p msgs b then rszBad p b (gate (decide (p ≤ 3)) (modRz p fun z => { z with heard := none }) d)
  else
    let now_ := some ((ln d p).rxMf, b)
    if (rz d p).heard = now_ then act d else modRz p (fun z => { z with heard := now_ }) d

/-- A local proposal starts (R361, R373): its PROPOSAL_ID and the device. -/
def startProposal (p m : Nat) (preempt : Bool) (d : Dev) : Nat × Dev :=
  let id := if d.prov.lastProp + 1 = 2 ^ 32 then 1 else d.prov.lastProp + 1
  let d := { d with prov := { d.prov with lastProp := id } }
  let d := modRz p (fun z => { z with
    st := 1, responder := false, propId := id, newMap := m, preempt := preempt, msg := 1, reason := 0, left := 0
    txDone := false, rxDone := false, oldM := slotCount z.txMap, nPre := 0, nRes := 0, pred := none, sched := none, cd := 0 }) d
  (id, evtLine 0x0510 p p (be 4 id ++ be 2 (slotCount m) ++ [0]) (fwdRz p d))

/-- The responder accepts: ACK (R362). -/
def acceptProp (p : Nat) (d : Dev) : Dev :=
  evtLine 0x0511 p p [] (fwdRz p (modRz p (fun z => { z with st := 3, msg := 2 }) d))

/-- The responder refuses: NAK (R362). -/
def refuseProp (p reason : Nat) (d : Dev) : Dev := rszRefused p reason (rszEnd p 3 reason d) |> showRz p

/-- CONTENT of the report of function 5 (R372). -/
def propContent (d : Dev) (p crc : Nat) : Bytes :=
  let z := rz d p
  let d0 := modRz p (fun z => { z with st := 0 }) d
  let l := carried d p
  let diff (h : Held) : Nat := let a := (left z.txMap h).length; let b := (left z.newMap h).length; max a b - min a b
  be 4 z.propId ++ be 2 (slotCount z.newMap) ++ be 2 (slotCount z.txMap) ++ be 1 (z.preempt.toNat * 128)
    ++ be 1 (verdict d0 p z.newMap z.preempt crc) ++ be 2 (total ((l.filter (·.zpc)).map diff))
    ++ be 2 ((l.filter fun h => heldBy d z.newMap h != (tget {} d.cont h.c).pre).length) ++ zeros 20

/-- The port becomes the responder to a PROPOSE. -/
def respond (p : Nat) (b : Bytes) (d : Dev) : Dev :=
  let v := verdict d p (rmMap b) (rmPreempt b) (rmCrc b)
  let d := modRz p (fun z => { z with
    responder := true, propId := rmId b, newMap := rmMap b, preempt := rmPreempt b, pred := none
    txDone := false, rxDone := false, oldM := slotCount z.txMap, nPre := 0, nRes := 0, left := 0, sched := none, cd := 0 }) d
  if following d then d
  else if v = 1 then refuseProp p 1 d
  else
    let d := modRz p (fun z => { z with st := 2, msg := 0 }) d
    let d := evtLine 0x0510 p p (be 4 (rmId b) ++ be 2 (slotCount (rmMap b)) ++ [1]) d
    if assisted d 5 p then
      if calCrc d p (rmMap b) ≠ rmCrc b ∨ !mapAllowed d p (rmMap b) then refuseProp p 5 d
      else if provFrozen d then refuseProp p 13 d
      else showRz p (report 5 p 1 (propContent d p (rmCrc b)) d)
    else if v = 0 then acceptProp p d
    else refuseProp p v d

/-- RESIZE_PROPOSE_RX (R362, R363). -/
def proposeRx (p : Nat) (b : Bytes) (d : Dev) : Dev :=
  let z := rz d p
  if z.st = 0 then respond p b d
  else if z.st = 1 && decide (farNode d p > lrNodeId (lineRec d p)) && !following d then
    respond p b (rszAborted p 10 (modRz p (fun z => { z with st := 0 }) d))
  else d

/-- RESIZE_ACK_RX (R361). -/
def rszAckRx (p : Nat) (b : Bytes) (d : Dev) : Dev :=
  let z := rz d p
  if z.st == 1 && rmId b == z.propId && rmCrc b == calCrc d p z.newMap && !following d then
    let d := modRz p (fun z => { z with st := 4, sched := some (lrLead (lineRec d p)) }) d
    showRz p (evtLine 0x0511 p p [] d)
  else d

/-- RESIZE_NAK_RX (R361). -/
def rszNakRx (p : Nat) (b : Bytes) (d : Dev) : Dev :=
  let z := rz d p
  if z.st == 1 && rmId b == z.propId && !following d then
    fwdRz p (modRz p (fun z => { z with st := 0, msg := 0, left := 0 }) (rszRefused p (rmReason b) d))
  else d

/-- RESIZE_ABORT_RX (R362). -/
def rszAbortRx (p : Nat) (b : Bytes) (d : Dev) : Dev :=
  let z := rz d p
  if (z.st == 2 || z.st == 3) && rmId b == z.propId && !following d then
    fwdRz p (modRz p (fun z => { z with st := 0, msg := 0, left := 0 }) (rszAborted p (rmReason b) d))
  else d

/-- RESIZE_SWITCH_RX: a prediction (R365, R366, R376). -/
def rszSwitchRx (p : Nat) (b : Bytes) (d : Dev) : Dev :=
  let z := rz d p
  let k := rmCd b
  if k = 0 then d
  else
    let at_ := (ln d p).rxMf + k
    let mine := (z.st == 3 || z.st == 4) && rmId b == z.propId
    let idle := z.st == 0 && rmId b == 0 && rmMap b == z.txMap
    if !(mine || idle) then d
    else match z.pred with
      | some (r, _) => if r = at_ then d else modRz p (fun z => { z with predBad := z.predBad + 1 }) d
      | none =>
        if z.rxDone && mine then d
        else
          let d := modRz p (fun z => { z with pred := some (at_, rmMap b) }) d
          let d := evtLine 0x0513 p p (be 6 (u48 b 12) ++ be 1 k ++ be 1 (switchDir true)) d
          fwdRz p (if z.st = 3 && !following d then scheduleOwn p k d else d)

/-- The far end's map is followed at the next received multiframe (R375). -/
def lateFollow (p m : Nat) (d : Dev) : Dev :=
  count (6 + p) (ctrLine p 9) 1
    (satCtr (.lineRszCnt p) 7 0 1 (fwdRz p (modRz p (fun z => { z with pred := some ((ln d p).rxMf + 1, m) }) d)))

/-- An IDLE or DONE message of the far end: its map is followed, unless a prediction is due by the next multiframe, and adopted by a FRESH
port (R375, R376). -/
def rszDoneRx (p : Nat) (b : Bytes) (d : Dev) : Dev :=
  let m := rmMap b
  let z := rz d p
  let d := modRz p (fun z => { z with farMap := some m, farFresh := rmFresh b }) d
  let next := (ln d p).rxMf + 1
  let d := gate (m != z.rxMap && z.pred.all fun e => decide (next < e.1)) (lateFollow p m) d
  let adopt := z.st == 0 && z.fresh && m != z.txMap && z.sched.isNone && z.msg != 4
    && (!rmFresh b || decide (farNode d p > lrNodeId (lineRec d p)))
  if adopt then
    let d := modRz p (fun z => { z with propId := 0, newMap := m, nPre := 0, nRes := 0 }) d
    if following d then showRz p d
    else evtLine 0x0517 p p [] (showRz p (modRz p (fun z => { z with sched := some (lrLead (lineRec d p)) }) d))
  else showRz p d

/-- RESIZE_ACK_TMO (R361). -/
def rszAckTmo (p : Nat) (d : Dev) : Dev :=
  if decide (p ≤ 3) && (rz d p).st == 1 && !following d then rszAborted p 11 (rszEnd p 5 11 d) |> showRz p else d

/-- RESIZE_RESPONDER_TMO (R362, R375). -/
def rszRespTmo (p : Nat) (d : Dev) : Dev :=
  let z := rz d p
  if decide (p ≤ 3) && z.st == 3 && z.pred.isNone && !following d then
    if z.farMap = some z.newMap then
      let d := gate (z.rxMap != z.newMap) (lateFollow p z.newMap) d
      let done := decide (z.rxMap = z.newMap)
      showRz p (modRz p (fun z => { z with rxDone := done }) (scheduleOwn p 2 d))
    else fwdRz p (modRz p (fun z => { z with st := 0, msg := 0, left := 0 }) d)
  else d

/-- LOF or LOM, a freeze, before the first SWITCH is sent or adopted: the proposer aborts; a freeze also makes a responder refuse
(R361, R374). -/
def rszStop (p reason : Nat) (d : Dev) : Dev :=
  let z := rz d p
  if following d then d
  else if z.st = 1 || (z.st == 4 && !z.responder && z.sched.isSome) then rszAborted p reason (rszEnd p 5 reason d) |> showRz p
  else if reason = 13 && (z.st == 2 || (z.st == 3 && z.pred.isNone)) then refuseProp p 13 d
  else d

/-- FRESH_CLEAR (R376). -/
def freshClear (p : Nat) (d : Dev) : Dev :=
  let z := rz d p
  if decide (p ≤ 3) && domReady d (6 + p) && z.fresh && z.farMap == some z.txMap && z.rxMap == z.txMap then
    showRz p (modRz p (fun z => { z with fresh := false }) d)
  else d

/-- The decision of function 5 at its X: PROPOSAL_ID, ACTION (R372). -/
def decideResize (p : Nat) (b : Bytes) (d : Dev) : Dev :=
  let z := rz d p
  if z.st = 2 ∧ u32 b 0 = z.propId then if u8 b 4 = 1 then acceptProp p d else refuseProp p 9 d else d

/-- DECISION_RESIZE on a standby (R377, R455): MSG, CD, PROPOSAL_ID, SE. -/
def resizeRecord (p : Nat) (b : Bytes) (d : Dev) : Dev :=
  if p > 3 then d
  else
    let k := u8 b 0
    let z := rz d p
    let st := if k = 1 then 1 else if k = 2 then (if z.pred.isSome then 4 else 3) else if k = 4 then (if u32 b 2 = 0 then 0 else 4) else 0
    let d := modRz p (fun z => { z with
      st := st, msg := k, cd := u8 b 1, propId := u32 b 2, se := u48 b 6, sched := none
      left := if k = 3 ∨ k = 5 ∨ k = 6 then 8 else 0
      txDone := if k = 4 ∧ z.msg ≠ 4 then false else z.txDone }) d
    gate (k == 6 && z.st == 4) (fun d => satCtr (.lineRszCnt p) 31 16 1 (setRb (.lineRszStat p) 15 true d)) (showRz p d)

end Sys2Proof.Machine
end

