-- ==== Sys2Proof/Machine/Slots.lean ====
section
/-! DEFINITION. The 256-byte slots of requests and responses (R152) and the COMMAND messages that carry them to the mate
(R453). -/

namespace Sys2Proof.Machine

/-- Header fields of a slot (R152). -/
structure Slot where
  opcode : Nat
  tag : BitVec 16
  len : Nat
  resp : Bool := false
  hit : Bool := false
  mirrored : Bool := false
  status : Nat := 0
  ch : Nat
  epochLo : Nat := 0
  deriving DecidableEq, Repr

/-- The bytes of a slot: header, then the payload filled to 240 bytes with zeros. -/
def slotBytes (h : Slot) (payload : Bytes) : Bytes :=
  be 2 h.opcode ++ be 2 h.tag.toNat ++ be 2 h.len
    ++ be 2 (h.resp.toNat * 32768 + h.hit.toNat * 16384 + h.mirrored.toNat * 8192)
    ++ be 2 h.status ++ be 1 h.ch ++ [0] ++ be 4 h.epochLo ++ fit 240 payload

/-- The channel that serves an opcode: its high byte (R151). -/
def opcodeChannel (op : Nat) : Nat := op / 256

/-- COMMAND message of an accepted command: X, CHANNEL, a reserved byte and the request slot, in 6 cells (R453). -/
def sendCommand (x ch op : Nat) (tag : BitVec 16) (payload : Bytes) (d : Dev) : Dev :=
  sendMsg 3 6 (be 6 x ++ be 1 ch ++ [0] ++ slotBytes { opcode := op, tag := tag, len := payload.length, ch := ch } payload) d

/-- A command that an active issues by itself to a standby that follows it (R161, R505): it holds for X. -/
def selfCommand (op : Nat) (payload : Bytes) (d : Dev) : Dev :=
  gate (d.mate.active && (d.mate.st == 3 || d.mate.st == 4)) (sendCommand (now d + 1) (opcodeChannel op) op 0 payload) d

end Sys2Proof.Machine
end

