-- ==== Sys2Proof/Machine/Timing.lean ====
section
/-! DEFINITION. Timing: references, qualification and drift, selection, DPLL states, Glide holdover, outputs and their records
(R475 to R518). Frequencies are in 0.01 ppb, temperatures in 0.1 °C. -/

namespace Sys2Proof.Machine

def modTim (f : TimSt → TimSt) (d : Dev) : Dev := { d with tim := f d.tim }
def tr (d : Dev) (r : Nat) : TimRef := tget {} d.tim.ref r
def modRef (r : Nat) (f : TimRef → TimRef) (d : Dev) : Dev := modTim (fun t => { t with ref := tmod {} t.ref r f }) d
def dp (d : Dev) (i : Nat) : Dpll := tget {} d.tim.dpll i
def modDp (i : Nat) (f : Dpll → Dpll) (d : Dev) : Dev := modTim (fun t => { t with dpll := tmod {} t.dpll i f }) d

/-! ### Records (R507 to R510) -/

def rrEn (b : Bytes) : Bool := wbit b 0 0
def rrEsmc (b : Bytes) : Bool := wbit b 0 1
def rrFreq (b : Bytes) : Nat := u8 b 1
def rrSource (b : Bytes) : Nat := u16 b 2
def rrQl (b : Bytes) : Nat := u8 b 4
/-- The priority nibble of a DPLL: DPLL_SYS in bits 6.0 to 6.3. -/
def rrPrio (b : Bytes) (i : Nat) : Nat := u16 b 6 / 16 ^ (3 - i) % 16
def rrWtr (b : Bytes) : Nat := u16 b 8
def rrHoldoff (b : Bytes) : Nat := u16 b 10
/-- A threshold in 0.01 ppb. -/
def ppb (b : Bytes) (o : Nat) : Int := (u32 b o * 100 : Nat)
def rrSoft (b : Bytes) : Int := ppb b 12
def rrHard (b : Bytes) : Int := ppb b 16
def rrHyst (b : Bytes) : Int := ppb b 20
def rrTol (b : Bytes) : Int := ppb b 24

/-- The default reference record (R507): it gives no default of EN, FREQ, SOURCE and PRIO, which stand at no source and no candidate
(DESIGN CHOICE, log entry 157). -/
def defaultRef : Bytes :=
  [0, 0] ++ be 2 0xFFFF ++ [2, 0] ++ be 2 0 ++ be 2 300 ++ be 2 500 ++ be 4 2000 ++ be 4 9200 ++ be 4 1000 ++ be 4 4600 ++ be 4 0

/-- The checks of a reference record, in field order (R507). -/
def checkRef (r : Nat) (b : Bytes) : Option Nat :=
  firstBad [
    (0, !rrEsmc b || decide (8 ≤ r)),
    (1, if r < 8 then decide (rrFreq b ≤ 8) else rrFreq b == 0),
    (2, decide (r < 8) || decide (rrSource b < 64) || decide (0x100 ≤ rrSource b ∧ rrSource b ≤ 0x103) || rrSource b == 0xFFFF),
    (4, decide (rrQl b ≤ 9)),
    (8, decide (rrWtr b ≤ 720)),
    (10, decide (rrHoldoff b ≤ 1800)),
    (12, decide (100 ≤ u32 b 12 ∧ u32 b 12 ≤ 50000)),
    (16, decide (1000 ≤ u32 b 16 ∧ u32 b 16 ≤ 100000)),
    (20, decide (u32 b 20 ≤ 5000)),
    (24, decide (100 ≤ u32 b 24 ∧ u32 b 24 ≤ 50000))]

/-- The default DPLL record (R508). -/
def defaultDpll (i : Nat) : Bytes :=
  [1, if i = 1 then 0xA0 else 0x80, 2, 2] ++ be 2 300 ++ [0, 0] ++ be 4 1000 ++ be 2 30 ++ [0, 0]

/-- The DPLL record in force. -/
def dpRec (d : Dev) (i : Nat) : Bytes := if (dp d i).rec_.isEmpty then defaultDpll i else (dp d i).rec_
def drQlEn (b : Bytes) : Bool := wbit b 1 0
def drRevertive (b : Bytes) : Bool := wbit b 1 1
def drFollow (b : Bytes) : Bool := wbit b 1 2
def drLocalQl (b : Bytes) : Nat := u8 b 2
def drMinQl (b : Bytes) : Nat := u8 b 3
def drTempSrc (b : Bytes) : Nat := u8 b 6
def drAgree (b : Bytes) : Int := ppb b 8

/-- The checks of a DPLL record (R508). -/
def checkDpll (i : Nat) (b : Bytes) : Option Nat :=
  firstBad [
    (0, decide (u8 b 0 ≤ 3)),
    (1, !drFollow b || i == 1),
    (2, decide (drLocalQl b ≤ 9)),
    (3, decide (2 ≤ drMinQl b ∧ drMinQl b ≤ 9)),
    (4, decide (10 ≤ u16 b 4 ∧ u16 b 4 ≤ 3600)),
    (6, decide (drTempSrc b ≤ 10) || drTempSrc b == 0xFF),
    (8, decide (100 ≤ u32 b 8 ∧ u32 b 8 ≤ 10000)),
    (12, decide (u16 b 12 ≤ 240))]

/-- Output targets: 0x10 + k for CLKOUTk, 0x18 PPS_OUT, 0x19 FP_OUT. -/
abbrev tPps : Nat := 0x18
abbrev tFp : Nat := 0x19

/-- The default output record (R509). -/
def defaultOut (t : Nat) : Bytes :=
  if t < tPps then [0, 1, 0, 0, 0, 0] ++ be 2 1000 ++ zeros 8
  else [0, 0] ++ be 2 (if t = tFp then 8000 else 0) ++ [0x80, 0] ++ be 2 1000 ++ zeros 8

def outRec (d : Dev) (t : Nat) : Bytes := tget (defaultOut t) d.tim.out t
def orSource (b : Bytes) : Nat := u8 b 0
def orFreq (b : Bytes) : Nat := u8 b 1
def orDiv (b : Bytes) : Nat := u16 b 2
def orEn (b : Bytes) : Bool := wbit b 4 0
def orSqFree (b : Bytes) : Bool := wbit b 4 1
def orSqHold (b : Bytes) : Bool := wbit b 4 2
def orSqQl (b : Bytes) : Nat := u8 b 5
def orWidth (b : Bytes) : Nat := u16 b 6

/-- The period of PPS_OUT and FP_OUT in ns (R500). -/
def outPeriod (t : Nat) (b : Bytes) : Nat := if t = tFp then orDiv b * 125000 else 10 ^ 9

/-- The checks of an output record (R500, R509). -/
def checkOut (t : Nat) (b : Bytes) : Option Nat :=
  let clk := decide (t < tPps)
  firstBad [
    (0, if clk then decide (orSource b ≤ 3) else orSource b == 0),
    (1, if clk then decide (1 ≤ orFreq b ∧ orFreq b ≤ 10) else orFreq b == 0),
    (2, if t = tFp then decide (1 ≤ orDiv b ∧ orDiv b ≤ 8000) && 8000 % orDiv b == 0 else orDiv b == 0),
    (5, decide (orSqQl b ≤ 9)),
    (6, decide (1 ≤ orWidth b) && (clk || decide (2 * orWidth b * 100 < outPeriod t b)))]

/-- The checks of an ALIGN record (R510). -/
def checkAlign (d : Dev) (b : Bytes) : Option Nat :=
  let r := u8 b 1
  firstBad [
    (0, decide (u8 b 0 ≤ 1)),
    (1, u8 b 0 == 0 || (decide (r < 8) && rrFreq (tr d r).rec_ == 0)),
    (4, decide (-500000000 ≤ s32 (u32 b 4)) && decide (s32 (u32 b 4) ≤ 499999999))]

/-- The checks of a HOLDOVER_LOAD record (R510). -/
def checkHoldover (b : Bytes) : Option Nat :=
  firstBad [(24, decide (3600 ≤ u32 b 24 ∧ u32 b 24 ≤ 2592000))]

/-! ### Quality levels (R482) -/

/-- The rank of a received level. The codes of the enhanced levels are those of log entry 18. -/
def qlRank (q : Ql) : Nat :=
  let e := if q.ext then q.essm else 0
  let plain := e == 0 || e == 0xFF
  if q.failed then 0
  else if q.ssm = 2 then if e = 0x21 then 9 else if e = 0x20 then 8 else if e = 0x23 then 7 else if plain then 6 else 1
  else if q.ssm = 4 then if plain then 5 else 1
  else if q.ssm = 8 then if plain then 4 else 1
  else if q.ssm = 0xB then if e = 0x22 then 3 else if plain then 2 else 1
  else 1

/-- SSM code sent for a rank, and the enhanced code (log entry 18). -/
def ssmOf (k : Nat) : Nat :=
  if 6 ≤ k then 2 else if k = 5 then 4 else if k = 4 then 8 else if k = 3 ∨ k = 2 then 0xB else 0xF
def essmOf (k : Nat) : Nat :=
  if k = 9 then 0x21 else if k = 8 then 0x20 else if k = 7 then 0x23 else if k = 3 then 0x22 else 0xFF

/-- The QL rank in force of a reference. -/
def refQl (d : Dev) (r : Nat) : Nat :=
  let b := (tr d r).rec_
  if rrEsmc b && decide (8 ≤ r) then
    if rrSource b < 64 then qlRank (tget {} d.cli (rrSource b)).ql else 0
  else rrQl b

/-! ### Signals of the references (R477, R485) -/

/-- A recovered clock has no signal: its source's LOS, LOL, LOBL or LOAML, its CDR, or no such source (R477, R485). -/
def rcLost (d : Dev) (r : Nat) : Bool :=
  let s := rrSource (tr d r).rec_
  if s < 64 then
    match serv d 1 s with
    | none => true
    | some b => !cpRecClk b || !domReady d (10 + s / 16)
        || (List.range 4).any (fun k => pstat d s k)
        || !rb d (.cliLstat (s / 16) (cpRxLane b (cpRecClkLane b))) 1
  else if 0x100 ≤ s ∧ s ≤ 0x103 then
    let n := s - 0x100
    !domReady d (6 + n) || fstat d n 0 || fstat d n 1 || fstat d n 2
      || !rb d (.lineLstat n (mapNibble (lrTxMap (lineRec d n)) 0)) 1
  else true

/-- The condition of LOS of a reference: live, as detected, for a REFIN; from its source for a recovered clock. -/
def refLos (d : Dev) (r : Nat) : Bool := (tr d r).los

/-! ### Glide (R495) -/

/-- The temperature named by TEMP_SRC (R508, R511). A rail temperature that has not been read is taken as that of the common
region. -/
def dpTemp (d : Dev) (i : Nat) : Int :=
  let src := drTempSrc (dpRec d i)
  let common := s8 (rf d (.pwrRegion 4) 23 16) * 10
  if src = 0xFF then (dp d i).hostTemp.getD common
  else if src = 0 then common
  else
    let t := rf d (.pwrRailStat (src - 1)) 23 16
    if t = 0x80 then common else s8 t * 10

/-- An 8-byte two's complement field. -/
def s64 (n : Nat) : Int :=
  if n % 2 ^ 64 < 2 ^ 63 then ((n % 2 ^ 64 : Nat) : Int) else ((n % 2 ^ 64 : Nat) : Int) - ((2 ^ 64 : Nat) : Int)

/-- M(T, t) in 10^-15 (R495): T in 0.1 °C, t as an epoch. -/
def glideM (m : Bytes) (temp : Int) (t : Nat) : Int :=
  let dt := temp - s16 (u16 m 8)
  s64 (u64 m 0) + s32 (u32 m 12) * dt / 10 + s32 (u32 m 16) * dt * dt / 100
    + Config.glideLn (s32 (u32 m 20)) ((t : Int) - u48 m 28) (u32 m 24)

/-- XO_IN is TRUSTED for a DPLL (R484). -/
def xoTrusted (d : Dev) (i : Nat) : Bool :=
  let x := dp d i
  (x.model == 2 || x.model == 3) && d.tim.warm.testBit i && !x.stale

/-- The expected offset P of XO_IN of a DPLL, in 0.01 ppb (R483). -/
def expectP (d : Dev) (i : Nat) : Int :=
  let x := dp d i
  if xoTrusted d i then glideM x.mrec (dpTemp d i) (now d) / 10000
  else if x.anchor then x.anchorF
  else if x.model = 3 then s64 (u64 x.mrec 0) / 10000
  else 0

/-- The output frequency in HOLDOVER (R495). -/
def holdFreq (d : Dev) (i : Nat) : Int :=
  let x := dp d i
  if x.model = 2 ∨ x.model = 3 then
    x.anchorF + (glideM x.mrec (dpTemp d i) (now d) - glideM x.mrec x.anchorT x.anchorAt) / 10000
  else x.anchorF

/-- The output frequency of the next epoch in HOLDOVER: after HOLDOVER_LOAD it moves by at most 10 ppb per second, 0.01 ppb per epoch
(R497). -/
def slewFreq (d : Dev) (i : Nat) : Int :=
  let x := dp d i
  let v := holdFreq d i
  if !x.slew then v else if x.freq < v then x.freq + 1 else if v < x.freq then x.freq - 1 else v

/-- A saturated 4-byte frequency field (R516). -/
def satFreq (v : Int) : Nat := twos 32 (max (-2147483648) (min 2147483647 v))

/-! ### Registers (R513) -/

/-- A reference is selected by DPLL i. -/
def selBy (d : Dev) (i r : Nat) : Bool := (dp d i).sel == some r

/-- The RO fields of TIM_REFr_STAT. -/
def showRef (r : Nat) (d : Dev) : Dev :=
  let x := tr d r
  let live := bitsOf [(0, x.los), (1, x.oor), (2, x.softLive), (3, x.hardDisq), (4, x.conflict), (5, x.hardUnconf),
    (6, x.qualified), (7, x.wtr)]
  let q := if rrEn x.rec_ then refQl d r else 0
  setRf (.timRefStat r) 31 28 (bitmap 4 fun i => selBy d i r)
    (setRf (.timRefStat r) 27 24 q (setRf (.timRefStat r) 16 9 live d))

/-- A sticky bit of TIM_REFr_STAT or TIM_DPLLd_STAT is set. -/
def stickRef (r b : Nat) (d : Dev) : Dev := setRb (.timRefStat r) b true d
def stickDp (i b : Nat) (d : Dev) : Dev := setRb (.timDpllStat i) b true d

/-- The RO fields of TIM_DPLLd_STAT. -/
def showDpll (i : Nat) (d : Dev) : Dev :=
  let x := dp d i
  setRf (.timDpllStat i) 31 28 x.st (setRf (.timDpllStat i) 27 23 (x.sel.getD 0x1F)
    (setRf (.timDpllStat i) 22 19 x.qlTx
      (setRf (.timDpllStat i) 18 16 (x.mateSteer.toNat * 4 + (isFrozen d 6 i).toNat * 2 + (assisted d 6 i).toNat)
        (setRf (.timDpllStat i) 11 8 ((xoTrusted d i).toNat * 8 + x.model) d))))

/-- Every timing register follows its engine. -/
def showTiming (d : Dev) : Dev := each (List.range 24) showRef (each (List.range 4) showDpll d)

/-- TIM_XO on a change of XO_TRUSTED (R517). -/
def syncTrust (i : Nat) (d : Dev) : Dev :=
  let v := xoTrusted d i
  if v == (dp d i).trusted then d else evtTim 0x0209 i [] (modDp i (fun x => { x with trusted := v }) d)

/-! ### Qualification (R485 to R487) -/

/-- TIM_REF_QUAL: 1 qualified, 2 LOS, 3 OOR, 4 drift. -/
def refQual (r cause : Nat) (d : Dev) : Dev := evtTim 0x0203 r (be 1 cause) d

/-- The reference is disqualified for a cause. -/
def disqualify (r cause : Nat) (d : Dev) : Dev :=
  if !(tr d r).qualified then d
  else
    let d := modRef r (fun x => { x with
      qualified := false, hardDisq := cause == 4, hardUnconf := false, wtr := false, hold := false }) d
    let d := each (List.range 4) (fun i => gate (selBy d i r) (modDp i fun x => { x with lostSel := true })) d
    refQual r cause (stickRef r 3 (gate (cause == 4) (stickRef r 2) d))

/-- The conditions under which a disqualified reference waits to restore (R487). -/
def mayRestore (x : TimRef) : Bool :=
  rrEn x.rec_ && !x.qualified && !x.fresh && !x.los && !x.oor && decide (x.d.natAbs ≤ rrHard x.rec_ - rrHyst x.rec_)

/-- The wait starts, goes on or stops with its conditions. -/
def wtrCheck (r : Nat) (d : Dev) : Dev := modRef r (fun x => { x with wtr := mayRestore x }) d

/-- A reference enters LOS or OOR (R485): a selected one freezes its DPLLs and starts HOLDOFF_MS, another is disqualified. -/
def enterBad (r cause : Nat) (d : Dev) : Dev :=
  let was := (tr d r).los || (tr d r).oor
  let d := modRef r (fun x => { x with los := x.los || cause == 2, oor := x.oor || cause == 3, wtr := false }) d
  let d := gate (cause == 2) (stickRef r 0) d
  if was || !(tr d r).qualified then d
  else
    let sel := (List.range 4).filter fun i => selBy d i r && !drFollow (dpRec d i)
    if sel.isEmpty then disqualify r cause d
    else
      each sel (fun i d => stickDp i 2 (modDp i (fun x => { x with frozen := true }) d))
        (modRef r (fun x => { x with hold := true }) d)

/-- LOS or OOR ends: tracking resumes within HOLDOFF_MS, and a disqualified reference starts its wait. -/
def leaveBad (r cause : Nat) (d : Dev) : Dev :=
  let d := modRef r (fun x => { x with los := x.los && cause != 2, oor := x.oor && cause != 3 }) d
  if (tr d r).los || (tr d r).oor then d
  else
    let d := gate (tr d r).hold (each (List.range 4) fun i => gate (selBy d i r) (modDp i fun x => { x with frozen := false })) d
    wtrCheck r (modRef r (fun x => { x with hold := false }) d)

/-- REF_LOS: a REFIN's edges are missing, a recovered clock's source is lost, or the newest mean shows OOR. -/
def refLosEnter (r : Nat) (f : Option Int) (d : Dev) : Dev :=
  if !domReady d 3 || !rrEn (tr d r).rec_ then d
  else match f with
    | some v =>
      if v.natAbs ≤ 5000000 then d
      else showTiming (enterBad r 3 (modRef r (fun x => { x with f := v }) d))
    | none =>
      if decide (8 ≤ r) && !rcLost d r then d
      else
        let d := modTim (fun t => { t with pend := t.pend.map fun p =>
          { p with lost := p.lost || (p.mode == 1 && p.ref == r) } }) d
        showTiming (enterBad r 2 d)

/-- REF_LOS_CLEAR: edges are back. -/
def refLosClear (r : Nat) (d : Dev) : Dev :=
  if !domReady d 3 || !(tr d r).los || (decide (8 ≤ r) && rcLost d r) then d else showTiming (leaveBad r 2 d)

/-- REF_HOLDOFF_EXPIRY: the condition is still present at the end of HOLDOFF_MS (R485). -/
def refHoldoff (r : Nat) (d : Dev) : Dev :=
  let x := tr d r
  if x.hold && (x.los || x.oor) then showTiming (disqualify r (if x.los then 2 else 3) d) else d

/-- REF_WTR_EXPIRY: the wait ends and the reference is QUALIFIED (R487). -/
def refWtr (r : Nat) (d : Dev) : Dev :=
  let x := tr d r
  if x.wtr && mayRestore x then
    showTiming (refQual r 1 (modRef r (fun x => { x with qualified := true, hardDisq := false, wtr := false }) d))
  else d

/-- The recovered clocks follow their sources. -/
def syncRecovered (d : Dev) : Dev :=
  if !domReady d 3 then d
  else each ((List.range 16).map (· + 8)) (fun r d =>
    let x := tr d r
    if !rrEn x.rec_ then d
    else
      let v := rcLost d r
      if v && !x.los then enterBad r 2 d else if !v && x.los then leaveBad r 2 d else d) d

/-! ### Drift (R483, R486) -/

/-- The reference takes part in selection: not a 1 Hz input (R476). -/
def selectable (r : Nat) (b : Bytes) : Bool := rrEn b && (decide (8 ≤ r) || rrFreq b != 0)

/-- The DPLL whose P and thresholds govern the drift of a reference (log entry 20). -/
def driftDpll (b : Bytes) : Nat := ((List.range 4).find? fun i => rrPrio b i != 0).getD 0

/-- |a − b| as an integer. -/
def gap (a b : Int) : Int := (a - b).natAbs

/-- Two other qualified references agree and differ from r by more than HARD (R486). -/
def outvoted (d : Dev) (r : Nat) : Bool :=
  let x := tr d r
  let agree := drAgree (dpRec d (driftDpll x.rec_))
  let q := (List.range 24).filter fun k => k != r && (tr d k).qualified
  q.any fun a => decide (rrHard x.rec_ < gap x.d (tr d a).d) && q.any fun b =>
    decide (a < b) && decide (rrHard x.rec_ < gap x.d (tr d b).d) && decide (gap (tr d a).d (tr d b).d ≤ agree)

/-- TIM_DRIFT. -/
def evtDrift (r k : Nat) (d : Dev) : Dev := evtTim 0x0204 r ([BitVec.ofNat 8 k, 0, 0, 0] ++ be 4 (satFreq (tr d r).d)) d

/-- Drift acts on a measured reference (R486). -/
def driftRef (r : Nat) (d : Dev) : Dev :=
  let x := tr d r
  let a : Int := x.d.natAbs
  let soft := rrSoft x.rec_
  let d :=
    if !x.softLive && decide (soft < a) then
      evtDrift r 1 (stickRef r 1 (modRef r (fun x => { x with softLive := true }) d))
    else if x.softLive && decide (a ≤ soft - rrHyst x.rec_ / 2) then modRef r (fun x => { x with softLive := false }) d
    else d
  if !x.qualified then d
  else if a ≤ rrHard x.rec_ then modRef r (fun x => { x with hardUnconf := false }) d
  else if xoTrusted d (driftDpll x.rec_) || outvoted d r then disqualify r 4 d
  else if x.hardUnconf then d
  else evtDrift r 2 (modRef r (fun x => { x with hardUnconf := true }) d)

/-- A newly enabled reference is QUALIFIED at its first measurement without LOS or OOR (log entry 22). -/
def firstMeasure (r : Nat) (d : Dev) : Dev :=
  let x := tr d r
  if x.fresh && !x.los && !x.oor then
    refQual r 1 (modRef r (fun x => { x with fresh := false, qualified := true }) d)
  else d

/-- One reference's new 10 s mean. -/
def takeMean (r : Nat) (f : Int) (d : Dev) : Dev :=
  let x := tr d r
  let dr := f - expectP d (driftDpll x.rec_)
  let d := modRef r (fun x => { x with f := f, d := dr, epoch := now d }) d
  if !x.oor && decide (5000000 < f.natAbs) then enterBad r 3 d
  else if x.oor && decide (f.natAbs ≤ 5000000) then leaveBad r 3 d
  else d

/-- REF_MEASUREMENT: at a whole PM second every enabled reference has a new mean (R483), and each DPLL its 1 s means (R492). -/
def refMeasurement (fs : List (Nat × Int)) (ds : List DpllMeas) (d : Dev) : Dev :=
  if !domReady d 3 then d
  else
    let fs := fs.filter fun e => decide (e.1 < 24) && selectable e.1 (tr d e.1).rec_
    let rs := fs.map (·.1)
    let d := fs.foldl (fun d e => takeMean e.1 e.2 d) d
    let d := each rs wtrCheck (each rs driftRef (each rs firstMeasure d))
    let d := modTim (fun t => { t with pend := t.pend.map fun p =>
      if p.mode = 1 ∧ !(tr d p.ref).los then { p with edges := min 10 (p.edges + 1) } else p }) d
    let d := ds.foldl (fun d m =>
      modDp m.dpll (fun x =>
        let live := x.st = 2 ∧ !x.frozen
        { x with
          freq := if x.st = 1 ∨ x.st = 2 then m.freq else x.freq, phase := m.phase, p := expectP d m.dpll,
          lockRun := if x.st = 1 ∧ m.err.natAbs < 1000 then x.lockRun + 1 else 0,
          anchorF := if live then (m.anchor.map (·.1)).getD x.anchorF else x.anchorF,
          anchorT := if live then (m.anchor.map (·.2.1)).getD x.anchorT else x.anchorT,
          anchorAt := if live then (m.anchor.map (·.2.2)).getD x.anchorAt else x.anchorAt }) d) d
    showTiming (each (List.range 4) syncTrust d)

/-! ### DPLL states (R492, R494) -/

/-- QL_TX that the rules give (R494). -/
def ruleQl (d : Dev) (i : Nat) : Nat :=
  let b := dpRec d i
  match (dp d i).sel with
  | some r => if drQlEn b && ((dp d i).st == 1 || (dp d i).st == 2) then refQl d r else drLocalQl b
  | none => drLocalQl b

/-- An ESMC event PDU falls due on the PACKET ports with ESMC_EN (R200, R502). -/
def esmcEvent (d : Dev) : Dev :=
  { d with cli := tmap d.cli fun i c => match serv d 1 i with
      | some b => { c with eventDue := c.eventDue || (cpEsmc b && cpMode b == 1) }
      | none => c }

/-- QL_TX takes a value; each change posts TIM_QL_TX. -/
def setQlTx (i v : Nat) (d : Dev) : Dev :=
  if (dp d i).qlTx = v then d
  else evtTim 0x0206 i [] (gate (i == 1) esmcEvent (modDp i (fun x => { x with qlTx := v }) d))

/-- The decision record TIMING (R455). -/
def timingRecord (i : Nat) (d : Dev) : Dev :=
  let x := dp d i
  fwd kTiming i (epoch32 d) (be 1 (x.sel.getD 0x1F) ++ be 1 x.st ++ be 1 x.qlTx) d

/-- History bit of a state (R513). -/
def histBit (st : Nat) : Nat := [6, 4, 5, 7].getD st 6

/-- A transition into a state (R492): history bit, event, interrupt. A new lock starts a new anchor (R495). -/
def enterState (i st : Nat) (sel : Option Nat) (d : Dev) : Dev :=
  let old := (dp d i).st
  let d := modDp i (fun x => { x with
    st := st, sel := sel, since := now d, lockRun := 0, frozen := false, anchor := x.anchor && st != 2 }) d
  evtTim 0x0201 i (be 1 old ++ be 1 st ++ be 1 (sel.getD 0x1F)) (stickDp i (histBit st) d)

/-- A switch between references (R492). -/
def refSwitch (i : Nat) (old new : Nat) (d : Dev) : Dev :=
  let d := stickDp i 3 d
  if (dp d i).st = 1 then
    evtTim 0x0202 i (be 1 old ++ be 1 new) (stickDp i 4
      (modDp i (fun x => { x with sel := some new, lockRun := 0, frozen := false }) d))
  else enterState i 1 (some new) d

/-- The selection of a DPLL becomes a reference, or none: HOLDOVER with a valid anchor or FREERUN (R492). -/
def takeSel (i : Nat) (s : Option Nat) (freerun : Bool) (d : Dev) : Dev :=
  let x := dp d i
  match s with
  | some r =>
    if x.st = 0 ∨ x.st = 3 then enterState i 1 (some r) d
    else match x.sel with
      | some o => if o = r then d else refSwitch i o r d
      | none => enterState i 1 (some r) d
  | none =>
    let target := if freerun || !x.anchor then 0 else 3
    if x.st = target then modDp i (fun x => { x with sel := none, frozen := false }) d else enterState i target none d

/-! ### Selection (R487 to R489) -/

/-- Eligible for a DPLL (R487). -/
def eligible (d : Dev) (i r : Nat) : Bool :=
  let x := tr d r
  let b := dpRec d i
  selectable r x.rec_ && x.qualified && rrPrio x.rec_ i != 0 && !(dp d i).lockout.testBit r
    && (!drQlEn b || decide (drMinQl b ≤ refQl d r))

def eligibleRefs (d : Dev) (i : Nat) : List Nat := (List.range 24).filter (eligible d i)

/-- The rank that selection compares: 0 for every reference with QL_EN clear. -/
def selRank (d : Dev) (i r : Nat) : Nat := if drQlEn (dpRec d i) then refQl d r else 0

/-- The best references of step 2 of R488. -/
def bestRefs (d : Dev) (i : Nat) : List Nat :=
  let l := eligibleRefs d i
  let top := l.foldl (fun m r => max m (selRank d i r)) 0
  l.filter fun r => selRank d i r == top

/-- The priority in selection: a manual selection among the best counts as 0 (R488 step 5). -/
def selPrio (d : Dev) (i : Nat) (best : List Nat) (r : Nat) : Nat :=
  if (dp d i).manual = some r ∧ best.contains r then 0 else rrPrio (tr d r).rec_ i

/-- The reference that selection among the eligible gives (R488 steps 2 to 5). -/
def chooseRef (d : Dev) (i : Nat) : Option Nat :=
  let best := bestRefs d i
  let lo := best.foldl (fun m r => min m (selPrio d i best r)) 16
  let c := best.filter fun r => selPrio d i best r == lo
  let nearest := c.foldl (fun m r => match m with
    | none => some r
    | some k => if (tr d r).d.natAbs < (tr d k).d.natAbs then some r else some k) none
  match (dp d i).sel with
  | none => nearest
  | some cur =>
    if !eligible d i cur then nearest
    else if c.contains cur then some cur
    else if !best.contains cur then nearest
    else if drRevertive (dpRec d i) || lo == 0 then nearest
    else some cur

/-- The pairs in RANK_CONFLICT for a DPLL (R489), with the hysteresis of the pairs already in conflict. -/
def conflicts (d : Dev) (i : Nat) : List (Nat × Nat) :=
  let l := eligibleRefs d i
  l.flatMap fun a => (l.filter fun b =>
    decide (a < b) && selRank d i a == selRank d i b && rrPrio (tr d a).rec_ i == rrPrio (tr d b).rec_ i
      && (let x := tr d a
          let y := tr d b
          let lim := 2 * max (rrTol x.rec_) (rrTol y.rec_)
          let g := gap x.d y.d
          if (dp d i).conf.contains (a, b) then decide (lim - max (rrHyst x.rec_) (rrHyst y.rec_) < g)
          else decide (lim < g))).map fun b => (a, b)

/-- RANK_CONFLICT of a DPLL is updated; TIM_RANK_CONFLICT on setting and clearing. -/
def updConflict (i : Nat) (d : Dev) : Dev :=
  let old := (dp d i).conf
  let new := conflicts d i
  let d := modDp i (fun x => { x with conf := new }) d
  let changed := new.filter (fun e => !old.contains e) ++ old.filter (fun e => !new.contains e)
  changed.foldl (fun d e => evtTim 0x0205 i (be 1 e.1 ++ be 1 e.2) d) d

/-- RANK_CONFLICT of the references. -/
def updConfBits (d : Dev) : Dev :=
  each (List.range 24) (fun r d =>
    let v := (List.range 4).any fun i => (dp d i).conf.any fun e => e.1 == r || e.2 == r
    let rise := v && !(tr d r).conflict
    gate rise (stickRef r 4) (if v == (tr d r).conflict then d else modRef r (fun x => { x with conflict := v }) d)) d

/-- A 3-byte bitmap whose last bit stands for reference 0 (R503). -/
def refMap (p : Nat → Bool) : Bytes := be 3 (bitmap 24 p)

/-- The CONTENT of a selection report (R503). -/
def selContent (d : Dev) (i : Nat) : Bytes :=
  let x := dp d i
  be 1 x.st ++ be 1 (x.sel.getD 0x1F) ++ refMap (eligible d i) ++ refMap (fun r => x.conf.any fun e => e.1 == r || e.2 == r)
    ++ (List.range 12).flatMap fun k => be 1 (refQl d (2 * k) * 16 + refQl d (2 * k + 1))

/-- The reports of a host-assisted selection at a boundary (R503). -/
def selReports (i : Nat) (d : Dev) : Dev :=
  let x := dp d i
  let set_ := bitmap 24 (eligible d i)
  let ql := (List.range 24).map (refQl d)
  let conf := bitmap 24 fun r => x.conf.any fun e => e.1 == r || e.2 == r
  let c := selContent d i
  let d := gate (set_ != x.repSet) (report 6 i 1 c) d
  let d := gate x.lostSel (report 6 i 2 c) d
  let d := gate (ql != x.repQl) (report 6 i 3 c) d
  let d := gate (conf != x.repConf) (report 6 i 4 c) d
  modDp i (fun x => { x with repSet := set_, repQl := ql, repConf := conf }) d

/-- Selection of one DPLL at an epoch boundary (R488, R503). -/
def evalDpll (i : Nat) (d : Dev) : Dev :=
  let d := updConflict i d
  let x := dp d i
  let d :=
    if x.forced = 5 then takeSel i none false d
    else if x.forced = 6 then takeSel i none true d
    else if assisted d 6 i then
      match x.sel with
      | some r => if (tr d r).qualified then d else takeSel i none false d
      | none => d
    else if x.forced = 1 then
      takeSel i (if (tr d x.forceRef).qualified && selectable x.forceRef (tr d x.forceRef).rec_ then some x.forceRef else none)
        false d
    else
      let best := bestRefs d i
      let d := modDp i (fun x => { x with manual := x.manual.filter best.contains }) d
      takeSel i (chooseRef d i) false d
  let d := gate (assisted d 6 i) (selReports i) d
  let d := modDp i (fun x => { x with
    lostSel := false
    model := if x.model = 0 ∧ x.anchor then 1 else x.model
    slew := x.slew && x.st == 3 && decide (slewFreq d i ≠ holdFreq d i)
    freq := if x.st = 3 then slewFreq d i else if x.st = 0 then 0 else x.freq }) d
  setQlTx i (ruleQl d i) (syncTrust i d)

/-- DPLL_SYNC with FOLLOW_SYS takes the state and QL_TX of DPLL_SYS (R480). -/
def followSys (d : Dev) : Dev :=
  let s := dp d 0
  let d := if (dp d 1).st = s.st then modDp 1 (fun x => { x with sel := none }) d else enterState 1 s.st none d
  setQlTx 1 s.qlTx (syncTrust 1 d)

/-- Selection, state and QL_TX change whole at an epoch boundary (R488, R518); a standby that follows runs none (R505). -/
def timEpoch (d : Dev) : Dev :=
  if !domReady d 3 || following d then d
  else
    let d := each (List.range 4) (fun i d =>
      let key (d : Dev) := ((dp d i).sel, (dp d i).st, (dp d i).qlTx)
      let was := key d
      let d := if i = 1 ∧ drFollow (dpRec d 1) then followSys d else evalDpll i d
      gate (decide (key d ≠ was)) (timingRecord i) d) d
    showTiming (updConfBits d)

/-- A changed QL of a selected reference gives the new QL_TX at once (R506). -/
def qlAtOnce (d : Dev) : Dev :=
  if !domReady d 3 || following d then d
  else
    let d := each [0, 2, 3] (fun i d => if (dp d i).sel.isSome then setQlTx i (ruleQl d i) d else d) d
    if drFollow (dpRec d 1) then setQlTx 1 (dp d 0).qlTx d
    else if (dp d 1).sel.isSome then setQlTx 1 (ruleQl d 1) d else d

/-- DPLL_LOCKED: three whole seconds below 10 ppb lock the DPLL (R492). -/
def dpllLocked (i : Nat) (d : Dev) : Dev :=
  if !domReady d 3 || following d || (i == 1 && drFollow (dpRec d 1)) then d
  else if (dp d i).st = 1 ∧ 3 ≤ (dp d i).lockRun then
    showTiming (timingRecord i (enterState i 2 (dp d i).sel d))
  else d

/-- LOCKED falls back to ACQUIRING where the 1 s mean exceeds 100 ppb (R492). -/
def lockLost (ds : List DpllMeas) (d : Dev) : Dev :=
  if !domReady d 3 || following d then d
  else ds.foldl (fun d m =>
    if (dp d m.dpll).st = 2 ∧ 10000 < m.err.natAbs ∧ !(dp d m.dpll).frozen ∧ !(m.dpll == 1 && drFollow (dpRec d 1)) then
      showTiming (timingRecord m.dpll (enterState m.dpll 1 (dp d m.dpll).sel d))
    else d) d

/-- REF_MEASUREMENT, and the locks that its means end (R483, R492). -/
def refMeasured (fs : List (Nat × Int)) (ds : List DpllMeas) (d : Dev) : Dev :=
  let ds := ds.filter fun m => decide (m.dpll < 4)
  lockLost ds (refMeasurement fs ds d)

/-- ANCHOR_VALID: LOCKED for 60 s in the current lock (R495, R498). -/
def anchorValid (i : Nat) (d : Dev) : Dev :=
  let x := dp d i
  if domReady d 3 && x.st == 2 && decide (60000 ≤ now d - x.since) then
    showTiming (modDp i (fun x => { x with anchor := true, model := if x.model = 0 then 1 else x.model }) d)
  else d

/-! ### Commands (R490, R497, R503, R504) -/

/-- DPLL_CMD's checks (R490, R511): payload offsets. -/
def dpllCmdRefusal (d : Dev) (i : Nat) (b : Bytes) : Option Nat :=
  let c := u8 b 0
  let r := u8 b 1
  if 8 < c then some 4
  else if 1 ≤ c ∧ c ≤ 4 ∧ 23 < r then some 5
  else if c = 2 ∧ !(bestRefs d i).contains r then some 5
  else if c = 8 ∧ !(decide (-400 ≤ s16 (u16 b 2)) && decide (s16 (u16 b 2) ≤ 1250)) then some 6
  else none

/-- The model of a DPLL is stored whole in the calibration area (R496, R543). -/
def storeModel (i : Nat) (d : Dev) : Dev :=
  let s := fit 160 ((calSection d 2).getD [])
  calWrite 2 (patch s (40 * i) (fit 36 (dp d i).mrec ++ [BitVec.ofNat 8 (dp d i).model, 0, 0, 0])) d

/-- TIM_GLIDE: 1 learned, 2 stale, 3 loaded, 4 relearn. -/
def evtGlide (i k : Nat) (d : Dev) : Dev := evtTim 0x0207 i (be 1 k) d

/-- DPLL_CMD takes effect (R490). -/
def dpllCmd (i : Nat) (b : Bytes) (d : Dev) : Dev :=
  let c := u8 b 0
  let r := u8 b 1
  if c = 7 then
    showTiming (syncTrust i (evtGlide i 4 (modDp i (fun x => { x with model := 0, mrec := [], mins := [], fit := none, stale := false }) d)))
  else
    showTiming (modDp i (fun x =>
      if c = 0 then { x with forced := 0, manual := none }
      else if c = 1 then { x with forced := 1, forceRef := r }
      else if c = 2 then { x with manual := some r }
      else if c = 3 then { x with lockout := nputBit x.lockout r true }
      else if c = 4 then { x with lockout := nputBit x.lockout r false }
      else if c = 5 then { x with forced := 5 }
      else if c = 6 then { x with forced := 6 }
      else { x with hostTemp := some (s16 (u16 b 2)) }) d)

/-- A fit is adopted (R496 step 4); on an active it goes to the mate as a HOLDOVER_LOAD (R505). -/
def adoptFit (i : Nat) (m : Bytes) (d : Dev) : Dev :=
  let d := modDp i (fun x => { x with model := 2, mrec := fit 36 m, fit := none, stale := false }) d
  let d := storeModel i (evtGlide i 1 d)
  showTiming (syncTrust i (selfCommand 0x0305 (be 1 i ++ zeros 3 ++ fit 36 m) d))

/-- HOLDOVER_LOAD replaces the model (R497). -/
def loadModel (i : Nat) (m : Bytes) (d : Dev) : Dev :=
  let d := modDp i (fun x => { x with
    model := 3, mrec := fit 36 m, fit := none, stale := false, slew := x.st == 3 }) d
  showTiming (syncTrust i (storeModel i (evtGlide i 3 d)))

/-- The model falls to AVERAGE and learning restarts (R496 step 5). -/
def demote (i : Nat) (d : Dev) : Dev :=
  showTiming (syncTrust i (evtGlide i 2 (modDp i (fun x => { x with model := 1, mins := [], stale := false, fit := none }) d)))

/-- GLIDE_MINUTE_RECORD: a minute LOCKED to a reference without SOFT_LIVE and HARD_UNCONF (R496 step 1). -/
def glideMinute (i : Nat) (f t : Int) (d : Dev) : Dev :=
  let x := dp d i
  match x.sel with
  | none => d
  | some r =>
    if domReady d 3 && !following d && !isFrozen d 7 i && x.st == 2 && !(tr d r).softLive && !(tr d r).hardUnconf then
      modDp i (fun x => { x with mins := ((f, t) :: x.mins).take 43200 }) d
    else d

/-- The temperature span of the minutes, in 0.1 °C. -/
def minuteSpan (l : List (Int × Int)) : Nat := match l with
  | [] => 0
  | e :: r => (r.foldl (fun m x => max m x.2) e.2 - r.foldl (fun m x => min m x.2) e.2).toNat

/-- A fit keeps to the rules of R496: A1 and A2 are 0 below a span of 2 °C, and TAU is 86,400 s. -/
def fitModel (span : Nat) (m : Bytes) : Bytes :=
  let m := patch (fit 36 m) 24 (be 4 86400)
  if span < 20 then patch m 12 (zeros 8) else m

/-- GLIDE_FIT: after 24 h of minutes, and every hour, a fit is made (R496, R504). -/
def glideFit (i : Nat) (m : Bytes) (resid : Nat) (d : Dev) : Dev :=
  let x := dp d i
  if !domReady d 3 || following d || isFrozen d 7 i || decide (x.mins.length < 1440) then d
  else
    let span := minuteSpan x.mins
    let m := fitModel span m
    if assisted d 7 i then
      report 7 i 1 (slice m 12 12 ++ be 2 resid ++ be 2 span ++ be 2 (x.mins.length / 60))
        (modDp i (fun x => { x with fit := some m }) d)
    else adoptFit i m d

/-- GLIDE_STALE: the selected reference disagreed with P for 10 min and a second qualified one agrees with it (R496, R504). -/
def glideStale (i : Nat) (d : Dev) : Dev :=
  let x := dp d i
  match x.sel with
  | none => d
  | some s =>
    let b := (tr d s).rec_
    let second := (List.range 24).any fun q =>
      q != s && (tr d q).qualified && decide (gap (tr d q).d (tr d s).d ≤ drAgree (dpRec d i))
    if domReady d 3 && !following d && !isFrozen d 7 i && x.st == 2 && xoTrusted d i && second
        && decide (rrSoft b < gap (tr d s).f (expectP d i)) then
      let d := stickDp i 1 d
      if assisted d 7 i then
        let x := dp d i
        showTiming (syncTrust i (report 7 i 2 (slice x.mrec 12 12 ++ zeros 4 ++ be 2 (x.mins.length / 60))
          (modDp i (fun x => { x with stale := true }) d)))
      else demote i d
    else d

/-- XO_WARMUP_EXPIRY (R484). -/
def xoWarm (i : Nat) (d : Dev) : Dev :=
  if !domReady d 3 then d
  else showTiming (syncTrust i (modTim (fun t => { t with warm := nputBit t.warm i true }) d))

/-- A decision on selection names an ineligible reference (R503). -/
def selectBad (d : Dev) (i : Nat) (b : Bytes) : Bool := u8 b 0 == 1 && !eligible d i (u8 b 1)

/-- ASSIST_DECIDE of function 6 (R503). -/
def decideSelect (i : Nat) (b : Bytes) (d : Dev) : Dev :=
  let a := u8 b 0
  let d := if a = 1 then takeSel i (some (u8 b 1)) false d
    else if a = 2 then takeSel i none false d
    else if a = 3 then takeSel i none true d
    else d
  showTiming (timingRecord i (setQlTx i (ruleQl d i) d))

/-- ASSIST_DECIDE of function 7 (R504). -/
def decideGlide (i : Nat) (b : Bytes) (d : Dev) : Dev :=
  let a := u8 b 0
  if a = 1 then match (dp d i).fit with
    | some m => adoptFit i m d
    | none => d
  else if a = 2 then
    if (dp d i).stale then demote i d else modDp i (fun x => { x with fit := none }) d
  else if a = 3 then adoptFit i (slice b 4 36) d
  else d

/-- The change of function 7 to hardware mode under R35: a stale model falls to AVERAGE. -/
def glideTimeout (i : Nat) (d : Dev) : Dev := gate (dp d i).stale (demote i) d

/-- FUNC_REINIT of selection and of the holdover model: the last decision ends and hardware rules apply from scratch. -/
def reinitDpll (i : Nat) (d : Dev) : Dev :=
  showTiming (modDp i (fun x => { x with manual := none, repSet := 0, repQl := [], repConf := 0, lostSel := false }) d)

/-! ### Records take effect (R507 to R509) -/

/-- REF_CFG takes effect. -/
def applyRef (r : Nat) (b : Bytes) (d : Dev) : Dev :=
  let old := (tr d r).rec_
  let restart := !rrEn b || !rrEn old || rrFreq b != rrFreq old || rrSource b != rrSource old
  let d := modRef r (fun x =>
    if restart then { rec_ := b, los := (decide (r < 8)) && rrEn b && x.los } else { x with rec_ := b }) d
  showTiming (syncRecovered d)

/-- DPLL_CFG of a DPLL takes effect. -/
def applyDpll (i : Nat) (b : Bytes) (d : Dev) : Dev := showTiming (modDp i (fun x => { x with rec_ := b }) d)

/-- DPLL_CFG of an output takes effect. -/
def applyOut (t : Nat) (b : Bytes) (d : Dev) : Dev := modTim (fun s => { s with out := tset s.out t b }) d

/-! ### Outputs (R499 to R501) -/

/-- CLKOUTk runs: enabled and not squelched (R499). -/
def clkOn (d : Dev) (k : Nat) : Bool :=
  let b := outRec d (0x10 + k)
  let x := dp d (orSource b)
  domReady d 3 && !isFatal d && orEn b && !(orSqFree b && x.st == 0) && !(orSqHold b && x.st == 3)
    && !decide (x.qlTx < orSqQl b)

/-- PPS_OUT or FP_OUT pulses. -/
def pulseOn (d : Dev) (t : Nat) : Bool := domReady d 3 && !isFatal d && orEn (outRec d t)

/-- TIM_OUT_STAT as read (R513). -/
def timOutLive (d : Dev) : Word :=
  putBits (reg d .timOutStat) 10 0
    (d.tim.pend.isSome.toNat * 1024 + (pulseOn d tFp).toNat * 512 + (pulseOn d tPps).toNat * 256 + bitmap 8 (clkOn d))

/-- PPS_OUT_PULSE and FP_OUT_PULSE: the pulse is sent, or omitted after an ALIGN (R500, R501). -/
def ppsPulse (d : Dev) : Dev :=
  if !pulseOn d tPps then d
  else modTim (fun t => if t.skipPps then { t with skipPps := false } else { t with pps := t.pps + 1 }) d
def fpPulse (d : Dev) : Dev :=
  if !pulseOn d tFp then d
  else modTim (fun t => if t.skipFp then { t with skipFp := false } else { t with fp := t.fp + 1 }) d

/-- TIM_ALIGN_DONE: 0 applied, 1 no 1 Hz input, 2 superseded. -/
def alignDone (t k : Nat) (off : Int) (d : Dev) : Dev :=
  evtTim 0x0208 t ([BitVec.ofNat 8 k, 0, 0, 0] ++ be 4 (twos 32 off)) d

/-- ALIGN is accepted and waits for its boundary; one still waiting is superseded (R506). On a standby the MODE 0 ALIGN of its active
completes the MODE 1 ALIGN that waits (R505). -/
def acceptAlign (t : Nat) (b : Bytes) (d : Dev) : Dev :=
  let d := match d.tim.pend with
    | some p => if following d ∧ p.mode = 1 ∧ u8 b 0 = 0 then d else alignDone p.target 2 p.offset d
    | none => d
  let r := u8 b 1
  modTim (fun s => { s with pend := some {
    target := t, mode := u8 b 0, ref := r, offset := s32 (u32 b 4), epoch := max (u48 b 8) (now d),
    lost := u8 b 0 == 1 && (tr d r).los } }) d

/-- An offset folded into the range of OFFSET_NS. -/
def foldOffset (v : Int) : Int := (v + 500000000) % 1000000000 - 500000000

/-- A pulse at the new phase would start less than half a period after the previous one (R501). -/
def tooSoon (per : Nat) (old new : Int) : Bool :=
  let step := if per = 10 ^ 9 then new - old else new % (per : Int) - old % (per : Int)
  decide (2 * ((per : Int) + step) < per)

/-- ALIGN_APPLY: at a PM second boundary at or after X and EPOCH; `measured` is the offset of the 1 Hz input in MODE 1 (R501). -/
def alignApply (measured : Int) (d : Dev) : Dev :=
  match d.tim.pend with
  | none => d
  | some p =>
    if !domReady d 3 || decide (now d < p.epoch) || now d % 1000 != 0 then d
    else if p.mode = 1 ∧ following d then d
    else if p.lost then alignDone p.target 1 0 (modTim (fun t => { t with pend := none }) d)
    else if p.mode = 1 ∧ p.edges < 10 then d
    else
      let off := foldOffset (if p.mode = 1 then measured + p.offset else p.offset)
      let ts := if p.target = 0x1A then [tPps, tFp] else [p.target]
      let d := modTim (fun t => { t with pend := none }) d
      let d := each ts (fun o d =>
        let old := tget 0 d.tim.offset o
        let skip := tooSoon (outPeriod o (outRec d o)) old off
        modTim (fun t => { t with
          offset := tset t.offset o off
          skipPps := if o = tPps then skip else t.skipPps
          skipFp := if o = tFp then skip else t.skipFp }) d) d
      let d := gate (p.mode == 1) (selfCommand 0x0304
        (be 1 p.target ++ zeros 3 ++ zeros 4 ++ be 4 (twos 32 off) ++ be 6 (now d) ++ zeros 2)) d
      alignDone p.target 0 off (setRb .timOutStat 16 true d)

/-! ### Transmit clocks of the client ports (R186) -/

/-- What a port's transmitter is clocked by. -/
inductive PortClock where
  /-- the client Cm and CnD of a container, applied to its ODU4 clock, itself recovered from the Cm and CnD of the ODUC16 -/
  | gmp (c : Nat)
  /-- the ODU2e clock of a container recovered from the ODUC16, times the BMP ratio -/
  | bmp (c : Nat)
  /-- the ODUk clock of a container recovered from the ODUC16 -/
  | odu (c : Nat)
  /-- a DPLL: 0 DPLL_SYS, 1 DPLL_SYNC -/
  | dpll (i : Nat)
  deriving DecidableEq, Repr

/-- The transmit clock by MODE, and of a CBR port by the mapping of its container: IMP transmits from DPLL_SYS (R244, R254). None of a
port that is not provisioned. -/
def portClock (d : Dev) (i : Nat) : Option PortClock := (serv d 1 i).map fun b =>
  let ty := ctType (ctRec d (cpCont b))
  if cpMode b = 1 then .dpll 1 else if cpMode b = 3 then .dpll 0 else if cpMode b = 2 then .odu (cpCont b)
  else if ty = 3 then .bmp (cpCont b) else if ty = 5 then .gmp (cpCont b) else .dpll 0

/-- The ODU clock of a container on ingress (R252). -/
inductive OduClock where
  /-- the client's recovered clock times the BMP ratio of G.709 -/
  | clientBmp (port : Nat)
  /-- the client's recovered ODU clock -/
  | clientOdu (port : Nat)
  /-- the tributary's clock, recovered from the GMP of the client's OPUCn -/
  | tributary (port tpn : Nat)
  /-- DPLL_SYS, as of the parent against which GMP measures each of them -/
  | sys
  deriving DecidableEq, Repr

/-- The ingress clock by PAYLOAD (R252). -/
def oduClock (d : Dev) (c : Nat) : OduClock :=
  let r := ctRec d c
  if ctPayload r = 0 ∧ ctType r = 3 then .clientBmp (ctPort r)
  else if ctPayload r = 1 then .clientOdu (ctPort r)
  else if ctPayload r = 2 then .tributary (ctPort r) (ctDemuxTpn r)
  else .sys

/-! ### ESMC content (R502) -/

/-- The port whose recovered clock is the selected reference of DPLL_SYNC, or of DPLL_SYS when it follows. -/
def syncSource (d : Dev) : Option Nat :=
  ((dp d (if drFollow (dpRec d 1) then 0 else 1)).sel).bind fun r =>
    let s := rrSource (tr d r).rec_
    if 8 ≤ r ∧ s < 64 then some s else none

/-- The quality level that a PACKET port sends. -/
def esmcLevel (d : Dev) (port : Nat) : Ql :=
  let rank := if syncSource d = some port then 1 else (dp d 1).qlTx
  let base : Ql := match syncSource d with
    | some s => (tget ({} : CliPort) d.cli s).ql
    | none => {}
  let eeec := decide (u8 (dpRec d 1) 0 ≤ 2)
  { failed := false, ssm := ssmOf rank, essm := essmOf rank, clockId := be 8 Config.serial.toNat, ext := true,
    eeec := min 255 (base.eeec + eeec.toNat), eec := min 255 (base.eec + (!eeec).toNat) }

/-- The level that each PACKET port sends as it stands now: where it is another than the one sent last, as when the port becomes the
source and sends DNU, an event PDU is due (R200). -/
def noteQl (d : Dev) : Dev :=
  if !domReady d 3 then d
  else { d with cli := tmap d.cli fun i c =>
      let v := (esmcLevel d i).ssm * 256 + (esmcLevel d i).essm
      if !((serv d 1 i).any fun b => cpEsmc b && cpMode b == 1) then { c with qlSent := none }
      else { c with qlSent := some v, eventDue := c.eventDue || (c.qlSent.isSome && c.qlSent != some v) } }

/-! ### Reading (R512, R515, R516) -/

/-- The WIDE record of a reference and of a DPLL. -/
def wideRef (d : Dev) (r : Nat) : Bytes :=
  let x := tr d r
  be 4 (satFreq x.f) ++ be 4 (satFreq x.d) ++ be 4 x.epoch ++ be 1 (if rrEn x.rec_ then refQl d r else 0)
    ++ be 3 (rf d (.timRefStat r) 16 0)
def wideDpll (d : Dev) (i : Nat) : Bytes :=
  let x := dp d i
  be 4 (satFreq x.freq) ++ be 4 (satFreq (expectP d i)) ++ be 4 (twos 32 x.phase)
    ++ be 1 x.st ++ be 1 (x.sel.getD 0x1F) ++ be 1 x.qlTx ++ be 1 x.model

/-- WIDE space 0x07 (R515). -/
def timWide (d : Dev) (i : Nat) : Option Bytes :=
  if i < 24 then some (wideRef d i) else if 0x100 ≤ i ∧ i < 0x104 then some (wideDpll d (i - 0x100)) else none

/-- The response of TIME_STATUS (R512). -/
def timeStatus (d : Dev) (t : Nat) (out : Bool) : Bytes :=
  if out then fit 16 (outRec d t) ++ be 4 (twos 32 (tget 0 d.tim.offset t))
  else wideRef d t ++ (if (tr d t).rec_.isEmpty then defaultRef else (tr d t).rec_)

def dpllStatus (d : Dev) (i : Nat) : Bytes :=
  wideDpll d i ++ fit 36 (dp d i).mrec ++ be 4 ((now d - (dp d i).since) / 1000) ++ be 1 (dp d i).model

/-! ### D3 reset and the mate (R498, R505) -/

/-- D3 becomes ready: FREERUN, models as stored where MRAM can be read (R60, R78), nothing measured (R498, R506). Records come from the stored settings. -/
def startTiming (d : Dev) : Dev :=
  let d := wakeNvm d
  let s := if domReady d 2 then (calSection d 2).getD [] else []
  let d := modTim (fun t => {
    ref := tmap t.ref fun _ x => { rec_ := x.rec_ }
    out := t.out
    dpll := (List.range 4).map fun i =>
    let m := slice s (40 * i) 36
    let st := u8 s (40 * i + 36)
    (i, { rec_ := (tget {} t.dpll i).rec_, model := if st = 2 ∨ st = 3 then st else 0, mrec := if st = 2 ∨ st = 3 then m else [] }) }) d
  showTiming (each (List.range 4) (fun i => enterState i 0 none) d)

/-- A standby takes a TIMING record (R505). -/
def takeTiming (i : Nat) (b : Bytes) (d : Dev) : Dev :=
  let sel := if u8 b 0 = 0x1F then none else some (u8 b 0)
  let d := if (dp d i).st = u8 b 1 then modDp i (fun x => { x with sel := sel }) d else enterState i (u8 b 1) sel d
  showTiming (setQlTx i (u8 b 2) d)

end Sys2Proof.Machine
end

