-- ==== Sys2Proof/Machine/Mate.lean ====
section
/-! DEFINITION. The mate pair: heartbeats, roles and pins, states, decision records, digests, joining and switch-over (R440 to
R474). -/

namespace Sys2Proof.Machine

/-! ### Registers -/

/-- This device is B (R47, R440). -/
def roleB (d : Dev) : Bool := rb d .glbStrap 0

/-- The RO fields of MATE_STAT, GLB_STAT.MATE_ACTIVE, and the steering of DPLL_SYS (R472, R143, R505). -/
def showMate (d : Dev) : Dev :=
  let m := d.mate
  let d := setRf .mateStat 23 16
    (m.st * 16 + (roleB d).toNat * 8 + m.active.toNat * 4 + (m.hbOk && m.mateActive).toNat * 2 + (pairing d).toNat) d
  let d := setRb .glbStat 5 m.active d
  gate ((dp d 0).mateSteer != following d) (fun d => showDpll 0 (modDp 0 (fun x => { x with mateSteer := following d }) d)) d

/-! ### States (R452) -/

/-- The packet containers of the tables in service. -/
def packetConts (d : Dev) : List Nat := (objs d.prov.serv 2).filter fun c => isPkt (ctRec d c)

/-- PKT_STEP of a container (R459, R472). -/
def pktStep (d : Dev) (c : Nat) : Bool := rb d (.pktZstat (contSlice d c) c) 8
def setPktStep (c : Nat) (v : Bool) (d : Dev) : Dev :=
  if pktStep d c == v then d else evtMate 0x0308 c [] (setRb (.pktZstat (contSlice d c) c) 8 v d)

/-- STATE changes (R473). -/
def setMateSt (v : Nat) (d : Dev) : Dev :=
  let old := d.mate.st
  if old = v then d
  else
    let d := modMate (fun m => { m with
      st := v, equal := 0, bad := [], misses := if v = 4 then 0 else m.misses }) d
    let d := evtMate 0x0301 0 (be 1 old ++ be 1 v) d
    let d := gate (v == 5 || old == 5) (fun d => evtMate 0x0304 0 [] (setMateLive mPartition (v == 5) d)) d
    showMate (gate (!decide (3 ≤ v ∧ v ≤ 4)) (fun d => each (packetConts d) (fun c => setPktStep c false) d) d)

/-- JOINING starts, or starts again (R460). -/
def enterJoining (d : Dev) : Dev :=
  setMateSt 2 (modMate (fun m => { m with joinS := false, image := false, joinAt := none, held := [], digest := [], mateDigest := [] }) d)

/-- The pins follow the role (R450). -/
def drivePins (d : Dev) : Dev :=
  modMate (fun m => { m with actLow := m.active, tokenLow := m.active && roleB d, actFree := m.actFree && !m.active }) d

/-- The role changes, with its cause (R464, R473). -/
def setRole (v : Bool) (cause : Nat) (d : Dev) : Dev :=
  if d.mate.active == v then d
  else
    let d := drivePins (modMate (fun m => { m with
      active := v, lastCause := cause, lastSwitch := now d, statuses := [], results := [], handover := none }) d)
    showMate (evtMate 0x0302 0 (be 1 v.toNat ++ be 1 cause) (satCtr .mateCnt 31 16 1 d))

/-- At takeover and at a switch the new active rewinds the units not yet begun (R321, R464). -/
def takeRole (cause : Nat) (d : Dev) : Dev :=
  setRole true cause (each (packetConts d) rewindUnits d)

/-- Takeover without a command (R463). -/
def takeover (cause : Nat) (d : Dev) : Dev := setMateSt 6 (takeRole cause d)

/-- The active role is given up (R466). -/
def yieldRole (d : Dev) : Dev :=
  let d := setRole false 5 d
  if mateLive d mLinkUp then enterJoining d else setMateSt 5 d

/-- A fault of PIN: ACT_N released while heartbeats show the mate ACTIVE (R450). -/
def checkPin (d : Dev) : Dev :=
  let v := !d.mate.active && d.mate.actFree && d.mate.hbOk && d.mate.mateActive
  if v == mateLive d mPinFault then d else gate v (evtMate 0x0309 0 []) (setMateLive mPinFault v d)

/-- A standby in CATCHUP or IN_STEP takes over where ACT_N is released and the mate does not hold the role (R463). -/
def checkTakeover (d : Dev) : Dev :=
  let m := d.mate
  if m.active || !decide (3 ≤ m.st ∧ m.st ≤ 4) || !m.actFree then d
  else if !m.hbOk then takeover 2 d
  else if !m.mateActive || m.mateFatal then takeover 3 d
  else d

/-- Heartbeats are lost (R448, R452, R466). -/
def loseHeartbeat (d : Dev) : Dev :=
  if d.mate.st = 0 then d
  else
    let d := satCtr .mateCnt 15 0 (gate d.mate.hbOk (fun _ => 8) 0) d
    let d := setMateLive mHbLoss true (modMate (fun m => { m with hbOk := false }) d)
    let d :=
      if d.mate.active then setMateSt 6 d
      else if 2 ≤ d.mate.st ∧ d.mate.st ≤ 4 ∧ !d.mate.actFree then setMateSt 5 d
      else checkTakeover d
    showMate (checkPin d)

/-! ### Heartbeats (R447 to R449) -/

/-- STRAP_MEMPOP and SIREV. -/
def memPop (d : Dev) : Nat := (pop16 d).toNat
def siRev (d : Dev) : Nat := rf d .glbId 15 8

/-- The payload of a heartbeat. NS and ECHO_DELAY are those of the instant of sending (log entry 4). -/
def heartbeat (d : Dev) : Bytes :=
  let m := d.mate
  be 1 ((roleB d).toNat * 128 + m.active.toNat * 64 + (!d.pin.pfwN).toNat * 32 + (isFatal d).toNat * 16
      + d.boot.cpuRestart.isSome.toNat * 8 + (pairing d).toNat * 4)
    ++ be 1 m.st ++ be 2 (m.hbSeq + 1) ++ be 6 (now d) ++ be 4 (Config.freeNs d.time.stamps % 1000000) ++ be 2 m.echo
    ++ be 4 (Config.freeNs (d.time.stamps + 1)) ++ be 4 m.dsent ++ be 4 m.ddone ++ be 4 (fwId d) ++ be 1 (memPop d)
    ++ be 1 (siRev d) ++ be 2 d.prov.doneId ++ be 4 (if m.active then 0 else (reg d .matePhase).toNat) ++ zeros 12

/-- HEARTBEAT_TX. -/
def heartbeatTx (d : Dev) : Dev :=
  if !domReady d 5 || d.mate.st == 0 then d
  else
    let b := heartbeat d
    let d := { d with time := { d.time with stamps := d.time.stamps + 2 } }
    flushCells (sendCell 1 b (modMate (fun m => { m with hbSeq := (m.hbSeq + 1) % 65536, hbOut := b }) d))

/-- The reason of R443 for which a mate is refused, from its heartbeat. -/
def refusal (d : Dev) (b : Bytes) : Option Nat :=
  if wbit b 0 0 == roleB d then some 1
  else if u32 b 28 ≠ fwId d then some 2
  else if u8 b 32 ≠ memPop d ∨ u8 b 33 ≠ siRev d then some 3
  else if !wbit b 0 5 then some 4
  else none

/-- Pairing from SEARCH and ALONE (R443, R452). -/
def tryPair (b : Bytes) (d : Dev) : Dev :=
  let m := d.mate
  if !(m.st == 1 && !m.active) && !(m.st == 6 && m.active) then d
  else match refusal d b with
    | some r =>
      if m.refuse = r ∧ mateLive d mRefused then d
      else evtMate 0x0303 0 (be 1 r) (setMateLive mRefused true (modMate (fun m => { m with refuse := r }) d))
    | none =>
      let d := setMateLive mRefused false (modMate (fun m => { m with refuse := 0 }) d)
      if m.active then if !m.mateActive ∧ m.mateSt = 1 then enterJoining d else d
      else if m.mateActive then enterJoining d else d

/-- The pair's state follows a mate that fell back (R452). -/
def followMate (old : Nat) (d : Dev) : Dev :=
  let m := d.mate
  if 3 ≤ m.st ∧ m.st ≤ 4 ∧ 3 ≤ old ∧ m.mateSt = 2 then enterJoining d
  else if m.active ∧ m.st = 4 ∧ old = 4 ∧ m.mateSt = 3 then setMateSt 3 d
  else d

/-- HEARTBEAT_RX: a valid heartbeat, with the instants t1 of the echoed heartbeat's sending and t4 of this receipt in ns of the own
clock (R443, R447, R449, R452). -/
def heartbeatRx (b : Bytes) (t1 t4 : Nat) (d : Dev) : Dev :=
  if !domReady d 5 || d.mate.st == 0 || b.length != 52 then d
  else
    let m := d.mate
    let seq := u16 b 2
    let gap := subMod 65536 seq m.echo
    let d := gate (m.hbOk && decide (1 < gap ∧ gap < 32768)) (satCtr .mateCnt 15 0 (gap - 1)) d
    let t3 : Int := u48 b 4 * 1000000 + u32 b 10
    let t2 : Int := t3 - u32 b 16
    let off : Int := ((t2 - t1) - (t4 - t3)) / 2
    let d := gate (!m.active) (setReg .matePhase (BitVec.ofNat 32 (satFreq off))) d
    let old := m.mateSt
    let d := setMateLive mHbLoss false (modMate (fun m => { m with
      hbOk := true, echo := seq, mateActive := wbit b 0 1, matePfw := wbit b 0 2, mateFatal := wbit b 0 3, mateSt := u8 b 1 }) d)
    let d := tryPair b d
    let m := d.mate
    let d :=
      if m.active && m.mateActive then if roleB d then yieldRole d else d
      else if m.active && m.mateFatal then setMateSt 6 d
      else if !m.active && m.st == 5 then enterJoining d
      else checkTakeover (followMate old d)
    showMate (checkPin d)

/-- HEARTBEAT_LOSS (R448). -/
def heartbeatLoss (d : Dev) : Dev := if domReady d 5 then loseHeartbeat d else d

/-- MATE_LINK_UP and MATE_LINK_DOWN (R444, R448). -/
def mateLinkUp (d : Dev) : Dev := if domReady d 5 ∧ d.mate.st ≠ 0 then setMateLive mLinkUp true d else d
def mateLinkDown (d : Dev) : Dev := if d.mate.st = 0 then d else loseHeartbeat (setMateLive mLinkUp false d)

/-- PHASE_ALARM changes on a standby (R449). -/
def phaseAlarm (v : Bool) (d : Dev) : Dev :=
  let off := (s32 (reg d .matePhase).toNat).natAbs
  if d.mate.active || mateLive d mPhase == v || (v && decide (off ≤ 100)) || (!v && decide (100 < off)) then d
  else
    let d := evtMate 0x0307 0 [] (setMateLive mPhase v d)
    gate (v && d.mate.st == 4) (setMateSt 3) d

/-! ### Cells (R446) -/

/-- MATE_CELL_ERROR: a CRC failure or SEQ gap of a reliable type; a NAK names the first SEQ missing. -/
def cellError (ty seq : Nat) (d : Dev) : Dev :=
  if domReady d 5 && reliable ty && d.mate.st != 0 then sendControl 3 ty seq 0 d else d

/-- A broken stream. -/
def streamBroken (ty : Nat) (d : Dev) : Dev :=
  let d := evtMate 0x030A 0 (be 1 ty) d
  if following d then enterJoining d else d

/-- Cells wait once more, in their order, behind those of their type that have not been sent yet; each waits once. -/
def resend (l : List Cell) (d : Dev) : Dev :=
  modMate (fun m => { m with txq := l.foldl (fun q c => queueCell c q) (m.txq.filter fun c => !l.contains c) }) d

/-- MATE_NAK_RX: the sender resends from the named cell onwards, or the stream is broken. -/
def nakRx (ty seq : Nat) (d : Dev) : Dev :=
  if !domReady d 5 || d.mate.st == 0 || !reliable ty then d
  else
    let l := tget [] d.mate.kept ty
    match l.findIdx? fun c => c.seq == seq with
    | some k => satCtr .mateReplay 31 0 (k + 1) (resend (l.take (k + 1)).reverse d)
    | none => streamBroken ty d

/-! ### Decision records on a standby (R454 to R459) -/

/-- A CONTEXT record: sender state, template, receiver install or removal, generation. -/
def contextRecord (obj : Nat) (b : Bytes) (d : Dev) : Dev :=
  let op := u8 b 0
  let tpl := slice b 4 (min 26 (u8 b 3))
  if obj < 2 ^ 31 then
    if op = 5 then modPsl (ctxSlice obj) (fun s => { s with gens := tset s.gens obj (u8 b 2) }) d
    else
      let st : SndState := if u8 b 1 = 1 then .announcing else if u8 b 1 = 2 then .active else .full
      let n := ctxSlice obj
      if u8 b 1 = 3 then
        -- the commit or decision that withdraws acts on both devices: the record confirms it
        modPsl n (fun s => { s with snd := tdel s.snd obj }) d
      else if u8 b 1 = 4 then
        modPsl n (fun s => { s with wdr := s.wdr.filter fun e => !(e.1 % 2 ^ 18 == obj && e.2.gen == u8 b 2) }) d
      else if op = 2 then modSnd obj (fun s => { s with tpl := some tpl, miss := 0 }) d
      else modSnd obj (fun s => { s with st := st, gen := u8 b 2, cont := flowCont d obj, ann := tpl, sends := 0 }) d
  else
    let c := obj % 2 ^ 31 / 2 ^ 18
    let f := obj % 2 ^ 18
    if op = 3 then setRx c f (u8 b 2) tpl d
    else if op = 4 then
      updRxFull c (modPsl (contSlice d c) (fun s => { s with rx := tdel s.rx (rxKey d c f) }) d)
    else d

/-- The entries of an ALIGN message: CTX, HEAD, DEFICIT. -/
def alignEntries (b : Bytes) : List (Nat × Nat × Nat) :=
  (List.range (min (u32 b 0) (b.length / 8))).map fun k =>
    let o := 4 + 8 * k
    (u8 b o * 65536 + u16 b (o + 1), u16 b (o + 3), u8 b (o + 5) * 65536 + u16 b (o + 6))

/-- A 16-bit index lies before another. -/
def idxBefore (i j : Nat) : Bool := i ≥ 65536 || decide (0 < subMod 65536 j i ∧ subMod 65536 j i < 32768)

/-- ALIGN: heads and deficits of the flows, then PKT_STEP (R459). -/
def alignRecord (c : Nat) (b : Bytes) (d : Dev) : Dev :=
  let d := (alignEntries b).foldl (fun d e =>
    modQueue (ctxSlice e.1) false e.1 (fun q => { q with
      unread := q.unread.filter fun f => !idxBefore f.idx e.2.1
      owed := ((q.unread.take q.owed).filter fun f => !idxBefore f.idx e.2.1).length, deficit := e.2.2 }) d) d
  setPktStep c true d

/-- A held or arriving record is applied. -/
def applyRecord (r : Bytes) (d : Dev) : Dev :=
  let kind := u8 r 0
  let obj := u32 r 6
  let atv := u32 r 10
  let b := r.drop 14
  let d := modMate (fun m => { m with ddone := u32 r 2 }) d
  if kind = kJust then
    let j : JustRec := { cont := obj, stage := u8 b 0, mfn := atv, proc := u8 b 1, cm := u16 b 2, cnd := u16 b 4 }
    let d := modMate (fun m => { m with just := j :: m.just.filter fun x => x.cont != obj || x.stage != j.stage || x.mfn != atv }) d
    { d with cont := tmod {} d.cont obj fun x => { x with just := some (u16 b 2, u16 b 4) } }
  else if kind = kAdmit then
    let n := min 148 (u8 b 0)
    let v := (List.range n).map fun i => u8 b (1 + i / 4) / 4 ^ (3 - i % 4) % 4
    modMate (fun m => { m with admission := tmod (0, []) m.admission obj fun e => (e.1, e.2 ++ v) }) d
  else if kind = kStall then
    let l := (List.range (min 12 (u8 b 0))).map fun i => u8 b (1 + 3 * i) * 65536 + u16 b (2 + 3 * i)
    modMate (fun m => { m with stall := tmod [] m.stall (stallKey obj atv) (· ++ l) }) d
  else if kind = kContext then contextRecord obj b d
  else if kind = kAlign then alignRecord obj b d
  else if kind = kProt then protRecord obj b d
  else if kind = kMerge then mergeRecord obj b d
  else if kind = kResize then resizeRecord obj b d
  else if kind = kTiming ∧ obj < 4 then takeTiming obj b d
  else d

/-- A DECISION record arrives: held until J while JOINING, applied afterwards (R460). -/
def decisionRx (kind : Nat) (r : Bytes) (d : Dev) : Dev :=
  if !domReady d 5 || !following d || u8 r 0 != kind then d
  else if d.mate.st = 2 ∨ d.mate.joinAt.isSome then modMate (fun m => { m with held := m.held ++ [r] }) d
  else applyRecord r d

/-! ### Digests (R458, R469) -/

/-- The DWRR deficit and head of the flows of a container. -/
def headsOf (d : Dev) (c : Nat) : List Nat :=
  (flowsOf d c).flatMap fun e =>
    let q := flowQ d e.1
    [e.1, match q.unread.drop q.owed with
      | f :: _ => f.idx
      | [] => q.idx, q.deficit]

/-- The contents of a state component, as numbers (R469). The manual gives no byte layout: the digest itself is left open. -/
def component (d : Dev) (k : Nat) : List Nat :=
  let by_ (b : Bytes) := b.map (·.toNat)
  if k = 0 then d.prov.serv.flatMap fun e => e.1 :: by_ e.2
  else if k = 1 then (List.range 4).flatMap fun n =>
    ((psl d n).snd.flatMap fun e => e.1 :: sndNo e.2.st :: e.2.gen :: by_ e.2.ann) ++ (psl d n).gens.flatMap fun e => [e.1, e.2]
  else if k = 2 then (List.range 4).flatMap fun n => (psl d n).rx.flatMap fun e => e.1 :: e.2.gen :: by_ e.2.tpl
  else if k = 3 then d.prot.flatMap fun e => e.1 :: e.2.req :: e.2.sel.toNat :: e.2.bridge.toNat :: by_ e.2.far
  else if k = 4 then d.merge.flatMap fun e => [e.1, e.2.st, e.2.set_, e.2.timing]
  else if k = 5 then d.line.flatMap fun e =>
    [e.1, e.2.rsz.st, e.2.rsz.responder.toNat, e.2.rsz.propId, e.2.rsz.newMap, e.2.rsz.txMap, e.2.rsz.rxMap]
  else if k = 6 then (List.range 4).flatMap fun i =>
    [(dp d i).sel.getD 0x1F, (dp d i).st, (dp d i).qlTx] ++ by_ (dp d i).mrec
  else if k = 7 then d.mate.mfn.flatMap fun e => [e.1, e.2]
  else if k = 8 then d.cont.flatMap fun e => e.1 :: e.2.jc.flatMap fun j => [j.1, j.2.cm, j.2.cnd]
  else if k = 9 then (packetConts d).flatMap fun c => c :: headsOf d c
  else if k = 10 then [d.prov.doneId]
  else d.prov.pend.flatMap fun p => p.id :: p.epoch :: p.tables.flatMap fun e => e.1 :: by_ e.2

/-- Digests are computed at each boundary on both mates (R469), and MISS of the past epoch ends (R456). -/
def mateEpoch (d : Dev) : Dev :=
  if d.mate.st = 0 then d
  else
    let d := setMateLive mMiss false d
    if 3 ≤ d.mate.st ∧ d.mate.st ≤ 4 then
      modMate (fun m => { m with digest := (List.range 12).map fun k => Config.digest k (component d k) }) d
    else d

/-- An active brings a packet container into step when no frame admitted before J is left (R459). -/
def stepReady (d : Dev) (c : Nat) : Bool :=
  (flowsOf d c).all fun e =>
    let q := flowQ d e.1
    q.unread.all (fun f => decide (f.idx < 65536)) && q.held.all fun f => decide (f.idx < 65536)

/-- ALIGN is sent for a container (R459); log entry 23. -/
def sendAlign (c : Nat) (d : Dev) : Dev :=
  let l := flowsOf d c
  let b := be 4 l.length ++ l.flatMap fun e =>
    let q := flowQ d e.1
    be 3 e.1 ++ be 2 (match q.unread.drop q.owed with
      | f :: _ => f.idx
      | [] => q.idx) ++ be 3 q.deficit
  setPktStep c true (fwd kAlign c (mfnOf d c) b d)

/-- The containers that an active can align now. -/
def alignReady (d : Dev) : Dev :=
  if d.mate.active && decide (3 ≤ d.mate.st ∧ d.mate.st ≤ 4) && d.mate.joinAt.isNone then
    each (packetConts d) (fun c d => gate (!pktStep d c && stepReady d c) (sendAlign c) d) d
  else d

/-- The pair is IN_STEP once R458 holds. -/
def checkInStep (d : Dev) : Dev :=
  let m := d.mate
  if m.st = 3 ∧ 3 ≤ m.equal ∧ mateLive d mLinkUp ∧ !mateLive d mPhase ∧ m.held = [] ∧ m.joinAt = none
      ∧ d.mbx.mir.all (fun i => decide (now d < i.x)) then setMateSt 4 d
  else d

/-- A standby's action on a component that differed 3 times (R469). -/
def digestAction (conts : Tbl Word) (bad : List Nat) (d : Dev) : Dev :=
  if d.mate.active then
    gate (bad.contains 9) (fun d => each (packetConts d) (fun c d =>
      gate (tfind conts c != some (Config.digest 9 (headsOf d c))) (setPktStep c false) d) d) d
  else if bad.any fun k => k != 8 && k != 9 then enterJoining d
  else
    let d := gate (bad.contains 8 && d.mate.st == 4) (setMateSt 3) d
    gate (bad.contains 9) (fun d => each (packetConts d) (fun c d =>
      gate (tfind conts c != some (Config.digest 9 (headsOf d c))) (setPktStep c false) d) d) d

/-- DIGEST_RX: the mate's digests of the last boundary, and of the containers where component 9 is in question (R469). -/
def digestRx (mate : List Word) (conts : Tbl Word) (d : Dev) : Dev :=
  if !domReady d 5 || !decide (3 ≤ d.mate.st ∧ d.mate.st ≤ 4) then d
  else
    let own := d.mate.digest
    let diff := (List.range 12).filter fun k => own.getD k 0 != mate.getD k 0
    let bad := tmap ((List.range 12).map fun k => (k, 0)) fun k _ => if diff.contains k then tget 0 d.mate.bad k + 1 else 0
    let some_ := !diff.isEmpty
    let d := modMate (fun m => { m with
      mateDigest := mate, contDigest := conts, bad := bad, equal := if some_ then 0 else m.equal + 1 }) d
    let d := { d with groom := { d.groom with
      digestCmp := satAdd (2 ^ 32 - 1) d.groom.digestCmp 1
      digestMis := satAdd (2 ^ 32 - 1) d.groom.digestMis some_.toNat
      misEpoch := if some_ then now d else d.groom.misEpoch
      misMap := if some_ then bitmap 12 diff.contains else d.groom.misMap } }
    let d := setMateLive mDigest some_ d
    let d := gate some_ (evtMate 0x0305 0 (be 2 (bitmap 12 diff.contains))) d
    checkInStep (digestAction conts ((List.range 12).filter fun k => decide (3 ≤ tget 0 bad k)) d)

/-! ### Joining (R460) -/

/-- JOIN_BOUNDARY_S: the standby adopts the active's epoch count and the frame phase of every line port; the active begins to
forward and to send its image. -/
def joinBoundary (epoch : Nat) (mfas : List Nat) (d : Dev) : Dev :=
  if !domReady d 5 || d.mate.st != 2 || d.mate.joinS then d
  else
    let d := modMate (fun m => { m with joinS := true }) d
    if d.mate.active then d
    else
      let d := { d with
        time := { d.time with epoch := BitVec.ofNat 48 epoch }
        line := tmap d.line fun p x => { x with txMfas := mfas.getD p x.txMfas } }
      showMate d

/-- The standby is to install an image. -/
def imageDue (d : Dev) : Bool := domReady d 5 && d.mate.st == 2 && !d.mate.active && d.mate.joinS

/-- The state of an image takes the place of the standby's own, whose tables are already those of the image; the standby names J and
enters CATCHUP. -/
def imageState (im : JoinImage) (j : Nat) (d : Dev) : Dev :=
  let d := { d with
    prov := { d.prov with serv := im.serv, shadow := im.serv, parts := [], pend := im.pend, lastId := im.lastId, doneId := im.doneId }
    prot := im.prot, merge := im.merge
    line := tmap d.line fun p x => { x with rsz := tget x.rsz im.rsz p }
    cont := (tkeys im.fill).foldl (fun t c => tmod {} t c fun x =>
      { x with jc := tget [] im.fill c }) d.cont
    tim := { d.tim with dpll := im.dpll }
    pkt := { d.pkt with cont := tmap d.pkt.cont fun _ p => { p with ctl := [] } } }
  let d := each (List.range 4) (fun n => modPsl n fun s => { s with
    snd := im.snd.filter fun e => ctxSlice e.1 == n
    wdr := im.wdr.filter fun e => ctxSlice (e.1 % 2 ^ 18) == n
    gens := im.gens.filter fun e => ctxSlice e.1 == n
    rx := tget [] im.rx n }) d
  let d := modMate (fun m => { m with image := true, mfn := im.mfn, joinAt := some j }) d
  let d := each (tkeys im.prot) pgRegs (each (tkeys im.merge) mgRegs (each (tkeys im.rsz) showRz d))
  showTiming (setMateSt 3 (sendControl 5 0 0 j d))

/-- JOIN_AT_RX: the active learns J. -/
def joinAtRx (j : Nat) (d : Dev) : Dev :=
  if domReady d 5 && d.mate.active && d.mate.st == 2 then
    setMateSt 3 (modMate (fun m => { m with joinAt := some j }) d)
  else d

/-- At J the frame indices begin anew; frames admitted before J carry an index beyond 16 bits (R459). -/
def restartIndices (d : Dev) : Dev :=
  each (List.range 4) (fun n => modPsl n fun s => { s with
    flowq := tmap s.flowq fun _ q => { q with
      idx := 0
      unread := q.unread.map fun f => { f with idx := 65536 }
      held := q.held.map fun f => { f with idx := 65536 } } }) d

/-- The records held are applied in order of DSEQ (R460). -/
def applyHeld (d : Dev) : Dev :=
  let l := sortBy (fun a b => decide (u32 a 2 ≤ u32 b 2)) d.mate.held
  l.foldl (fun d r => applyRecord r d) (modMate (fun m => { m with held := [] }) d)

/-- JOIN_EPOCH_J without the held commands, which the caller executes first. -/
def joinEpoch (d : Dev) : Dev :=
  match d.mate.joinAt with
  | none => d
  | some j =>
    if now d < j ∨ d.mate.st ≠ 3 then d
    else
      let d := modMate (fun m => { m with joinAt := none, joinEpoch := j, equal := 0, bad := [] }) (restartIndices d)
      if d.mate.active then d else applyHeld d

/-! ### Switch-over (R462) -/

/-- A commanded switch starts: HANDOVER is sent. -/
def startSwitch (cause : Nat) (d : Dev) : Dev :=
  if !inStep d || !d.mate.active || d.mate.handover.isSome then d
  else sendControl 1 0 0 0 (modMate (fun m => { m with handover := some (cause, 1) }) d)

/-- HANDOVER_RX: the standby becomes active and acknowledges. -/
def handoverRx (d : Dev) : Dev :=
  if domReady d 5 && inStep d && !d.mate.active then sendControl 2 0 0 0 (takeRole 1 d) else d

/-- HANDOVER_ACK_RX: the old active becomes standby, still IN_STEP. -/
def handoverAckRx (d : Dev) : Dev :=
  match d.mate.handover with
  | some (cause, _) => if domReady d 5 && d.mate.active then setRole false cause d else d
  | none => d

/-- HANDOVER_REQ_RX. -/
def handoverReqRx (d : Dev) : Dev := if domReady d 5 then startSwitch 1 d else d

/-- HANDOVER_ACK_TIMEOUT: HANDOVER is sent once more; then the role is kept. -/
def handoverTimeout (d : Dev) : Dev :=
  match d.mate.handover with
  | none => d
  | some (cause, 1) => sendControl 1 0 0 0 (modMate (fun m => { m with handover := some (cause, 2) }) d)
  | some _ => evtMate 0x0306 0 [] (modMate (fun m => { m with handover := none }) d)

/-- ACT_N has been high for 10 µs, or is low again (R450). -/
def actReleased (free : Bool) (d : Dev) : Dev :=
  if d.mate.st = 0 ∨ d.mate.active then d
  else
    let d := modMate (fun m => { m with actFree := free }) d
    -- ACT_N goes low in JOINING with the heartbeats already lost: PARTITION (R452)
    let d := gate (!free && !d.mate.hbOk && decide (2 ≤ d.mate.st ∧ d.mate.st ≤ 4)) (setMateSt 5) d
    showMate (checkPin (checkTakeover d))

/-- ACT_N_PROBE: an active B whose link is down finds ACT_N low, or not, 0.8 µs into its release (R451). -/
def actProbe (low : Bool) (d : Dev) : Dev :=
  if d.mate.st ≠ 0 ∧ d.mate.active ∧ roleB d ∧ !mateLive d mLinkUp ∧ low then yieldRole d else d

/-- CLAIM_TIMER_EXPIRY (R466). -/
def claimExpiry (d : Dev) : Dev :=
  let m := d.mate
  let alone := !(m.hbOk && m.mateActive) && m.actFree
  let both := m.hbOk && !m.mateActive && mateLive d mLinkUp && (!roleB d || m.actFree)
  if m.active || !(m.st == 1 || m.st == 2) || rf d .glbBootStat 3 0 != 7 || !(alone || both) then d
  else setMateSt 6 (takeRole 4 d)

/-! ### Mirrored commands (R453) -/

/-- Two commands have the same X, CHANNEL and TAG. -/
def sameResult (a b : Nat × Nat × Nat × Nat) : Bool := a.1 == b.1 && a.2.1 == b.2.1 && a.2.2.1 == b.2.2.1

/-- One device's STATUS of a mirrored command meets the other's: where they differ the standby returns to JOINING (R453). -/
def meetStatus (a b : Nat × Nat × Nat × Nat) (d : Dev) : Dev := if a.2.2.2 = b.2.2.2 then d else enterJoining d

/-- RESULT_RX: the active compares the standby's STATUS with its own, at once or when its own execution gives it. -/
def resultRx (b : Bytes) (d : Dev) : Dev :=
  if !domReady d 5 || !d.mate.active || !decide (2 ≤ d.mate.st ∧ d.mate.st ≤ 4) then d
  else
    let r := (u48 b 0, u8 b 6, u16 b 8, u16 b 12)
    match d.mate.statuses.find? (sameResult r) with
    | some e => meetStatus e r (modMate (fun m => { m with statuses := m.statuses.erase e }) d)
    | none => modMate (fun m => { m with results := m.results ++ [r] }) d

/-- COMMAND_MSG_RX: X, CHANNEL, a reserved byte and the request slot; the command is held for X. -/
def commandRx (b : Bytes) (d : Dev) : Dev :=
  if !domReady d 5 || !following d || b.length < 264 then d
  else
    let s := b.drop 8
    let r : Req := { ch := u8 b 6, tag := BitVec.ofNat 16 (u16 s 2), chField := u8 s 10, payload := slice s 16 (min 240 (u16 s 4)), ns := 0 }
    { d with mbx := { d.mbx with mir := d.mbx.mir ++ [{ opcode := u16 s 0, req := r, x := u48 b 0, own := false, ahead := decide (now d < u48 b 0) }] } }

/-! ### Start and commands (R442, R471) -/

/-- Thino starts: a device with the pairing flag enters the pair as standby (R442, R452). -/
def mateStart (d : Dev) : Dev :=
  if pairing d then setMateSt 1 (requestWake 2 5 d) else d

/-- The pairing flag is cleared: UNPAIRED, both nets released, D5 sleeps (R442, R452). -/
def unpair (d : Dev) : Dev :=
  let d := setMateSt 0 d
  let d := modMate (fun _ => {}) (gate d.mate.active (setRole false 1) d)
  showMate (modDom 5 (fun x => { x with
    st := if x.st = .deferred then .off else x.st, leaving := x.st == .ready || x.st == .ramping, heldWake := 0 }) d)

/-- MATE_STATUS. -/
def mateStatus (d : Dev) : Bytes :=
  let m := d.mate
  be 1 m.st ++ be 1 (m.active.toNat * 128 + (m.hbOk && m.mateActive).toNat * 64 + (pairing d).toNat * 32 + (roleB d).toNat * 16)
    ++ be 1 m.refuse ++ [0] ++ be 4 (reg d .matePhase).toNat ++ be 6 m.joinEpoch
    ++ be 2 ((packetConts d).filter fun c => !pktStep d c).length ++ be 4 m.misses ++ be 4 (rf d .mateCnt 31 16)
    ++ be 6 m.lastSwitch ++ be 1 m.lastCause ++ [0]

/-- MATE_SWITCH: status. -/
def mateSwitch (b : Bytes) (d : Dev) : Nat × Dev :=
  if u16 b 0 ≠ 0xA55A then (4, d)
  else if !inStep d then (0x10, d)
  else if d.mate.active then (0, startSwitch 1 d) else (0, sendControl 4 0 0 0 d)

/-- MATE_JOIN: status and the offset of a bad field. -/
def mateJoin (b : Bytes) (d : Dev) : Nat × Nat × Dev :=
  let a := u8 b 2
  if u16 b 0 ≠ 0xA55A then (4, 0, d)
  else if 2 < a then (4, 2, d)
  else if a = 2 then
    if following d then (0, 0, enterJoining d) else (0x10, 0, d)
  else
    let d := wakeNvm d
    if !nvmWritable d then (0x15, 0, d)
    else
      let d := jappend jPairing 0 (be 1 a) d
      if a = 0 then (0, 0, unpair d) else if d.mate.st = 0 then (0, 0, mateStart d) else (0, 0, showMate d)

/-- MATE_DIGEST. -/
def mateDigest (b : Bytes) (d : Dev) : Bytes :=
  if u8 b 0 = 0 then
    be 6 (now d) ++ be 2 0 ++ ((List.range 12).flatMap fun k => be 4 (d.mate.digest.getD k 0).toNat)
      ++ (List.range 12).flatMap fun k => be 4 (d.mate.mateDigest.getD k 0).toNat
  else
    let l := ((packetConts d).filter fun c => decide (u32 b 4 ≤ c)).take 28
    be 1 l.length ++ zeros 7 ++ l.flatMap fun c =>
      be 4 (Config.digest 9 (headsOf d c)).toNat ++ be 4 (tget 0 d.mate.contDigest c).toNat

/-! ### Groomer (R468, R470) -/

def modGroom (f : Groomer → Groomer) (d : Dev) : Dev := { d with groom := f d.groom }

/-- The protection of a queue's pointers: 0 ECC, 1 DUP, 2 BOTH (R334). -/
def queueProt (d : Dev) (e : QueueErr) : Nat :=
  if e.eg then u8 (mqRec d e.slice) 13 else qcProt (qcRec d (flowCont d e.queue) (flClass (flowRec d e.queue)))

/-- The frames of a list, the first at position p, of which those with a byte in the item word at position a are marked (R335). -/
def spoilFrames (a : Nat) : Nat → List QFrame → List QFrame
  | _, [] => []
  | p, f :: l => { f with bad := f.bad || touches a (a + 8) p f.bytes.length } :: spoilFrames a (p + f.bytes.length) l

/-- One error in a queue is handled (R335). -/
def queueError (e : QueueErr) (d : Dev) : Dev :=
  let p := queueProt d e
  let n := e.slice
  let d := count (14 + n) (ctrSlice n (if e.kind = 0 then 5 else if e.kind = 1 then 6 else 7))
    (if e.kind ≤ 1 ∨ (e.kind = 2 ∧ p ≠ 1) ∨ (e.kind = 3 ∧ p = 2) then 1 else 0) d
  if e.kind = 0 then raiseErr 1 0x0014 n 0x0030 1 1 d
  else if e.kind = 1 then
    let d := modQueue n e.eg e.queue (fun q => { q with unread := spoilFrames (8 * e.pos) 0 q.unread }) d
    raiseErr 2 0x0014 n 0x0031 1 (e.queue % 65536) (updLevels n e.eg e.queue (settleQueue n e.eg e.queue d))
  else if e.kind = 2 ∧ p ≠ 1 then raiseErr 1 0x0014 n 0x0030 2 1 d
  else if e.kind = 3 ∧ p = 2 then raiseErr 1 0x0014 n 0x0030 3 1 d
  else raiseErr 2 0x0014 n 0x0031 (if p = 0 then 2 else 3) (e.queue % 65536) (resetQueue n e.eg e.queue d)

/-- SRAM_SCRUB_PASS over the SRAM of a block: duration, corrected words, addresses of uncorrectable words, errors in queues. -/
def sramPass (src inst ms corr : Nat) (bad : List Nat) (qs : List QueueErr) (d : Dev) : Dev :=
  let d := modGroom (fun g => { g with
    sramPass := true, sramMs := ms, sramCorr := satAdd (2 ^ 32 - 1) g.sramCorr corr
    sramUncorr := satAdd (2 ^ 32 - 1) g.sramUncorr bad.length }) d
  let d := gate (corr != 0) (raiseErr 1 src inst 0x0020 (min 65535 corr) 0) d
  let d := bad.foldl (fun d a => raiseErr 2 src inst 0x0021 (a / 65536 % 65536) (a % 65536) d) d
  qs.foldl (fun d e => queueError e d) d

/-- SPILL_SCRUB_PASS over the in-use blocks of a wake unit: corrected bursts, and the queues with a failed block. -/
def spillPass (g corr : Nat) (bad : List QueueErr) (d : Dev) : Dev :=
  if !domReady d (18 + g) then d
  else
    let d := modGroom (fun m => { m with
      memPass := true, memPasses := satAdd (2 ^ 32 - 1) m.memPasses 1, memCorr := satAdd (2 ^ 32 - 1) m.memCorr corr
      memUncorr := satAdd (2 ^ 32 - 1) m.memUncorr bad.length }) (spreadBursts 6 corr (ifaces g) d)
    bad.foldl (fun d e => dropBlock e.slice e.eg e.queue e.pos d) d

/-- BIST_RUN on an idle engine, named by LTAB TYPE and instance. -/
def bistRun (ty inst : Nat) (fail : Bool) (d : Dev) : Dev :=
  let d := modGroom (fun g => { g with
    bistRuns := satAdd (2 ^ 32 - 1) g.bistRuns 1, bistFails := satAdd (2 ^ 32 - 1) g.bistFails fail.toNat
    bistFail := if fail then true else g.bistFail && !(g.bistType == ty && g.bistInst == inst)
    bistType := if fail then ty else g.bistType, bistInst := if fail then inst else g.bistInst }) d
  gate fail (raiseErr 3 ty inst 0x0022 ty inst) d

/-- HEALTH (R470). -/
def healthBytes (d : Dev) : Bytes :=
  let g := d.groom
  be 1 (g.sramPass.toNat * 128 + g.memPass.toNat * 64 + g.bistFail.toNat * 32 + (mateLive d mDigest).toNat * 16) ++ zeros 3
    ++ be 4 g.sramMs ++ be 4 g.sramCorr ++ be 4 g.sramUncorr ++ be 4 g.memPasses ++ be 4 g.memCorr ++ be 4 g.memUncorr
    ++ be 4 g.bistRuns ++ be 4 g.bistFails ++ be 2 g.bistType ++ be 1 g.bistInst ++ [0]
    ++ be 4 g.digestCmp ++ be 4 g.digestMis ++ be 6 g.misEpoch ++ be 2 g.misMap ++ zeros 8

end Sys2Proof.Machine
end

