-- ==== Sys2Proof/Machine/Mem.lean ====
section
/-! DEFINITION. The byte-addressed memories: the MBX rings and the BULK window by their BAR0 offsets, and the IMAGE area of the
MRAM (R151, R181, R534), as one canonical list of cells; and the device together with them. -/

namespace Sys2Proof.Machine

/-- Byte-addressed memory: addresses strictly rising, no byte 0. An unlisted address reads 0 (log entry 25). -/
abbrev Memory := List Host.Cell

/-- Key of byte o of the MRAM area IMAGE, above every BAR0 offset (R534). -/
abbrev imageBase : Nat := 0x10000000

/-- BAR0 offset of the BULK window (R181) and its size. -/
abbrev bulkBase : Nat := 0x2400000
abbrev bulkSize : Nat := 0x40000

/-- The canonical form: strictly rising addresses above `lo`, and no zero byte. -/
def Memory.above : Nat → Memory → Bool
  | _, [] => true
  | lo, (a, b) :: m => decide (lo ≤ a) && b != 0 && Memory.above (a + 1) m

/-- The canonical form of a memory. -/
def Memory.wf (m : Memory) : Bool := Memory.above 0 m

/-- The byte at an address. -/
def rd : Memory → Nat → Byte
  | [], _ => 0
  | (x, b) :: m, a => if x = a then b else if a < x then 0 else rd m a

/-- A byte is written; writing 0 removes the entry. -/
def wr : Memory → Nat → Byte → Memory
  | [], a, v => if v = 0 then [] else [(a, v)]
  | (x, b) :: m, a, v =>
    if a < x then if v = 0 then (x, b) :: m else (a, v) :: (x, b) :: m
    else if x = a then if v = 0 then m else (a, v) :: m
    else (x, b) :: wr m a v

/-- n bytes from an address. -/
def rdBytes (m : Memory) (a n : Nat) : Bytes := (List.range n).map fun i => rd m (a + i)

/-- Bytes written from an address on. -/
def wrBytes : Memory → Nat → Bytes → Memory
  | m, _, [] => m
  | m, a, b :: l => wrBytes (wr m a b) (a + 1) l

/-- A range of addresses cleared. -/
def clearRange (m : Memory) (lo n : Nat) : Memory := m.filter fun c => !(decide (lo ≤ c.1) && decide (c.1 < lo + n))

/-- The device and its byte-addressed memories. -/
structure Sys where
  dev : Dev := {}
  mem : Memory := []
  deriving DecidableEq, Repr

/-- A change of the device alone. -/
def onDev (f : Dev → Dev) (s : Sys) : Sys := { s with dev := f s.dev }

end Sys2Proof.Machine
end

