-- ==== Sys2Proof/Machine/Update.lean ====
section
/-! DEFINITION. Persistent state: STORE, firmware staging, verification, activation and confirmation, the last-gasp record and
JTAG (R534 to R564). -/

namespace Sys2Proof.Machine

/-! ### What a command answers (R159) -/

/-- STATUS and payload of a response. -/
structure Ans where
  st : Nat := 0
  pay : Bytes := []
  /-- the response follows later: STORE (R540) -/
  later : Bool := false
  /-- nothing is done yet: the MRAM access of the command waits for D2, whose wake is deferred (R60, R69) -/
  wait : Bool := false
  deriving DecidableEq, Repr

def success (p : Bytes := []) : Ans := { pay := p }
def status (k : Nat) : Ans := { st := k }
/-- BAD_PARAM with the offset of the field. -/
def badParam (o : Nat) : Ans := { st := 4, pay := be 2 o }

abbrev sNoResource : Nat := 5
abbrev sRateLimit : Nat := 6
abbrev sPowerFail : Nat := 9
abbrev sNotSupported : Nat := 0x10
abbrev sVerifyFailed : Nat := 0x13
abbrev sRollback : Nat := 0x14
abbrev sNvmFault : Nat := 0x15

/-- The answer of a command whose MRAM access cannot be made: it waits while the wake of D2 is deferred, and fails otherwise. -/
def nvmBlocked (d : Dev) : Ans := if (dom d 2).st == .deferred then { wait := true } else { st := 0x15 }

/-! ### Registers of NVM as read (R563) -/

def runFormat (d : Dev) : Nat := mfFormat (activeMan d)
def runFormatMin (d : Dev) : Nat := mfFormatMin (activeMan d)

/-- The settings area in force. -/
def curArea (d : Dev) : Option Nat := pickArea d (runFormatMin d) (runFormat d)

/-- A valid last-gasp record, not superseded. -/
def gaspValid (d : Dev) : Bool := match d.nvm.gasp with
  | some g => g.state == 1
  | none => false

def nvmStatLive (d : Dev) : Word :=
  BitVec.ofNat 32 (d.nvm.upd * 2 ^ 16 + (unconfirmed d).toNat * 512 + (curArea d).getD 0 * 256
    + (curArea d).isSome.toNat * 128 + (gaspValid d).toNat * 16 + d.pin.guard.toNat * 8 + d.nvm.store.isSome.toNat * 4
    + (domReady d 2).toNat)

def storeCount (d : Dev) : Nat := match curArea d with
  | some a => u32 (jbody d jSetCommit a) 16
  | none => 0

def nvmArbLive (d : Dev) : Word := BitVec.ofNat 32 (d.fuse.arb * 65536 + arbCounter d)

def jtagTime (d : Dev) : Word := match d.nvm.jtagLeft with
  | none => 0
  | some 0 => 0xFFFFFFFF
  | some e => BitVec.ofNat 32 ((e - now d + 999) / 1000)

def gaspEpochLo (d : Dev) : Word := match d.nvm.gasp with
  | some g => if g.state = 1 then BitVec.ofNat 32 (u48 g.bytes 8) else 0
  | none => 0

/-! ### STORE (R540, R541) -/

/-- STORE_REFUSED. -/
def refuseStore (st : Nat) (d : Dev) : Dev := evtNvm 0x0C02 0 (be 2 st) d

/-- STORE at X: it is refused at once, or runs until STORE_SET_COMMIT. -/
def storeCmd (ch : Nat) (tag : BitVec 16) (d : Dev) : Ans × Dev :=
  let early := match d.nvm.storeAt with
    | some e => decide (now d < e + 1000)
    | none => false
  let foreign := match curArea d with
    | some a => (tfind d.nvm.setArea a).any fun i => i.format != runFormat d
    | none => false
  if early || d.nvm.store.isSome then (status sRateLimit, refuseStore sRateLimit d)
  else if unconfirmed d && foreign then (status sNotSupported, refuseStore sNotSupported d)
  else
    let d := wakeNvm d
    if !nvmWritable d then (nvmBlocked d, refuseStore sNvmFault d)
    else
      let area := match curArea d with
        | some 0 => 1
        | _ => 0
      ({ later := true }, modNvm (fun m => { m with
        store := some { area := area, format := runFormat d, ch := ch, tag := tag, x := now d }, storeAt := some (now d) }) d)

/-- An MRAM word fails (R563): 1 uncorrectable read, 2 write or read-back. -/
def nvmFail (k area : Nat) (d : Dev) : Dev :=
  raiseErr 2 0x0007 0 0x0041 k area (setRb .nvmErr (if k = 1 then 3 else 1) true d)

/-- The bytes of a settings image (R539). -/
def imageBytes (i : SetImg) : Bytes :=
  [0x5A, 0x4B, 0x53, 0x54] ++ be 2 i.format ++ be 2 0 ++ be 4 i.gen ++ be 4 (imageLength i.entries) ++ be 6 i.epoch
    ++ be 4 i.entries.length ++ zeros 38
    ++ i.entries.flatMap fun e =>
      be 1 e.1 ++ [0] ++ be 2 e.2.2.length ++ be 4 e.2.1 ++ fit ((e.2.2.length + 3) / 4 * 4) e.2.2

/-- An image is written to an area, read back and made valid by SET_COMMIT (R540). -/
def writeImage (area format : Nat) (readback : Bool) (entries : List (Nat × Nat × Bytes)) (d : Dev) : Bool × Dev :=
  let gen := match curArea d with
    | some a => ((tfind d.nvm.setArea a).map (·.gen)).getD 0 + 1
    | none => 1
  let cnt := storeCount d + 1
  let d := jappend jSetBegin area (be 1 area) d
  if !readback then (false, nvmFail 2 (2 + area) (modNvm (fun m => { m with setArea := tdel m.setArea area }) d))
  else
    let img : SetImg := { format := format, gen := gen, epoch := now d, entries := entries }
    let d := modNvm (fun m => { m with setArea := tset m.setArea area img }) d
    (true, jappend jSetCommit area
      (be 1 area ++ [0] ++ be 2 format ++ be 4 gen ++ be 4 (imageLength entries) ++ be 4 (crc32 (imageBytes img)).toNat ++ be 4 cnt
        ++ be 6 (now d)) d)

/-- STORE_SET_COMMIT: the image holds the tables in service at D. The answer of the STORE that waits. -/
def storeFinish (readback : Bool) (d : Dev) : Option (StoreRun × Ans) × Dev :=
  match d.nvm.store with
  | none => (none, d)
  | some r =>
    let d := modNvm (fun m => { m with store := none }) d
    let es := imageEntries d
    if r.fail ≠ 0 then (some (r, status r.fail), refuseStore r.fail d)
    else if imageLength es > 1048576 then (some (r, status sNoResource), refuseStore sNoResource d)
    else if !nvmWritable d then (some (r, status sNvmFault), refuseStore sNvmFault d)
    else
      let (ok, d) := writeImage r.area r.format readback es d
      if !ok then (some (r, status sNvmFault), refuseStore sNvmFault d)
      else
        let n := storeCount d
        (some (r, success (be 4 n)), evtNvm 0x0C01 r.area (be 4 n ++ be 4 (imageLength es)) d)

/-! ### Parts in IMAGE (R549, R552) -/

/-- The bytes of part i of a manifest in IMAGE. -/
def partBytes (m : Memory) (man : Bytes) (i : Nat) : Bytes := rdBytes m (imageBase + partOffset man i) (partLength man i)

/-- The resident parts of the active image are copied into RESUME, then the RESUME record is written (R552). -/
def fillResume (m : Memory) (d : Dev) : Dev :=
  match d.nvm.active with
  | none => d
  | some (s, man) =>
    if u32 (jbody d jResume 0) 0 = s ∧ s ≠ 0 then d
    else
      let l := (partList man).filter fun i => decide (partType man i ≤ 6)
      let d := modNvm (fun n => { n with resume := l.foldl (fun t i => tset t (partType man i) (partBytes m man i)) [] }) d
      jappend jResume 0 (be 4 s) d

/-! ### Staging (R551, R553). In the freeze of PFW_N its commands are served, as those marked L are (R182; log entry 128). -/

/-- While staging is not IDLE a reload of the resident part of a type takes it from RESUME; it fails where its hash is not that of
the active manifest (R552). -/
def reloadFails (d : Dev) (t : Nat) : Bool :=
  let man := activeMan d
  d.nvm.upd != 0 && match partOfType man t, tfind d.nvm.resume t with
    | some i, some b => decide (Config.sha384 b ≠ partHash man i)
    | _, _ => false

/-- PART_RELOAD: a refused part (R149, R552). -/
def partReload (t : Nat) (d : Dev) : Dev := raiseErr 3 0x0007 0 0x0042 t 0 d

/-- The resident part that a domain reloads when it wakes (R549, R552); 0 none. -/
def domainPart (n : Nat) : Nat :=
  if n = 3 then 2 else if 6 ≤ n ∧ n < 14 then 3 else if n = 5 then 4 else if (14 ≤ n ∧ n < 18) ∨ n = 22 then 6 else 0

/-- LAST_STATUS follows every update command. -/
def noteStatus (a : Ans) (d : Dev) : Ans × Dev := (a, modNvm (fun m => { m with lastStatus := a.st }) d)

def stagedMseq (d : Dev) : Nat := match d.nvm.staged with
  | some (s, _) => s
  | none => 0

/-- UPD_BEGIN. -/
def updBegin (p : Bytes) (s : Sys) : Ans × Sys :=
  let d := s.dev
  let fin (a : Ans) (d : Dev) : Ans × Sys := let r := noteStatus a d; (r.1, { s with dev := r.2 })
  if u32 p 0 ≠ 936 then fin (badParam 0) d
  else if !(decide (4096 ≤ u32 p 4 ∧ u32 p 4 ≤ 8388608)) then fin (badParam 4) d
  else
    let d := wakeNvm d
    if !nvmWritable d then fin (nvmBlocked d) d
    else
      let d := fillResume s.mem d
      let again := d.nvm.upd == 1
      let d := modNvm (fun m => { m with totalLen := u32 p 4, written := 0, wrote := false, staged := if again then m.staged else none }) d
      fin (success (be 4 8388608)) (if again then d else setUpd 1 0 d)

/-- UPD_WRITE. -/
def updWrite (p : Bytes) (s : Sys) : Ans × Sys :=
  let d := s.dev
  let fin (a : Ans) (d : Dev) (m : Memory) : Ans × Sys := let r := noteStatus a d; (r.1, { dev := r.2, mem := m })
  let off := u32 p 0
  let bulk := u32 p 4
  let len := u32 p 8
  if d.nvm.upd ≠ 1 then fin (status sNotSupported) d s.mem
  else if off % 64 ≠ 0 ∨ d.nvm.totalLen < off + len then fin (badParam 0) d s.mem
  else if bulkSize < bulk + len then fin (badParam 4) d s.mem
  else
    let b := rdBytes s.mem (bulkBase + bulk) len
    if (crc32 b).toNat ≠ u32 p 12 then fin (status sVerifyFailed) d s.mem
    else
      let d := wakeNvm d
      if !nvmWritable d then fin (nvmBlocked d) d s.mem
      else
        fin success (modNvm (fun m => { m with written := m.written + len, wrote := true }) d) (wrBytes s.mem (imageBase + off) b)

/-- The parts of a manifest are sound: types, THINO, offsets and limits (R549, R550, R553). -/
def partsSound (man : Bytes) (tot : Nat) : Bool :=
  let l := partList man
  decide (1 ≤ mfParts man ∧ mfParts man ≤ 8)
    && l.all (fun i => decide (1 ≤ partType man i ∧ partType man i ≤ 7) && partOffset man i % 4096 == 0
        && decide (partOffset man i + partLength man i ≤ tot))
    && (partOfType man 1).isSome
    && l.all (fun i => l.all fun j => decide (i ≥ j) || (partType man i != partType man j
        && (decide (partOffset man i + partLength man i ≤ partOffset man j)
          || decide (partOffset man j + partLength man j ≤ partOffset man i))))
    && decide (total ((l.filter fun i => decide (partType man i ≤ 6)).map (partLength man)) ≤ 4194304)
    && decide (total (l.map (partLength man)) ≤ 8388608)

/-- A manifest is structurally sound (R553). -/
def manifestSound (man : Bytes) (tot : Nat) : Bool :=
  slice man 0 4 == [0x5A, 0x4B, 0x4D, 0x46] && u16 man 4 == 1 && u16 man 6 == 936 && partsSound man tot
    && decide (mfSecnum man ≤ 64)

/-- UPD_COMMIT. -/
def updCommit (p : Bytes) (s : Sys) : Ans × Sys :=
  let d := s.dev
  let fin (a : Ans) (d : Dev) : Ans × Sys := let r := noteStatus a d; (r.1, { s with dev := r.2 })
  if d.nvm.upd ≠ 1 then fin (status sNotSupported) d
  else if bulkSize < u32 p 0 + u32 p 4 then fin (badParam 0) d
  else if u32 p 4 ≠ 936 then fin (badParam 4) d
  else
    let man := rdBytes s.mem (bulkBase + u32 p 0) 936
    if !manifestSound man d.nvm.totalLen then fin (badParam 0) d
    else if mfSn man ≠ 0 ∧ mfSn man ≠ Config.serial.toNat then fin (status sVerifyFailed) d
    else if mfSecnum man < arbCounter d then fin (status sRollback) d
    else
      let d := wakeNvm d
      if !nvmWritable d then fin (nvmBlocked d) d
      else
        let ms := d.nvm.mseq + 1
        let d := modNvm (fun m => { m with staged := some (ms, man), mseq := ms, man := man }) d
        fin (success (be 4 (mfVersion man))) (setUpd 2 ms d)

/-- UPD_ABORT. Outside RECEIVING and STAGED it changes nothing. -/
def updAbort (s : Sys) : Ans × Sys :=
  let d := s.dev
  let fin (a : Ans) (d : Dev) : Ans × Sys := let r := noteStatus a d; (r.1, { s with dev := r.2 })
  if d.nvm.upd ≠ 1 ∧ d.nvm.upd ≠ 2 then fin success d
  else
    let ms := stagedMseq d
    let wrote := d.nvm.wrote
    let d := wakeNvm d
    if !nvmWritable d then fin (nvmBlocked d) d
    else fin success (setUpd (if wrote then 3 else 0) ms (modNvm (fun m => { m with staged := none }) d))

/-- UPD_STATUS. -/
def updStatus (d : Dev) : Bytes :=
  be 1 (d.nvm.upd + (unconfirmed d).toNat * 128) ++ zeros 3 ++ be 4 d.nvm.written ++ be 2 d.nvm.lastStatus ++ zeros 2

/-- UPD_CONFIRM: migration as STORE does, its STORE_DONE included, anti-rollback, CONFIRM (R557; log entry 160). -/
def updConfirm (d : Dev) : Ans × Dev :=
  if !unconfirmed d then noteStatus (success (be 4 (arbCounter d))) d
  else
    let d := wakeNvm d
    if !nvmWritable d then noteStatus (nvmBlocked d) d
    else
      let man := activeMan d
      let d := match curArea d with
        | some a => match tfind d.nvm.setArea a with
          | some i =>
            if i.format = mfFormat man then d
            else
              let d := (writeImage (1 - a) (mfFormat man) true i.entries d).2
              evtNvm 0x0C01 (1 - a) (be 4 (storeCount d) ++ be 4 (imageLength i.entries)) d
          | none => d
        | none => d
      let sec := mfSecnum man
      let d := if arbCounter d < sec then
          let d := jappend jArbTarget 0 (be 1 sec) d
          { d with fuse := { d.fuse with arb := max d.fuse.arb (min 64 sec) } }
        else d
      let d := jappend jConfirm 0 (be 4 (activeMseq d)) d
      noteStatus (success (be 4 (arbCounter d))) (evtNvm 0x0C07 (activeMseq d) (be 1 (arbCounter d)) d)

/-! ### Verification and activation (R95, R554 to R556) -/

/-- The signature check of one key over bytes 0 to 743. -/
def signed (man key sig : Bytes) : Bool := Config.ecdsaValid key (slice man 0 744) sig

/-- Verification of a manifest and its parts: 0 passed, or the code of UPD_VERIFY (R95, R564). -/
def verify (m : Memory) (d : Dev) (man : Bytes) : Nat :=
  let vk := slice man 544 97
  let ck := slice man 641 97
  let custKey := match Config.customerKeyHash with
    | some h => mfCust man && decide (Config.sha384 ck = h)
    | none => true
  if !(slice man 0 4 == [0x5A, 0x4B, 0x4D, 0x46] && u16 man 4 == 1 && u16 man 6 == 936) then 5
  else if mfSn man ≠ 0 ∧ mfSn man ≠ Config.serial.toNat then 6
  else if Config.sha384 vk ≠ Config.vendorKeyHash ∨ !custKey then 1
  else if !signed man vk (slice man 744 96) || (mfCust man && !signed man ck (slice man 840 96)) then 2
  else if (partList man).any fun i => decide (Config.sha384 (partBytes m man i) ≠ partHash man i) then 3
  else if mfSecnum man < arbCounter d then 4
  else 0

/-- UPD_VERIFY: 0 staged, 1 active; the result. A failure sets NVM_ERR.VERIFY_FAIL. -/
def postVerify (ms which res : Nat) (d : Dev) : Dev :=
  evtNvm 0x0C06 ms (be 1 which ++ be 1 res) (gate (res != 0) (setRb .nvmErr 0 true) d)

/-- The steps of R555 after the ACTIVATE record, and the CALDEF part of the release (R543). MRAM must take its writes (R81). -/
def finishActivation (m : Memory) (d : Dev) : Dev :=
  if !nvmWritable d then d else match d.nvm.staged with
  | none => gate (d.nvm.upd != 0) (setUpd 0 (activeMseq d)) d
  | some (s, man) =>
    let d := modNvm (fun n => { n with active := some (s, man), staged := none }) d
    let d := match partOfType man 7 with
      | some i => calWrite 0 (partBytes m man i) d
      | none => d
    setUpd 0 s d

/-- Activation: ACTIVATE, then the remaining steps (R555). -/
def activateImage (m : Memory) (d : Dev) : Dev :=
  match d.nvm.staged with
  | none => d
  | some (s, _) => gate (nvmWritable d) (fun d => finishActivation m (jappend jActivate 0 (be 4 s) d)) d

/-- An activation was interrupted: ACTIVATE is newer than the last UPD_STATE IDLE (R555). -/
def activationOpen (d : Dev) : Bool := match jget d jActivate 0 with
  | none => false
  | some a => d.nvm.upd != 0 && u32 a.body 0 == (match d.nvm.staged with
    | some (s, _) => s
    | none => activeMseq d) && match jget d jUpdState 0 with
      | some u => decide (u.seq < a.seq)
      | none => true

/-- The boot-attempt count (R554): a BOOT_ATTEMPT record, written where MRAM takes it. -/
def attempts (d : Dev) : Nat := min 3 (u8 (jbody d jBootAttempt 0) 0)
def setAttempts (n : Nat) (d : Dev) : Dev :=
  nvmWrite (fun d => setRf .glbBootStat 9 8 n (jappend jBootAttempt 0 (be 1 n) d)) d

/-- The staged parts are all THINO or LTAB extension (R38). -/
def stagedSoft (d : Dev) : Bool := match d.nvm.staged with
  | some (_, man) => (partList man).all fun i => partType man i == 1 || partType man i == 5
  | none => false

/-! ### The last-gasp record (R85, R546 to R548) -/

/-- The partial second of a point in the compact form, and whether a defect is live. -/
def partialSecond (d : Dev) (i : Nat) : Nat × Bool := match serv d 9 i with
  | none => (0, false)
  | some r =>
    let x := snapshot d (i, r)
    (pmEncode x.2.1, x.2.2.2 % 2 ^ 30 != 0)

/-- The 12 bytes of a current 15-minute bin (R547). -/
def gaspBin (d : Dev) (i : Nat) : Bytes :=
  let b := tget {} (point d i).bins 0
  let v := min 1023 b.nes
  let n := ((((v * 1024 + min 1023 b.nses) * 1024 + min 1023 b.nuas) * 1024 + min 1023 b.fes) * 1024 + min 1023 b.fses) * 1024
    + min 1023 b.fuas
  be 8 (n * 16) ++ be 2 (pmEncode b.nbbe) ++ be 2 (pmEncode b.fbbe)

/-- REASON of a record at the freeze, before what R86 adds. -/
def gaspReason (d : Dev) (cancelled handover : Bool) : Nat :=
  (isFatal d).toNat * 32768 + d.nvm.store.isSome.toNat * 16384 + (d.nvm.upd == 1).toNat * 8192 + cancelled.toNat * 4096
    + handover.toNat * 2048 + (d.pwr.warnUp != 0).toNat * 1024

/-- The bytes of the last-gasp record. -/
def gaspBytes (d : Dev) (cancelled handover : Bool) : Bytes :=
  let regBytes (r : Reg) := be 4 (reg d r).toNat
  let head := [0x5A, 0x4B, 0x4C, 0x47] ++ be 2 1 ++ be 2 (gaspReason d cancelled handover) ++ be 6 (now d) ++ be 2 d.prov.doneId
    ++ be 4 (Config.freeNs d.time.stamps % 1000000)
    ++ be 1 ((rb d .glbStrap 0).toNat * 128 + d.mate.active.toNat * 64 + (pairing d).toNat * 32) ++ be 1 d.mate.st
    ++ be 6 (now d / 1000 * 1000)
    ++ ((List.range 10).flatMap fun k => be 4 (railStat d k).toNat) ++ ((List.range 5).flatMap fun r => be 4 (regionLive d r).toNat)
    ++ regBytes .pwrThermStat ++ be 2 d.evt.log.length
  let pts := List.range 16384
  fit 4096 head ++ fit 24576 (d.evt.log.reverse.flatMap evtBytes)
    ++ (pts.flatMap fun i => be 2 (partialSecond d i).1)
    ++ ((List.range 2048).flatMap fun k => be 1 (total ((List.range 8).map fun j =>
        if (partialSecond d (8 * k + j)).2 then 2 ^ (7 - j) else 0)))
    ++ pts.flatMap (gaspBin d)

/-- LAST_GASP_READ: OFFSET and LEN; D2 wakes for the access (R60). -/
def gaspRead (p : Bytes) (d : Dev) : Ans × Dev :=
  if 236 < u16 p 4 then (badParam 4, d)
  else
    let d := wakeNvm d
    if !domReady d 2 then (nvmBlocked d, d)
    else match d.nvm.gasp with
      | some g =>
        let n := min (u16 p 4) (260096 - u32 p 0)
        (if g.state = 1 then success (be 2 n ++ be 2 0 ++ slice g.bytes (u32 p 0) n) else success (be 2 0 ++ be 2 0), d)
      | none => (success (be 2 0 ++ be 2 0), d)

/-- The record is marked superseded (R87, R548). -/
def supersede (d : Dev) : Dev := modNvm (fun m => { m with gasp := m.gasp.map fun g => { g with state := 2 } }) d

/-- LAST_GASP_ACK. -/
def gaspAck (d : Dev) : Ans × Dev :=
  if !gaspValid d then (success, d)
  else
    let d := wakeNvm d
    if nvmWritable d then (success, supersede d) else (nvmBlocked d, d)

/-! ### JTAG (R561, R562) -/

/-- A new random NONCE is drawn. -/
def newNonce (d : Dev) : Dev :=
  let r := drawFree d
  setReg .nvmJtagNonce (r.1.setWidth 32) r.2

/-- JTAG_STATE. -/
def evtJtag (on scope : Nat) (d : Dev) : Dev := evtNvm 0x0C08 0 (be 1 on ++ be 1 scope) d

/-- JTAG locks: D23 sleeps with its last use (R561). -/
def jtagLock (d : Dev) : Dev :=
  if d.nvm.jtagLeft.isNone then d
  else
    let d := gate d.nvm.jtagDebug
      (modDom 23 fun x => { x with leaving := (x.st == .ready || x.st == .ramping) && !rb d .pwrHostHold 23 }) d
    evtJtag 0 0 (setRb .glbStat 3 false (modNvm (fun m => { m with jtagLeft := none, jtagDebug := false, jtagBscan := false }) d))

/-- The token holds (R562). -/
def tokenOk (d : Dev) (t : Bytes) : Bool :=
  let key := u8 t 24
  let pub := slice t 32 97
  slice t 0 4 == [0x5A, 0x4B, 0x4A, 0x55] && u8 t 4 == 1 && u64 t 8 == Config.serial.toNat
    && u32 t 16 == (reg d .nvmJtagNonce).toNat
    && (match Config.customerKeyHash with
      | some h => key == 1 && decide (Config.sha384 pub = h)
      | none => key == 0 && decide (Config.sha384 pub = Config.vendorKeyHash))
    && Config.ecdsaValid pub (slice t 0 136) (slice t 136 96)

/-- JTAG_UNLOCK. -/
def jtagUnlock (t : Bytes) (d : Dev) : Ans × Dev :=
  if !tokenOk d t then (status sVerifyFailed, newNonce d)
  else
    let dur := u32 t 20
    let debug := wbit t 5 1
    let d := modNvm (fun m => { m with jtagLeft := some (if dur = 0 then 0 else now d + dur * 1000), jtagDebug := debug, jtagBscan := wbit t 5 0 }) d
    let d := gate debug (requestWake 3 23) (setRb .glbStat 3 true d)
    (success, newNonce (evtJtag 1 (u8 t 5 / 64 * 64) d))

/-- JTAG_EXPIRY: DURATION_S has ended. -/
def jtagExpiry (d : Dev) : Dev := match d.nvm.jtagLeft with
  | some e => if e ≠ 0 ∧ e ≤ now d then jtagLock d else d
  | none => d

end Sys2Proof.Machine
end

