-- ==== Sys2Proof/Machine/Power.lean ====
section
/-! DEFINITION. Domains in operation: reset, fault, sleep and readiness of a domain, rails, temperature and regions, and the
power-fail warning (R61 to R87, R110). -/

namespace Sys2Proof.Machine

/-! ### The FATAL safe state (R110) -/

/-- FATAL: provisioning freezes, ACT_N is released, GLB_STAT.FATAL is set and interrupt 10 is raised; line and client
transmitters show it through GLB_STAT.FATAL. Of MATE_ROLE the manual gives no cause for it: a free value (log entry 15). -/
def enterFatal (d : Dev) : Dev :=
  if isFatal d then d
  else
    let d := raiseInt 10 (updFrozen (setRb .glbStat 0 true d))
    let d := each [0, 1, 2, 3] (fun p => rszStop p 13) d
    gate d.mate.active (fun d => setRole false (peekFree d 256) (stepFree d)) d

/-- PWR_CYCLE_REQ_N is held low until VDD_AON falls; the device waits in the FATAL safe state (R52, R106). -/
def askPowerCycle (d : Dev) : Dev := enterFatal { d with pin := { d.pin with pwrCycleReq := true } }

/-! ### What a reset of a domain clears (R58, R78, R100) -/

/-- Every register of domain n returns to its reset value. -/
def dropRegs (n : Nat) (d : Dev) : Dev := { d with regs := d.regs.filter fun e => regDomain e.1 != n }

/-- The containers of line slice p. -/
def lineConts (d : Dev) (p : Nat) : List Nat := ((contsNow d).map (·.1)).filter fun c => lineOf c == p

/-- The delineator of a container restarts in HUNT. -/
def resetDelin (c : Nat) (d : Dev) : Dev := setDelin c {} d

/-- Event staging, counters, the PM store and the endpoint are lost (R174, R385, R396, R533). -/
def clearHost (d : Dev) : Dev :=
  let d := { d with
    evt := { d.evt with
      staged := [], lost := d.evt.lost || !d.evt.staged.isEmpty, due := false, holdoff := false }
    host := { d.host with pf0 := {}, pf1 := {}, training := false, busMaster := false, d3hot := false }
    pctr := {} }
  modPm (fun m => { layers := m.layers, pts := tmap m.pts fun _ p => { decl := p.decl } }) d

/-- The line block of port p restarts from the tables in service: an unswitched resize is lost (R207, R374). -/
def clearLine (p : Nat) (d : Dev) : Dev :=
  let d := modLn p (fun l =>
    let z := l.rsz
    let m := lrMap (lineRec d p)
    { cal := l.cal, txMfas := l.txMfas, tx := l.tx, rxMf := l.rxMf, txMf := l.txMf
      rsz := { txMap := m, rxMap := m, doneAt := z.doneAt, fresh := z.fresh } }) d
  dropLayers (6 + p) (each (lineConts d p) resetDelin d)

/-- The client block and mapper of slice n restart; the frame counters run on in XC (R271, R272). -/
def clearClient (n : Nat) (d : Dev) : Dev :=
  let d := { d with
    cli := tmap d.cli fun i c => if i / 16 = n then { reported := c.reported } else c
    cont := d.cont.map fun e =>
      if contSlice d e.1 = n then
        (e.1, { e.2 with jc := [], just := none, csf := false })
      else e }
  dropLayers (10 + n) d

/-- The packet engine and the queues of slice n start anew: every flow in FULL, no receiver entry, generations 0 (R295, R311,
R349). -/
def clearPacket (n : Nat) (d : Dev) : Dev :=
  { d with pkt := { d.pkt with
      slice := tdel d.pkt.slice n
      cont := d.pkt.cont.map fun e =>
        if contSlice d e.1 = n then (e.1, { zpcOk := e.2.zpcOk, rxPt := e.2.rxPt }) else e } }

/-- The slices whose wake unit holds MEM group g. -/
def unitSlices (d : Dev) (g : Nat) : List Nat := [0, 1, 2, 3].filter fun n => (sliceUnit d n).contains g

/-- The aligned merges whose buffers lie in the wake unit of MEM group g. -/
def unitMerges (d : Dev) (g : Nat) : List Nat :=
  (objs d.prov.serv 8).filter fun m => mgMode (mgRec d m) == 1 && (unitSlices d g).contains (mgSlice d.prov.serv (mgRec d m))

/-- A MEM group loses its contents (R73, R78, R431). -/
def clearMem (g : Nat) (d : Dev) : Dev :=
  let d := each (unitSlices d g) (dropSpilled false) d
  let d := each (unitMerges d g) emptyMerge d
  let d := { d with pkt := { d.pkt with memc := { d.pkt.memc with phy := tdel d.pkt.memc.phy g } } }
  modDom (18 + g) (fun x => { x with untrained := true, scrub := false }) d

/-- Everything that a reset of domain n clears. D3 keeps the records of timing; `startTiming` restarts the rest. -/
def clearDom (n : Nat) (d : Dev) : Dev :=
  if n = 5 then dropRegs n (mateLinkDown (modMate (fun m => { m with txSeq := [], kept := [], txq := [], wire := [] }) d)) else
  let d := dropRegs n d
  if n = 4 then clearHost d
  else if 6 ≤ n ∧ n < 10 then clearLine (n - 6) d
  else if 10 ≤ n ∧ n < 14 then clearClient (n - 10) d
  else if 14 ≤ n ∧ n < 18 then dropLayers n (clearPacket (n - 14) d)
  else if 18 ≤ n ∧ n < 22 then clearMem (n - 18) d
  else d

/-! ### The uses of a domain (R61) -/

/-- Domain n is used by tables (R61): client blocks by client ports and containers, packet engines by packet containers and
PACKET ports, line blocks by their record and their containers, XC by any container. -/
def tableUses (t : Tbl Bytes) (n : Nat) : Bool :=
  if 6 ≤ n ∧ n < 10 then (tfind t (okey 0x0A (n - 6))).isSome || (conts t).any fun e => lineOf e.1 == n - 6
  else if 10 ≤ n ∧ n < 14 then
    (objs t 1).any (fun i => i / 16 == n - 10) || (conts t).any fun e => ctClientSlice e.2 == n - 10
  else if 14 ≤ n ∧ n < 18 then
    (List.range 16).any (packetPort t (n - 14)) || (conts t).any fun e => ctClientSlice e.2 == n - 14 && isPkt e.2
  else if n = 22 then !(conts t).isEmpty
  else false

/-- The domains that tables need, with what those require. -/
def tableNeeds (t : Tbl Bytes) : List Nat :=
  let base := (List.range 24).filter (tableUses t)
  let more := base.flatMap requires
  (List.range 24).filter fun n => base.contains n || more.contains n || (more.flatMap requires).contains n

/-- Domain n is used: by the tables in service or of an accepted commit, by the host, by JTAG, by the pair, or always. -/
def domUsed (d : Dev) (n : Nat) : Bool :=
  n == 0 || n == 1 || n == 4
    || (tableNeeds d.prov.serv).contains n || d.prov.pend.any (fun e => (tableNeeds e.tables).contains n)
    || rb d .pwrHostHold n || (n == 23 && d.nvm.jtagDebug) || (n == 5 && d.mate.st != 0)
    || (List.range 24).any fun m => (requires m).contains n && domAwake d m

/-- The queues of a slice's packet engine are empty. -/
def queuesEmpty (d : Dev) (n : Nat) : Bool := (sliceQueues d n).all fun q => q.unread.isEmpty && q.held.isEmpty

/-- Domains that nothing uses any more go to sleep at the next boundary (R61). -/
def markLeaving (d : Dev) : Dev :=
  each (List.range 24) (fun n d =>
    let idle := decide (n = 3 ∨ (5 ≤ n ∧ n < 18) ∨ n = 22 ∨ n = 23) && !domUsed d n && (domReady d n || (dom d n).st == .ramping)
    modDom n (fun x => { x with leaving := x.leaving || idle }) d) d

/-! ### Faults (R78 to R80) -/

/-- A last-gasp write ends without its marker: no valid record, an earlier one neither (R86, R558). -/
def gaspLost (d : Dev) : Dev :=
  modNvm (fun m => { m with gaspNext := none, gasp := if d.pwr.gaspBusy then none else m.gasp })
    { d with pwr := { d.pwr with gaspBusy := false } }

/-- The rail index of R50 that feeds a domain. -/
def railOf (n : Nat) : Nat := (railSlice n).getD 4

/-- The domains on rail k (R58). VDDA_SDS and VDDH_SDS feed the domains with SerDes: D4, D5, D6 + n and D10 + n (DEDUCED from the
rail budget of chapter 19, log entry 26). -/
def railDoms (k : Nat) : List Nat :=
  if k < 4 then [6 + k, 10 + k, 14 + k]
  else if k = 4 then [1, 2, 3, 4, 5, 18, 19, 20, 21, 22, 23]
  else if k < 7 then [4, 5, 6, 7, 8, 9, 10, 11, 12, 13]
  else [18, 19, 20, 21]

/-- A STORE in progress lands entirely old, and ends with a status (R78, R86, R101). -/
def spoilStore (st : Nat) (d : Dev) : Dev := { d with nvm := { d.nvm with store := d.nvm.store.map fun r => { r with fail := st } } }

/-- An awake domain faults: it is isolated and reset, FAULT and FAULT_CNT show it, and a record and an event are raised. Three
faults within 60 s hold it faulted (R78, R80). During a warm reset the boot wakes it anew, and not R80 (R101). -/
def faultDomain (n cause : Nat) (d : Dev) : Dev :=
  if n = 0 ∨ 24 ≤ n ∨ !domAwake d n then d
  else
    let d := clearDom n d
    let recent := (now d :: ((dom d n).faults.filter fun e => now d < e + 60000)).take 3
    let held := (dom d n).latched || decide (3 ≤ recent.length)
    let d := modDom n (fun x => { x with
      st := .faulted, waitRail := false, leaving := false, heldWake := 0, faults := recent, latched := held, cause := cause
      railOk := d.boot.warm }) d
    let d := setRb (.pwrDomStat n) 4 true (satCtr (.pwrDomStat n) 15 8 1 d)
    let d := raiseErr (if n = 3 ∨ n = 22 then 4 else 3) 0x0005 0 0x0010 n cause d
    let d := evtPwr 0x0104 n (be 1 cause ++ be 1 (rf d (.pwrDomStat n) 15 8) ++ be 1 held.toNat) d
    let d := raiseInt 11 d
    let d := gate (n == 1) (fun d => { d with boot := { d.boot with thino := false, rom := false }, nvm := { d.nvm with store := none } }) d
    let d := gate (n == 2) (fun d => gaspLost (spoilStore 0x15 d)) d
    let d := gate (n == 3 || n == 22) enterFatal d
    let d := gate (d.boot.warm && (n == 1 || n == 2 || n == 4)) (requestWake 3 n) d
    reevaluate (markLeaving d)

/-- A rail is switched off by an overvoltage (R79). -/
def overvoltageOff (k : Nat) (d : Dev) : Dev :=
  let d := evtPwr 0x0109 k (be 1 3) (setRail k false { d with pwr := { d.pwr with ovOff := nputBit d.pwr.ovOff k true } })
  if k = 4 then askPowerCycle (each [1, 2, 4, 5, 22, 23] (fun n => faultDomain n 2) (faultDomain 3 2 d)) else d

/-- DOMAIN_FAULT: an excursion of more than 2 µs on the switched supply of a domain: cause 1 undervoltage, 2 overvoltage. -/
def domainFault (n cause : Nat) (d : Dev) : Dev :=
  if !domAwake d n ∨ n = 0 ∨ 24 ≤ n then d
  else
    let k := railOf n
    let d := gate (cause == 1) (setRb (.pwrRailStat k) 8 true) d
    let d := gate (cause == 2) (setRb (.pwrRailStat k) 9 true) d
    let d := faultDomain n cause d
    gate (cause == 2) (overvoltageOff k) d

/-- RAIL_EXCURSION_SHORT (R78). -/
def railExcursion (k : Nat) (d : Dev) : Dev := if k ≤ 9 then satCtr (.pwrRailStat k) 7 0 1 d else d

/-- VDD_IO18_EXCURSION: an excursion of VDD_IO18 (rail 8) or VDD_AON (rail 9) of more than 2 µs (R78). -/
def aonExcursion (k : Nat) (over_ : Bool) (d : Dev) : Dev :=
  if k = 8 ∨ k = 9 then setRb (.pwrRailStat k) (if over_ then 9 else 8) true d else d

/-- XO_IN_LOSS (R478). -/
def xoLoss (d : Dev) : Dev := faultDomain 3 5 d

/-- DOMAIN_FAULT_CLEAR: W1C of PWR_DOM_STATd.FAULT; re-wake is armed again (R80, R145). -/
def clearFault (n : Nat) (d : Dev) : Dev :=
  setRb (.pwrDomStat n) 4 false (modDom n (fun x => { x with latched := false, faults := if x.latched then [] else x.faults }) d)

/-- The rails of a domain are on and good (R50, R76). -/
def railGood (d : Dev) (n : Nat) : Bool :=
  (List.range 8).all fun k => !(railDoms k).contains n || (railOn d k && d.pin.pseqPg.getLsbD k)

/-- FAULT_REWAKE: the rail has been good for 10 ms; a MEM group waits until its wake unit is needed (R80). A domain that faulted
during a warm reset is woken by the boot instead (R101). -/
def faultRewake (n : Nat) (d : Dev) : Dev :=
  let x := dom d n
  if x.st ≠ .faulted ∨ x.latched ∨ x.barred ∨ railGood d n = false ∨ d.boot.warm then d
  else
    let d := modDom n (fun x => { x with railOk := true }) d
    if 18 ≤ n ∧ n < 22 then
      if !(unitMerges d (n - 18)).isEmpty then requestWake 2 n d
      else if x.heldWake ≠ 0 then requestWake x.heldWake n d
      else d
    else requestWake 2 n d

/-- MEMC_RETRAIN_DONE: the traffic returns, or the group faults (R342). -/
def retrainDone (g : Nat) (ok : Bool) (d : Dev) : Dev :=
  if rf d (.memcGstat g) 2 0 ≠ 4 then d
  else if ok then each (unitSlices d g) drainReserve (setRf (.memcGstat g) 2 0 2 d)
  else
    let iface := 4 * g + ((List.range 4).find? fun i => rb d (.memcGstat g) (24 + i)).getD 0
    let n := rf d (.memcGstat g) 23 16
    faultDomain (18 + g) (1 + peekFree d 6) (stepFree (raiseErr 3 0x000C (g + 1) 0x0032 iface n d))

/-! ### Ready (R58, R71 to R73, R295, R297, R498) -/

/-- A re-woken packet engine withdraws on each of its ZPC containers before it announces anything, asks anew, and takes up the
fixed templates of its flows (R293, R295, R297). -/
def startPacket (n : Nat) (d : Dev) : Dev :=
  let d := each ((clientConts d n).filter fun c => isZpc (ctRec d c)) (fun c d => resyncAll c (withdrawAll c d)) d
  ((flows d.prov.serv).filter fun e => ctxSlice e.1 == n).foldl (fun d e => flowStart e.1 d) d

/-- A MEM group is ready: MEMC shows it, and reserve contents move to GDDR6 once the whole unit is (R72, R347). -/
def startMem (g : Nat) (d : Dev) : Dev :=
  let d := setRf (.memcGstat g) 7 4 0xF (setRf (.memcGstat g) 2 0 2 d)
  let d := setRf .memcStat 31 24 (memRate d) d
  let d := { d with pkt := { d.pkt with memc := { d.pkt.memc with phy := tset d.pkt.memc.phy g (tget 0 d.pkt.memc.trims g) } } }
  each (unitSlices d g) (fun n d => gate (unitReady d n) (drainReserve n) d) d

/-- GLB_BOOT_STAT.STAGE and CAUSE. -/
def setStage (v : Nat) (d : Dev) : Dev := if rf d .glbBootStat 3 0 = v then d else raiseInt 15 (setRf .glbBootStat 3 0 v d)
def setBootCause (v : Nat) (d : Dev) : Dev := setRf .glbBootStat 7 4 v d

/-- Freeze of the host-assisted instances at a control-processor restart (R34): those assisted in the tables in service, or with
a decision of theirs outstanding. -/
def freezeAssisted (d : Dev) : Dev :=
  let fns := (objs d.prov.serv 0x0B).filter fun k => u8 (servRec d 0x0B k) 1 == 1
  let ports := ([0, 1, 2, 3].map (akey 5)).filter fun k => (serv d 0x0B k).isNone
  let out := d.asst.newest.filterMap fun e => if e.2.opened then some e.1 else none
  let all := (d.asst.frozen ++ fns ++ ports ++ out).eraseDups
  each all showFrozen { d with asst := { d.asst with frozen := all } }

/-- Records that Thino had taken wait in the queue again (R108). -/
def requeueErrs (d : Dev) : Dev := { d with err := { d.err with queue := d.err.queue.map fun e => { e with st := 0 } } }

/-- The ROM starts on D1: in recovery mode it goes on serving channel 0, which only a reset ends (R97). -/
def romRuns (d : Dev) : Dev :=
  let d := { d with boot := { d.boot with rom := true } }
  if rb d .glbStat 2 then d else setStage 1 d

/-- A control-processor restart begins (R103): D1 restarts, the ROM serves channel 0, assisted instances freeze, and a STORE in
progress has not taken place (R101). The cause is a bit of GLB_RST_CAUSE. Where Thino has not run since the last reset, in a boot
or in recovery mode, there is only the ROM to restart. -/
def cpuRestart (cause : Nat) (d : Dev) : Dev :=
  let d := setRb .glbRstCause cause true d
  if !d.boot.exposed then romRuns d
  else
    let d := requeueErrs (freezeAssisted d)
    { d with
      boot := { d.boot with thino := false, rom := true, cpuRestart := some cause }
      nvm := { d.nvm with store := none } }

/-- DOMAIN_READY (R58): an admitted domain whose rail is good reports READY. A MEM group that lost its contents is trained first
(R339). -/
def domainReady (n : Nat) (d : Dev) : Dev :=
  let x := dom d n
  if x.st ≠ .ramping ∨ x.waitRail ∨ (decide (18 ≤ n ∧ n < 22) && x.untrained) then d
  else
    let d := modDom n (fun x => { x with st := .ready, rank := 3 }) d
    if n = 1 then
      let d := modDom 1 (fun x => { x with cause := 0 }) d
      if x.cause ≠ 0 ∧ !d.boot.warm then cpuRestart 8 d else d
    else if n = 2 then clearGasp d
    else if n = 3 then startTiming d
    else if n = 5 then showMate d
    else if 6 ≤ n ∧ n < 10 then showRz (n - 6) d
    else if 14 ≤ n ∧ n < 18 then startPacket (n - 14) d
    else if 18 ≤ n ∧ n < 22 then startMem (n - 18) d
    else d

/-! ### Sleep (R60 to R62, R70, R73, R76) -/

/-- DOMAIN_SLEEP: the first epoch boundary after the last use, with the queues empty: isolation begins (R61). -/
def domainSleep (n : Nat) (d : Dev) : Dev :=
  let x := dom d n
  let quiet := !decide (14 ≤ n ∧ n < 18) || queuesEmpty d (n - 14)
  if x.st = .ready ∧ x.leaving ∧ !domUsed d n ∧ quiet then
    modDom n (fun x => { x with st := .isolating, leaving := false }) d
  else d

/-- POWER_SWITCHED_OFF: isolation ends; the estimate leaves the sum, and a held wake is handled (R62). A domain that only this one
still required sleeps next (R61). -/
def switchedOff (n : Nat) (d : Dev) : Dev :=
  let x := dom d n
  if x.st ≠ .isolating then d
  else
    let d := modDom n (fun x => { x with st := .off, heldWake := 0 }) (clearDom n d)
    let d := gate (x.heldWake != 0) (requestOne x.heldWake n) d
    reevaluate (markLeaving (heldNext d))

/-- D2_IDLE_SLEEP: 10 ms after the last MRAM access (R60). -/
def nvmIdle (d : Dev) : Dev :=
  if domReady d 2 && !rb d .pwrHostHold 2 && d.nvm.store.isNone && !d.pwr.gaspBusy then
    modDom 2 (fun x => { x with st := .isolating }) d
  else d

/-- SLICE_RAIL_OFF: the three domains of slice n have been off for 100 ms (R76). -/
def sliceRailOff (n : Nat) (d : Dev) : Dev :=
  let off := [6 + n, 10 + n, 14 + n].all fun k => (dom d k).st == .off || (dom d k).st == .deferred
  if n < 4 ∧ off ∧ rf d .pwrRailoff 3 0 / 2 ^ n % 2 = 1 ∧ railOn d n then setRail n false d else d

/-- The wake unit of MEM group g holds an active aligned merge (R70). -/
def unitMerging (d : Dev) (g : Nat) : Bool := (unitMerges d g).any fun m => (mg d m).st != 0

/-- MEM_IDLE_SELF_REFRESH: the wake unit of group g has been idle for PWR_MEM_IDLE (R70). -/
def memIdle (g : Nat) (d : Dev) : Dev :=
  let set_ := (unitOf d g).filter fun k => domReady d (18 + k)
  let barred := set_.any fun k => (dom d (18 + k)).scrub || rb d .pwrHostHold (18 + k) || rf d (.memcGstat k) 2 0 != 2
  if set_.isEmpty ∨ barred ∨ rf d .pwrMemIdle 13 0 = 0 ∨ unitMerging d g then d
  else
    let d := each set_ (fun k d => modDom (18 + k) (fun x => { x with st := .selfRefresh, leaving := false }) (dropRegs (18 + k) d)) d
    reevaluate (markLeaving d)

/-- MEM_SCRUB_WAKE: 24 h in self-refresh (R73). -/
def memScrubWake (g : Nat) (d : Dev) : Dev :=
  let set_ := (unitOf d g).filter fun k => (dom d (18 + k)).st == .selfRefresh
  if set_.isEmpty then d
  else requestWake 3 (18 + g) (each set_ (fun k => modDom (18 + k) fun x => { x with scrub := true }) d)

/-- The scrub pass of a wake unit ends: its idle time counts again (R73). -/
def scrubEnds (g : Nat) (d : Dev) : Dev := each (unitOf d g) (fun k => modDom (18 + k) fun x => { x with scrub := false }) d

/-- PWR_CAP_WRITE (R67): the value below 2,000 is clamped by the caller. -/
def writeCap (v : Nat) (d : Dev) : Dev :=
  let d := setRf .pwrCap 15 0 v d
  let d := gate (decide (v < load d)) (evtPwr 0x0103 0 (be 2 v ++ be 2 (load d))) d
  reevaluate d

/-- PWR_HOST_HOLD: the implemented bits (R144). -/
def holdMask : Nat := bitmap 24 fun n => n == 2 || n == 3 || n == 5 || decide (18 ≤ n)

def hostHold (v : Nat) (d : Dev) : Dev :=
  let set_ := (List.range 24).filter fun n => (Nat.land v holdMask).testBit n
  each set_ (fun n d => requestWake 3 n (setRb .pwrHostHold n true d)) d

/-- PWR_HOST_DROP: the hold ends; the domain sleeps when nothing else uses it. -/
def hostDrop (v : Nat) (d : Dev) : Dev :=
  let set_ := (List.range 24).filter fun n => (Nat.land v holdMask).testBit n
  markLeaving (each set_ (fun n => setRb .pwrHostHold n false) d)

/-! ### Rails (R74 to R76, R79) -/

/-- PWR_RAIL_CLR bit k: a slice rail switched off by an overvoltage comes on again (R79). -/
def railClr (k : Nat) (d : Dev) : Dev :=
  if k < 4 ∧ d.pwr.ovOff.testBit k then setRail k true { d with pwr := { d.pwr with ovOff := nputBit d.pwr.ovOff k false } } else d

/-- PSEQ_PGk is high now. -/
def pgHigh (k : Nat) (d : Dev) : Dev := { d with pin := { d.pin with pseqPg := d.pin.pseqPg ||| BitVec.twoPow 8 k } }

/-- PSEQ_PG_RISE: a slice rail that domains wait for lets their ramps start (R76). -/
def railUp (k : Nat) (d : Dev) : Dev :=
  if 8 ≤ k then d
  else
    let d := pgHigh k d
    if k < 4 then each (railDoms k) (fun n => modDom n fun x => { x with waitRail := false }) d else d

/-- PSEQ_PGk is low now. -/
def pgLow (k : Nat) (d : Dev) : Dev := { d with pin := { d.pin with pseqPg := d.pin.pseqPg &&& ~~~ BitVec.twoPow 8 k } }

/-- PSEQ_PG_FALL: with the enable high every domain on the rail faults (R76). -/
def railDown (k : Nat) (d : Dev) : Dev :=
  if 8 ≤ k then d
  else
    let d := pgLow k d
    if railOn d k then each (railDoms k) (fun n => faultDomain n 3) (evtPwr 0x0109 k (be 1 2) d) else d

/-- RAIL_PG_TIMEOUT: on a common rail the start fails (R90); on a slice rail the waiting domains fault (R76). -/
def railTimeout (k : Nat) (d : Dev) : Dev :=
  if 8 ≤ k ∨ !railOn d k ∨ d.pin.pseqPg.getLsbD k then d
  else
    let d := evtPwr 0x0109 k (be 1 1) d
    if k < 4 then each (railDoms k) (fun n d => gate (dom d n).waitRail (faultDomain n 4) d) d
    else
      let d := { d with
        pin := { d.pin with pseqEn := 0 }
        pwr := { d.pwr with doms := [(0, { st := .ready })] }
        boot := { d.boot with rom := false, thino := false } }
      let d := gate d.pwr.gaspBusy gaspLost d
      askPowerCycle (setBootCause 5 (setStage 0xF d))

/-- PMB_ALERT: the regulator of rail k is read (R75): address, STATUS_BYTE, STATUS_WORD. -/
def pmbAlert (k addr sb sw : Nat) (d : Dev) : Dev := evtPwr 0x0108 k (be 1 addr ++ be 1 sb ++ be 2 sw) d

/-- PMBUS_POLL: rail, mV, current in 0.1 A, temperature in °C (R75, R145). -/
def pmbusPoll (l : List (Nat × Nat × Nat × Int)) (d : Dev) : Dev :=
  l.foldl (fun d e =>
    if 10 ≤ e.1 then d
    else
      let io := if e.1 < 8 then e.2.2.1 else 0
      setRf (.pwrRailStat e.1) 23 16 (twos 8 e.2.2.2) (setReg (.pwrRailMeas e.1) (BitVec.ofNat 32 (io % 65536 * 65536 + e.2.1 % 65536)) d)) d

/-- The temperature of a region in °C. -/
def regionTemp (d : Dev) (r : Nat) : Int := s8 (rf d (.pwrRegion r) 23 16)

/-- AVS_STEP of rail k, 0 to 4: one step of 5 mV toward the target, within 0.700 V to 0.800 V (R74; target: log entry 8). -/
def avsStep (k : Nat) (d : Dev) : Dev :=
  if 4 < k ∨ !d.pin.pseqPg.getLsbD k then d
  else
    let goal := 700 + 5 * min 20 (Config.avsTarget k (regionTemp d k))
    let cur := tget 700 d.pwr.avs k
    let next := if cur < goal then cur + 5 else if goal < cur then cur - 5 else cur
    { d with pwr := { d.pwr with avs := tset d.pwr.avs k next } }

/-! ### Temperature (R83) and regions (R82) -/

/-- Isolate the domains of slice region n under R82 or R83: they stay faulted until the region rejoins. -/
def isolateSlice (n : Nat) (d : Dev) : Dev :=
  let d := each (railDoms n) (fun k => faultDomain k 6) d
  each (railDoms n) (fun k => modDom k fun x => { x with barred := true }) (setRb (.pwrRegion n) 24 true d)

/-- The region rejoins: its faulted domains are re-woken under R80. -/
def rejoinSlice (n : Nat) (d : Dev) : Dev :=
  let d := each (railDoms n) (fun k => modDom k fun x => { x with barred := false }) (setRb (.pwrRegion n) 24 false d)
  each (railDoms n) faultRewake d

/-- PWR_THERM_STAT: LIVE of WARN, CRIT_SL and CRIT_CMN. -/
def showTherm (d : Dev) : Dev :=
  setRf .pwrThermStat 21 16
    ((d.pwr.warnUp != 0).toNat + 2 * (d.pwr.critUp % 16) + 32 * (d.pwr.critUp / 16 % 2)) d

def thermEvent (r kind : Nat) (t : Int) (d : Dev) : Dev := raiseInt 11 (evtPwr 0x0105 r (be 1 kind ++ be 1 (twos 8 t)) d)

def thermWarn (r : Nat) (t : Int) (d : Dev) : Dev :=
  if d.pwr.warnUp.testBit r || decide (t < (rf d .pwrThermCtl 15 8 : Nat)) then d
  else
    let d := { d with pwr := { d.pwr with warnUp := nputBit d.pwr.warnUp r true } }
    showTherm (thermEvent r 1 t (setRb .pwrThermStat 0 true d))

def thermCrit (r : Nat) (t : Int) (d : Dev) : Dev :=
  if d.pwr.critUp.testBit r || decide (t < 110) then d
  else
    let d := { d with pwr := { d.pwr with critUp := nputBit d.pwr.critUp r true } }
    let d := showTherm (setRb .pwrThermStat (1 + r) true d)
    let d := thermEvent r 2 t (raiseErr 3 0x0005 0 0x0012 r (twos 16 t) d)
    if r < 4 ∧ rb d .pwrThermCtl 0 then
      isolateSlice r { d with pwr := { d.pwr with thermIso := nputBit d.pwr.thermIso r true } }
    else d

/-- THERMAL_READING of a region in °C (R83). -/
def thermalReading (r : Nat) (t : Int) (d : Dev) : Dev :=
  if 4 < r then d
  else
    let d := setRf (.pwrRegion r) 23 16 (twos 8 t) d
    let d := thermCrit r t (thermWarn r t d)
    if 125 ≤ t then askPowerCycle { d with pin := { d.pin with pseqEn := 0 } } else d

/-- THERM_REARM: the region has read at least 2 °C below a threshold for 1 s. -/
def thermRearm (r : Nat) (d : Dev) : Dev :=
  let t := regionTemp d r
  let d := if t + 2 ≤ (rf d .pwrThermCtl 15 8 : Nat) then { d with pwr := { d.pwr with warnUp := nputBit d.pwr.warnUp r false } } else d
  let d := if t + 2 ≤ 110 then { d with pwr := { d.pwr with critUp := nputBit d.pwr.critUp r false } } else d
  if 4 < r then d else showTherm d

/-- SLICE_THERMAL_REJOIN: at or below 100 °C for 10 s. -/
def thermRejoin (n : Nat) (d : Dev) : Dev :=
  if n < 4 ∧ d.pwr.thermIso.testBit n ∧ regionTemp d n ≤ 100 then
    let d := { d with pwr := { d.pwr with thermIso := nputBit d.pwr.thermIso n false } }
    let d := evtPwr 0x0105 n (be 1 3 ++ be 1 (twos 8 (regionTemp d n))) d
    if d.pwr.skewIso.testBit n then d else rejoinSlice n d
  else d

/-- The awake regions: slice regions with an awake domain, and the common region. -/
def awakeRegions (d : Dev) : List Nat :=
  (List.range 4).filter (fun n => (railDoms n).any (domReady d)) ++ [4]

/-- The median of a sorted list of values; of an even number the lower of the middle two (log entry 27). -/
def median (l : List Int) : Int := (sortBy (fun a b => decide (a ≤ b)) l).getD ((l.length - 1) / 2) 0

/-- The region farthest from the median; the higher-numbered slice region of two (R82). -/
def farthest (d : Dev) (v : Nat → Int) : Nat :=
  let rs := awakeRegions d
  let m := median (rs.map v)
  let dist (r : Nat) : Nat := (v r - m).natAbs
  rs.foldl (fun b r => if dist b < dist r ∨ (dist b = dist r ∧ r < 4) then r else b) 4

/-- REGION_SKEW_ALARM: kind 1 voltage in mV, 2 temperature in 0.1 °C; the value of each region 0 to 4 (R82). -/
def regionSkew (kind : Nat) (vals : List Int) (d : Dev) : Dev :=
  let v (r : Nat) : Int := vals.getD r 0
  let limit := if kind = 1 then 100 else 250
  let rs := awakeRegions d
  let over_ := rs.any fun a => rs.any fun b => decide (limit < (v a - v b).natAbs)
  if !over_ then d
  else
    let s := farthest d v
    let gone := if s < 4 then [s] else rs.filter fun r => decide (r < 4) && decide (limit < (v r - v 4).natAbs)
    let dist := (rs.map fun r => (v s - v r).natAbs).foldl max 0
    let d := setRf .pwrThermStat 10 8 s (setRb .pwrThermStat 6 true d)
    let d := raiseErr 3 0x0005 0 0x0011 s kind d
    let d := evtPwr 0x010A s (be 1 kind ++ [0] ++ be 2 dist) d
    each gone (fun n d => isolateSlice n { d with pwr := { d.pwr with skewIso := nputBit d.pwr.skewIso n true } }) d

/-- REGION_REJOIN: the condition has been clear for 1 s (R82). -/
def regionRejoin (n : Nat) (d : Dev) : Dev :=
  if n < 4 ∧ d.pwr.skewIso.testBit n then
    let d := { d with pwr := { d.pwr with skewIso := nputBit d.pwr.skewIso n false } }
    if d.pwr.thermIso.testBit n then d else rejoinSlice n d
  else d

/-! ### Power-fail warning (R84 to R87) -/

/-- COMMIT_CANCELLED: COMMIT_ID, epoch, cause (R176). -/
def commitCancelled (e : Pend) (cause : Nat) (d : Dev) : Dev :=
  evtGlb 0x0007 e.id (be 6 e.epoch ++ be 1 cause) d

/-- PFW_N_FALL: the freeze, D2 awake exempt from PWR_CAP, the snapshot, and a switch-over on an IN_STEP active (R84, R86). The new
write first clears the marker of an earlier record (R548). While POR_N is low no action follows (R57). `ns` is the time of
recognition within the epoch. -/
def pfwFall (ns : Nat) (d : Dev) : Dev :=
  if !d.pin.pfwN then d
  else if !d.pin.porN || d.pin.brownout then { d with pin := { d.pin with pfwN := false } }
  else
    let d := { d with pin := { d.pin with pfwN := false }, pwr := { d.pwr with liftRun := false } }
    let d := setRb .pwrPfwStat 1 true d
    if isPfwFrozen d then raiseInt 11 d
    else
      let d := updFrozen (setRb .pwrPfwStat 2 true (setRb .pwrPfwStat 3 false d))
      let cancel := !d.prov.pend.isEmpty
      let d := d.prov.pend.foldl (fun d e => commitCancelled e 3 d) d
      let d := gate cancel (setRb .pwrPfwStat 4 true) { d with prov := { d.prov with pend := [] } }
      let storing := d.nvm.store.isSome
      let d := spoilStore 9 d
      let hand := inStep d && d.mate.active && rb d .pwrPfwCtl 0 && !d.mate.matePfw
      let d := gate hand (startSwitch 6) d
      let d := each [0, 1, 2, 3] (fun p => rszStop p 13) d
      let d := requestWake 3 2 { d with pwr := { d.pwr with frozenAt := now d, gaspBusy := true } }
      let snap := gaspBytes d cancel hand
      let d := senseRead (modNvm (fun m => { m with gaspNext := some snap, gasp := if nvmWritable d then none else m.gasp }) d)
      markLeaving (raiseInt 11 (evtPwr 0x0106 0 (be 4 ns ++ be 1 (cancel.toNat * 128 + hand.toNat * 64 + storing.toNat * 32)) d))

/-- LAST_GASP_WRITTEN: the record stands with its commit marker where MRAM takes writes (R84). -/
def gaspWritten (d : Dev) : Dev :=
  match d.nvm.gaspNext with
  | none => d
  | some b =>
    let d := { d with pwr := { d.pwr with gaspBusy := false } }
    let d := modNvm (fun m => { m with gaspNext := none }) d
    if nvmWritable d then setRb .pwrPfwStat 3 true (modNvm (fun m => { m with gasp := some { state := 1, bytes := b } }) d) else d

/-- PFW_N_RISE (R87). -/
def pfwRise (d : Dev) : Dev :=
  { d with pin := { d.pin with pfwN := true }, pwr := { d.pwr with liftRun := isPfwFrozen d } }

/-- PFW_LIFT: PFW_N high for 10 ms, every enabled rail good: the freeze ends and the record, of a write still in progress too, is
superseded in MRAM (R87). -/
def pfwLift (d : Dev) : Dev :=
  let good := (List.range 8).all fun k => !railOn d k || d.pin.pseqPg.getLsbD k
  if !d.pin.pfwN || !isPfwFrozen d || !d.pwr.liftRun || !good then d
  else
    let d := gate d.pwr.gaspBusy gaspWritten d
    let d := updFrozen (setRb .pwrPfwStat 2 false { d with pwr := { d.pwr with liftRun := false } })
    evtPwr 0x0107 0 (be 6 d.pwr.frozenAt) (gate (gaspValid d) (nvmWrite supersede) d)

/-- VDD_AON_WRITE_GUARD: VDD_AON crosses the write guard threshold (R81). -/
def writeGuard (low : Bool) (d : Dev) : Dev := { d with pin := { d.pin with guard := low } }

end Sys2Proof.Machine
end

