-- ==== Sys2Proof/Machine/Boot.lean ====
section
/-! DEFINITION. Resets, boot and the recovery ladder: cold and warm reset, the ROM boot, Thino's start and the control-processor
restart (R89 to R106, R537 to R542, R555). -/

namespace Sys2Proof.Machine

/-! ### Objects (R162) -/

/-- The record length of an object type and index (R190, R248, R249, R276, R279, R281, R328, R329, R354, R382, R414, R423,
R163); 0 for a type outside the table. -/
def recLen (ty i : Nat) : Nat :=
  if ty = 1 ∨ ty = 2 ∨ ty = 6 ∨ ty = 7 ∨ ty = 8 then 32
  else if ty = 3 then 4
  else if ty = 4 then if 0x100000 ≤ i then 264 else 56
  else if ty = 5 then 24
  else if ty = 9 then 144
  else if ty = 0x0A then 224
  else if ty = 0x0B then 8
  else if ty = 0x0C then 64
  else 0

/-! ### What survives a reset (R100, R538) -/

/-- MRAM after a reset: nothing is in progress, JTAG is locked. -/
def nvmReset (n : NvmSt) : NvmSt :=
  { n with
    store := none, storeAt := none, gaspNext := none, jtagLeft := none, jtagDebug := false, jtagBscan := false
    lastStatus := 0, wrote := n.upd == 1 }

/-- Only the MRAM keeps its bytes. -/
def mramOnly (m : Memory) : Memory := m.filter fun c => decide (imageBase ≤ c.1)

/-- A cold reset: every domain is reset; MRAM, fuses, the levels of the inputs and the power-cycle latch remain. While it waits for
the power cycle the device stays in the FATAL safe state (R106; DEDUCED, log entry 127). -/
def coldReset (s : Sys) : Sys :=
  let d := s.dev
  let d := gate d.pwr.gaspBusy gaspLost d
  { dev := {
      fuse := d.fuse
      regs := if d.pin.pwrCycleReq then [(.glbStat, 3)] else []
      time := { free := d.time.free, stamps := d.time.stamps }
      pin := { d.pin with pseqEn := 0, porN := false }
      nvm := nvmReset d.nvm }
    mem := mramOnly s.mem }

/-- POR_N_FALL (R99). -/
def porFall (s : Sys) : Sys := coldReset s

/-- GLB_STRAP takes the strap balls; the common rails start with VDD_CMN (R53, R90, R91). -/
def startCold (straps cause : Nat) (d : Dev) : Dev :=
  let d := { d with pin := { d.pin with porN := true, pseqEn := 0x10 }, boot := { d.boot with rail := 5, waitRom := false } }
  let d := setRf .glbStrap 6 0 straps d
  setRb .glbRstCause cause true d

/-- COLD_START: POR_N rises. -/
def coldStart (straps : Nat) (s : Sys) : Sys :=
  if s.dev.pin.porN || s.dev.pin.brownout then s else onDev (startCold straps 0) (coldReset s)

/-- BROWNOUT: a full reset, held while VDD_AON is low; the power-cycle latch clears (R52, R81). -/
def brownout (s : Sys) : Sys :=
  onDev (fun d => { d with pin := { d.pin with brownout := true, guard := true } })
    (coldReset (onDev (fun d => { d with pin := { d.pin with pwrCycleReq := false } }) s))

/-- BROWNOUT_END: a cold start where POR_N is high; otherwise the start waits for its rise (R81). -/
def brownoutEnd (porHigh : Bool) (straps : Nat) (s : Sys) : Sys :=
  if !s.dev.pin.brownout then s
  else
    let s := onDev (fun d => { d with pin := { d.pin with brownout := false, guard := false } }) s
    if porHigh then onDev (startCold straps 1) s else onDev (setRb .glbRstCause 1 true) s

/-! ### Warm reset (R99 to R101) -/

/-- The reset clears these fields of a register of D0; with `hold`, a power cycle is asked for and FATAL stays (R106). -/
def warmReg (hold : Bool) (e : Reg × Word) : Option (Reg × Word) := match e.1 with
  | .glbStat => some (e.1, putBits (if hold then e.2 else putBits e.2 0 0 0) 5 2 0)
  | .glbBootStat => some (e.1, putBits e.2 7 4 0)
  | _ => some e

/-- Causes of a warm reset of rung 3 of the recovery ladder, which boots from step 3 of R94 (R105): the pin, the command and the
watchdog escalation. -/
def rungThree (cause : Option Nat) : Bool := cause == some 2 || cause == some 3 || cause == some 5

/-- Domains after a warm reset: D0 and D2 as they were, D3 and D4 where they are kept; MEM groups in self-refresh stay so. -/
def warmDoms (keepTiming keepPcie : Bool) (t : Tbl Dom) : Tbl Dom :=
  tmap t fun n x =>
    let base : Dom := { latched := x.latched, faults := x.faults }
    if n = 0 ∨ n = 2 then { x with heldWake := 0, leaving := false }
    else if n = 3 ∧ keepTiming then { x with heldWake := 0, leaving := false }
    else if n = 4 ∧ keepPcie then x
    else if n = 1 ∨ n = 4 then { base with st := .ramping }
    else if x.st = .selfRefresh then { base with st := .selfRefresh, untrained := x.untrained }
    else base

/-- A warm reset; `cause` is its bit of GLB_RST_CAUSE, none for a restart that RECOVERY_ENTER asked for. A device that waits for a
power cycle stays in the FATAL safe state (R106; DEDUCED, log entry 127). Watchdog expiries before it go on counting towards the
escalation of R103 (DESIGN CHOICE, log entry 179). -/
def warmReset (cause : Option Nat) (s : Sys) : Sys :=
  let d := s.dev
  let keepTiming := rb d .glbRstCtl 0 && (dom d 3).st == .ready
  let keepPcie := cause == some 3 && rb d .glbRstCtl 1
  let keep (r : Reg) : Bool := let n := regDomain r; n == 0 || (n == 3 && keepTiming)
  let host := if keepPcie then d.host else { d.host with pf0 := {}, pf1 := {}, training := false, busMaster := false, d3hot := false }
  let e : Dev := {
    time := d.time, fuse := d.fuse, pin := d.pin
    regs := (d.regs.filter fun e => keep e.1).filterMap (warmReg d.pin.pwrCycleReq)
    pwr := { d.pwr with doms := warmDoms keepTiming keepPcie d.pwr.doms, warmDeferred := none }
    err := d.err
    pkt := { memc := { trims := d.pkt.memc.trims } }
    evt := { seq := d.evt.seq, log := d.evt.log, lost := d.evt.lost || !d.evt.staged.isEmpty }
    mbx := { inForce := d.mbx.inForce }
    host := host
    boot := {
      wdtAt := d.boot.wdtAt, noRom := d.boot.noRom, warmHeld := !d.pin.warmRstN, waitRom := true, keptPcie := keepPcie,
      hbAt := now d, recover := d.boot.recover, warm := true, step3 := rungThree cause, rail := d.boot.rail }
    tim := if keepTiming then d.tim else {}
    nvm := nvmReset d.nvm }
  let e := match cause with
    | some k => setRb .glbRstCause k true e
    | none => e
  let e := requeueErrs (updFrozen (setStage 0 e))
  let held := (List.range 24).filter fun n => rb e .pwrHostHold n
  { dev := each held (requestWake 3) e, mem := s.mem.filter fun c => !(decide (bulkBase ≤ c.1) && decide (c.1 < bulkBase + bulkSize)) }

/-- A warm reset waits for a last-gasp write in progress (R57, R101). -/
def askWarm (cause : Option Nat) (s : Sys) : Sys :=
  if s.dev.pwr.gaspBusy then onDev (fun d => { d with pwr := { d.pwr with warmDeferred := some (cause.getD 15) } }) s
  else warmReset cause s

/-- WARM_RST_PIN. -/
def warmPin (s : Sys) : Sys :=
  if !s.dev.pin.porN then s
  else askWarm (some 2) (onDev (fun d => { d with pin := { d.pin with warmRstN := false } }) s)

/-- WARM_RST_N_RISE: the held reset ends (R56). -/
def warmRise (d : Dev) : Dev := { d with pin := { d.pin with warmRstN := true }, boot := { d.boot with warmHeld := false } }

/-- The warm reset that waited for a last-gasp write, once the write has ended (R57, R101). -/
def afterGasp (s : Sys) : Sys := match s.dev.pwr.warmDeferred with
  | some k => if s.dev.pwr.gaspBusy then s else warmReset (if k = 15 then none else some k) s
  | none => s

/-- LAST_GASP_WRITTEN. -/
def gaspDone (s : Sys) : Sys := afterGasp (onDev gaspWritten s)

/-- GLB_RST_WARM with its KEY: an IN_STEP active hands over first (R101). -/
def rstWarm (s : Sys) : Sys :=
  if inStep s.dev && s.dev.mate.active then
    onDev (fun d => modMate (fun m => { m with thenReset := some 3 }) (startSwitch 7 d)) s
  else askWarm (some 3) s

/-- The reset that waited for a switch-over, once the switch has ended (R101). -/
def afterHandover (s : Sys) : Sys :=
  match s.dev.mate.thenReset with
  | some k => if s.dev.mate.handover.isNone then askWarm (some k) (onDev (modMate fun m => { m with thenReset := none }) s) else s
  | none => s

/-- ROM_START_TIMEOUT: the third such warm reset in a row asks for a power cycle (R106). -/
def romTimeout (d : Dev) : Dev :=
  if !d.boot.waitRom || d.boot.warmHeld then d
  else
    let d := { d with boot := { d.boot with noRom := d.boot.noRom + 1, waitRom := false } }
    gate (decide (3 ≤ d.boot.noRom)) askPowerCycle d

/-! ### Rails and the ROM (R90, R94, R97) -/

/-- COMMON_RAIL_ENABLE: the next common rail, once the one before it is good. -/
def railNext (d : Dev) : Dev :=
  let k := d.boot.rail
  if 4 < k ∧ k < 8 ∧ d.pin.porN ∧ d.pin.pseqPg.getLsbD (k - 1) ∧ railOn d (k - 1) then
    let d := setRail k true { d with boot := { d.boot with rail := k + 1 } }
    gate d.boot.rom (setStage 2) d
  else d

/-- The common rails are up. -/
def railsUp (d : Dev) : Bool := [4, 5, 6, 7].all fun k => railOn d k && d.pin.pseqPg.getLsbD k

/-- PSEQ_PG_RISE during a start: with VDD_CMN good the ROM wakes D1 and D2, with every common rail good D4 (R91, R94). -/
def pgRise (k : Nat) (d : Dev) : Dev :=
  let d := railUp k d
  let starting := rf d .glbBootStat 3 0 ≤ 2
  let d := gate (k == 4 && starting) (fun d => requestWake 3 2 (requestWake 3 1 d)) d
  gate (starting && railsUp d && !domAwake d 4) (requestWake 3 4) d

/-- The ROM starts on D1 once it is ready in a boot (R96). Reached before its time ends, ROM_START breaks a row of late ones
(R106). -/
def romStart (d : Dev) : Dev :=
  if d.boot.thino || d.boot.rom || d.boot.warmHeld then d
  else romRuns { d with boot := { d.boot with waitRom := false, noRom := if d.boot.waitRom then 0 else d.boot.noRom } }

/-- DOMAIN_READY, with the start of the ROM or of the restart of R103 on D1. A domain whose resident part is refused stays
faulted (R552). -/
def domainUp (n : Nat) (d : Dev) : Dev :=
  let was := domReady d n
  let x := dom d n
  let t := domainPart n
  if x.st == .ramping && !x.waitRail && t != 0 && reloadFails d t then
    partReload t (setRb (.pwrDomStat n) 4 true (modDom n (fun y => { y with st := .faulted }) d))
  else
    let d := domainReady n d
    if n = 1 ∧ !was ∧ domReady d 1 then romStart d else d

/-- Recovery mode with its cause (R97). -/
def enterRecovery (cause : Nat) (d : Dev) : Dev :=
  setStage 0xE (setBootCause cause (setRb .glbStat 2 true { d with boot := { d.boot with recover := false, warm := false } }))

/-- The ROM burns missing anti-rollback fuse steps (R556). -/
def burnFuses (d : Dev) : Dev := { d with fuse := { d.fuse with arb := max d.fuse.arb (min 64 (u8 (jbody d jArbTarget 0) 0)) } }

/-- Step 3 of R94: an activation under way is completed, or a staged manifest is verified and activated; the boot is counted then
(R554). Both need MRAM to take writes (R81). -/
def bootActivate (s : Sys) : Sys :=
  let act (d : Dev) : Dev :=
    setStage 4 (setAttempts (min 3 (attempts d + 1)) { d with boot := { d.boot with counted := true } })
  if !nvmWritable s.dev then s
  else if activationOpen s.dev then onDev (fun d => act (finishActivation s.mem d)) s
  else match s.dev.nvm.staged with
    | none => s
    | some (ms, man) =>
      let r := verify s.mem s.dev man
      let s := onDev (postVerify ms 0 r) s
      if r = 0 then onDev (fun d => act (activateImage s.mem d)) s else s

/-- Step 4: the active image is verified, in stage VERIFY (R96). -/
def bootVerify (s : Sys) : Sys := match s.dev.nvm.active with
  | none => onDev (enterRecovery 2) s
  | some (ms, man) =>
    let r := verify s.mem s.dev man
    let s := onDev (fun d => postVerify ms 1 r (setStage 3 d)) s
    if r = 0 then s else onDev (enterRecovery 2) s

/-- Steps 2 to 4 of R94 with D2 awake. After a reset of rung 3 the boot starts at step 3 (R105), so the count of attempts is not
looked at; the strap (R53) and RECOVERY_ENTER (R179) lead into recovery mode in every boot (DEDUCED, log entry 29). -/
def bootSteps (s : Sys) : Sys :=
  let d := s.dev
  if !domReady d 2 then onDev (enterRecovery 6) s
  else
    let s := onDev (fun d => setRf .glbBootStat 9 8 (attempts d) (burnFuses (newNonce (setStage 3 d)))) s
    if rb d .glbStrap 5 then onDev (enterRecovery 1) s
    else if d.boot.recover then onDev (enterRecovery 4) s
    else if attempts d = 3 && !d.boot.step3 then onDev (enterRecovery 3) s
    else bootVerify (bootActivate s)

/-- ROM_BOOT: D2, where it has gone to sleep, wakes on demand (R60, R94). -/
def romBoot (s : Sys) : Sys :=
  let d := s.dev
  if !d.boot.rom || d.boot.cpuRestart.isSome || !domReady d 1 || !railsUp d || decide (2 < rf d .glbBootStat 3 0) then s
  else bootSteps (onDev wakeNvm s)

/-! ### Thino starts (R94 steps 5 and 6, R98, R141, R538, R542) -/

/-- GLB_STAT.LTAB_EXT and the table take the extension part of the active image (R141). -/
def extendLtab (m : Memory) (d : Dev) : Dev :=
  match partOfType (activeMan d) 5 with
  | none => d
  | some i =>
    let b := partBytes m (activeMan d) i
    let gen := d.boot.ltabGen + 2
    let d := setRb .glbStat 4 true { d with
      boot := { d.boot with ltabExt := Config.extBlocks b, ltabExtRegs := Config.extRegs b, ltabGen := gen } }
    evtGlb 0x0003 gen (be 2 (ltabBlockCount d) ++ be 2 0 ++ be 4 (ltabRegCount d)) d

/-- A stored register is written before the restored commit (R538). -/
def restoreReg (o v : Nat) (d : Dev) : Dev := match storedRegs.find? fun r => regOffset r == o with
  | some .pmonPhase => setPhase v (setReg .pmonPhase (BitVec.ofNat 32 v) d)
  | some r => setReg r (BitVec.ofNat 32 v) d
  | none => d

/-- One entry of a settings image: a register or a timing record at once, an object into the shadow tables. -/
def restoreEntry (e : Nat × Nat × Bytes) (d : Dev) : Dev :=
  let b := e.2.2
  if e.1 = 0x20 then applyRef e.2.1 (fit 32 b) d
  else if e.1 = 0x21 then applyDpll e.2.1 (fit 16 b) d
  else if e.1 = 0x22 then applyOut e.2.1 (fit 16 b) d
  else if e.1 = 0x30 then restoreReg e.2.1 (u32 b 0) d
  else { d with prov := { d.prov with shadow := tset d.prov.shadow (okey e.1 e.2.1) (fit (recLen e.1 e.2.1) b) } }

/-- The area to restore from: none while MRAM is unavailable (R78; DESIGN CHOICE, log entry 172). -/
def areaRead (d : Dev) : Option Nat := if domReady d 2 then curArea d else none

/-- SETTINGS_SKIPPED for each skipped area, then the area used and SETTINGS_RESTORED (R542). -/
def restoreSettings (d : Dev) : Dev :=
  let skip (a : Nat) (d : Dev) : Dev := match areaSkip d (runFormatMin d) (runFormat d) a with
    | some r => evtNvm 0x0C04 a (be 1 r) (setRb .nvmErr 4 true d)
    | none => d
  let d := gate (domReady d 2) (fun d => skip 1 (skip 0 d)) d
  match areaRead d with
  | none => evtNvm 0x0C03 0 (be 2 0xFFFF ++ be 4 0xFFFFFFFF) d
  | some a => match tfind d.nvm.setArea a with
    | none => d
    | some i => evtNvm 0x0C03 a (be 2 i.format ++ be 4 i.gen) (i.entries.foldl (fun d e => restoreEntry e d) d)

/-- The domains that the tables of a commit need are requested in rank 2 (R23, R29). -/
def wakeFor (t : Tbl Bytes) (d : Dev) : Dev := each ((tableNeeds t).filter fun n => !domAwake d n) (requestWake 2) d

/-- The next 16-bit COMMIT_ID (R164); the first after a reset is 1 (DESIGN CHOICE, log entry 30). -/
def nextId (k : Nat) : Nat := (k + 1) % 65536

/-- The restored settings are committed 2 epochs ahead; with none stored, empty tables (R94 step 6, R98). -/
def commitRestored (d : Dev) : Dev :=
  let stored := (areaRead d).isSome
  let id := if stored then nextId d.prov.lastId else 0xFFFF
  let e : Pend := { id := id, epoch := now d + 2, tables := d.prov.shadow, restore := true }
  wakeFor e.tables { d with
    prov := { d.prov with pend := [e], lastId := if stored then id else d.prov.lastId }
    boot := { d.boot with restoreId := id } }

/-- LAST_GASP_FOUND (R98). -/
def reportGasp (d : Dev) : Dev := match d.nvm.gasp with
  | some g => if g.state = 1 ∧ domReady d 2 = true then evtGlb 0x0002 0 (slice g.bytes 8 6 ++ slice g.bytes 6 2) d else d
  | none => d

/-- THINO_START. -/
def thinoStart (s : Sys) : Sys :=
  let d := s.dev
  if !d.boot.rom || d.boot.cpuRestart.isSome || rf d .glbBootStat 3 0 != 3 || !domReady d 1 then s
  else
    let d := if d.boot.counted then d else setAttempts (min 3 (attempts d + 1)) d
    let d := setStage 5 { d with boot := { d.boot with
      bootWdt := true, rom := false, thino := true, exposed := true, hbAt := now d, counted := false, warm := false } }
    let d := wakeNvm d
    let d := gate (domReady d 2) (extendLtab s.mem) d
    let d := setStage 6 (mateStart (reportGasp (commitRestored (restoreSettings d))))
    { s with dev := d }

/-- BOOT_READY: the restored commit has entered service (R94 step 7). -/
def bootReady (d : Dev) : Dev :=
  if !d.boot.bootWdt || !d.boot.thino || d.prov.doneId = 0 || d.prov.pend.any (·.restore) then d
  else
    let d := setStage 7 (setAttempts 0 { d with boot := { d.boot with bootWdt := false } })
    evtGlb 0x0001 0 (be 4 (mfVersion (activeMan d)) ++ be 2 (rf d .glbRstCause 8 0) ++ be 2 d.boot.restoreId) d

/-- BOOT_WDT_EXPIRY: a warm reset; the attempt count stands (R94). -/
def bootWdtExpiry (s : Sys) : Sys := if s.dev.boot.bootWdt then askWarm (some 4) s else s

/-! ### Control-processor restart (R102, R103) -/

/-- A restart clears the BULK window (R181). -/
def restartCpu (cause : Nat) (s : Sys) : Sys :=
  if !domReady s.dev 1 || !s.dev.pin.porN then s
  else { dev := cpuRestart cause s.dev, mem := clearRange s.mem bulkBase bulkSize }

/-- CPU_WDT_EXPIRY: the third within 60 s becomes a warm reset (R103). -/
def cpuWdtExpiry (s : Sys) : Sys :=
  if !s.dev.boot.thino then s
  else
    let t := now s.dev
    let recent := (t :: (s.dev.boot.wdtAt.filter fun e => t < e + 60000)).take 3
    let s := onDev (fun d => { d with boot := { d.boot with wdtAt := recent } }) s
    if recent.length = 3 ∧ rb s.dev .glbRstCtl 2 then askWarm (some 5) s else restartCpu 7 s

/-- Instances of a function that are frozen (R170). -/
def frozenOf (d : Dev) (fn : Nat) : List Nat := (d.asst.frozen.filter fun k => k / 2 ^ 24 == fn).map (· % 2 ^ 24)

/-- The staged release of THINO and LTAB parts activates at a restart (R38). Its verification wakes D2 (R60), and waits for a later
restart where MRAM is unavailable (R78). -/
def restartActivate (s : Sys) : Sys :=
  let s := onDev wakeNvm s
  match s.dev.nvm.staged with
  | none => s
  | some (ms, man) =>
    if !stagedSoft s.dev || !domReady s.dev 2 then s
    else
      let r := verify s.mem s.dev man
      let s := onDev (postVerify ms 0 r) s
      if r = 0 then onDev (fun d => extendLtab s.mem (activateImage s.mem d)) s else s

/-- CPU_RESTART_DONE: its THINO part reloaded (R552), Thino runs again, its shadow tables copies of the tables in service; one event
lists the frozen instances (R34, R103). Mirrored commands whose X has passed were missed, and a standby that missed one joins anew (R467). -/
def cpuRestartDone (s : Sys) : Sys :=
  match s.dev.boot.cpuRestart with
  | none => s
  | some cause =>
    if !domReady s.dev 1 then s
    else if reloadFails s.dev 1 then
      onDev (fun d => partReload 1 (setRb (.pwrDomStat 1) 4 true (modDom 1 (fun x => { x with st := .faulted }) d))) s
    else
      let s := restartActivate s
      let lost := decide (s.dev.prov.shadow ≠ s.dev.prov.serv) || !s.dev.prov.parts.isEmpty
      onDev (fun d =>
        let missed := d.mbx.mir.any fun m => decide (m.x ≤ now d)
        let counts := (List.range 9).flatMap fun k => be 4 (frozenOf d (k + 1)).length
        let d := { d with
          boot := { d.boot with thino := true, rom := false, exposed := true, cpuRestart := none, hbAt := now d }
          mbx := { d.mbx with mir := d.mbx.mir.filter fun m => decide (now d < m.x) }
          prov := { d.prov with shadow := d.prov.serv, parts := [] } }
        let d := gate (missed && !d.mate.active && d.mate.st != 0) enterJoining d
        evtGlb 0x0004 cause (counts ++ be 1 lost.toNat) d) s

end Sys2Proof.Machine
end

