-- ==== Sys2Proof/Machine/Framing.lean ====
section
/-! DEFINITION. The live conditions of a line port that follow from its lanes, its FlexO instances and its framer (R212, R213,
R217, R219, R238). -/

namespace Sys2Proof.Machine

/-- A live bit of SLn_LINE_FSTAT; every change but that of FAR_ZK posts LINE_DEFECT (R238, R240). -/
def setLine (p b : Nat) (v : Bool) (d : Dev) : Dev :=
  if fstat d p b == v then d
  else
    let d := setLive (.lineStat p) 16 b v d
    if b = 14 then d else evtLine 0x0501 p p (be 2 (rf d (.lineStat p) 15 0)) d

def flexO (d : Dev) (p k : Nat) : FlexO := tget {} (ln d p).fx k
def modFlexO (p k : Nat) (f : FlexO → FlexO) (d : Dev) : Dev := modLn p (fun l => { l with fx := tmod {} l.fx k f }) d
def framer (d : Dev) (p : Nat) : Framer := (ln d p).fr
def modFramer (p : Nat) (f : Framer → Framer) (d : Dev) : Dev := modLn p (fun l => { l with fr := f l.fr }) d

/-- A lane carries signal with its CDR locked. -/
def laneGood (d : Dev) (p k : Nat) : Bool := rb d (.lineLstat p k) 0 && rb d (.lineLstat p k) 1

/-- Instances of the lanes without signal are in AM_HUNT (R212). -/
def huntLanes (p : Nat) (d : Dev) : Dev :=
  each (List.range 16) (fun k d =>
    gate (!laneGood d p (k / 2) && (flexO d p k).st != .hunt) (modFlexO p k fun x => { x with st := .hunt, miss := 0 }) d) d

/-- AM_LOCK and the instances received, by lane (R239). -/
def showLanes (p : Nat) (d : Dev) : Dev :=
  each (List.range 8) (fun k d =>
    let shown (j : Nat) : Nat := if (flexO d p j).st == .lock then (flexO d p j).id else 0x1F
    let both := (flexO d p (2 * k)).st == .lock && (flexO d p (2 * k + 1)).st == .lock
    setRb (.lineLstat p k) 3 both (setRf (.lineLstat p k) 12 8 (shown (2 * k)) (setRf (.lineLstat p k) 20 16 (shown (2 * k + 1)) d)))
    d

/-- Every instance is in AM_LOCK. -/
def amLocked (d : Dev) (p : Nat) : Bool := (List.range 16).all fun k => (flexO d p k).st == .lock

/-- The checks of R213, made once all 16 instances are in AM_LOCK. -/
def instMis (d : Dev) (p : Nat) : Bool :=
  amLocked d p && !(List.range 16).all fun j => (List.range 16).any fun k => (flexO d p k).id == j
def skewOut (d : Dev) (p : Nat) : Bool := amLocked d p && (List.range 16).any fun k => decide (200 < (flexO d p k).skew)
/-- The records that the receiver and the transmitter of a port follow in their FlexO fields: as at their newest FlexO frame boundary
(R210). -/
def rxFlexRec (d : Dev) (p : Nat) : Bytes := (ln d p).rxRec.getD (lineRec d p)
def txFlexRec (d : Dev) (p : Nat) : Bytes := (ln d p).txRec.getD (lineRec d p)
def gidMis (d : Dev) (p : Nat) : Bool :=
  amLocked d p && (List.range 16).any fun k => (flexO d p k).gid != lrExpGid (rxFlexRec d p)

/-- FlexO recovery is held: no OTUC data passes (R213). -/
def flexHeld (d : Dev) (p : Nat) : Bool := [2, 4, 5, 6].any fun b => fstat d p b

/-- LOS or LOL on a lane of the port. -/
def laneLost (d : Dev) (p : Nat) : Bool := fstat d p 0 || fstat d p 1

/-- OOM is live: the multiframe is lost, and with it a prediction of the receive switch (R219, R374, R375). -/
def loseMultiframe (p : Nat) (d : Dev) : Dev := setLine p 10 true (modRz p (fun z => { z with pred := none, heard := none }) d)

/-- The framer leaves IN_FRAME, or stays in OOF: with its position retained or without one; OOM is live (R217, R219). -/
def leaveFrame (p : Nat) (retain : Bool) (d : Dev) : Dev :=
  let d := modFramer p (fun f => { f with
    inFrame := false, bad := 0, retGood := 0, mis := 0, odd := none, avBad := 0, avGood := 0
    cands := if f.inFrame then [] else f.cands
    ret := if !retain then none else if f.inFrame then some f.pos else f.ret }) d
  setLine p 8 true (loseMultiframe p d)

/-- What the lanes and the instances of a port make live, and the framer held with them (R212, R213, R217). When the hold ends
the framer has no retained position. -/
def showLine (p : Nat) (d : Dev) : Dev :=
  if !domReady d (6 + p) then d
  else
    let wasHeld := flexHeld d p
    let d := showLanes p (huntLanes p d)
    let los := (List.range 8).any fun k => !rb d (.lineLstat p k) 0
    let lol := (List.range 8).any fun k => !rb d (.lineLstat p k) 1
    let d := setLine p 0 los (setLine p 1 lol (setLine p 2 (!amLocked d p) d))
    let d := setLine p 4 (skewOut d p) (setLine p 5 (gidMis d p) (setLine p 6 (instMis d p) d))
    let d := gate (wasHeld && !flexHeld d p) (modFramer p fun f => { f with ret := none, cands := [] }) d
    if laneLost d p then leaveFrame p false d
    else if flexHeld d p then gate (framer d p).inFrame (leaveFrame p true) (setLine p 8 (!(framer d p).inFrame) d)
    else if !(framer d p).inFrame then setLine p 8 true (loseMultiframe p d)
    else setLine p 8 false d

end Sys2Proof.Machine
end

