-- ==== Sys2Proof/Machine/Signals.lean ====
section
/-! DEFINITION. What follows from the live conditions at once, after any command that changes them: the signal each container
sends and hands on (R259, R391), the live bits of the client ports and what they send (R193 to R203), and what reads those. -/

namespace Sys2Proof.Machine

/-! ### Client ports -/

def cpOf (d : Dev) (i : Nat) : Bytes := servRec d 1 i
def hasPort (d : Dev) (i : Nat) : Bool := (serv d 1 i).isSome
def cliOf (d : Dev) (i : Nat) : CliPort := tget {} d.cli i
def modCli (i : Nat) (f : CliPort → CliPort) (d : Dev) : Dev := { d with cli := tmod {} d.cli i f }
def cliStat (i : Nat) : Reg := .cliPstat (i / 16) (i % 16)
def cliLane (i k : Nat) : Reg := .cliLstat (i / 16) k

/-- Domain n is faulted (R78). -/
def faultedDom (d : Dev) (n : Nat) : Bool := (dom d n).st == .faulted

/-- A standby outside IN_STEP (R452). -/
def standbyMuted (d : Dev) : Bool := d.mate.st != 0 && !d.mate.active && d.mate.st != 4
/-- A standby outside IN_STEP, and a device in the FATAL safe state, send no client or line traffic (R110, R452). -/
def muted (d : Dev) : Bool := isFatal d || standbyMuted d

/-- Every lane of the port has adapted (R193). -/
def lanesAdapted (d : Dev) (i : Nat) : Bool := (cpLaneList (cpOf d i)).all fun k => rb d (cliLane i k) 2

/-- The condition of UP (R193). -/
def portUp (d : Dev) (i : Nat) : Bool :=
  hasPort d i && domReady d (10 + i / 16) && lanesAdapted d i && !([0, 1, 2, 3, 4, 13].any fun b => pstat d i b)

/-- The client is failed (R197, R203, R259 row 5). Under a DEVICE loopback the ingress comes from the PCS and not from the SerDes
(R202), and only R197 fails it. -/
def clientFailed (d : Dev) (i : Nat) : Bool :=
  let b := cpOf d i
  let o := 0x100 + i
  !hasPort d i || (if cpLoop b == 2 then !lanesAdapted d i else !pstat d i 15) || cpPatRx b != 0 || cpLoop b == 3
    || (decide (2 ≤ cpMode b) && (meets (cliOf d i).otn 0xFF || match pointOn d 1 0 false o with
      | some (_, r) => mpTimAct r && timOf r (layer d (lkey 1 0 false o))
      | none => false))
    || (cpMode b == 3 && meets (layer d (lkey 2 0 false o)).raw 0x7000)

/-- A live bit of SLn_CLI_PSTATp; each change is posted (R204, R206). -/
def setPort (i b : Nat) (v : Bool) (d : Dev) : Dev :=
  if pstat d i b == v then d
  else
    let d := setLive (cliStat i) 16 b v d
    evtCli 0x0603 (i / 16) i (be 2 (rf d (cliStat i) 13 0)) d

/-! ### ESMC (R199, R200) -/

/-- CONTENT of an ESMC report (R200). -/
def esmcContent (q : Ql) (pdus : Nat) : Bytes :=
  be 1 (q.ssm % 16) ++ be 1 q.essm ++ fit 8 q.clockId ++ be 1 (q.ext.toNat * 128 + q.event.toNat * 64) ++ be 1 q.eeec
    ++ be 1 q.eec ++ [0] ++ be 4 pdus ++ zeros 16

/-- The quality level in force changes (R199); whether an event PDU carried it is no part of the level. -/
def setQl (i : Nat) (q : Ql) (d : Dev) : Dev :=
  let same := { (cliOf d i).ql with event := q.event } == q
  gate (!same) (evtCli 0x0605 (i / 16) i []) (modCli i (fun c => { c with ql := q }) d)

/-- A report of the parser; a PDU whose content is that of the last report sends none (R200). -/
def esmcReport (i reason : Nat) (q : Ql) (d : Dev) : Dev :=
  let key := (esmcContent q 0).take 14
  if reason = 1 ∧ (cliOf d i).reported = some key then d
  else report 9 i reason (esmcContent q (cliOf d i).pdus) (modCli i (fun c => { c with reported := some key }) d)

/-- QL-FAILED in hardware mode, or the report of a host-assisted parser (R199, R200): REASON 2 or 4. -/
def qlFail (i reason : Nat) (d : Dev) : Dev :=
  if !cpEsmc (cpOf d i) then d
  else if assisted d 9 i then esmcReport i reason {} d
  else if isFrozen d 9 i || (cliOf d i).ql.failed then d
  else setQl i {} d

/-- LOS, LOL, LOBL and LOAML fail the quality level at once (R199). -/
def setDefect (i b : Nat) (v : Bool) (d : Dev) : Dev :=
  if pstat d i b == v then d
  else
    let d := setPort i b v d
    gate (v && decide (b < 4)) (qlFail i 4) d

/-! ### The egress source of a port -/

/-- CSF is received on a container (R256, R260). -/
def csfRx (d : Dev) (c : Nat) : Bool :=
  (tget {} d.cont c).csf || (ctPayload (ctRec d c) == 0 && ((layer d (lkey 3 0 false c)).psi.getD 1 {}).acc == some 1)

/-- The container's egress carries no client signal (R195). -/
def contBad (d : Dev) (c : Nat) : Bool := (tget {} d.cont c).rxSig != 0 || csfRx d c

/-- A packet container gives no frames (R195). -/
def packetBad (d : Dev) (c : Nat) : Bool := contBad d c || !delinOk d c

/-- The stream that XC delivers for a container has failed: the selected one of a protection group; of a merge group in IDLE, in a re-time
of ODUs to a later path, or with no good path in its delivery set (R430, R431). -/
def streamBad (d : Dev) (bad : Nat → Bool) (c : Nat) : Bool := match connOf d c with
  | some (7, g, _) => bad (selCont d g)
  | some (8, g, _) =>
    let m := mg d g
    m.st == 0 || m.gap || ([0, 1].filter m.set_.testBit).all fun p => bad (pathCont (mgRec d g) p)
  | _ => bad c

/-- The containers that feed a port (R184, R278). -/
def portSources (d : Dev) (i : Nat) : List Nat :=
  let b := cpOf d i
  if cpMode b = 1 then
    ((pktRecs d.prov.serv).filter fun e => contSlice d e.1 == i / 16
      && (List.range (min 32 (pcRanges e.2))).any fun k => rgPort e.2 k == i % 16 && !rgDrop e.2 k).map (·.1)
  else if cpMode b = 3 then []
  else [cpCont b]

/-- A failure of class SIGNAL, ALIGN, TIM, MAINT or PAYLOAD is declared at a PATH point with LASER_OFF (R392). -/
def laserOff (d : Dev) (i : Nat) : Bool := (portSources d i).any fun c => match pointOn d 3 0 false c with
  | some (k, r) => mpLaser r && meets (point d k).decl 0x1F
  | none => false

/-- The source of a port has failed (R195; log entry 32). -/
def sourceBad (d : Dev) (i : Nat) : Bool :=
  let l := portSources d i
  let b := cpOf d i
  if cpMode b = 3 then false
  else if cpMode b = 1 then (!l.isEmpty && l.all (streamBad d (packetBad d))) || portFault d i == 1
  else l.any (streamBad d (contBad d))

/-- What the transmitters of a port send in place of its traffic (R195, R196, R203, R392, R452): 0 none, 1 LF, 2 RF, 3 AIS, 4 idle, 5
test. A standby outside IN_STEP sends AIS or LF whatever else is set (DEDUCED, log entry 189); LASER_OFF replaces step 5 of R203 only. -/
def portTx (d : Dev) (i : Nat) : Nat :=
  let b := cpOf d i
  let fault := if cpEth b then 1 else 3
  let squelched := if cpSquelch b then 4 else fault
  if standbyMuted d then fault
  else if cpLoop b = 3 then 4
  else if cpPatTx b ≠ 0 ∨ cpLoop b = 1 then 5
  else if isFatal d || (cpMode b == 1 && faultedDom d (14 + i / 16)) then squelched
  else if laserOff d i then 4
  else if sourceBad d i then squelched
  else if cpEth b && cpMode b == 1 && portFault d i == 2 then 2
  else if cpEth b && cpRfOnFail b && !pstat d i 15 && !(portSources d i).isEmpty then 2
  else 0

/-- UP, with its events (R193, R206). -/
def showUp (i : Nat) (d : Dev) : Dev :=
  let v := portUp d i
  if pstat d i 15 == v then d
  else
    let d := setRb (cliStat i) 15 v d
    let d := gate v (modCli i fun c => { c with pdus := 0 }) d
    evtCli (if v then 0x0601 else 0x0602) (i / 16) i [] d

/-- Received faults are declared only while the signal is good; each change goes to the far end (R194, R196, R305). -/
def showFault (i : Nat) (d : Dev) : Dev :=
  let ok := cpEth (cpOf d i) && !([0, 1, 2, 3].any fun b => pstat d i b)
  let lf := ok && (cliOf d i).faultSeen.testBit 6
  let rfv := ok && (cliOf d i).faultSeen.testBit 7
  if pstat d i 6 == lf && pstat d i 7 == rfv then d
  else
    let d := setPort i 6 lf (setPort i 7 rfv d)
    gate (cpMode (cpOf d i) == 1) (sendFault i (faultOf d i)) d

/-- The derived live bits of a port (R195, R203, R204). TRAINING, of which the manual gives the name alone, is live while a lane of
the port has not adapted (DESIGN CHOICE, log entry 146). -/
def showPort (i : Nat) (d : Dev) : Dev :=
  if !hasPort d i || !domReady d (10 + i / 16) then d
  else
    let b := cpOf d i
    let d := showFault i (showUp i d)
    let tx := portTx d i
    let d := modCli i (fun c => { c with txSig := tx }) d
    let test := cpLoop b != 0 || cpPatTx b != 0 || cpPatRx b != 0
    setPort i 8 (tx == 1) (setPort i 9 (tx == 2) (setPort i 10 test (setPort i 12 (!lanesAdapted d i) d)))

/-! ### Containers (R259) -/

/-- EXTFC_LOCK of a container, and its event (R267, R268). -/
def setExtLock (c : Nat) (v : Bool) (d : Dev) : Dev :=
  if extLock d c == v then d else evtXc 0x0703 c [] (setLive (.xcCstat c) 24 0 v d)

/-- The signal sent towards the line (R259, R260). -/
def txSigOf (d : Dev) (c : Nat) : Nat :=
  let r := ctRec d c
  let pl := ctPayload r
  let i := ctPort r
  let n := ctClientSlice r
  if muted d then 1
  else if ctLock r || (tget {} d.cont c).pre then 2
  else if (pl == 5 && (membersNow d c).isEmpty) || (decide (pl ≤ 2) && !hasPort d i) then 3
  else if pl != 5 && (faultedDom d (10 + n) || (isPkt r && faultedDom d (14 + n))) then 1
  else if (pl == 1 || pl == 2) && clientFailed d i then 1
  else if pl == 0 && clientFailed d i then 4
  else 0

/-- The signal handed on in the egress direction (R259). -/
def rxSigOf (d : Dev) (c : Nat) : Nat :=
  let r := ctRec d c
  if muted d then 1
  else if ctLock r || (tget {} d.cont c).pre then 2
  else if faultedDom d (6 + lineOf c) || rxFailed d c || (!ctDirect r && (tget {} d.cont (ctParent r)).rxSig != 0) then 1
  else 0

/-- LOF, LOM or a received AIS, LCK or OCI of a container: its extended count is lost at once (R267). A LO container receives ODU-AIS
where its parent hands none on normally (R259). -/
def extCut (d : Dev) (c : Nat) : Bool :=
  let r := ctRec d c
  fstat d (lineOf c) 9 || fstat d (lineOf c) 11 || meets (layer d (lkey 3 0 false c)).raw 0x7000
    || (!ctDirect r && (tget {} d.cont (ctParent r)).rxSig != 0)

/-- A container's signals as they stand now, with CONTAINER_SIGNAL (R268, R271). A container that receives one loses its extended
count (R267). -/
def showSig (c : Nat) (d : Dev) : Dev :=
  let x := tget {} d.cont c
  if !x.up then d
  else
    let tx := txSigOf d c
    let rx := rxSigOf d c
    let d := gate (extCut d c) (setExtLock c false) d
    let csfTx := ctCsfEn (ctRec d c) && (tx == 4 || (ctPayload (ctRec d c) == 3
      && (flowsOf d c).any fun e => clientFailed d (ctxSlice e.1 * 16 + flPort e.2)))
    let d := setLive (.xcCstat c) 24 4 (csfRx d c) (setLive (.xcCstat c) 24 5 csfTx d)
    if rf d (.xcCstat c) 15 13 = tx ∧ rf d (.xcCstat c) 12 10 = rx then d
    else
      let d := setRf (.xcCstat c) 15 13 tx (setRf (.xcCstat c) 12 10 rx d)
      evtXc 0x0701 c (be 1 tx ++ be 1 rx) { d with cont := tmod {} d.cont c fun y => { y with rxSig := rx } }

/-- A container begins to carry the copy of another's source: its extended count is that of the source (R261). -/
def copyExt (c : Nat) (d : Dev) : Dev := match partnerOf d.prov.serv c with
  | none => d
  | some q =>
    let e := (tget {} d.cont q).ext
    { d with cont := tmod {} d.cont c fun x => { x with ext := { x.ext with run := e.run, fc := e.fc } } }

/-- BRIDGED, RESIZING and RESIZE of XC_CSTATi (R261, R263, R268). -/
def showBits (c : Nat) (d : Dev) : Dev :=
  let bridged := match connOf d c with
    | some (7, g, _) => pgArch (pgRec d g) != 2 || (pg d g).bridge
    | some (8, _, _) => true
    | _ => false
  let d := gate (bridged && !rb d (.xcCstat c) 6) (copyExt c) d
  let f := match (tget {} d.cont c).flex with
    | .idle => 0 | .lcrInc => 1 | .bwrUp => 2 | .bwrDown => 3 | .lcrDec => 4
  setLive (.xcCstat c) 24 6 bridged (setLive (.xcCstat c) 24 3 (f != 0) (setRf (.xcCstat c) 19 16 f d))

/-- A delineator whose container carries a maintenance signal, or whose port is out of frame, is in HUNT (R225). -/
def holdDelin (c : Nat) (d : Dev) : Dev :=
  let x := (pct d c).delin
  gate (delinHeld d c && x.st != 0) (setDelin c (hunt x x.resume)) d

/-- The condition of ZPC_OK, on both line ports of a merge group (R273). -/
def zpcCond (d : Dev) (c : Nat) : Bool :=
  farCap d (lineOf c) 0 && match connOf d c with
    | some (8, _, q) => farCap d (lineOf q) 0
    | _ => true

/-- ZPC_OK follows its condition (R274, R308). -/
def showZpc (c : Nat) (d : Dev) : Dev :=
  if !isZpc (ctRec d c) || !domReady d (14 + contSlice d c) then d
  else
    let v := zpcCond d c
    zLive c 0 v (zLive c 1 (!v && pcFallback (pcRec d c)) (setZpcOk c v d))

/-- Every container: the HO containers before their members. -/
def showConts (d : Dev) : Dev :=
  if !domReady d 22 then d
  else
    let l := contsNow d
    let order := ((l.filter fun e => ctDirect e.2) ++ l.filter fun e => !ctDirect e.2).map (·.1)
    order.foldl (fun d c => showZpc c (gate (isPkt (ctRec d c)) (holdDelin c) (showBits c (showSig c d)))) d

/-- What follows at once from the conditions as they are now, after a command has changed them. -/
def refresh (d : Dev) : Dev :=
  let d := showConts (each [0, 1, 2, 3] showLine d)
  let d := eachMerge checkPaths d
  let d := (objs d.prov.serv 1).foldl (fun d i => showPort i d) d
  observe (noteQl (qlAtOnce (syncRecovered (showConts d))))

end Sys2Proof.Machine
end

