-- ==== Sys2Proof/Syntax/LineIn.lean ====
section
/-! DEFINITION. Operand forms of the commands that carry frames of a line port. -/

namespace Sys2Proof

/-- What one position of the received bit stream shows in one frame period (R216): the 6 FAS bytes and the MFAS of each instance,
instance 1 first. -/
structure FasObs where
  pos : Nat
  fas : List Bytes
  deriving DecidableEq, Repr, Inhabited

/-- What an OTN client gives with a change of its defects: the overhead by layer, and frame periods at its framer, each the positions
examined in ascending order (R194, R216). -/
structure ClientRx where
  layers : List LayerRx := []
  frames : List (List FasObs) := []
  deriving DecidableEq, Repr, Inhabited

/-- One received OTUC16 frame period: the positions examined, earliest first, the overhead by layer, the MSI availability bits
at the end of a multiframe (R222), and the 1,024 overhead bytes (R237). -/
structure OtucRx where
  obs : List FasObs
  layers : List LayerRx := []
  avail : Option Nat := none
  oh : Bytes := []
  deriving DecidableEq, Repr, Inhabited

/-- The ODU frames of one container that start in a transmitted OTUC16 frame: how many, and the MFAS of the first for an ODUk
that comes from a client (R265). -/
structure OduTx where
  cont : Nat
  frames : Nat
  mfas : Nat := 0
  /-- the mapper's decisions for the first of them: STAGE, PROC, CM, CND of a JUST record (R255, R455) -/
  just : List (Nat × Nat × Nat × Nat) := []
  deriving DecidableEq, Repr, Inhabited

end Sys2Proof
end

