-- ==== Sys2Proof/Machine/Line.lean ====
section
/-! DEFINITION. The line ports: FlexO recovery, the OTUC framer, beacon, OHX and the transmitted frame (R208 to R241). -/

namespace Sys2Proof

/-! ### The frame alignment signal (R216) -/

/-- The FAS of G.709: OA1 three times, OA2 three times (0xF6 and 0x28, PRESUMED: log entry 148). -/
def fasBytes : Bytes := [0xF6, 0xF6, 0xF6, 0x28, 0x28, 0x28]

/-- The FAS of n instances counts as correct: bytes 3 and 4 in every instance, and one MFAS. n is 16 on a line port, 1 on an OTUk
client. -/
def FasObs.agrees (n : Nat) (o : FasObs) : Bool :=
  o.fas.length == n && o.fas.all fun b => slice b 2 2 == slice fasBytes 2 2 && u8 b 6 == u8 (o.fas.headD []) 6

/-- Correct on a line port. -/
def FasObs.ok (o : FasObs) : Bool := o.agrees 16

/-- All 6 FAS bytes of instance 1 match, as a candidate needs. -/
def FasObs.full (o : FasObs) : Bool := slice (o.fas.headD []) 0 6 == fasBytes

/-- The MFAS of instance 1. -/
def FasObs.mfas (o : FasObs) : Nat := u8 (o.fas.headD []) 6

end Sys2Proof

namespace Sys2Proof.Machine

/-- The line block of port p runs. -/
def lineOn (d : Dev) (p : Nat) : Bool := decide (p ≤ 3) && domReady d (6 + p)

/-! ### FlexO recovery (R212 to R215) -/

/-- Bits of one FlexO frame of an instance (R208). -/
abbrev flexPeriod : Nat := 696320

/-- One marker check of an instance (R212). -/
def amStep (x : FlexO) (pos : Nat) (valid : Bool) : FlexO :=
  match x.st with
  | .hunt => if valid then { x with st := .confirm, pos := pos, miss := 0 } else x
  | .confirm =>
    if pos ≠ x.pos + flexPeriod then x
    else if valid then { x with st := .lock, pos := pos, miss := 0 } else { x with st := .hunt }
  | .lock =>
    if pos ≠ x.pos + flexPeriod then x
    else if valid then { x with pos := pos, miss := 0 }
    else if x.miss + 1 ≥ 5 then { x with st := .hunt, miss := 0 }
    else { x with pos := pos, miss := x.miss + 1 }

/-- FLEXO_MARKER: instance k examines a position, where `bad` of the marker's symbols differ. The frame in place gives its overhead when
the overhead's CRC is correct, its marker valid or not (R212, R213, R215). The FlexO fields of the record in service hold from this
frame boundary (R210). -/
def flexoMarker (p k pos bad : Nat) (crcOk : Bool) (id gid skew : Nat) (rpf : Bool) (d : Dev) : Dev :=
  if !lineOn d p || decide (16 ≤ k) || !laneGood d p (k / 2) then d
  else
    let valid := decide (bad ≤ 4)
    let old := flexO d p k
    let y := amStep old pos valid
    let took := y != old && valid
    let use := crcOk && (took || (old.st == .lock && y.st == .lock && y != old))
    let d := modLn p (fun l => { l with rxRec := some (lineRec d p) }) d
    let d := modFlexO p k (fun _ => { y with
      skew := if took then skew else y.skew
      id := if use then id % 32 else y.id, gid := if use then gid else y.gid }) d
    showLine p (gate use (setLine p 15 rpf) d)

/-- FLEXO_LOF: 3 ms outside AM_LOCK, or with all 16 instances in AM_LOCK (R212). -/
def flexoLof (p : Nat) (d : Dev) : Dev := if lineOn d p then setLine p 3 (!amLocked d p) d else d

/-! ### Forward error correction (R194, R214) -/

/-- FEC of a client type: symbols of a codeword, and how many errors it corrects (R183). -/
def fecCode (f : Nat) : Nat × Nat := if f = 1 then (528, 7) else if f = 2 then (544, 15) else (255, 8)

/-- A codeword of a line port with `errs` symbol errors (R214). -/
def lineCodeword (p errs : Nat) (d : Dev) : Dev :=
  if !lineOn d p then d
  else
    let fixed := decide (0 < errs) && decide (errs ≤ 15) && !lrDetectOnly (rxFlexRec d p)
    let lost := decide (0 < errs) && !fixed
    let d := modLn p (fun l => { l with fecSyms := l.fecSyms + 544, fecErrs := l.fecErrs + (if fixed then errs else 0) }) d
    let d := count (6 + p) (ctrLine p 0) 1 (gate fixed (count (6 + p) (ctrLine p 1) 1) d)
    gate fixed (count (6 + p) (ctrLine p 2) errs) (gate lost (count (6 + p) (ctrLine p 3) 1) d)

/-- A codeword of a client port, or a 66B block of one without FEC; an Ethernet one is a block of its ETH layer (R381). -/
def clientCodeword (i errs : Nat) (d : Dev) : Dev :=
  let b := cpOf d i
  let n := 10 + i / 16
  if !hasPort d i || !domReady d n then d
  else if cpFec b = 0 then countBlock 5 i (decide (0 < errs)) (gate (decide (0 < errs)) (count n (ctrClient i 15) 1) d)
  else
    let code := fecCode (cpFec b)
    let fixed := decide (0 < errs ∧ errs ≤ code.2)
    let lost := decide (code.2 < errs)
    let d := modCli i (fun c => { c with fecSyms := c.fecSyms + code.1, fecErrs := c.fecErrs + errs }) d
    let d := count n (ctrClient i 11) 1 (gate fixed (count n (ctrClient i 12) 1) d)
    let d := gate fixed (count n (ctrClient i 13) errs) (gate lost (count n (ctrClient i 14) 1) d)
    gate (cpEth b) (countBlock 5 i lost) d

/-- FEC_DEG over one epoch: the new live bit and run of good epochs, from the thresholds 1 × 10^−set and 1 × 10^−clr. -/
def fecDeg (set_ clr syms errs good : Nat) (live : Bool) : Bool × Nat :=
  if syms = 0 then (live, good)
  else if errs * 10 ^ set_ > syms then (true, 0)
  else if errs * 10 ^ clr < syms then (live && decide (good + 1 < 10), good + 1)
  else (live, 0)

/-- FEC_DEG of every line port and client port, at the end of an epoch (R194, R214). -/
def fecEpoch (d : Dev) : Dev :=
  let d := each ((List.range 4).filter (lineOn d)) (fun p d =>
    let l := ln d p
    let r := lineRec d p
    let (v, g) := fecDeg (lrDegSet r) (lrDegClr r) l.fecSyms l.fecErrs l.fecGood (fstat d p 7)
    setLine p 7 v (modLn p (fun l => { l with fecSyms := 0, fecErrs := 0, fecGood := g }) d)) d
  each ((objs d.prov.serv 1).filter fun i => domReady d (10 + i / 16)) (fun i d =>
    let c := cliOf d i
    let b := cpOf d i
    let (v, g) := fecDeg (cpDegSet b) (cpDegClr b) c.fecSyms c.fecErrs c.fecGood (pstat d i 5)
    setPort i 5 v (modCli i (fun c => { c with fecSyms := 0, fecErrs := 0, fecGood := g }) d)) d

/-! ### The OTUC framer (R216 to R219) -/

def obsAt (l : List FasObs) (pos : Nat) : FasObs := (l.find? fun o => o.pos == pos).getD ⟨pos, []⟩

/-- IN_FRAME is entered at a position; the first frame whose MFAS continues clears OOM (R217, R219; log entry 33). -/
def enterFrame (p pos mfas : Nat) (d : Dev) : Dev :=
  setLine p 8 false (modFramer p (fun f => { f with
    inFrame := true, pos := pos, ret := none, bad := 0, retGood := 0, cands := [], mfas := mfas, mis := 0, odd := some mfas }) d)

/-- The candidate slots after one frame (R218): those that continue, and the new ones. -/
def stepCands (n : Nat) (l : List FasObs) (ret : Option Nat) (cs : List Cand) : List Cand :=
  let kept := cs.filterMap fun c =>
    let o := obsAt l c.pos
    if o.agrees n && o.mfas == (c.mfas + c.n + 1) % 256 then some { c with n := c.n + 1 } else none
  l.foldl (fun cs o =>
    if o.full && ret != some o.pos && decide (cs.length < 8) && !cs.any (fun c => c.pos == o.pos) then
      cs ++ [{ pos := o.pos, mfas := o.mfas }]
    else cs) kept

/-- One frame period in OOF (R217, R218). -/
def huntFrame (p : Nat) (l : List FasObs) (d : Dev) : Dev :=
  let f := framer d p
  let good := match f.ret with
    | some r => if (obsAt l r).ok then f.retGood + 1 else 0
    | none => 0
  let cs := stepCands 16 l f.ret f.cands
  match f.ret with
  | some r => if good ≥ 2 then enterFrame p r (obsAt l r).mfas d else
      match cs.find? fun c => c.n == 2 with
      | some c => enterFrame p c.pos ((c.mfas + 2) % 256) d
      | none => modFramer p (fun f => { f with retGood := good, cands := cs }) d
  | none =>
      match cs.find? fun c => c.n == 2 with
      | some c => enterFrame p c.pos ((c.mfas + 2) % 256) d
      | none => modFramer p (fun f => { f with retGood := good, cands := cs }) d

/-- The multiframe count of one frame in IN_FRAME (R219). -/
def stepMfas (p m : Nat) (d : Dev) : Dev :=
  let f := framer d p
  if fstat d p 10 then
    let cont := match f.odd with
      | some k => m == (k + 1) % 256
      | none => false
    if cont then setLine p 10 false (modFramer p (fun f => { f with mfas := m, mis := 0, odd := none }) d)
    else modFramer p (fun f => { f with mfas := m, odd := some m }) d
  else if m = (f.mfas + 1) % 256 then modFramer p (fun f => { f with mfas := m, mis := 0 }) d
  else
    let d := modFramer p (fun f => { f with mfas := (f.mfas + 1) % 256, mis := f.mis + 1, odd := some m }) d
    gate (decide (f.mis + 1 ≥ 5)) (loseMultiframe p) d

/-- Received availability bits of a multiframe against the receive map (R222). -/
def checkAvail (p m : Nat) (d : Dev) : Dev :=
  let f := framer d p
  let same := m == (rz d p).rxMap
  let bad := if same then 0 else f.avBad + 1
  let good := if same then f.avGood + 1 else 0
  let d := modFramer p (fun f => { f with avBad := bad, avGood := good }) d
  if bad ≥ 3 then setLine p 12 true d else if good ≥ 3 then setLine p 12 false d else d

/-- LINE_OHX at the first slip since the last commit (R240). -/
def ohxSlip (p : Nat) (input : Bool) (d : Dev) : Dev :=
  let d := if input then satCtr (.lineOhxSlip p) 31 16 1 d else satCtr (.lineOhxSlip p) 15 0 1 d
  let o := (ln d p).ohx
  if (if input then o.inSlipSeen else o.rxSlipSeen) then d
  else
    let d := modLn p (fun l => { l with ohx :=
      if input then { l.ohx with inSlipSeen := true } else { l.ohx with rxSlipSeen := true } }) d
    evtLine 0x0503 p p (be 4 (reg d (.lineOhxSlip p)).toNat) d

/-- Received overhead enters the receive slip buffer of 2 frames (R234). -/
def ohxReceive (p mfas : Nat) (oh : Bytes) (d : Dev) : Dev :=
  let q := (ln d p).ohx.rx
  let over_ := decide (q.length ≥ 2)
  let d := modLn p (fun l => { l with ohx := { l.ohx with
    rx := (if over_ then l.ohx.rx.drop 1 else l.ohx.rx) ++ [{ mfas := mfas, oh := oh }], slipped := l.ohx.slipped || over_ } }) d
  gate over_ (ohxSlip p false) d

/-- The capture window is refreshed (R237). -/
def capture (p mfas : Nat) (oh : Bytes) (d : Dev) : Dev :=
  modLn p (fun l => { l with
    capGen := (l.capGen + 2) % 2 ^ 32, capMfas := mfas, capEpoch := now d, capOh := fit 1024 oh }) d

/-- OPUC payload bytes of s slots in the frame of a multiframe position: 3,808/5 bytes per slot and frame. -/
def slotOctets (s mfas : Nat) : Nat := s * 3808 * (mfas % 5 + 1) / 5 - s * 3808 * (mfas % 5) / 5

/-- Available, assigned slots of a map. -/
def busySlots (d : Dev) (p m : Nat) : Nat := ((ln d p).cal.filter fun e => m.testBit e.1).length

/-- A frame received in IN_FRAME with FlexO recovery running (R221, R234, R237). -/
def frameIn (p : Nat) (x : OtucRx) (o : FasObs) (d : Dev) : Dev :=
  let d := count (6 + p) (ctrLine p 4) 1 (gate (!o.ok) (count (6 + p) (ctrLine p 5) 1) d)
  let d := stepMfas p o.mfas d
  let m := (framer d p).mfas
  let aligned := !fstat d p 10
  let d := if aligned && m == 0 then
      let d := modLn p (fun l => { l with rxMf := l.rxMf + 1 }) d
      gate (rxDue d p) (rxSwitch p) d
    else d
  let d := gate aligned (fun d => match x.avail with
    | some a => checkAvail p a d
    | none => d) d
  let d := x.layers.foldl (fun d y =>
    let d := layerRx y d
    let d := gate (y.kind == 1 && y.obj == p) (count (6 + p) (ctrLine p 6) (total (y.viol.map (min 8)))) d
    gate (y.kind == 3 && !y.side) (cctrAdd (y.obj * 8 + 1) 1) d) d
  let d := count (6 + p) (ctrLine p 10) (slotOctets (busySlots d p (rz d p).rxMap) m) d
  let d := ohxReceive p m x.oh d
  gate (m == lrCapMfas (lineRec d p)) (capture p m x.oh) d

/-- OTUC_FRAME_RX: one frame period at the framer (R217 to R219). -/
def otucFrameRx (p : Nat) (x : OtucRx) (d : Dev) : Dev :=
  if !lineOn d p || laneLost d p || flexHeld d p then d
  else if (framer d p).inFrame then
    let f := framer d p
    let o := obsAt x.obs f.pos
    let bad := if o.ok then 0 else f.bad + 1
    let d := modFramer p (fun f => { f with bad := bad }) d
    if bad ≥ 5 then leaveFrame p true (count (6 + p) (ctrLine p 5) 1 d) else frameIn p x o d
  else huntFrame p x.obs d

/-- The port has had no received multiframe for 3 ms: FAR_ZK goes, and a proposer aborts (R224, R361, R374). -/
def alignLost (p : Nat) (d : Dev) : Dev :=
  let d := if fstat d p 14 then
      evtLine 0x0502 p p (farBeacon d p) (setLine p 14 false d)
    else d
  let d := modLn p (fun l => { l with beacon := {} }) d
  showRz p (rszStop p 12 d)

/-- LOF_CHANGE: OOF, or IN_FRAME, has lasted 3 ms (R217). -/
def lofChange (p : Nat) (d : Dev) : Dev :=
  if !lineOn d p || fstat d p 9 == !(framer d p).inFrame then d
  else
    let v := !(framer d p).inFrame
    gate v (alignLost p) (setLine p 9 v d)

/-- LOM_CHANGE: OOM, or multiframe alignment, has lasted 3 ms (R219). -/
def lomChange (p : Nat) (d : Dev) : Dev :=
  if !lineOn d p || fstat d p 11 == fstat d p 10 then d
  else
    let v := fstat d p 10
    gate v (alignLost p) (setLine p 11 v d)

/-! ### The capability beacon (R223, R224) -/

/-- The 32 bytes of the beacon (R223). -/
def beaconBytes (d : Dev) (p : Nat) : Bytes :=
  let r := lineRec d p
  let b := [0x5A, 0x4B, 0x01] ++ be 1 (0xE0 + (inStep d).toNat * 16) ++ be 1 p ++ [0] ++ be 8 (lrNodeId r) ++ be 6 (now d)
    ++ zeros 10
  b ++ be 2 (crcCcitt b)

/-- MAGIC and CRC are correct. -/
def beaconOk (b : Bytes) : Bool := b.length == 32 && u16 b 0 == 0x5A4B && u16 b 30 == crcCcitt (b.take 30)

/-- The bytes of a beacon that must agree. -/
def beaconKey (b : Bytes) : Bytes := slice b 2 12

/-- BEACON_RX (R224): 32 assembled bytes. -/
def beaconRx (p : Nat) (b : Bytes) (d : Dev) : Dev :=
  if !lineOn d p then d
  else
    let s := (ln d p).beacon
    let put (s : BeaconSt) : Dev → Dev := modLn p fun l => { l with beacon := s }
    if !beaconOk b || fstat d p 8 || fstat d p 10 then
      let d := count (6 + p) (ctrLine p 7) 1 d
      if s.bad + 1 ≥ 8 && fstat d p 14 then
        showRz p (setLine p 14 false (evtLine 0x0502 p p (farBeacon d p) (put {} d)))
      else put { s with bad := s.bad + 1, n := 0 } d
    else
      let n := if s.n ≠ 0 ∧ beaconKey b = beaconKey s.cand then s.n + 1 else 1
      let fresh := match s.acc with
        | some a => beaconKey a != beaconKey b
        | none => true
      if n ≥ 3 ∧ (fresh || !fstat d p 14) then
        showRz p (evtLine 0x0502 p p b (setLine p 14 true (put { cand := b, n := n, acc := some b, bad := 0 } d)))
      else put { s with cand := b, n := n, bad := 0 } d

/-! ### OHX (R232 to R236) -/

/-- Byte of a received overhead frame named by an entry. -/
def ohByte (oh : Bytes) (inst row col : Nat) : Byte := oh.getD (64 * inst + 16 * row + col) 0

/-- The 40 bytes of an output frame (R232). -/
def ohxFrame (r : Bytes) (f : Option OhFrame) (valid slip : Bool) (count_ : Nat) : Bytes :=
  let bytes := (List.range 32).map fun i =>
    let (en, inst, row, col) := ohxEntry r 32 i
    match f with
    | some x => if en then ohByte x.oh inst row col else (0 : Byte)
    | none => (0 : Byte)
  let b := be 1 ((f.map (·.mfas)).getD 0) ++ be 1 (valid.toNat * 128 + slip.toNat * 64) ++ bytes ++ be 2 count_ ++ zeros 2
  b ++ be 2 (crcCcitt b)

/-- OHX_OUT_FRAME: the receive slip buffer is read once per system frame (R234); the outputs are driven with OHX_EN. -/
def ohxOut (p : Nat) (d : Dev) : Dev :=
  if !lineOn d p then d
  else
    let o := (ln d p).ohx
    let valid := (framer d p).inFrame
    let again := o.rx.isEmpty && o.last.isSome
    let slip := again || o.slipped
    let f := match o.rx with
      | x :: _ => some x
      | [] => o.last
    let d := modLn p (fun l => { l with ohx := { l.ohx with
      rx := o.rx.drop 1, slipped := false, last := f, count := (o.count + 1) % 65536
      out := if lrOhxEn (lineRec d p) then ohxFrame (lineRec d p) f valid slip o.count else o.out } }) d
    gate again (ohxSlip p false) d

/-- OHX_IN_FRAME: an input frame of 40 bytes; `start` when its pulse stands where R235 allows it. One with a wrong CRC leaves its place
empty: the system frame that would have used it takes no OHX bytes. -/
def ohxIn (p : Nat) (start : Bool) (b : Bytes) (d : Dev) : Dev :=
  if !lineOn d p || !lrOhxEn (lineRec d p) || !start || b.length != 40 then d
  else if u16 b 38 ≠ crcCcitt (b.take 38) then
    satCtr (.lineOhxErr p) 15 0 1 (modLn p (fun l => { l with ohx := { l.ohx with
      inq := if l.ohx.inq.length < 2 then l.ohx.inq ++ [none] else l.ohx.inq } }) d)
  else
    let q := (ln d p).ohx.inq
    let over_ := decide (q.length ≥ 2)
    let d := modLn p (fun l => { l with ohx := { l.ohx with
      inq := (if over_ then q.drop 1 else q) ++ [some b], idle := 0 } }) d
    let d := gate over_ (ohxSlip p true) d
    if fstat d p 13 then
      evtLine 0x0503 p p (be 4 (reg d (.lineOhxSlip p)).toNat) (setLine p 13 false d)
    else d

/-- OHX_IN_LOS: no input frame for 16 system frames (R235). -/
def ohxLos (p : Nat) (d : Dev) : Dev :=
  if !lineOn d p || !lrOhxEn (lineRec d p) || fstat d p 13 || decide ((ln d p).ohx.idle < 16) then d
  else evtLine 0x0503 p p (be 4 (reg d (.lineOhxSlip p)).toNat) (setLine p 13 true d)

/-- The input slip buffer is read for a system frame: the frame whose bytes may be inserted, and the device (R235, R236). -/
def ohxTake (p : Nat) (d : Dev) : Option Bytes × Dev :=
  if !lrOhxEn (lineRec d p) then (none, d)
  else
    let o := (ln d p).ohx
    let d := modLn p (fun l => { l with ohx := { l.ohx with idle := l.ohx.idle + 1, inq := o.inq.drop 1 } }) d
    let use (b : Bytes) : Option Bytes := if wbit b 1 0 && !fstat d p 13 then some b else none
    match o.inq with
      | some b :: _ => (use b, modLn p (fun l => { l with ohx := { l.ohx with lastIn := some b } }) d)
      | none :: _ => (none, d)
      | [] => match o.lastIn with
        | some b => (use b, ohxSlip p true d)
        | none => (none, d)

/-! ### The transmitted frame (R209, R221, R391) -/

/-- What counts the frames that a layer is sent in: OTUC frames of its line port, or epochs at a client. -/
def frameNo (d : Dev) (kind obj : Nat) : Nat :=
  if kind ≤ 2 ∧ 4 ≤ obj then now d
  else let l := ln d (if kind ≤ 2 then obj else lineOf obj); l.txMf * 256 + l.txMfas

/-- Overhead that the port generates for one layer (R221, R391): one BEI for each received frame, in its order. The TTI is all zeros
without a point or without SRC_EN (R384; log entry 55). IAE is 0 and STAT 0b001: no rule has the device send another at a level that it
generates. The BIP-8 is over bytes that State does not hold, a free value (log entry 177). -/
def layerTx (d : Dev) (kind level obj : Nat) : LayerTx :=
  let l := layer d (lkey kind level false obj)
  let r := (pointOn d kind level false obj).map (·.2)
  let on (f : Bytes → Bool) : Bool := (r.map f).getD false
  let bdi :=
    if kind = 1 then match objClient obj with
      | some i => clientSsf d i || on fun r => mpTimAct r && timOf r l
      | none => lineFail d obj
    else ssfOf d kind false obj || meets l.raw 0x7000 || (meets l.raw 0x8000 && on mpSrc) || on fun r => mpTimAct r && timOf r l
  let biae := meets l.raw (2 ^ 27)
  { key := lkey kind level false obj, bdi := bdi, biae := biae, bei := if biae then [] else l.bei.headD []
    bip := (List.range (if kind ≤ 2 then 16 else 1)).map fun k => Config.bip8 (lkey kind level false obj) (frameNo d kind obj) k % 256
    tti := match r with
      | some b => if mpSrc b then mpTxTti b else zeros 64
      | none => zeros 64 }

/-- The layers that a port generates: its SECTION and ODUC, the PATH of containers whose ODU is made here, and TCM points with
SRC_EN (R391). -/
def portLayers (d : Dev) (p : Nat) : List LayerTx :=
  let cs := (contsNow d).filter fun e => lineOf e.1 == p && (tget {} d.cont e.1).up
  [layerTx d 1 0 p, layerTx d 2 0 p]
    ++ (cs.filter fun e => ctPayload e.2 != 1 && ctPayload e.2 != 2).map (fun e => layerTx d 3 0 e.1)
    ++ cs.flatMap fun e => ((List.range 6).filter fun k => match pointOn d 4 (k + 1) false e.1 with
      | some (_, r) => mpSrc r
      | none => false).map fun k => layerTx d 4 (k + 1) e.1

/-- The layers that an OTN client port generates towards its client: SM, and of an OTN_DEMUX port the PM of its ODUCn (R381, R391). -/
def clientLayers (d : Dev) (i : Nat) : List LayerTx :=
  let mode := cpMode (cpOf d i)
  if !hasPort d i || decide (mode < 2) then []
  else layerTx d 1 0 (0x100 + i) :: if mode = 3 then [layerTx d 2 0 (0x100 + i)] else []

/-- The container that a slot of the transmitted frame carries: none where it is unassigned or unavailable, or its container is
preempted (R249, R351, R352). -/
def slotOwner (d : Dev) (p i : Nat) : Option Nat :=
  if (rz d p).txMap.testBit i then (tfind (ln d p).cal i).filter fun c => !(tget {} d.cont c).pre else none

/-- TPN of each slot in the MSI (R249, R351, R352). -/
def portMsi (d : Dev) (p : Nat) : List Nat :=
  (List.range 320).map fun i => ((slotOwner d p i).map fun c => ctTpn (ctRec d c)).getD 0

/-- The byte that fills each slot that no container does: 0x00, and all ones in an available one in the FATAL safe state (R110, R249,
R351, R352). -/
def portFill (d : Dev) (p : Nat) : List (Option Byte) :=
  (List.range 320).map fun i =>
    if (slotOwner d p i).isSome then none else some (if muted d && (rz d p).txMap.testBit i then 0xFF else 0)

/-- A LO container enters its parent by AMP (R246). -/
def byAmp (d : Dev) (c : Nat) : Bool :=
  let r := ctRec d c
  !ctDirect r && ampPair (ctType r) (ctType (ctRec d (ctParent r)))

/-- The justification stages of a container that the mapper decides, with the procedure of each: 0 GMP, 1 AMP, 2 IMP. Stage 0 is into
the container, stage 1 into its parent; BMP and PAYLOAD 1 need none (R244, R246, R255). -/
def justStages (d : Dev) (c : Nat) : List (Nat × Nat) :=
  let r := ctRec d c
  if ctPayload r = 1 ∨ (ctPayload r = 0 ∧ ctType r = 3) then []
  else (if ctPayload r = 0 then [(0, if ctType r = 5 then 0 else 2)] else []) ++ [(1, (byAmp d c).toNat)]

/-- The JUST record that a standby has for a stage of a container's next frame. -/
def justRec (d : Dev) (c stage : Nat) : Option (Nat × Nat × Nat × Nat) :=
  (d.mate.just.find? fun j => j.cont == c && j.mfn == mfnOf d c && j.stage == stage).map fun j => (j.stage, j.proc, j.cm, j.cnd)

/-- The mapper's own decisions for a container, of the procedures that its stages run. -/
def justOwn (x : OduTx) (d : Dev) : List (Nat × Nat × Nat × Nat) :=
  x.just.filter fun j => (justStages d x.cont).contains (j.1, j.2.1)

/-- The decisions that govern the next frame of a container, stage by stage: on a standby that of its JUST record, in place of its own
(R255). -/
def justFor (x : OduTx) (d : Dev) : List (Nat × Nat × Nat × Nat) :=
  (justStages d x.cont).filterMap fun s =>
    let own := (justOwn x d).find? fun j => j.1 == s.1
    if following d then (justRec d x.cont s.1).orElse fun _ => own else own

/-- The active forwards its decisions, and IMP insertions and deletions are counted (R255, R270). -/
def justSent (x : OduTx) (d : Dev) : Dev :=
  let m := mfnOf d x.cont
  let l := justFor x d
  let d := (justOwn x d).foldl (fun d j => fwd kJust x.cont m (be 1 j.1 ++ be 1 j.2.1 ++ be 2 j.2.2.1 ++ be 2 j.2.2.2) d) d
  let d := l.foldl (fun d j =>
    if j.2.1 = 2 then
      let v := s16 j.2.2.2
      cctrAdd (x.cont * 8 + 5) v.toNat (cctrAdd (x.cont * 8 + 6) (-v).toNat d)
    else d) d
  modMate (fun m' => { m' with just := m'.just.filter fun j => j.cont != x.cont || j.mfn != m }) d

/-- The byte of a maintenance signal: ODU-AIS, ODU-LCK, ODU-OCI (R258). -/
def sigFill (sig : Nat) : Option Byte :=
  if sig = 1 then some 0xFF else if sig = 2 then some 0x55 else if sig = 3 then some 0x66 else none

/-- The extended-frame-counter record whose bytes 0 and 1 go in the frame of count fc (R266). -/
def extBytes (r : Bytes) (fc : Nat) : Bytes :=
  let b := be 4 fc ++ be 2 (ctTag r)
  b ++ be 2 (crcCcitt b)

/-- The container whose source the frames of a container carry: of the copy of a bridged pair, the other (R261). -/
def sourceCont (d : Dev) (c : Nat) : Nat := if rb d (.xcCstat c) 6 then (partnerOf d.prov.serv c).getD c else c

/-- The EXP bytes of an ODU frame of count fc, copied whole from the source of a bridged pair (R261): a maintenance signal takes
the place of the record; without EXTFC_EN those of a client's ODUk pass (none) and others are 0x00 (R265). -/
def expSent (d : Dev) (c fc : Nat) : Option Bytes :=
  let r := ctRec d (sourceCont d c)
  match sigFill (rf d (.xcCstat c) 15 13) with
  | some b => some [b, b]
  | none =>
    if ctExtFc r then some (slice (extBytes r (fc - fc % 4)) (2 * (fc % 4)) 2)
    else if ctPayload r = 1 ∨ ctPayload r = 2 then none else some [0, 0]

/-- The EXP bytes handed to an OTN client (R265). -/
def expEgress (d : Dev) (c : Nat) : Option Bytes := if ctPayload (ctRec d c) = 1 ∨ ctPayload (ctRec d c) = 2 then some [0, 0] else none

/-- FC at the first frame that carries it: that frame's MFAS; the copy of a bridged pair takes the count that its partner has
(R261, R265; log entry 149). -/
def fcStart (d : Dev) (c first : Nat) : BitVec 32 := match connOf d c with
  | some (_, _, q) =>
    let e := (tget {} d.cont q).ext
    if rb d (.xcCstat c) 6 && e.run then e.fc else BitVec.ofNat 32 first
  | none => BitVec.ofNat 32 first

/-- ODU frames of a container are sent: its counter, its frame count and its mirror frame number (R265, R270, R454). The units
of a packet container count MFN where they are assembled. -/
def oduSent (x : OduTx) (d : Dev) : Dev :=
  let c := x.cont
  let y := tget {} d.cont c
  if !y.up || x.frames == 0 then d
  else
    let r := ctRec d c
    let first := if ctPayload r = 1 ∨ ctPayload r = 2 then x.mfas % 256 else 0
    let fc := if y.ext.run then y.ext.fc else fcStart d c first
    let e := if !ctExtFc (ctRec d (sourceCont d c)) then { y.ext with run := false, fc := 0 }
      else { y.ext with run := true, fc := fc + BitVec.ofNat 32 x.frames }
    let d := justSent x d
    let exp := expSent d c (fc.toNat + x.frames - 1)
    let d := cctrAdd (c * 8) x.frames { d with cont := tset d.cont c { y with ext := e, just := none, exp := exp } }
    gate (!isPkt r) (modMate fun m => { m with mfn := tmod 0 m.mfn c fun k => (k + x.frames) % 2 ^ 32 }) d

/-- The payload type in the container's own PSI as sent (R244, R257, R273, R274): GFP-F takes the place of ZPC in its fallback, and the
NULL test signal is PT 0xFD (R418). -/
def ptSent (d : Dev) (c : Nat) : Option Nat :=
  let r := ctRec d c
  if nullSent d c then some 0xFD
  else if isZpc r && !carriesZpc d c && pcFallback (pcRec d c) then some ptGfp else expPt r

/-- What a container sends (R244, R258, R260, R265). -/
def contTx (d : Dev) (c : Nat) : ContTx :=
  let r := ctRec d c
  let sig := rf d (.xcCstat c) 15 13
  let passes := ctPayload r == 1 || ctPayload r == 2
  { cont := c, fill := sigFill sig
    stat := if sig = 1 then some 7 else if sig = 2 then some 5 else if sig = 3 then some 6 else if passes then none else some 1
    pt := if (sigFill sig).isSome then none else ptSent d c
    csf := ctPayload r == 0 && rb d (.xcCstat c) 5
    msi := if ctPayload r = 5 then (List.range (hoSlots (ctType r))).map fun t =>
      (((membersNow d c).find? fun e => ctHoTs e.2 t).map fun e => ctTpn e.2).getD 0 else []
    exp := (tget {} d.cont c).exp
    aps := (pgOn d c).map fun g => (apsLevel (pgRec d g), apsSent d g) }

/-! ### The overhead bytes of a sent frame (R209, R215, R221, R233, R236) -/

/-- The value of a byte that OHX may insert: of the enabled entries that name it the highest-numbered is used; 0x00 where none is, or
no input frame (R221, R233, R236). -/
def ohxByte (f : TxFrame) (inst row col : Nat) : Byte := match f.ohx with
  | none => 0
  | some b => match ((List.range 32).reverse.find? fun i => ohxEntry f.rec_ 96 i == (true, inst, row, col)) with
    | some i => b.getD (2 + i) 0
    | none => 0

/-- Byte k of the SM (kind 1) or the ODUC PM (kind 2) of an instance: the TTI byte of the frame, in the first instance alone, BIP-8, then
BEI or BIAE with BDI and IAE or STAT (R221, R391; the places of G.709, PRESUMED, log entry 177). -/
def layerByte (f : TxFrame) (kind inst k : Nat) : Option Byte := (f.layers[kind - 1]?).map fun l =>
  if k = 0 then if inst = 0 then l.tti.getD (f.mfas % 64) 0 else 0
  else if k = 1 then BitVec.ofNat 8 (l.bip.getD inst 0)
  else BitVec.ofNat 8 ((if l.biae then 0xB else l.bei.getD inst 0) * 16 + l.bdi.toNat * 8
    + if kind = 1 then l.iae.toNat * 4 else l.stat)

/-- An overhead byte of a sent frame, instance, row and column from 0: FAS and MFAS, SM and PM, the resize channel and the beacon in EXP
of instances 1 and 2, the bytes of OHX, and 0x00 in OSMC, APS/PCC and the TCMs of the ODUC, which no monitoring point can watch (R381).
None in the OPUC overhead, of which `msi` and `avail` hold what the device decides. -/
def txOverhead (f : TxFrame) (inst row col : Nat) : Option Byte :=
  if row = 0 ∧ 7 ≤ col ∧ col < 10 then (layerByte f 1 inst (col - 7))
  else if row = 2 ∧ 9 ≤ col ∧ col < 12 then (layerByte f 2 inst (col - 9))
  else if (row = 1 ∧ 4 ≤ col ∧ col < 13) ∨ (row = 2 ∧ col < 9) then some 0
  else if row = 0 ∧ col < 6 then some (fasBytes.getD col 0)
  else if row = 0 ∧ col = 6 then some (BitVec.ofNat 8 f.mfas)
  else if row = 2 ∧ (col = 12 ∨ col = 13) ∧ inst < 2 then some ((if inst = 0 then f.exp1 else f.exp2).getD (col - 12) 0)
  else if ohxInOk inst row col then some (ohxByte f inst row col)
  else if (row = 0 ∧ col = 12) ∨ (row = 3 ∧ 4 ≤ col ∧ col < 8) then some 0
  else none

/-- The FlexO overhead of the 16 instances: TX_GID, the instance number, RPF while FLEXO_LOF is live, channels of zeros, CRC. -/
def flexTx (d : Dev) (p : Nat) : List FlexTx :=
  let gid := lrTxGid (txFlexRec d p)
  let rpf := fstat d p 3
  (List.range 16).map fun k => { id := k, gid := gid, rpf := rpf, crc := Config.flexoCrc k gid rpf }

/-- Logical lanes through TX_MAP and TX_POL: the physical lane of each, and whether it is inverted. -/
def flexLanes (d : Dev) (p : Nat) : List (Nat × Bool) :=
  let r := txFlexRec d p
  (List.range 8).map fun i => (mapNibble (lrTxMap r) i, nbit (lrTxPol r) i)

/-- One OTUC frame period, and one FlexO frame period, in a common unit (R208). The first OTUC frame of a port starts with a FlexO frame
(DESIGN CHOICE, log entry 151). -/
def flexStep : Nat := 122368 * 111809973
def flexLen : Nat := 696320 * 105258138

/-- LINE_TX_FRAME: the transmitter sends the next OTUC16 frame, ns into the epoch. Its FlexO fields change at the FlexO frame boundary
(R210), a beacon is that of its first frame (R223), and so is a message of the resize channel (R358). -/
def lineTxFrame (p ns : Nat) (odu : List OduTx) (d : Dev) : Dev :=
  if !lineOn d p then d
  else
    let d := rszTick p ns d
    let m := (ln d p).txMfas
    let (ohx, d) := ohxTake p d
    let r := lineRec d p
    -- the FlexO fields stay as they were until the FlexO frame boundary that lies in this frame, where one does (R210)
    let at_ := (ln d p).flexPos + flexStep
    let cross := decide (flexLen ≤ at_)
    let fx := flexTx d p
    let lanes := flexLanes d p
    let d := modLn p (fun l => { l with
      flexPos := at_ % flexLen
      txRec := if cross || l.txRec.isNone then some r else l.txRec
      txMsg := if m % 32 = 0 ∨ l.txMsg = [] then rszMessage d p else l.txMsg
      txBeacon := if m % 16 = 0 ∨ l.txBeacon = [] then beaconBytes d p else l.txBeacon }) d
    let d := (odu.filter fun x => lineOf x.cont == p).foldl (fun d x => oduSent x d) d
    let f : TxFrame := {
      mfas := m, rec_ := r, exp1 := slice (ln d p).txMsg (2 * (m % 32)) 2
      exp2 := if lrBeaconTx r then slice (ln d p).txBeacon (2 * (m % 16)) 2 else [0, 0]
      ohx := ohx, msi := portMsi d p, avail := (rz d p).txMap, fill := portFill d p, fatal := muted d
      fx := fx, lanes := lanes, fxNext := if cross then some (flexTx d p, flexLanes d p) else none
      conts := ((contsNow d).filter fun e => lineOf e.1 == p && (tget {} d.cont e.1).up && !(tget {} d.cont e.1).pre).map fun e => contTx d e.1
      layers := portLayers d p }
    let d := f.layers.foldl (fun d l => modLayer l.key (fun y => { y with bei := y.bei.drop 1 }) d) d
    let d := modLn p (fun l => { l with
      tx := f, txMfas := (m + 1) % 256, txMf := if m = 255 then l.txMf + 1 else l.txMf }) d
    count (6 + p) (ctrLine p 11) (slotOctets (busySlots d p (rz d p).txMap) m) d

end Sys2Proof.Machine
end

