-- ==== Sys2Proof/Machine/Client.lean ====
section
/-! DEFINITION. The client ports: lanes, defects, received and sent frames, ESMC, patterns (R183 to R207, R326). -/

namespace Sys2Proof.Machine

/-- The client block of slice n runs. -/
def clientOn (d : Dev) (n : Nat) : Bool := decide (n ≤ 3) && domReady d (10 + n)

/-- The client block of port i runs and the port is provisioned. -/
def portOn (d : Dev) (i : Nat) : Bool := decide (i < 64) && hasPort d i && domReady d (10 + i / 16)

/-- The port that owns lane k of slice n (R205). -/
def laneOwner (d : Dev) (n k : Nat) : Option Nat :=
  ((List.range 16).find? fun p => match serv d 1 (n * 16 + p) with
    | some b => (cpLaneList b).contains k
    | none => false).map (n * 16 + ·)

/-! ### Lanes (R193, R205, R211, R239) -/

/-- LANE_SIGNAL_DETECT of a client lane: without signal the lane is neither locked nor adapted; an unprovisioned lane is powered
down (R188). -/
def clientSignal (n k : Nat) (v : Bool) (d : Dev) : Dev :=
  if !clientOn d n || (laneOwner d n k).isNone then d
  else
    let d := setRb (.cliLstat n k) 0 v d
    gate (!v) (fun d => setRb (.cliLstat n k) 1 false (setRb (.cliLstat n k) 2 false d)) d

/-- The same of a line lane. -/
def lineSignal (p k : Nat) (v : Bool) (d : Dev) : Dev :=
  if !lineOn d p || decide (8 ≤ k) then d
  else
    let d := setRb (.lineLstat p k) 0 v d
    gate (!v) (fun d => setRb (.lineLstat p k) 1 false (setRb (.lineLstat p k) 2 false d)) d

/-- LOL of a client port: a lane's CDR is out of lock (R194). -/
def showLol (i : Nat) (d : Dev) : Dev :=
  setDefect i 1 ((cpLaneList (cpOf d i)).any fun k => !rb d (cliLane i k) 1) d

/-- LANE_SIGNAL_DETECT (R193, R211): `line` selects a line lane. -/
def laneSignal (line : Bool) (n k : Nat) (v : Bool) (d : Dev) : Dev :=
  if line then lineSignal n k v d
  else
    let d := clientSignal n k v d
    match laneOwner d n k with
    | some i => gate (clientOn d n) (showLol i) d
    | none => d

/-- LANE_CDR_LOCK: the CDR of a lane with signal locks (R193). -/
def laneCdr (line : Bool) (n k : Nat) (d : Dev) : Dev :=
  if line then if lineOn d n && decide (k < 8) && rb d (.lineLstat n k) 0 then setRb (.lineLstat n k) 1 true d else d
  else match laneOwner d n k with
    | some i => if clientOn d n && rb d (.cliLstat n k) 0 then showLol i (setRb (.cliLstat n k) 1 true d) else d
    | none => d

/-- LANE_ADAPTED: a locked lane's receiver has adapted (R193, R211). -/
def laneAdapted (line : Bool) (n k : Nat) (d : Dev) : Dev :=
  if line then if lineOn d n && decide (k < 8) && rb d (.lineLstat n k) 1 then setRb (.lineLstat n k) 2 true d else d
  else match laneOwner d n k with
    | some _ => if clientOn d n && rb d (.cliLstat n k) 1 then setRb (.cliLstat n k) 2 true d else d
    | none => d

/-- CLIENT_LOS_CHANGE: LOS of a port (R194). -/
def clientLos (i : Nat) (v : Bool) (d : Dev) : Dev := if portOn d i then setDefect i 0 v d else d

/-- One frame period at the framer of an OTN client: the FAS of its n instances decides, the single one of an OTUk; a candidate may open
at any bit position (R216 to R218). -/
def otnStep (n : Nat) (f : Framer) (l : List FasObs) : Framer :=
  if f.inFrame then
    let o := obsAt l f.pos
    let bad := if o.agrees n then 0 else f.bad + 1
    if bad ≥ 5 then { ret := some f.pos } else { f with bad := bad, mfas := if bad = 0 then o.mfas else (f.mfas + 1) % 256 }
  else
    let good := match f.ret with
      | some r => if (obsAt l r).agrees n then f.retGood + 1 else 0
      | none => 0
    let cs := stepCands n l f.ret f.cands
    match (f.ret.filter fun _ => decide (good ≥ 2)).orElse fun _ => (cs.find? fun c => c.n == 2).map (·.pos) with
    | some q => { inFrame := true, pos := q, mfas := (obsAt l q).mfas }
    | none => { f with retGood := good, cands := cs }

/-- Frame periods of an OTN client: LOBL is OOF (R194). LOS and LOL leave no retained position (R217). -/
def otnFrames (i : Nat) (frames : List (List FasObs)) (d : Dev) : Dev :=
  if frames.isEmpty || decide (cpMode (cpOf d i) < 2) then d
  else
    let n := otuInstances (cpOf d i)
    let start := if pstat d i 0 || pstat d i 1 then {} else (cliOf d i).fr
    let f := frames.foldl (otnStep n) start
    setDefect i 2 (!f.inFrame) (modCli i (fun c => { c with fr := f }) d)

/-- CLIENT_DEFECT_CHANGE: a defect of R194 other than LOS, or overhead and frames of an OTN client (R216, R386). Bit 0 to 13 is a bit of
SLn_CLI_PSTATp; 32 + b is bit b of R386 of an OTN client. A row with bit 63 carries overhead or frames alone. -/
def clientDefect (i bit_ : Nat) (v : Bool) (x : ClientRx) (d : Dev) : Dev :=
  if !portOn d i then d
  else
    let d := otnFrames i x.frames (x.layers.foldl (fun d x => layerRx x d) d)
    if [2, 3, 4, 13].contains bit_ then setDefect i bit_ v d
    else if bit_ = 6 ∨ bit_ = 7 then modCli i (fun c => { c with faultSeen := nputBit c.faultSeen bit_ v }) d
    else if [3 + 32, 4 + 32, 5 + 32, 6 + 32, 7 + 32, 24 + 32].contains bit_ then
      modCli i (fun c => { c with otn := nputBit c.otn (bit_ - 32) v }) d
    else d

/-- CLIENT_FAULT_RX: LF_RX or RF_RX as the reconciliation sublayer sees it on a PACKET port (R196). -/
def clientFault (i : Nat) (lf rfv : Bool) (d : Dev) : Dev :=
  if !portOn d i || cpMode (cpOf d i) != 1 then d
  else modCli i (fun c => { c with faultSeen := nputBit (nputBit c.faultSeen 6 lf) 7 rfv }) d

/-! ### Received frames (R185) -/

/-- A frame meets the conditions of R198 but for its FCS. -/
def isEsmc (b : Bytes) : Bool :=
  u48 b 0 == 0x0180C2000002 && u16 b 12 == 0x8809 && u8 b 14 == 0x0A && u8 b 15 == 0 && u16 b 16 == 0x19A7 && u16 b 18 == 1

/-- The MAC of a PACKET port takes a whole frame from DA to FCS, ns into the epoch; the FCS decides whether it is errored. It forwards
no ESMC PDU, whatever ESMC_EN is (R185; log entry 52). -/
def macIngress (i : Nat) (b : Bytes) (ns : Nat) (d : Dev) : Dev :=
  let r := cpOf d i
  let n := 10 + i / 16
  if !portOn d i || cpMode r != 1 || clientFailed d i then d
  else
    let d := count n (ctrClient i 0) 1 (count n (ctrClient i 1) b.length d)
    let bad := !fcsGood b
    if b.length < 64 then count n (ctrClient i 4) 1 d
    else if b.length > cpMaxFrame r then count n (ctrClient i 5) 1 d
    else
      let d := gate bad (count n (ctrClient i 6) 1) d
      if isEsmc b && !bad then d
      else if !domReady d (14 + i / 16) then d
      else
        let d := count (14 + i / 16) (ctrSlice (i / 16) 0) 1 d
        match classify d (i / 16) (i % 16) b with
        | none => count n (ctrClient i 7) 1 d
        | some f => admitFrame i f bad (now d * 1000000 + ns) b d

/-- MAC_FRAME_RX: a frame from the SerDes; under a DEVICE loopback the ingress is the egress stream instead (R202). -/
def macFrameRx (i : Nat) (b : Bytes) (ns : Nat) (d : Dev) : Dev :=
  if cpLoop (cpOf d i) = 2 then d else macIngress i b ns d

/-! ### ESMC (R198 to R200, R502) -/

/-- The quality level of a PDU; none without a valid QL TLV. The TLV layout is that of G.8264 (log entry 18). -/
def esmcQl (b : Bytes) : Option Ql :=
  if u8 b 24 ≠ 1 ∨ u16 b 25 ≠ 4 then none
  else
    let ext := u8 b 28 == 2 && u16 b 29 == 0x14
    some { failed := false, ssm := u8 b 27 % 16, event := (u8 b 20).testBit 3, ext := ext,
           essm := if ext then u8 b 31 else 0, clockId := if ext then slice b 32 8 else [],
           eeec := if ext then u8 b 41 else 0, eec := if ext then u8 b 42 else 0 }

/-- The parser of a port with ESMC_EN takes a frame that meets R198. The report of a rejected PDU carries SSM 0x0F and zeros, as those of
REASON 2 and 4 do (DESIGN CHOICE, log entry 182). -/
def esmcParse (i : Nat) (b : Bytes) (d : Dev) : Dev :=
  let n := 10 + i / 16
  if !portOn d i || !cpEsmc (cpOf d i) || clientFailed d i || !isEsmc b || !fcsGood b then d
  else match esmcQl b with
    | none =>
      let d := count n (ctrClient i 9) 1 d
      if assisted d 9 i then esmcReport i 3 {} d else d
    | some q =>
      let d := count n (ctrClient i 8) 1 (modCli i (fun c => { c with pdus := c.pdus + 1 }) d)
      let d := setPort i 11 false d
      if assisted d 9 i then esmcReport i 1 q d
      else if isFrozen d 9 i then d
      else setQl i q d

/-- ESMC_PDU_RX: a frame from the SerDes. -/
def esmcRx (i : Nat) (b : Bytes) (d : Dev) : Dev := if cpLoop (cpOf d i) = 2 then d else esmcParse i b d

/-- A frame leaves the MAC of a port; a DEVICE loopback makes it ingress, at a free time in the epoch (R202; log entry 4). -/
def macSend (i : Nat) (b : Bytes) (d : Dev) : Dev :=
  let n := 10 + i / 16
  let d := count n (ctrClient i 2) 1 (count n (ctrClient i 3) b.length (modCli i (fun c => { c with sent := b }) d))
  gate (cpLoop (cpOf d i) == 2) (fun d => macIngress i b (Config.freeNs d.time.stamps % 1000000) (esmcParse i b d)) d

/-- ESMC_TIMEOUT: 5 s without a valid PDU (R199). -/
def esmcTimeout (i : Nat) (d : Dev) : Dev :=
  if !portOn d i || !cpEsmc (cpOf d i) then d else qlFail i 2 (setPort i 11 true d)

/-- A decision of function 9 (R200). -/
def decideEsmc (i : Nat) (b : Bytes) (d : Dev) : Dev :=
  if !hasPort d i then d
  else setQl i { (cliOf d i).ql with failed := false, ssm := u8 b 0 % 16, essm := u8 b 1, ext := true } d

/-- FUNC_REINIT of a parser (R180): QL-FAILED until the next PDU. -/
def reinitEsmc (i : Nat) (d : Dev) : Dev := setQl i {} (modCli i (fun c => { c with reported := none }) d)

/-- The bytes of an ESMC PDU (R502), with its FCS. -/
def esmcPdu (q : Ql) (event : Bool) : Bytes :=
  let b := be 6 0x0180C2000002 ++ be 6 0 ++ be 2 0x8809 ++ be 1 0x0A ++ be 3 0x0019A7 ++ be 2 1
    ++ be 1 (0x10 + event.toNat * 8) ++ zeros 3 ++ be 1 1 ++ be 2 4 ++ be 1 q.ssm
    ++ be 1 2 ++ be 2 0x14 ++ be 1 q.essm ++ fit 8 q.clockId ++ [0] ++ be 1 q.eeec ++ be 1 q.eec ++ zeros 5
  let b := fit 60 b
  b ++ fcsOf b

/-- One PDU is inserted at a frame boundary of a PACKET port (R200, R502). -/
def esmcSend (i : Nat) (event : Bool) (d : Dev) : Dev :=
  if !portOn d i || cpMode (cpOf d i) != 1 || !cpEsmc (cpOf d i) || !domReady d 3 || (cliOf d i).txSig != 0 then d
  else
    let q := esmcLevel d i
    let b := esmcPdu q event
    let n := 10 + i / 16
    macSend i b (count n (ctrClient i 10) 1 (modCli i (fun c => { c with lastTx := some q, eventDue := c.eventDue && !event }) d))

/-- ESMC_INFO_PDU_TX: an event PDU that is due goes first. -/
def esmcInfo (i : Nat) (d : Dev) : Dev := esmcSend i false (gate (cliOf d i).eventDue (esmcSend i true) d)

/-- Every event PDU that is due is inserted (R200): within 200 ms of the change, here at the epoch boundary. -/
def esmcEvents (d : Dev) : Dev :=
  ((objs d.prov.serv 1).filter fun i => (cliOf d i).eventDue).foldl (fun d i => esmcSend i true d) d

/-! ### Patterns (R201) -/

/-- PRBS_CHECKER_LOCK: the checker of a lane locks or unlocks, with the errored bits it counted while locked. -/
def prbsLock (n k : Nat) (v : Bool) (errs : Nat) (d : Dev) : Dev :=
  match laneOwner d n k with
  | none => d
  | some i =>
    if !clientOn d n || cpPatRx (cpOf d i) == 0 then d
    else
      let d := gate (rb d (.cliLstat n k) 3) (satCtr (.cliPrbsCnt n k) 31 0 errs) d
      if rb d (.cliLstat n k) 3 == v then d else evtCli 0x0606 n i (be 1 k) (setRb (.cliLstat n k) 3 v d)

/-! ### Sent frames (R326) -/

/-- The highest class with a frame at a port. -/
def egressClass (d : Dev) (n p : Nat) : Option Nat :=
  ((List.range 8).map (7 - ·)).find? fun k => (qReadable (egQ d n (p * 8 + k))).isSome

/-- EGRESS_FRAME_TX: the MAC takes one whole frame by strict priority and sends it (R326); with no eligible queue it stalls and sends idle
(R319). -/
def egressTx (i : Nat) (d : Dev) : Dev :=
  let n := i / 16
  let p := i % 16
  if !portOn d i || cpMode (cpOf d i) != 1 || !domReady d (14 + n) || (cliOf d i).txSig != 0 then d
  else match egressClass d n p with
    | none => count (14 + n) (ctrSlice n 4) 1 d
    | some k =>
      let j := p * 8 + k
      match qReadable (egQ d n j) with
      | none => d
      | some x =>
        let d := afterRead n true j (modQueue n true j qRead d)
        macSend i x.bytes (count (14 + n) (ctrEgq (n * 128 + j) 0) 1 d)

/-! ### Commits (R192) -/

/-- A change of these fields restarts a port (R192). -/
def restarts (a b : Bytes) : Bool :=
  cpType a != cpType b || cpMode a != cpMode b || cpFirst a != cpFirst b || cpFec a != cpFec b || u8 a 13 != u8 b 13
    || slice a 16 10 != slice b 16 10

/-- The checker of a lane of port i unlocks (R206). -/
def prbsUnlock (i k : Nat) (d : Dev) : Dev :=
  gate (rb d (cliLane i k) 3) (fun d => evtCli 0x0606 (i / 16) i (be 1 k) (setRb (cliLane i k) 3 false d)) d

/-- The lanes of a record of port i go down; they belong to no port (R192, R205). -/
def lanesDown (i : Nat) (r : Bytes) (d : Dev) : Dev :=
  (cpLaneList r).foldl (fun d k => setReg (cliLane i k) 0x1F00 (prbsUnlock i k d)) d

/-- The lanes of a record belong to port i; they adapt anew, and their CDRs are out of lock until then (R194). -/
def lanesUp (i : Nat) (r : Bytes) (d : Dev) : Dev :=
  showLol i ((cpLaneList r).foldl (fun d k => setRf (cliLane i k) 12 8 (i % 16) d) d)

/-- A port deleted: its live bits read 0 (R204), and its received quality level is gone. -/
def portGone (i : Nat) (d : Dev) : Dev :=
  let was := pstat d i 15
  let live := rf d (cliStat i) 13 0
  let d := setReg (cliStat i) (reg d (cliStat i) &&& 0xFFFF0000) d
  let d := gate (live != 0) (evtCli 0x0603 (i / 16) i (be 2 0)) (gate was (evtCli 0x0602 (i / 16) i []) d)
  let d := setQl i {} d
  { d with cli := tdel d.cli i }

/-- The lanes that the ports of a commit leave go down, before any port takes its own (R192, R205). -/
def portLeave (i : Nat) (old new : Option Bytes) (d : Dev) : Dev :=
  if !clientOn d (i / 16) then d
  else match old, new with
    | some a, none => lanesDown i a d
    | some a, some b => gate (restarts a b) (lanesDown i a) d
    | none, _ => d

/-- A client-port record enters service: it is new, changed or deleted (R192, R522). A restart unlocks the CDRs, so LOL fails the
quality level (R199). A change of PATTERN_RX alone unlocks the checkers (DESIGN CHOICE, log entry 168). -/
def portCommit (i : Nat) (old new : Option Bytes) (d : Dev) : Dev :=
  if !clientOn d (i / 16) then d
  else match old, new with
    | none, none => d
    | some _, none => portGone i d
    | none, some b => lanesUp i b (zeroObj (ctrClient 0 0) i 16 ({ d with cli := tset d.cli i {} }))
    | some a, some b =>
      if a = b then d
      else if restarts a b then lanesUp i b d
      else gate (cpPatRx a != cpPatRx b) (each (cpLaneList b) (prbsUnlock i)) d

/-- Every port of a re-woken client block restarts (R207): its lanes are named again. -/
def portsRestart (n : Nat) (d : Dev) : Dev :=
  (slicePorts d.prov.serv n).foldl (fun d e => lanesUp (n * 16 + e.1) e.2 d) d

end Sys2Proof.Machine
end

