-- ==== Sys2Proof/Machine/Mapper.lean ====
section
/-! DEFINITION. The containers in the mapper and XC: the R251 frame, justification, the extended frame counter, CSF and the G.7044
resize (R250 to R272, R355). -/

namespace Sys2Proof.Machine

def contOf (d : Dev) (c : Nat) : Cont := tget {} d.cont c
def modCont (c : Nat) (f : Cont → Cont) (d : Dev) : Dev := { d with cont := tmod {} d.cont c f }

/-- A container that runs, with XC ready. -/
def contOn (d : Dev) (c : Nat) : Bool := (contOf d c).up && domReady d 22

/-! ### G.7044 resize (R263, R264) -/

def flexNo : FlexState → Nat
  | .idle => 0 | .lcrInc => 1 | .bwrUp => 2 | .bwrDown => 3 | .lcrDec => 4

/-- A state of the resize, with ODUFLEX_RESIZE: 0 in progress, 1 done, 2 refused, 3 timeout, 4 deleted (R263, R271). -/
def setFlex (c : Nat) (st : FlexState) (result : Nat) (d : Dev) : Dev :=
  let d := modCont c (fun x => { x with flex := st, acked := false }) d
  evtXc 0x0704 c (be 1 (flexNo st) ++ be 1 result ++ be 2 (contOf d c).nowSlots) d

/-- A committed SLOTS of a running PAYLOAD 3 container that differs from what it runs on starts a resize (R263, R264). -/
def flexStart (c : Nat) (d : Dev) : Dev :=
  let x := contOf d c
  let r := ctRec d c
  if !x.up || ctPayload r != 3 || !ctDirect r || x.flex != .idle || x.nowSlots == ctSlots r then d
  else
    let d := setRf (.xcCsize c) 24 16 (ctSlots r) (modCont c (fun y => { y with s1 := x.nowSlots, s2 := ctSlots r }) d)
    setFlex c (if x.nowSlots < ctSlots r then .lcrInc else .bwrDown) 0 d

/-- LCR_ACK_RX: the far end acknowledges, or refuses (R263). -/
def lcrAck (c : Nat) (ok : Bool) (d : Dev) : Dev :=
  let x := contOf d c
  if !contOn d c || !(x.flex == .lcrInc || x.flex == .lcrDec) then d
  else if ok then modCont c (fun x => { x with acked := true }) d
  else setFlex c .idle 2 d

/-- NOW of a container that runs: its slots in use, or its HO TS (R269). -/
def initNow (c : Nat) (d : Dev) : Dev :=
  let r := ctRec d c
  setNow c (if isZpc r then runSlots d c else if ctDirect r then (slotsOf d c).length else (ctHoList r).length) d

/-- The slots of a container in the calendar in force become those of the tables in service (R263). -/
def moveSlots (c : Nat) (d : Dev) : Dev :=
  let p := lineOf c
  let dest := calSlots d.prov.serv p c
  let d := modLn p (fun l => { l with
    cal := dest.foldl (fun t s => if (tfind t s).isNone then tset t s c else t) (l.cal.filter fun e => e.2 != c) }) d
  -- the slots that it leaves go to the owners that the commit gave them
  let freed := (calEntries d.prov.serv).filter fun e =>
    e.1 / 320 == p && e.2 != c && (tfind (ln d p).cal (e.1 % 320)).isNone && (contOf d e.2).up && (contOf d e.2).flex == .idle
  let d := modLn p (fun l => { l with cal := freed.foldl (fun t e => tset t (e.1 % 320) e.2) l.cal }) d
  ((freed.map (·.2)).eraseDups).foldl (fun d k => initNow k d) d

/-- LCR_SWITCH: slots are added or removed at the LCR switch frame (R263). -/
def lcrSwitch (c : Nat) (d : Dev) : Dev :=
  let x := contOf d c
  if !contOn d c || !x.acked then d
  else
    let d := setNow c x.s2 (moveSlots c d)
    if x.flex = .lcrInc then setFlex c .bwrUp 0 d
    else if x.flex = .lcrDec then setFlex c .idle 1 d
    else d

/-- BWR_RAMP_COMPLETE (R263). -/
def bwrDone (c : Nat) (d : Dev) : Dev :=
  let x := contOf d c
  if !contOn d c then d
  else if x.flex = .bwrUp then setFlex c .idle 1 d
  else if x.flex = .bwrDown then setFlex c .lcrDec 0 d
  else d

/-- LCR_TIMEOUT: 500 ms without an acknowledgement (R263). -/
def lcrTimeout (c : Nat) (d : Dev) : Dev :=
  let x := contOf d c
  if contOn d c && (x.flex == .lcrInc || x.flex == .lcrDec) && !x.acked then setFlex c .idle 3 d else d

/-! ### The R251 frame -/

/-- A container stops: it is flushed, and reads 0 from then on (R263, R268, R322). -/
def contStop (c : Nat) (d : Dev) : Dev :=
  let d := gate (isPkt (ctRec d c)) (flushStop (contSlice d c) c (leftOf d (contSlice d c) c)) d
  let d := gate ((contOf d c).flex != .idle) (setFlex c .idle 4) d
  let d := setReg (.xcCstat c) 0 (setReg (.xcCsize c) 0 d)
  { d with cont := tdel d.cont c, pkt := { d.pkt with cont := tdel d.pkt.cont c },
           mate := { d.mate with mfn := tdel d.mate.mfn c, align := tdel d.mate.align c } }

/-- A container starts: FC, MFN and MFAS at their first frame (R265, R268, R454). -/
def contStart (c : Nat) (d : Dev) : Dev :=
  let d := modCont c (fun _ => { up := true }) d
  let d := modMate (fun m => { m with mfn := tset m.mfn c 0 }) d
  let d := setLive (.xcCstat c) 24 7 true (setRf (.xcCsize c) 24 16 (ctSlots (ctRec d c)) d)
  gate (isPkt (ctRec d c)) (modPct c fun _ => {}) d

/-- The calendar of port p at the R251 frame. A running PAYLOAD 3 container keeps its entries until an LCR switch (R263, R264). -/
def newCal (d : Dev) (p : Nat) : Tbl Nat :=
  let kept := (ln d p).cal.filter fun e => (contOf d e.2).up && ctPayload (ctRec d e.2) == 3 && (serv d 2 e.2).isSome
  let held (c : Nat) : Bool := kept.any fun e => e.2 == c
  ((calEntries d.prov.serv).filter fun e => e.1 / 320 == p && !held e.2).foldl
    (fun t e => if (tfind t (e.1 % 320)).isNone then tset t (e.1 % 320) e.2 else t) kept

/-- CALENDAR_CHANGE: at the first frame with MFAS 0 after a commit, slots, connections and AVAIL_MAP of port p change whole (R251,
R262, R272, R355); containers run where XC does. -/
def calendarChange (p : Nat) (d : Dev) : Dev :=
  if !lineOn d p then d
  else
    let xc := domReady d 22
    let gone := (tkeys d.cont).filter fun c => xc && lineOf c == p && (serv d 2 c).isNone
    let d := gone.foldl (fun d c => contStop c d) d
    let cal := newCal d p
    let d := modLn p (fun l => { l with cal := cal }) d
    let m := lrMap (lineRec d p)
    let d := gate (m != (rz d p).txMap && (rz d p).st == 0) (modRz p fun z => { z with txMap := m, rxMap := m }) d
    let fresh := ((conts d.prov.serv).filter fun e => xc && lineOf e.1 == p && !(contOf d e.1).up).map (·.1)
    let d := fresh.foldl (fun d c => initNow c (contStart c d)) d
    let d := gate xc (each ((tkeys d.cont).filter fun c => lineOf c == p) fun c d =>
      modCont c (fun x => { x with conn := groupOf d.prov.serv c }) d) d
    let d := (conts d.prov.serv).foldl (fun d e =>
      gate (xc && lineOf e.1 == p) (setRf (.xcCsize e.1) 24 16 (ctSlots e.2)) d) d
    showRz p (followMap p d)

/-! ### Justification (R253, R255) -/

/-- The majority of the JC fields of AMP: 0 none, 1 negative, 2 twice positive, 3 positive (G.709, PRESUMED); none without one. -/
def ampVote (l : List Nat) : Option Nat :=
  (List.range 4).find? fun v => decide (2 * (l.filter fun x => x % 4 == v).length > l.length)

/-- The JC fields of AMP of one period: without a majority they are an error and justify nothing (R253, R270). -/
def ampJc (c : Nat) (l : List Nat) (d : Dev) : Dev := match ampVote l with
  | none => cctrAdd (c * 8 + 2) 1 d
  | some v =>
    if v = 1 then cctrAdd (c * 8 + 4) 1 d
    else cctrAdd (c * 8 + 3) (if v = 3 then 1 else if v = 2 then 2 else 0) d

/-- One GMP period at a stage: a Cm or CnD whose CRC fails leaves the last good value (R253). -/
def jcStep (cm cnd : Nat) (crc : JcCrc) (x : Jc) : Jc :=
  let n := if crc.cm && crc.cnd then 0 else x.bad + 1
  { cm := if crc.cm then cm else x.cm, cnd := if crc.cnd then cnd else x.cnd, bad := n, err := !crc.cm && (x.err || decide (n ≥ 3)) }

/-- The justification control of a stage. -/
def jcOf (d : Dev) (c stage : Nat) : Jc := tget {} (contOf d c).jc stage

/-- Cm and CnD of one GMP period of a stage, each with its CRC: one that fails is counted. JC_ERR stands from the third period of a
stage with a failure until a good Cm of that stage (R253). -/
def gmpJc (c cm cnd : Nat) (crc : JcCrc) (d : Dev) : Dev :=
  let x := jcOf d c crc.stage
  let y := jcStep cm cnd crc x
  let d := cctrAdd (c * 8 + 3) (if x.cm < y.cm then 1 else 0) (cctrAdd (c * 8 + 4) (if y.cm < x.cm then 1 else 0) d)
  let d := cctrAdd (c * 8 + 2) ((!crc.cm).toNat + (!crc.cnd).toNat) (modCont c (fun z => { z with jc := tset z.jc crc.stage y }) d)
  setLive (.xcCstat c) 24 1 ((contOf d c).jc.any fun e => e.2.err) d

/-- The stages at which a container receives GMP: of a CBR client in an ODU4, and into its parent unless by AMP (R244, R246). -/
def gmpStage (d : Dev) (c stage : Nat) : Bool :=
  let r := ctRec d c
  (stage == 0 && ctPayload r == 0 && ctType r == 5) || (stage == 1 && !byAmp d c)

/-- GMP_JC_RX: the justification control of one period of a container: GMP Cm and CnD, or the JC fields of AMP, whichever the stage
runs (R246, R253). -/
def gmpJcRx (c cm cnd : Nat) (crc : JcCrc) (amp : Option (List Nat)) (d : Dev) : Dev :=
  if !contOn d c || !domReady d (6 + lineOf c) || amp.isSome == gmpStage d c crc.stage || decide (1 < crc.stage) then d
  else match amp with
    | some l => if crc.stage = 1 then ampJc c l d else d
    | none => gmpJc c cm cnd crc d

/-- MIRROR_MISS: a standby begins a period without the decision of one of its stages (R255, R456). -/
def mirrorMiss (c : Nat) (d : Dev) : Dev :=
  if !contOn d c || !following d || !inStep d || (justStages d c).all (fun s => (justRec d c s.1).isSome) then d
  else
    let seen := (contOf d c).missSeen
    let d := mateMiss (cctrAdd (c * 8 + 7) 1 d)
    let d := setLive (.xcCstat c) 24 2 true (modCont c (fun x => { x with missSeen := true }) d)
    gate (!seen) (fun d => evtXc 0x0705 c (be 4 ((tget {} d.cctr (c * 8 + 7)).v)) d) d

/-- MIRROR_MISS is live for one epoch (R268). -/
def missEpoch (d : Dev) : Dev :=
  (tkeys (d.cont.filter fun e => e.2.missSeen)).foldl (fun d c =>
    setLive (.xcCstat c) 24 2 false (modCont c (fun x => { x with missSeen := false }) d)) d

/-! ### The extended frame counter (R266, R267) -/

/-- EXTFC_RECORD_RX: one record of 8 bytes, with the MFAS of the frame that carried bytes 0 and 1. -/
def extRecord (c : Nat) (b : Bytes) (mfas : Nat) (d : Dev) : Dev :=
  if !contOn d c || extCut d c then d
  else
    let fc := u32 b 0
    let valid := b.length == 8 && u16 b 6 == crcCcitt (b.take 6) && fc % 256 == mfas % 256
    let e := (contOf d c).ext
    let put (e : ExtFc) : Dev → Dev := modCont c fun x => { x with ext := e }
    let next := (e.rxFc + 4) % 2 ^ 32
    if !extLock d c then
      if !valid then put { e with good := 0 } d
      else
        let n := if e.good ≠ 0 ∧ fc = next then e.good + 1 else 1
        let d := put { e with rxFc := fc, rxTag := u16 b 4, good := n, bad := 0, cand := none } d
        gate (decide (n ≥ 2)) (setExtLock c true) d
    else if valid && fc == next then put { e with rxFc := fc, rxTag := u16 b 4, bad := 0, cand := none } d
    else if valid && e.cand == some ((fc + (2 ^ 32 - 4)) % 2 ^ 32) then
      put { e with rxFc := fc, rxTag := u16 b 4, bad := 0, cand := none } d
    else
      let d := put { e with rxFc := next, bad := e.bad + 1, cand := if valid then some fc else none } d
      gate (decide (e.bad + 1 ≥ 3)) (fun d => setExtLock c false (modCont c (fun x => { x with ext := { x.ext with good := 0, bad := 0 } }) d)) d

/-! ### CSF of GFP-F (R256) -/

/-- CSF_MGMT_FRAME_TX: a client of a GFP-F container is failed and CSF_EN is set; the frame of UPI CSF-LOS (1, PRESUMED) goes out. -/
def csfTxFrame (c : Nat) (d : Dev) : Dev :=
  let r := ctRec d c
  if contOn d c && ctPayload r == 3 && ctCsfEn r && domReady d (14 + contSlice d c)
      && (flowsOf d c).any fun e => clientFailed d (ctxSlice e.1 * 16 + flPort e.2) then
    emitGfp c (gfpMgmt 1) (modCont c (fun x => { x with csfSent := x.csfSent + 1 }) d)
  else d

/-- CSF_MGMT_FRAME_RX: the payload area of a client management frame of UPI CSF-LOS or CSF-LOCS (1 and 2 of G.7041, PRESUMED). -/
def csfRxFrame (c : Nat) (area : Bytes) (d : Dev) : Dev :=
  if contOn d c && ctPayload (ctRec d c) == 3 && gfpTypeOk area && gfpPti area == 4
      && (gfpUpi area == 1 || gfpUpi area == 2) then
    modCont c (fun x => { x with csf := true }) d
  else d

/-- CSF_CLEAR_TIMEOUT: 300 ms without such a frame. -/
def csfClear (c : Nat) (d : Dev) : Dev := if contOn d c then modCont c (fun x => { x with csf := false }) d else d

end Sys2Proof.Machine
end

