-- ==== Sys2Proof/Machine/Flags.lean ====
section
/-! DEFINITION. Status that is computed when it is read: the live fields of the registers whose bits are no stored value (R143,
R145, R147, R177, R178, R308, R309, R346, R347, R410, R513, R531, R563), and the entries of the status windows (R343 to R345). -/

namespace Sys2Proof.Machine

/-! ### Mailboxes -/

/-- SERVER of MBX_STATc: Thino serves every channel, the ROM channel 0 (R151, R160, R177). -/
def serverOf (d : Dev) (c : Nat) : Nat := if d.boot.thino then 2 else if d.boot.rom && c == 0 then 1 else 0

/-- SERVER of MBX_GSTAT. -/
def serverAll (d : Dev) : Nat := if d.boot.thino then 2 else if d.boot.rom then (if rb d .glbStat 2 then 3 else 1) else 0

/-- Requests waiting and responses unread on channel c (R153). -/
def reqUsed (d : Dev) (c : Nat) : Nat := subMod 128 (rf d (.mbxDb c) 6 0) (rf d (.mbxReqHead c) 6 0)
def rspUsed (d : Dev) (c : Nat) : Nat := subMod 128 (rf d (.mbxRspTail c) 6 0) (rf d (.mbxRspHead c) 6 0)

/-- A command of channel c is in execution: a mirrored command that waits for X, or a STORE (R161, R540). -/
def chBusy (d : Dev) (c : Nat) : Bool :=
  (d.mate.active && d.mbx.mir.any fun m => m.req.ch % 8 == c)
    || (match d.nvm.store with
      | some r => r.own && r.ch % 8 == c
      | none => false)

/-! ### Dispatch (R25) -/

/-- Responses that commands in execution still owe to the ring of channel c. -/
def owed (d : Dev) (c : Nat) : Nat :=
  (d.mbx.mir.filter fun m => m.own && m.req.ch == c).length + (match d.nvm.store with
    | some r => (r.own && r.ch == c).toNat
    | none => 0)

/-- The channel whose budget a channel draws on: 6 and 7 share one. -/
def budgetOf (c : Nat) : Nat := if c = 7 then 6 else c

/-- The budget of channel c lasts in this epoch. Budgets are in percent, time used in 0.01 % (log entry 34). -/
def budgetLeft (d : Dev) (c : Nat) : Bool :=
  let b := budgetOf c
  decide (tget 0 d.mbx.used b < 100 * tget (bits (regReset false (.mbxBudget b)) 7 0) d.mbx.inForce b)

/-- A request of channel c can be taken now: it has a server, and room for its response (R151, R154). -/
def hasWork (d : Dev) (c : Nat) : Bool :=
  serverOf d c != 0 && reqUsed d c != 0 && decide (rspUsed d c + owed d c < 64)

/-- Dispatch takes channel c next: 6 and 7 while their budget lasts, then the lowest channel with budget left, then the channels
whose budget is exhausted in round-robin order (R25). Between 6 and 7 the rule has no order, and either may come next. -/
def dispatches (d : Dev) (c : Nat) : Bool :=
  let rich := (List.range 8).filter fun k => hasWork d k && budgetLeft d k
  if rich.contains 6 || rich.contains 7 then decide (6 ≤ c) && rich.contains c
  else match rich with
    | k :: _ => c == k
    | [] => ((List.range 8).map fun k => (d.mbx.turn + 1 + k) % 8).find? (hasWork d) == some c

/-- MBX_STATc. -/
def mbxStatLive (d : Dev) (c : Nat) : Word :=
  let w := reg d (.mbxStat c)
  let w := putBit w 7 (!budgetLeft d c)
  let w := putBit w 6 (decide (rspUsed d c ≥ 64))
  let w := putBit w 5 (decide (reqUsed d c ≥ 64))
  let w := putBit w 2 (chBusy d c)
  putBits w 1 0 (serverOf d c)

/-! ### Events, errors, counters -/

/-- EVT_STAT. -/
def evtStatLive (d : Dev) : Word :=
  let w := putBits (reg d .evtStat) 26 16 d.evt.staged.length
  let w := putBit w 3 (!evtDma d)
  let w := putBit w 1 (decide (d.evt.staged.length ≥ 1024))
  putBit w 0 (decide (evtUsed d ≥ evtEntries d))

/-- The highest severity queued, 0 with an empty queue. -/
def maxSev (q : List ErrRec) : Nat := q.foldl (fun m e => max m e.sev) 0

/-- ERR_STAT. -/
def errStatLive (d : Dev) : Word :=
  BitVec.ofNat 32 ((d.err.queue.any fun e => e.st == 1).toNat * 2048 + maxSev d.err.queue * 256 + d.err.queue.length)

/-- PCTR_STAT. -/
def pctrStatLive (d : Dev) : Word :=
  let w := putBit (reg d .pctrStat) 4 d.pctr.writing.isSome
  let w := putBit w 2 (decide (dumpUsed d ≥ dumpSlots d))
  putBit w 0 (!(rb d .pctrCtl 0 && pf0Dma d))

/-! ### Power -/

/-- PWR_DOM_STATd.STATE. -/
def domStateNo : DomState → Nat
  | .off => 0 | .ramping => 1 | .ready => 2 | .isolating => 3 | .faulted => 4 | .selfRefresh => 5 | .deferred => 6

/-- PWR_DOM_STATd. -/
def domStatLive (d : Dev) (n : Nat) : Word :=
  let w := putBits (reg d (.pwrDomStat n)) 31 16 (est d n)
  let w := putBit w 5 (dom d n).latched
  let w := putBit w 3 (domReady d n)
  putBits w 2 0 (domStateNo (dom d n).st)

/-! ### Packet engines, queues, MEMC, PM -/

/-- SLn_PKT_CTXCNTk. -/
def ctxCount (d : Dev) (n k : Nat) : Nat :=
  if k = 0 then (psl d n).rx.length
  else if k = 1 then ((psl d n).snd.filter fun e => e.2.st == .active).length
  else (psl d n).cands.length

/-- SLn_PKT_ZSTATi reads 0 for a container that slice n does not terminate (R308). -/
def zstatLive (d : Dev) (n i : Nat) : Word :=
  if (contsNow d).any (fun e => e.1 == i) && isPkt (ctRec d i) && contSlice d i == n then reg d (.pktZstat n i) else 0

/-- SLn_QM_FILL. -/
def qmFillLive (d : Dev) (n : Nat) : Word :=
  BitVec.ofNat 32 (poolPct d n 2 % 256 * 65536 + poolPct d n 1 % 256 * 256 + poolPct d n 0 % 256)

/-- SLn_QM_WM_STAT: count, sticky and live of the cell pool, the spill quota and the spill reserve. -/
def qmWmLive (d : Dev) (n : Nat) : Word :=
  let f (i : Nat) : Nat := let w := wmOf d n 3 i; w.count % 256 * 4 + w.sticky.toNat * 2 + w.live.toNat
  BitVec.ofNat 32 (f 2 * 2 ^ 20 + f 1 * 2 ^ 10 + f 0)

/-- The slice that holds partition p, or 0xF. -/
def partSlice (d : Dev) (p : Nat) : Nat := match d.pkt.memc.part.find? fun e => e.2 == p with
  | some e => e.1
  | none => 0xF

/-- MEMC_STAT. -/
def memcStatLive (d : Dev) : Word :=
  let w := putBits (reg d .memcStat) 23 16 (partSlice d 1 * 16 + partSlice d 0)
  putBits (putBit w 4 (pop16 d)) 1 0 (layout d)

/-- PMON_STAT: the engine evaluates seconds whenever D4 is READY. -/
def pmonStatLive (d : Dev) : Word :=
  BitVec.ofNat 32 ((points d.prov.serv).length % 2 ^ 15 * 65536 + (assisted d 8 0).toNat * 4 + (isFrozen d 8 0).toNat * 2
    + (domReady d 4).toNat)

/-- NVM_STAT with WRITING. -/
def nvmStatRead (d : Dev) : Word := putBit (nvmStatLive d) 1 (d.pwr.gaspBusy || d.nvm.store.isSome)

/-! ### The value that a read of a register returns -/

/-- A warm reset by GLB_RST_CMD.WARM waits for a hand-over or for the last-gasp write: the SC bit reads 1 (R127). -/
def warmWaits (d : Dev) : Bool := d.pwr.warmDeferred == some 3 || d.mate.thenReset == some 3

/-- The value of a register as it is read: stored bits with the live fields (R127: WO and completed SC bits read 0). -/
def readReg (d : Dev) (r : Reg) : Word := match r with
  | .glbId => putBits (reg d r) 7 0 (if d.fuse.ib then 2 else 1)
  | .glbRstCmd => BitVec.ofNat 32 (warmWaits d).toNat
  | .glbCpuRestart => BitVec.ofNat 32 (d.boot.cpuRestart == some 6).toNat
  | .glbEpochLo => BitVec.ofNat 32 (now d)
  | .pwrLoad => BitVec.ofNat 32 (load d % 65536)
  | .pwrDomReady => BitVec.ofNat 32 (bitmap 24 (domReady d))
  | .pwrDefer => BitVec.ofNat 32 (bitmap 24 fun n => (dom d n).st == .deferred)
  | .pwrRailStat k => railStat d k
  | .pwrRegion k => regionLive d k
  | .pwrPfwStat => putBit (reg d r) 0 (!d.pin.pfwN)
  | .pwrDomStat n => domStatLive d n
  | .errStat => errStatLive d
  | .mbxStat c => mbxStatLive d c
  | .mbxGstat => BitVec.ofNat 32 (serverAll d)
  | .evtStat => evtStatLive d
  | .evtSeq => BitVec.ofNat 32 d.evt.seq.toNat
  | .nvmStat => nvmStatRead d
  | .nvmStoreCnt => BitVec.ofNat 32 (storeCount d)
  | .nvmArb => nvmArbLive d
  | .nvmJtagTime => jtagTime d
  | .nvmLgEpochLo => gaspEpochLo d
  | .pctrStat => pctrStatLive d
  | .pctrClr => BitVec.ofNat 32 (d.pctr.clrGo.toNat * 256)
  | .pktZstat n i => zstatLive d n i
  | .pktCtxcnt n k => BitVec.ofNat 32 (ctxCount d n k)
  | .qmFree n => BitVec.ofNat 32 (freeCells d n)
  | .qmFill n => qmFillLive d n
  | .qmWmStat n => qmWmLive d n
  | .memcStat => memcStatLive d
  | .pmonStat => pmonStatLive d
  | .pmonPending => BitVec.ofNat 32 d.pm.backlog.length
  | .timOutStat => timOutLive d
  | .mateStat => putBit (reg d r) 19 (roleB d)
  | r => reg d r

/-! ### Status windows -/

/-- A flow entry of a QM status window (R344). -/
def flowEntry (d : Dev) (c : Nat) : Bytes :=
  let q := flowQ d c
  be 4 (qCells q)
    ++ be 1 (q.overrun.toNat * 128 + q.rewindErr.toNat * 64 + q.dupReset.toNat * 32 + q.full.toNat * 16 + q.marked.toNat * 8
      + (q.spilled != 0).toNat * 4) ++ zeros 3

/-- A container queue, egress queue or pool entry (R345). -/
def wmEntry (d : Dev) (n space i : Nat) : Bytes :=
  let w := wmOf d n space i
  be 4 (wmLevel d n space i) ++ be 4 (max w.peak (wmLevel d n space i)) ++ be 1 (min 255 w.count)
    ++ be 1 (w.live.toNat * 128 + w.sticky.toNat * 64 + w.stale.toNat * 32 + w.staleSticky.toNat * 16) ++ zeros 2 ++ be 4 w.epoch

/-- The 4 bytes at offset x of the QM status window of slice n (R343). -/
def qmWindow (d : Dev) (n x : Nat) : Bytes :=
  if x < 0x80000 then slice (flowEntry d (n * 65536 + x / 8)) (x % 8) 4
  else if x < 0xA0000 then
    let i := (x - 0x80000) / 16
    if (contsNow d).any (fun e => e.1 == i / 8) && contSlice d (i / 8) == n then slice (wmEntry d n 1 i) (x % 16) 4 else zeros 4
  else if x < 0xA0800 then slice (wmEntry d n 2 ((x - 0xA0000) / 16)) (x % 16) 4
  else if x < 0xA0830 then slice (wmEntry d n 3 ((x - 0xA0800) / 16)) (x % 16) 4
  else zeros 4

/-- The 4 bytes at offset x of the overhead capture window of line port p (R237). -/
def captureWindow (d : Dev) (p x : Nat) : Bytes :=
  let l := ln d p
  if x < 64 then
    slice (be 4 l.capGen ++ be 1 l.capMfas ++ zeros 3 ++ be 6 l.capEpoch) x 4
  else if x < 1088 then slice l.capOh (x - 64) 4
  else zeros 4

/-- The 4 bytes at offset x of the point status window (R409). -/
def pointWindow (d : Dev) (x : Nat) : Bytes := slice (pointEntry d (x / 8)) (x % 8) 4

end Sys2Proof.Machine
end

