-- ==== Sys2Proof/Machine/Operands.lean ====
section
/-! DEFINITION. What a host access names (R112 to R132, R155, R590): the place of an offset or register, what is exposed and
granted, and the Layout Table (R137 to R141). -/

namespace Sys2Proof.Machine

/-! ### Registers that exist -/

/-- The indices of a register lie in its table. -/
def regValid : Reg → Bool
  | .pwrRailStat k | .pwrRailMeas k => decide (k < 10)
  | .pwrRegion r => decide (r < 5)
  | .pwrDomStat n => decide (n < 24)
  | .errCnt s => decide (s < 5)
  | .mbxDb c | .mbxReqHead c | .mbxRspTail c | .mbxRspHead c | .mbxStat c | .mbxCtl c | .mbxBudget c | .mbxServed c => decide (c < 8)
  | .wideData i => decide (i < 4)
  | .wideWdata i => decide (i < 2)
  | .pctrBwRx p | .pctrBwTx p => decide (p < 68)
  | .cliPstat n p | .cliLstat n p | .cliPrbsCnt n p => decide (n < 4 ∧ p < 16)
  | .lineStat n | .lineOhxSlip n | .lineOhxErr n | .lineRszStat n | .lineRszId n | .lineRszCnt n => decide (n < 4)
  | .lineLstat n k => decide (n < 4 ∧ k < 8)
  | .xcCstat i | .xcCsize i => decide (i < 1024)
  | .xcPgstat g => decide (g < 512)
  | .xcMgstat m | .xcMgskew m => decide (m < 256)
  | .pktZstat n i => decide (n < 4 ∧ i < 1024)
  | .pktCtxcnt n k => decide (n < 4 ∧ k < 3)
  | .qmClr n | .qmFree n | .qmFill n | .qmWmStat n | .memcGrant n | .memcGstat n => decide (n < 4)
  | .timRefStat r => decide (r < 24)
  | .timDpllStat i => decide (i < 4)
  | _ => true

/-! ### Places -/

/-- What answers at a decoded offset. -/
inductive Site where
  /-- a register -/
  | reg (r : Reg)
  /-- no register: reads 0, ignores writes (R124) -/
  | hole
  /-- LTAB header and block entries, and register entries, by window offset -/
  | ltab (x : Nat)
  | ltabRegs (x : Nat)
  /-- MBX rings and the BULK window: bytes of the memory at their BAR0 offset -/
  | bytes
  | msix (x : Nat)
  | capture (p x : Nat)
  | qm (n x : Nat)
  | points (x : Nat)
  /-- registers that the manual does not describe: the CLK block, and blocks of a firmware extension -/
  | other
  deriving DecidableEq, Repr

/-- A place: its offset, its domain, whether LTAB PRIV is 0x01, and what answers. -/
structure Place where
  off : Nat
  dom : Nat
  priv : Bool
  site : Site
  deriving DecidableEq, Repr

/-- The register at a decoded offset, or none. -/
def siteOf (r : Option Reg) : Site := match r with
  | some r => .reg r
  | none => .hole

/-- The register that the ROM part of LTAB puts at an offset of a block: the block decodes the low DECODE_BITS bits (R124, R125). -/
def romSite (base x : Nat) : Site :=
  siteOf ((blkRegs base).find? fun r => (regOffset r - base) % 2 ^ Config.romDecodeBits base == x % 2 ^ Config.romDecodeBits base)

/-- What answers in a window of R122 at window offset x. -/
def siteAt (base dm x : Nat) : Site :=
  if base = 0 then siteOf (glbAt x)
  else if base = 0x1000 then .ltab x
  else if base = 0x10000 then siteOf (mbxAt x)
  else if base = 0x20000 then siteOf (evtAt x)
  else if base = 0x30000 then siteOf (pwrAt x)
  else if base = 0x40000 then .other
  else if base = 0x50000 then siteOf (nvmAt x)
  else if base = 0x60000 then siteOf (errAt x)
  else if base = 0x400000 then siteOf (pctrAt x)
  else if base = 0x2000000 then siteOf (wideAt x)
  else if base = 0x2100000 then .ltabRegs x
  else if base = 0x2200000 ∨ base = 0x2400000 then .bytes
  else if base = 0x2300000 then .msix x
  else if 0x2500000 ≤ base ∧ base < 0x2600000 then .capture (dm - 6) x
  else if 0x2600000 ≤ base ∧ base < 0x2A00000 then .qm (dm - 14) x
  else if base = 0x2A00000 then .points x
  else romSite base x

/-- The window of a firmware extension that holds an offset: its entry has EXT set (R138, R141). -/
def extPlace (l : List Bytes) (o : Nat) : Option Place :=
  (l.find? fun e => decide (u32 e 4 ≤ o ∧ o < u32 e 4 + 2 ^ u8 e 8)).map fun e =>
    { off := o, dom := u8 e 10, priv := u8 e 11 == 1, site := .other }

/-- The place at BAR0 offset o, within the 64 MiB space (R122, R123); none in no window. -/
def placeAt (d : Dev) (o : Nat) : Option Place :=
  if 0x4000000 ≤ o then none
  else match blkAt o with
    | some b => some { off := o, dom := b.dom, priv := b.priv, site := siteAt b.base b.dom (o - b.base) }
    | none => extPlace d.boot.ltabExt o

/-- LTAB PRIV of a register's block: PCTR is PRIV 0x01 (R122). -/
def regPriv : Reg → Bool
  | .pctrCtl | .pctrWin | .pctrMask | .pctrRingLo | .pctrRingHi | .pctrRingSize | .pctrProd | .pctrCons | .pctrStat
  | .pctrWinSeq | .pctrWrapSum | .pctrClr | .pctrBwRx _ | .pctrBwTx _ => true
  | _ => false

/-- The place that an access names. A register outside its table has no place. -/
def resolve (d : Dev) (t : RegTarget) : Option Place := match t with
  | .offset o => placeAt d (o - o % 4)
  | .named r =>
    if regValid r then some { off := regOffset r, dom := regDomain r, priv := regPriv r, site := .reg r } else none

/-- The byte offset that an access names, as it is logged (R132). -/
def targetOff (t : RegTarget) : Nat := match t with
  | .offset o => o
  | .named r => regOffset r

/-! ### Exposure and privilege -/

/-- The channel whose registers or ring slots a place belongs to. -/
def placeChannel (p : Place) : Option Nat := match p.site with
  | .reg (.mbxDb c) | .reg (.mbxReqHead c) | .reg (.mbxRspTail c) | .reg (.mbxRspHead c) | .reg (.mbxStat c)
  | .reg (.mbxCtl c) | .reg (.mbxBudget c) | .reg (.mbxServed c) => some c
  | .bytes => if p.off < bulkBase then some ((p.off - 0x2200000) / 0x8000) else none
  | _ => none

/-- What BAR0 shows before Thino runs and in recovery mode (R92). -/
def exposedEarly (p : Place) (write : Bool) : Bool := match p.site with
  | .bytes => placeChannel p == some 0
  | .ltab _ | .ltabRegs _ | .msix _ => true
  | .reg r => match r with
    | .glbId | .glbStrap | .glbStat | .glbBootStat | .glbRstCause | .glbRstCtl | .glbRstCmd | .glbCpuRestart | .glbWdt
    | .glbCpuHb | .glbErrCtl | .glbAccerr | .glbAccerrAddr | .glbEpochLo | .glbIntStat | .glbIntEn | .glbIntMgmtEn
    | .glbScratch => true
    | .evtCtl | .evtBaseLo | .evtBaseHi | .evtSize | .evtProd | .evtCons | .evtBatch | .evtHoldoff | .evtStat | .evtLost
    | .evtSeq => true
    | .mbxDb _ | .mbxReqHead _ | .mbxRspTail _ | .mbxRspHead _ | .mbxStat _ | .mbxCtl _ | .mbxBudget _ | .mbxServed _ =>
      !write || placeChannel p == some 0
    | .mbxGstat => !write
    | _ => false
  | .hole => decide (p.off < 0x1000 ∨ (0x20000 ≤ p.off ∧ p.off < 0x30000)) || (decide (0x10000 ≤ p.off ∧ p.off < 0x20000) && !write)
  | _ => false

/-- A place is exposed (R92). -/
def exposedTo (d : Dev) (p : Place) (write : Bool) : Bool := d.boot.exposed || exposedEarly p write

/-- OWNER of a channel is the requester (R155). -/
def ownsChannel (d : Dev) (q : Requester) (c : Nat) : Bool :=
  if rb d (.mbxCtl c) 1 then q == .spi else q == .pf0

/-- The write needs the channel's owner: a doorbell, a response index or a ring slot (R155). -/
def ownerOnly (p : Place) : Option Nat := match p.site with
  | .reg (.mbxDb c) | .reg (.mbxRspHead c) => some c
  | .bytes => placeChannel p
  | _ => none

/-- R112 and R155 grant the access. -/
def granted (d : Dev) (q : Requester) (p : Place) (write : Bool) : Bool := match q with
  | .pf0 | .spi => !write || (match ownerOnly p with
    | some c => ownsChannel d q c
    | none => true)
  | .pf1 => if write then (match p.site with
      | .reg .wideSel | .msix _ => true
      | _ => false) else !p.priv
  | .i2c => if write then p.site == .reg .wideSel else !p.priv

/-- The access crosses a dword boundary (R129). -/
def crosses (t : RegTarget) (size : Nat) : Bool := match t with
  | .offset o => decide (4 < o % 4 + size)
  | .named _ => decide (4 < size)

/-- The first rule of R590 that an access breaks: its GLB_ACCERR bit and the data that a read returns. `size` is 1 to 4 bytes. -/
def refusalOf (d : Dev) (q : Requester) (t : RegTarget) (size : Nat) (write answered : Bool) : Option (Nat × Word) :=
  if crosses t size then some (accCrossDw, 0xFFFFFFFF)
  else match resolve d t with
    | none => some (accUnmapped, 0)
    | some p =>
      if !exposedTo d p write then some (accDomainOff, 0xFFFFFFFF)
      else if !granted d q p write then some (accPriv, 0)
      else if write && decide (size < 4) then some (accNarrow, 0)
      else if !domReady d p.dom then some (accDomainOff, 0xFFFFFFFF)
      else if !write && !answered then some (accTimeout, 0xFFFFFFFF)
      else none

/-- The path of a requester works: D0 is on, and a PCIe function needs the endpoint (R112). -/
def pathUp (d : Dev) (q : Requester) : Bool :=
  d.pin.porN && !d.pin.brownout && (match q with
    | .pf0 | .pf1 => domReady d 4 && d.host.training
    | .spi | .i2c => true)

end Sys2Proof.Machine
end

