-- ==== Sys2Proof/Machine/Access.lean ====
section
/-! DEFINITION. Register accesses: reads, writes under the access types of R127 and each register's own rules, wide values
(R133 to R136), MSI-X (R117, R118), PCIe resets, SPI and I²C (R120, R121). -/

namespace Sys2Proof.Machine

/-! ### Bytes and dwords (R126) -/

/-- Four bytes in ascending address order as a dword. -/
def leWord (b : Bytes) : Word := BitVec.ofNat 32 (u8 b 0 + u8 b 1 * 2 ^ 8 + u8 b 2 * 2 ^ 16 + u8 b 3 * 2 ^ 24)

/-- A dword as four bytes in ascending address order. -/
def wordLe (w : Word) : Bytes := (List.range 4).map fun i => BitVec.ofNat 8 (w.toNat / 256 ^ i)

/-! ### Writes by access type -/

/-- The stored value after a write of w under the types of the fields: RW and CTR load, W1C clears; every other bit stays. -/
def typedValue (r : Reg) (old w : Word) : Word :=
  let load := regMask r fun t => t == .rw || t == .ctr
  let clr := regMask r fun t => t == .w1c
  ((old &&& ~~~ load) ||| (w &&& load)) &&& ~~~ (w &&& clr)

/-- A write under the access types alone. -/
def typedWrite (r : Reg) (w : Word) (d : Dev) : Dev := setReg r (typedValue r (reg d r) w) d

/-- A value brought into a range: the nearer limit, and whether it was outside. -/
def clampTo (lo hi v : Nat) : Nat × Bool := if v < lo then (lo, true) else if hi < v then (hi, true) else (v, false)

/-- RANGE is set where a register rule clamped or dropped the write (R132). -/
def rangeErr (bad : Bool) (q : Requester) (o : Nat) (d : Dev) : Dev := gate bad (accErr accRange q true o) d

/-- A register with one field clamped: bits [hi:lo] to least and most. -/
def clampWrite (r : Reg) (hi lo least most : Nat) (q : Requester) (o : Nat) (w : Word) (d : Dev) : Dev :=
  let v := clampTo least most (bits w hi lo)
  rangeErr v.2 q o (typedWrite r (putBits w hi lo v.1) d)

/-- KEY of a command register (R143, R146, R177, R531). -/
def keyed (w : Word) : Bool := bits w 31 16 == 0xA55A

/-! ### Registers with rules of their own -/

/-- PWR_CAP: below 2,000 clamps (R67). -/
def writePwrCap (q : Requester) (o : Nat) (w : Word) (d : Dev) : Dev :=
  let v := clampTo 2000 65535 (bits w 15 0)
  rangeErr v.2 q o (writeCap v.1 d)

/-- PWR_DOM_STATd: FAULT_CNT loads, a 1 in FAULT clears the fault (R80). -/
def writeDomStat (n : Nat) (w : Word) (d : Dev) : Dev :=
  gate (bit w 4) (clearFault n) (setRf (.pwrDomStat n) 15 8 (bits w 15 8) d)

/-- ERR_INJ (R146). -/
def writeErrInj (q : Requester) (o : Nat) (w : Word) (d : Dev) : Dev :=
  if bit w 8 && !keyed w then accErr accKey q true o d
  else if 4 ≤ bits w 2 0 then accErr accRange q true o d
  else gate (bit w 8) (raiseErr (bits w 2 0) 0x0008 0 0x0002 (bits w 2 0) 0) d

/-- MBX_DBc: a doorbell (R154). -/
def doorbell (c tail : Nat) (d : Dev) : Dev :=
  let head := rf d (.mbxReqHead c) 6 0
  let lead := subMod 128 (tail % 128) head
  if 64 < lead then setRb (.mbxStat c) 4 true d
  else if lead < reqUsed d c then setRb (.mbxStat c) 3 true d
  else setRf (.mbxDb c) 6 0 tail d

/-- Commands of channel c in execution write no response any more; number 8 + c stands for the channel from then on (R156). -/
def muteChannel (c : Nat) (d : Dev) : Dev :=
  { d with
    mbx := { d.mbx with mir := d.mbx.mir.map fun m => if m.req.ch = c then { m with req := { m.req with ch := 8 + c } } else m }
    nvm := { d.nvm with store := d.nvm.store.map fun r => if r.ch = c then { r with ch := 8 + c } else r } }

/-- A channel reset (R156). -/
def channelReset (c : Nat) (d : Dev) : Dev :=
  muteChannel c
    (setRf (.mbxDb c) 6 0 0 (setRf (.mbxReqHead c) 6 0 0 (setRf (.mbxRspTail c) 6 0 0 (setRf (.mbxRspHead c) 6 0 0 d))))

/-- MBX_CTLc: OWNER, and RESET with its KEY. -/
def writeMbxCtl (c : Nat) (q : Requester) (o : Nat) (w : Word) (d : Dev) : Dev :=
  let d := typedWrite (.mbxCtl c) w d
  if !bit w 0 then d else if keyed w then channelReset c d else accErr accKey q true o d

/-- MBX_BUDGETc: the budgets of channels 0 to 6 stay within 100 (R177). -/
def writeBudget (c : Nat) (q : Requester) (o : Nat) (w : Word) (d : Dev) : Dev :=
  let sum := total ((List.range 7).map fun k => if k = c then bits w 7 0 else rf d (.mbxBudget k) 7 0)
  if c < 7 ∧ 100 < sum then accErr accRange q true o d else typedWrite (.mbxBudget c) w d

/-- EVT_CTL: ENABLE is written first, then RESET acts (R178); the first pass after ENABLE is set has PHASE 1 (R173). -/
def writeEvtCtl (w : Word) (d : Dev) : Dev :=
  let rise := bit w 0 && !rb d .evtCtl 0
  let pass := rf d .evtProd 16 0 / evtEntries d % 2
  let d := gate rise (fun d => { d with evt := { d.evt with pass := pass } }) (typedWrite .evtCtl w d)
  gate (bit w 1) (fun d => setRf .evtProd 16 0 0 (setRf .evtCons 16 0 0 (setRb .evtCtl 0 false d))) d

/-- PCTR_CTL: the first window after DUMP_EN is set is PARTIAL, and the first pass through the ring has PHASE 1 (R526, R530). -/
def writePctrCtl (w : Word) (d : Dev) : Dev :=
  let rise := bit w 0 && !rb d .pctrCtl 0
  gate rise (fun d => { d with pctr := { d.pctr with part := true, pass := ringPass d % 2 } }) (typedWrite .pctrCtl w d)

/-- PCTR_RING_SIZE clamps both fields (R531). -/
def writeRingSize (q : Requester) (o : Nat) (w : Word) (d : Dev) : Dev :=
  let a := clampTo 12 22 (bits w 12 8)
  let b := clampTo 1 8 (bits w 3 0)
  rangeErr (a.2 || b.2) q o (typedWrite .pctrRingSize (putBits (putBits w 12 8 a.1) 3 0 b.1) d)

/-- PCTR_CLR: with its KEY, unless a clear is still pending (R127, R525). -/
def writePctrClr (q : Requester) (o : Nat) (w : Word) (d : Dev) : Dev :=
  if !keyed w then accErr accKey q true o d
  else gate (bit w 8 && !d.pctr.clrGo) (pctrClrGo (bits w 6 0)) d

/-- SLn_QM_WM_STAT: its sticky bits are those of the pool entries. -/
def writeWmStat (n : Nat) (w : Word) (d : Dev) : Dev :=
  each [0, 1, 2] (fun i d => gate (bit w (10 * i + 1)) (modWm n 3 i fun e => { e with sticky := false }) d) d

/-- PMON_PHASE (R403, R410). -/
def writePhase (q : Requester) (o : Nat) (w : Word) (d : Dev) : Dev :=
  rangeErr (pmonPhase (bits w 26 0)).2 q o (setPhase (bits w 26 0) d)

/-- NVM_JTAG_CTL.RELOCK (R562). -/
def writeJtagCtl (w : Word) (d : Dev) : Dev := gate (bit w 0) jtagLock d

/-! ### Wide values (R133 to R136) -/

def bankOf (d : Dev) (q : Requester) : WideBank := tget {} d.host.wide (reqNo q)
def modBank (q : Requester) (f : WideBank → WideBank) (d : Dev) : Dev :=
  { d with host := { d.host with wide := tmod {} d.host.wide (reqNo q) f } }

/-- WIDE_SEL: a capture starts; one in progress is abandoned (R135). -/
def wideSelect (q : Requester) (w : Word) (d : Dev) : Dev :=
  modBank q (fun b => { b with sel := w &&& 0x7FFFFFFF, writes := (b.writes + 1) % 16, busy := true }) d

/-- SPACE and INDEX of a bank. -/
def wideSpace (b : WideBank) : Nat := bits b.sel 30 24
def wideIndex (b : WideBank) : Nat := bits b.sel 23 0

/-- WIDE_CMD.RECAPTURE. -/
def wideRecapture (q : Requester) (d : Dev) : Dev := modBank q (fun b => { b with busy := true, cmd := Nat.lor b.cmd 2 }) d

/-- The refused WRITE (R135). -/
def wideRefuse (q : Requester) (d : Dev) : Dev := modBank q (fun b => { b with errc := 4 }) d

/-- WIDE_CMD.WRITE: only a performance counter is writable (R524), and not while a capture runs (R135). `both`: RECAPTURE was written
with it. -/
def wideWrite (q : Requester) (both : Bool) (d : Dev) : Dev :=
  let b := bankOf d q
  if b.busy || !(q == .pf0 || q == .spi) || wideSpace b != 3 || (ctrBank (wideIndex b)).isNone then wideRefuse q d
  else
    let v := ((b.wdata.getD 0 0).toNat + (b.wdata.getD 1 0).toNat * 2 ^ 32) % 2 ^ 48
    let d := gate (domReady d 4) (fun d => { d with pctr := { d.pctr with ctr := tset d.pctr.ctr (wideIndex b) { v := v } } }) d
    modBank q (fun b => { b with busy := true, cmd := Nat.lor b.cmd (if both then 3 else 1) }) d

/-- WIDE_CMD: of a WRITE with RECAPTURE the WRITE is performed, and its capture is the recapture; both bits read 1 until then (R127,
R135). -/
def wideCommand (q : Requester) (w : Word) (d : Dev) : Dev :=
  if bit w 0 then wideWrite q (bit w 1) d else gate (bit w 1) (wideRecapture q) d

/-- What a capture finds: data words, a value outside the spaces, a domain not READY, no privilege. -/
inductive WideRes where
  | data (w : List Word)
  | noValue
  | noRecord
  | notReady
  | denied
  deriving DecidableEq, Repr

/-- A counter of 48 or 64 bits with its wrap sticky (R136). -/
def wideCtr (d : Dev) (v : Nat) (low : Nat) : WideRes :=
  .data [BitVec.ofNat 32 v, BitVec.ofNat 32 (v / 2 ^ 32), BitVec.ofNat 32 low, BitVec.ofNat 32 (now d)]

/-- A 16-byte record (R10, R136). -/
def wideRec (b : Bytes) : WideRes := .data ((List.range 4).map fun i => leWord (slice b (4 * i) 4))

/-- A value of a domain. -/
def inDom (d : Dev) (n : Nat) (r : WideRes) : WideRes := if domReady d n then r else .notReady

/-- Count k of an exact bin (R408). -/
def binCount (b : Bin) (k : Nat) : Nat := [b.nbbe, b.nes, b.nses, b.nuas, b.fbbe, b.fes, b.fses, b.fuas].getD k 0

/-- The capture of a selector (R136, R150, R270, R307, R408, R438, R515, R523). -/
def wideValue (d : Dev) (q : Requester) (sp i : Nat) : WideRes :=
  if sp = 1 then
    if i = 0 then wideCtr d (now d) 0 else if i = 1 then wideCtr d d.time.rtc.toNat 0 else .noValue
  else if sp = 2 then
    if 64 ≤ i then .noValue else match d.err.queue[i]? with
      | some e => wideRec (errBytes e)
      | none => .noRecord
  else if sp = 3 then
    if (ctrBank i).isNone then .noValue
    else if !(q == .pf0 || q == .spi) then .denied
    else inDom d 4 (wideCtr d (ctrVal d i).v (ctrVal d i).wrap.toNat)
  else if sp = 4 then
    if 16384 * 32 ≤ i then .noValue
    else
      let b := tget {} (point d (i / 32)).bins (i / 8 % 4)
      inDom d 4 (wideCtr d (binCount b (i % 8)) (b.suspect.toNat * 2))
  else if sp = 5 then
    let c := i % 2 ^ 21 / 8
    let v := tget {} d.pkt.ctr (if i < 2 ^ 21 then i else 2 ^ 21 + i % 2 ^ 21)
    if i < 2 ^ 21 then inDom d (14 + ctxSlice c) (wideCtr d v.v v.wrap.toNat)
    else if i < 2 ^ 22 ∧ c < 32768 then inDom d (14 + contSlice d (c / 32)) (wideCtr d v.v v.wrap.toNat)
    else .noValue
  else if sp = 6 then
    if i < 8192 ∨ (0x10000 ≤ i ∧ i < 0x10000 + 2048) ∨ (0x20000 ≤ i ∧ i < 0x20000 + 4096) then
      inDom d 22 (wideCtr d (tget {} d.cctr i).v (tget {} d.cctr i).wrap.toNat)
    else .noValue
  else if sp = 7 then match timWide d i with
    | some b => inDom d 3 (wideRec b)
    | none => .noValue
  else .noValue

/-- WIDE_CAPTURE_DONE. What WIDE_DATA holds where no such value exists is a free value, but for an empty queue position
(R150). -/
def wideDone (q : Requester) (d : Dev) : Dev :=
  let b := bankOf d q
  let put (errc : Nat) (w : List Word) : Dev → Dev := modBank q fun b =>
    { b with busy := false, cmd := 0, valid := true, ticket := b.writes, errc := errc, data := w }
  if !b.busy then d
  else match wideValue d q (wideSpace b) (wideIndex b) with
    | .data w => put 0 w d
    | .noRecord => put 1 [0, 0, 0, 0] d
    | .noValue =>
      let x := Config.freeValue d.time.free
      let y := Config.freeValue (d.time.free + 1)
      put 1 [x.setWidth 32, (x >>> 32).setWidth 32, y.setWidth 32, (y >>> 32).setWidth 32] (stepFree (stepFree d))
    | .notReady => put 2 (List.replicate 4 0xFFFFFFFF) d
    | .denied => accErr accPriv q true 0x2000000 (put 3 [0, 0, 0, 0] d)  -- log entry 131

/-- A register of a requester's WIDE bank as it reads. -/
def wideRead (d : Dev) (q : Requester) (r : Reg) : Word :=
  let b := bankOf d q
  match r with
  | .wideSel => b.sel
  | .wideStat => BitVec.ofNat 32 (b.ticket * 256 + b.errc * 4 + b.busy.toNat * 2 + b.valid.toNat)
  | .wideCmd => BitVec.ofNat 32 (if b.busy then b.cmd else 0)
  | .wideData i => b.data.getD i 0
  | .wideWdata i => b.wdata.getD i 0
  | _ => 0

/-! ### MSI-X (R115, R117, R118, R122) -/

def msixOf (d : Dev) (fn1 : Bool) : Msix := if fn1 then d.host.pf1 else d.host.pf0
def setMsix (fn1 : Bool) (m : Msix) (d : Dev) : Dev :=
  { d with host := if fn1 then { d.host with pf1 := m } else { d.host with pf0 := m } }

/-- The GLB_INT_STAT bit behind a vector. -/
def vectorSrc (fn1 : Bool) (k : Nat) : Nat := if fn1 then (if k = 0 then 10 else 15) else k

/-- Vectors of a function. -/
def vectors (fn1 : Bool) : Nat := if fn1 then 2 else 16

/-- Messages of the function can be sent now (R117). -/
def msixRuns (d : Dev) (fn1 : Bool) : Bool := if fn1 then domReady d 4 && d.host.training else pf0Dma d

/-- A pending vector that is unmasked is sent if its source is still 1; otherwise it is pending no more. -/
def sendPending (fn1 : Bool) (k : Nat) (d : Dev) : Dev :=
  let m := msixOf d fn1
  if !m.pend.getLsbD k || m.mask.getLsbD k || !msixRuns d fn1 then d
  else
    let m := { m with pend := m.pend &&& ~~~ BitVec.twoPow 16 k }
    setMsix fn1 (if rb d .glbIntStat (vectorSrc fn1 k) then { m with sent := tmod 0 m.sent k (· + 1) } else m) d

/-- MSIX_UNMASK. -/
def msixUnmask (fn1 : Bool) (k : Nat) (d : Dev) : Dev :=
  if vectors fn1 ≤ k then d
  else
    let m := msixOf d fn1
    sendPending fn1 k (setMsix fn1 { m with mask := m.mask &&& ~~~ BitVec.twoPow 16 k } d)

/-- The function whose table a requester reaches. -/
def msixFn (q : Requester) : Bool := q == .pf1

/-- A dword of the MSIX window. -/
def msixRead (d : Dev) (q : Requester) (x : Nat) : Word :=
  let m := msixOf d (msixFn q)
  let n := vectors (msixFn q)
  if x < 16 * n then
    if x % 16 = 12 then BitVec.ofNat 32 (m.mask.getLsbD (x / 16)).toNat else tget 0 m.words (x / 4)
  else if x = 0x1000 then BitVec.ofNat 32 (bitmap n fun k => m.pend.getLsbD k)
  else 0

/-- A write of the MSIX table; the pending-bit array is read only. -/
def msixWrite (q : Requester) (x : Nat) (w : Word) (d : Dev) : Dev :=
  let fn1 := msixFn q
  let m := msixOf d fn1
  if 16 * vectors fn1 ≤ x then d
  else if x % 16 = 12 then
    if bit w 0 then setMsix fn1 { m with mask := m.mask ||| BitVec.twoPow 16 (x / 16) } d else msixUnmask fn1 (x / 16) d
  else setMsix fn1 { m with words := tset m.words (x / 4) w } d

/-! ### One register write -/

/-- The effect of a granted 4-byte write of a register that reaches the device alone. -/
def writeDevReg (q : Requester) (o : Nat) (r : Reg) (w : Word) (d : Dev) : Dev := match r with
  | .glbWdt => clampWrite r 13 0 10 10000 q o w d
  | .pwrCap => writePwrCap q o w d
  | .pwrMemIdle => clampWrite r 13 0 0 10000 q o w d
  | .pwrRailClr => each [0, 1, 2, 3] (fun k d => gate (bit w k) (railClr k) d) d
  | .pwrThermCtl => showTherm (clampWrite r 15 8 80 105 q o w d)
  | .pwrHostHold => hostHold (bits w 23 0) d
  | .pwrHostDrop => hostDrop (bits w 23 0) d
  | .pwrDomStat n => writeDomStat n w d
  | .errInj => writeErrInj q o w d
  | .mbxDb c => doorbell c (bits w 6 0) d
  | .mbxCtl c => writeMbxCtl c q o w d
  | .mbxBudget c => writeBudget c q o w d
  | .evtCtl => writeEvtCtl w d
  | .evtBaseLo | .evtBaseHi => if rb d .evtCtl 0 then accErr accRange q true o d else typedWrite r w d
  | .evtSize => if rb d .evtCtl 0 then accErr accRange q true o d else clampWrite r 4 0 6 16 q o w d
  | .evtBatch => clampWrite r 8 0 1 256 q o w d
  | .evtHoldoff => clampWrite r 13 0 1 10000 q o w d
  | .wideSel => wideSelect q w d
  | .wideCmd => wideCommand q w d
  | .wideWdata i => modBank q (fun b => { b with wdata := b.wdata.set i w }) d
  | .nvmJtagCtl => writeJtagCtl w d
  | .pctrCtl => writePctrCtl w d
  | .pctrWin => clampWrite r 13 0 1 10000 q o w d
  | .pctrRingLo | .pctrRingHi => if rb d .pctrCtl 0 then accErr accRange q true o d else typedWrite r w d
  | .pctrRingSize => if rb d .pctrCtl 0 then accErr accRange q true o d else writeRingSize q o w d
  | .pctrClr => writePctrClr q o w d
  | .qmClr n => clearEntry n (bits w 31 30) (bits w 15 0) d
  | .qmWmStat n => writeWmStat n w d
  | .pmonPhase => writePhase q o w d
  | r => typedWrite r w d

/-- GLB_RST_CMD: PWR_CYCLE takes precedence over WARM (R143). -/
def writeRstCmd (q : Requester) (o : Nat) (w : Word) (s : Sys) : Sys :=
  if !keyed w then onDev (accErr accKey q true o) s
  else if bit w 1 then onDev askPowerCycle s
  else if bit w 0 && !warmWaits s.dev then rstWarm s
  else s

/-- GLB_CPU_RESTART: GO has no further effect while a restart that it started runs (R127). -/
def writeCpuRestart (q : Requester) (o : Nat) (w : Word) (s : Sys) : Sys :=
  if !keyed w then onDev (accErr accKey q true o) s
  else if bit w 0 && s.dev.boot.cpuRestart.isNone then restartCpu 6 s
  else s

/-- The effect of a granted 4-byte write of a register. -/
def writeReg (q : Requester) (o : Nat) (r : Reg) (w : Word) (s : Sys) : Sys := match r with
  | .glbRstCmd => writeRstCmd q o w s
  | .glbCpuRestart => writeCpuRestart q o w s
  | r => onDev (writeDevReg q o r w) s

/-- The effect of a granted write at a place. -/
def writeSite (q : Requester) (o : Nat) (p : Place) (w : Word) (s : Sys) : Sys := match p.site with
  | .reg r => writeReg q o r w s
  | .bytes => { s with mem := wrBytes s.mem p.off (wordLe w) }
  | .msix x => onDev (msixWrite q x w) s
  | .hole | .ltab _ | .ltabRegs _ | .capture _ _ | .qm _ _ | .points _ | .other => s

/-- One write of `size` bytes, 1 to 4 (R590). -/
def writeOne (q : Requester) (t : RegTarget) (size : Nat) (w : Word) (s : Sys) : Sys :=
  match refusalOf s.dev q t size true true with
  | some e => onDev (accErr e.1 q true (targetOff t)) s
  | none => match resolve s.dev t with
    | some p => writeSite q (targetOff t) p w s
    | none => s

/-- A dword write of a register by name, as the rows of their own register make it. -/
def writeNamed (q : Requester) (r : Reg) (w : Word) (s : Sys) : Sys :=
  if pathUp s.dev q then writeOne q (.named r) 4 w s else s

/-- REGISTER_WRITE: 1, 2 or 4 bytes; a 64-bit write is two dword writes in ascending order, `hi` the second (R129). -/
def hostWrite (q : Requester) (t : RegTarget) (size : Nat) (w hi : Word) (s : Sys) : Sys :=
  if !pathUp s.dev q then s
  else if size = 8 ∧ targetOff t % 4 = 0 then
    writeOne q (.offset (targetOff t + 4)) 4 hi (writeOne q t 4 w s)
  else writeOne q t size w s

/-! ### Reads -/

/-- The dword that a granted read returns. -/
def readSite (q : Requester) (p : Place) (s : Sys) : Word := match p.site with
  | .reg r => if regDomain r == 0 && (match r with
      | .wideSel | .wideStat | .wideCmd | .wideData _ | .wideWdata _ => true
      | _ => false) then wideRead s.dev q r else readReg s.dev r
  | .hole => 0
  | .ltab x => leWord (ltabWindow s.dev x)
  | .ltabRegs x => leWord (slice (ltabRegEntry s.dev (x / 16)) (x % 16) 4)
  | .bytes => leWord (rdBytes s.mem p.off 4)
  | .msix x => msixRead s.dev q x
  | .capture n x => leWord (captureWindow s.dev n x)
  | .qm n x => leWord (qmWindow s.dev n x)
  | .points x => leWord (pointWindow s.dev x)
  | .other => (Config.freeValue s.dev.time.free).setWidth 32

/-- One read of `size` bytes, 1 to 4: the cause of R590 if it is refused, and the dword. -/
def readOne (q : Requester) (t : RegTarget) (size : Nat) (answered : Bool) (s : Sys) : Option Nat × Word :=
  match refusalOf s.dev q t size false answered with
  | some e => (some e.1, e.2)
  | none => match resolve s.dev t with
    | some p => (none, readSite q p s)
    | none => (none, 0)

/-- A read of this place draws free values. -/
def drawsFree : Site → Bool
  | .other => true
  | .reg (.pwrRegion _) => true
  | _ => false

/-- A refused read is logged (R132). A read of what the manual leaves open draws its free value. -/
def logRead (q : Requester) (t : RegTarget) (c : Option Nat) (d : Dev) : Dev := match c with
  | some b => accErr b q false (targetOff t) d
  | none => match resolve d t with
    | some p => gate (drawsFree p.site) senseRead d
    | none => d

/-- The bytes of a read kept as its answer. -/
def setAnswer (q : Requester) (b : Bytes) (d : Dev) : Dev :=
  { d with host := { d.host with answer := tset d.host.answer (reqNo q) b } }

/-- Successive dword reads from offset o: the causes met, and the bytes (R129). -/
def readRun (q : Requester) (answered : Bool) : Nat → Nat → Sys → List Nat × Bytes × Sys
  | 0, _, s => ([], [], s)
  | k + 1, o, s =>
    let r := readOne q (.offset o) 4 answered s
    let s := onDev (logRead q (.offset o) r.1) s
    let (e, b, s) := readRun q answered k (o + 4) s
    (r.1.toList ++ e, wordLe r.2 ++ b, s)

/-- REGISTER_READ: 1, 2 or 4 bytes, or a burst of whole dwords. One that crosses a dword boundary answers all ones (R129). -/
def hostRead (q : Requester) (t : RegTarget) (size : Nat) (answered : Bool) (s : Sys) : Sys :=
  if !pathUp s.dev q then s
  else if 4 < size ∧ targetOff t % 4 = 0 then
    let (_, b, s) := readRun q answered ((size + 3) / 4) (targetOff t) s
    onDev (setAnswer q (b.take size)) s
  else
    let r := readOne q t size answered s
    let at_ := match t with
      | .offset o => o % 4
      | .named _ => 0
    let b : Bytes := if crosses t size then List.replicate size 0xFF else ((wordLe r.2).drop at_).take size
    onDev (fun d => setAnswer q b (logRead q t r.1 d)) s

/-! ### SPI and I²C (R120, R121) -/

/-- The status of a SPI transaction from the causes its dwords met and an incomplete dword at its end. -/
def spiResult (e : List Nat) (cut : Bool) : Nat :=
  if e.any fun c => c == accPriv || c == accCrossDw || c == accUnmapped then 1
  else if e.contains accTimeout then 2
  else if cut then 3 else 0

/-- SPI_READ of n dwords: 0x5A and the data, or 0xEE and 0xFF bytes where the data is not ready in time. The bytes sent while the
target waits are left out (R120). -/
def spiRead (o n : Nat) (ready : Bool) (s : Sys) : Sys :=
  if !pathUp s.dev .spi then s
  else
    let (e, b, s) := readRun .spi ready n o s
    let out : Bytes := if ready then 0x5A :: b else 0xEE :: List.replicate (4 * n) 0xFF
    onDev (fun d => { d with host := { d.host with spiOut := out, spiStatus := spiResult e false } }) s

/-- Successive dword writes. -/
def writeRun (q : Requester) : List Word → Nat → Sys → List Nat × Sys
  | [], _, s => ([], s)
  | w :: l, o, s =>
    let c := (refusalOf s.dev q (.offset o) 4 true true).map (·.1)
    let (e, s) := writeRun q l (o + 4) (writeOne q (.offset o) 4 w s)
    (c.toList ++ e, s)

/-- SPI_WRITE; `cut`: a trailing incomplete dword, which is dropped. -/
def spiWrite (o : Nat) (ws : List Word) (cut : Bool) (s : Sys) : Sys :=
  if !pathUp s.dev .spi then s
  else
    let (e, s) := writeRun .spi ws o s
    onDev (fun d => { d with host := { d.host with spiOut := [], spiStatus := spiResult e cut } }) s

/-- SPI_STATUS: one byte for the previous transaction. -/
def spiStatus (d : Dev) : Dev :=
  if !pathUp d .spi then d else { d with host := { d.host with spiOut := be 1 d.host.spiStatus } }

/-- The I²C target answers address a: 0x5C + STRAP_I2CA (R54); the general call is ignored. -/
def i2cHears (d : Dev) (a : Nat) : Bool := pathUp d .i2c && a == 0x5C + rf d .glbStrap 3 2

/-- I2C_WRITE and I2C_READ to address a. -/
def i2cWrite (a o : Nat) (ws : List Word) (s : Sys) : Sys :=
  if !i2cHears s.dev a then s else (writeRun .i2c ws o s).2

def i2cRead (a o n : Nat) (answered : Bool) (s : Sys) : Sys :=
  if !i2cHears s.dev a then s
  else
    let (_, b, s) := readRun .i2c answered n o s
    onDev (fun d => { d with host := { d.host with i2cOut := (List.range n).map fun i => leWord (slice b (4 * i) 4) } }) s

/-! ### The PCIe endpoint (R92, R115, R117) -/

/-- The first 64 bytes of a function's configuration space, in ascending address order, of which the manual gives no value for bytes
0x14 to 0x3F (subsystem IDs, capability pointer, interrupt line), put at 0 (DESIGN CHOICE, log entry 140): vendor and device ID, Command with Bus
Master Enable of PF0, Status with its capability list, Revision ID and class code 0x02_8000, header of a multi-function endpoint,
BAR0 as 64-bit non-prefetchable memory without an address, no other BAR and no expansion ROM (R115; log entry 140). -/
def configHead (d : Dev) (fn1 : Bool) : Bytes :=
  (be 2 Config.vendorId.toNat).reverse ++ (be 2 (if fn1 then 0x6401 else 0x6400)).reverse
    ++ [if !fn1 && d.host.busMaster then 4 else 0, 0, 0x10, 0, Config.pcieRevision, 0, 0x80, 0x02, 0, 0, 0x80, 0]
    ++ [4, 0, 0, 0] ++ zeros 44

/-- What a write of all ones to BAR0 leaves to be read: the address bits above 64 MiB and the kind of the BAR (R115). -/
def barSize : BitVec 64 := 0xFFFFFFFFFC000004

/-- The capabilities that a function shows, and those the manual rules out are none of them (R115). -/
inductive PcieCap where
  /-- D0 and D3hot -/
  | power (d3hot : Bool)
  | msix (vectors : Nat) (table pending : Nat)
  /-- largest payload and read request in bytes, 10-bit tags, Function Level Reset -/
  | express (payload request : Nat) (tag10 flr : Bool)
  /-- largest width, largest rate in MT/s, lane reversal and polarity inversion, and the width and rate trained, 0 without a link -/
  | link (lanes rate : Nat) (reversal polarity : Bool) (width speed : Nat)
  | aer
  | serial (sn : BitVec 64)
  /-- ASPM L1 with L1 PM substates -/
  | l1
  deriving DecidableEq, Repr

/-- The widths and rates in MT/s that the link trains to, the best first (R115). -/
def linkWidths : List Nat := [4, 2, 1]
def linkRates : List Nat := [32000, 16000, 8000, 5000, 2500]

/-- The width and the rate that the link has trained to: what the link partner leaves of those of R115 is a free value (log entry
176). 0 before training. -/
def linkTrained (d : Dev) : Nat × Nat :=
  if !d.host.training then (0, 0)
  else (linkWidths.getD (Config.linkWidth d.host.trained % 3) 4, linkRates.getD (Config.linkRate d.host.trained % 5) 32000)

/-- The capabilities of a function. No command puts PF1 into D3hot: the table of commands has the entry and the return of PF0 alone
(log entry 140). -/
def configCaps (d : Dev) (fn1 : Bool) : List PcieCap :=
  [.power (!fn1 && d.host.d3hot), .msix (vectors fn1) 0x2300000 0x2301000, .express 512 4096 true true,
    .link 4 32000 true true (linkTrained d).1 (linkTrained d).2, .aer, .serial Config.serial, .l1]

/-- PERST_N_RISE and PERST_N_FALL: a conventional reset of the endpoint. -/
def perstRise (d : Dev) : Dev := { d with pin := { d.pin with perstN := true } }
def perstFall (d : Dev) : Dev :=
  { d with
    pin := { d.pin with perstN := false }
    host := { d.host with pf0 := {}, pf1 := {}, training := false, busMaster := false, d3hot := false } }

/-- PCIE_LINK_TRAINING_START (R92). The transmitters stay idle, and no training starts, while WARM_RST_N is low without PCIe kept
(R56). -/
def startLink (d : Dev) : Dev :=
  if d.pin.perstN && domReady d 4 && pcieUp d then { d with host := { d.host with
      training := true, trained := d.host.trained + 1 } }
  else d

/-- PF0_FLR (R117). -/
def pf0Flr (d : Dev) : Dev :=
  if !(domReady d 4 && d.host.training) then d
  else
    let d := { d with
      host := { d.host with pf0 := {}, busMaster := false, d3hot := false }
      pctr := { d.pctr with writing := none } }
    let d := setRb .evtCtl 0 false (setRb .pctrCtl 0 false d)
    setRf .evtProd 16 0 0 (setRf .evtCons 16 0 0 (setRf .pctrProd 8 0 0 (setRf .pctrCons 8 0 0 d)))

/-- PF1_FLR affects PF1 only. -/
def pf1Flr (d : Dev) : Dev :=
  if domReady d 4 && d.host.training then { d with host := { d.host with pf1 := {} } } else d

/-- PF0_D3HOT_ENTRY: D3hot, or Bus Master Enable cleared. -/
def pf0Pause (d3 : Bool) (d : Dev) : Dev :=
  if !(domReady d 4 && d.host.training) then d
  else { d with host := if d3 then { d.host with d3hot := true } else { d.host with busMaster := false } }

/-- PF0_DMA_RESUME: PF0 in D0 with bus mastering; pending messages are sent. -/
def pf0Resume (d : Dev) : Dev :=
  if !(domReady d 4 && d.host.training) then d
  else each (List.range 16) (sendPending false) { d with host := { d.host with d3hot := false, busMaster := true } }

/-! ### Events leave the staging FIFO (R172) -/

/-- EVT_HOLDOFF_EXPIRY. -/
def holdoffEnd (d : Dev) : Dev := if d.evt.holdoff && domReady d 4 then postEvents d else d

/-- EVT_POST_ON_ROOM. -/
def postOnRoom (d : Dev) : Dev :=
  if d.evt.due && domReady d 4 && evtDma d && decide (0 < evtRoom d) then postEvents d else d

end Sys2Proof.Machine
end

