-- ==== Sys2Proof/Machine/Provision.lean ====
section
/-! DEFINITION. Provisioning: the object commands, COMMIT and its checks, and a commit entering service (R24, R29, R162 to R166,
R192, R593 to R595). -/

namespace Sys2Proof.Machine

/-- What a command knows of its execution: its X, and whether it was mirrored to an IN_STEP mate (R161). -/
structure Ctx where
  x : Nat
  mirrored : Bool
  deriving DecidableEq, Repr

/-! ### Objects (R162, R593, R595) -/

/-- The index range of an object type; of a function mode, the functions and instances of R595. -/
def instances (fn : Nat) : Nat := [0, 16384, 512, 256, 4, 4, 4, 4, 1, 64].getD fn 0

def indexOk (ty i : Nat) : Bool :=
  if ty = 1 then decide (i < 64) else if ty = 2 then decide (i < 1024) else if ty = 3 then decide (i < 1280)
  else if ty = 4 then decide (i < 262144 ∨ (0x100000 ≤ i ∧ i < 0x100400)) else if ty = 5 then decide (i < 262144)
  else if ty = 6 then decide (i < 8192) else if ty = 7 then decide (i < 512) else if ty = 8 then decide (i < 256)
  else if ty = 9 then decide (i < 16384) else if ty = 0x0A then decide (i < 4)
  else if ty = 0x0B then decide (i % 2 ^ 24 < instances (i / 2 ^ 24))
  else if ty = 0x0C then decide (i < 4) else false

/-- Parts of a record of length n (R593). -/
def parts (n : Nat) : Nat := (n + 231) / 232

/-- The fields of a function-mode record (R163, R595). -/
def checkMode (i : Nat) (b : Bytes) : Option Nat :=
  firstBad [(0, u8 b 0 == i / 2 ^ 24), (1, decide (u8 b 1 ≤ 1)), (2, u16 b 2 == 0 || decide (10 ≤ u16 b 2 ∧ u16 b 2 ≤ 10000))]

/-- The first field of a part that its record alone refuses, as a record offset; `b` is the record with the other parts zero
(R593). -/
def checkPart (ty i part : Nat) (b : Bytes) : Option Nat :=
  if ty = 1 then checkClient b else if ty = 2 then checkCont i b else if ty = 3 then checkCal b
  else if ty = 4 then
    if 0x100000 ≤ i then firstBad ((pcChecks b).filter fun e => decide (e.1 / 232 = part)) else checkFlow b
  else if ty = 5 then checkPolicer b else if ty = 6 then checkQc b else if ty = 7 then checkPg b
  else if ty = 8 then checkMg b else if ty = 9 then checkMp b else if ty = 0x0A then checkLine b
  else if ty = 0x0B then checkMode i b else checkMq b

/-! ### Reserved fields (R9) -/

/-- k reserved bytes from offset o. -/
def resBytes (o k : Nat) : List (Nat × Byte) := (List.range k).map fun j => (o + j, 0)

/-- The reserved bytes of a record and the bits that a byte keeps: client port R190, container R248, calendar R249, flow R276,
packet container R281, policer R279, queue class R328, protection group R414, merge group R423, monitoring point R382, line port
R210 with its OHX entries R233 and resize policy R354, function mode R163, memory quota R329. -/
def reservedOf (ty i : Nat) : List (Nat × Byte) :=
  if ty = 1 then (8, 0xF8) :: resBytes 26 6
  else if ty = 2 then (16, 0xF8) :: resBytes 17 3 ++ resBytes 30 2
  else if ty = 3 then resBytes 2 2
  else if ty = 4 then if 0x100000 ≤ i then (0, 0xE0) :: resBytes 6 2 else [(3, 0xF0), (23, 0)] ++ resBytes 50 6
  else if ty = 5 then resBytes 2 2 ++ resBytes 20 4
  else if ty = 6 then [(1, 0xC0), (3, 0)] ++ resBytes 28 4
  else if ty = 7 then (3, 0xC0) :: resBytes 10 22
  else if ty = 8 then (1, 0x80) :: resBytes 16 16
  else if ty = 9 then (2, 0xF8) :: resBytes 13 3
  else if ty = 0x0A then
    [(1, 0xC0), (200, 0xF0)] ++ resBytes 18 2 ++ resBytes 29 3 ++ resBytes 211 13
      ++ (List.range 64).flatMap fun k => [(32 + 2 * k, 0x8F), (33 + 2 * k, 0xCF)]
  else if ty = 0x0B then resBytes 4 4
  else if ty = 0x0C then resBytes 30 34 else []

/-- Those of the timing records: reference R507, DPLL R508, output R509, HOLDOVER_LOAD R510. -/
def refReserved : List (Nat × Byte) := [(0, 0xC0), (5, 0)] ++ resBytes 28 4
def dpllReserved : List (Nat × Byte) := [(1, 0xE0), (7, 0)] ++ resBytes 14 2
def outReserved : List (Nat × Byte) := (4, 0xE0) :: resBytes 8 8
def holdReserved : List (Nat × Byte) := resBytes 10 2 ++ resBytes 34 2

/-- A record with its reserved fields zero: they are ignored on receipt and sent as zeros (R9). -/
def clearReserved (l : List (Nat × Byte)) (b : Bytes) : Bytes :=
  (b.zip (List.range b.length)).map fun e => match l.find? fun x => x.1 == e.2 with
    | some x => e.1 &&& x.2
    | none => e.1

/-- A part enters the shadow record, its reserved fields zero; a record of several parts is complete once every part has been written since its first
(R162). -/
def writePart (ty i part : Nat) (data : Bytes) (d : Dev) : Dev :=
  let k := okey ty i
  let n := recLen ty i
  let whole := (tfind d.prov.shadow k).isSome && (tfind d.prov.parts k).isNone
  let b := clearReserved (reservedOf ty i) (fit n (patch (fit n (tget [] d.prov.shadow k)) (232 * part) data))
  let got := if part = 0 then 1 else nputBit (if whole then 2 ^ parts n - 1 else tget 0 d.prov.parts k) part true
  { d with prov := { d.prov with
      shadow := tset d.prov.shadow k b
      parts := if got + 1 = 2 ^ parts n then tdel d.prov.parts k else tset d.prov.parts k got } }

/-- OBJ_SET (R593): OBJ_TYPE, PART, REC_LEN, INDEX, data. An OBJ_TYPE outside the table of R162 is answered BAD_PARAM at offset 0
(DESIGN CHOICE, log entry 138). -/
def objSet (p : Bytes) (d : Dev) : Ans × Dev :=
  let ty := u8 p 0
  let part := u8 p 1
  let i := u32 p 4
  let n := recLen ty i
  if n = 0 then (badParam 0, d)
  else if u16 p 2 ≠ n then (badParam 2, d)
  else if parts n ≤ part then (badParam 1, d)
  else if !indexOk ty i then (status sNoResource, d)
  else if p.length ≠ 8 + min 232 (n - 232 * part) then (status 3, d)
  else match checkPart ty i part (zeros (232 * part) ++ p.drop 8) with
    | some o => (badParam (8 + o - 232 * part), d)
    | none => (success, writePart ty i part (p.drop 8) d)

/-- OBJ_DEL: an object that is not there stays so. -/
def objDel (p : Bytes) (d : Dev) : Ans × Dev :=
  let ty := u8 p 0
  let i := u32 p 4
  if recLen ty i = 0 then (badParam 0, d)
  else if !indexOk ty i then (status sNoResource, d)
  else
    (success, { d with prov := { d.prov with
      shadow := tdel d.prov.shadow (okey ty i), parts := tdel d.prov.parts (okey ty i) } })

/-- OBJ_GET: OBJ_TYPE, PART, WHICH, INDEX. An object that is not there has REC_LEN 0. -/
def objGet (p : Bytes) (d : Dev) : Ans :=
  let ty := u8 p 0
  let part := u8 p 1
  let i := u32 p 4
  let n := recLen ty i
  if n = 0 then badParam 0
  else if parts n ≤ part then badParam 1
  else if 1 < u8 p 2 then badParam 2
  else if !indexOk ty i then status sNoResource
  else match tfind (if u8 p 2 = 0 then d.prov.shadow else d.prov.serv) (okey ty i) with
    | none => success (be 2 0 ++ zeros 2)
    | some b => success (be 2 n ++ zeros 2 ++ slice b (232 * part) (min 232 (n - 232 * part)))

/-- SHADOW_REVERT. -/
def shadowRevert (d : Dev) : Dev := { d with prov := { d.prov with shadow := d.prov.serv, parts := [] } }

/-! ### COMMIT (R29, R164, R594) -/

/-- The tables that a commit replaces: those of the newest pending commit, or those in service. -/
def baseTables (d : Dev) : Tbl Bytes := match d.prov.pend.getLast? with
  | some e => e.tables
  | none => d.prov.serv

/-- The protection group that a commit keeps while it changes a container of it (R421). -/
def pgTouched (old new : Tbl Bytes) : Option Nat :=
  (objs old 7).find? fun g => (tfind new (okey 7 g)).isSome &&
    let r := (tfind old (okey 7 g)).getD []
    [pgWork r, pgProt r].any fun c => contRec old c != contRec new c

/-- The refusals of the commit checks in the order of R594: the answer, and the event that tells it. Of the refusal of R421 the manual
gives no reason number: it is a free value (log entry 155). -/
def commitRefusal (d : Dev) : Option (Ans × (Dev → Dev)) :=
  let t := d.prov.shadow
  let bad (noRes : Bool) : Ans := if noRes then status sNoResource else badParam 0
  let contSl (c : Nat) : Nat := ((contRec t c).map ctClientSlice).getD 0
  if !d.prov.parts.isEmpty then some (badParam 0, id)
  else match clientRefusal t with
  | some (o, r) => some (bad (r == 4), evtCli 0x0604 (o / 16) o (be 1 r))
  | none =>
    match mapRefusal (baseTables d) t (fun c => (tget {} d.cont c).pre)
      (fun c => (tget {} d.cont c).flex != .idle) (fun p => (rz d p).st != 0) with
    | some m => some (bad (m.reason == 7), evtXc 0x0702 m.obj (be 1 m.reason ++ be 1 m.kind))
    | none => match pktRefusal t with
      | some (o, r) => some (badParam 0,
          evtPkt 0x0801 (if 0x100000 ≤ o then contSl (o - 0x100000) else ctxSlice o) o (be 1 r))
      | none => if policerRefused t then some (badParam 0, id) else match qmRefusal (pop16 d) (memRate d) t with
        | some (o, r, quota) => some (bad (decide (5 ≤ r)), evtQm 0x0901 (if quota then o % 4 else contSl (o / 8)) o (be 1 r))
        | none => match pmRefusal t with
          | some (o, r) => some (badParam 0, evtPm 0x0A05 o (be 1 r))
          | none => match groupRefusal t with
            | some e => some (badParam 0, evtXc 0x0403 e.1 (be 1 e.2))
            | none => (pgTouched (baseTables d) t).map fun g =>
              (badParam 0, fun d => evtXc 0x0403 g (be 1 (peekFree d 256)) (stepFree d))

/-- The earliest epoch a commit or its cancel may name (R29, R164, R166): 2 epochs ahead, and later than X on a pair. -/
def earliest (c : Ctx) : Nat := if c.mirrored then c.x + 1 else c.x + 2

/-- COMMIT. -/
def commit (c : Ctx) (p : Bytes) (d : Dev) : Ans × Dev :=
  let lo := earliest c
  let last := d.prov.pend.getLast?.map (·.epoch)
  let e := if u48 p 0 = 0 then max lo (match last with
    | some l => l + 1
    | none => 0) else u48 p 0
  if e < lo then (status 7, d)
  else if last.any fun l => decide (e ≤ l) then (status 8, d)
  else if 4 ≤ d.prov.pend.length then (status 8, d)
  else match commitRefusal d with
    | some (a, f) => (a, f d)
    | none =>
      let id := nextId d.prov.lastId
      let d := { d with prov := { d.prov with
        pend := d.prov.pend ++ [{ id := id, epoch := e, tables := d.prov.shadow }], lastId := id } }
      (success (be 6 e ++ be 2 id), wakeFor d.prov.shadow d)

/-- Commits leave the list of pending ones; the domains they alone needed are no longer used. -/
def dropPending (keep gone : List Pend) (cause : Nat) (d : Dev) : Dev :=
  markLeaving (gone.foldl (fun d e => commitCancelled e cause d) { d with prov := { d.prov with pend := keep } })

/-- COMMIT_CANCEL (R166). A COMMIT_ID that is not pending is answered BAD_PARAM at offset 0 (DESIGN CHOICE, log entry 139). -/
def commitCancel (c : Ctx) (p : Bytes) (d : Dev) : Ans × Dev :=
  match d.prov.pend.find? fun e => e.id == u16 p 0 with
  | none => (badParam 0, d)
  | some e =>
    if e.epoch < earliest c then (status 7, d)
    else
      (success, dropPending (d.prov.pend.filter fun q => decide (q.epoch < e.epoch))
        (d.prov.pend.filter fun q => decide (e.epoch ≤ q.epoch)) 2 d)

/-- COMMIT_STATUS. -/
def commitStatus (d : Dev) : Bytes :=
  be 2 d.prov.doneId ++ be 1 d.prov.pend.length ++ [0] ++ be 6 d.prov.doneEpoch ++ zeros 2
    ++ d.prov.pend.flatMap fun e => be 2 e.id ++ be 6 e.epoch

/-! ### Entering service, type by type -/

/-- The indices of a type whose record differs between two tables. -/
def changed (old new : Tbl Bytes) (ty : Nat) : List Nat :=
  ((objs old ty ++ objs new ty).eraseDups).filter fun i => decide (tfind old (okey ty i) ≠ tfind new (okey ty i))

/-- The container counters of an object (R270, R438, R522) and the flow counters of one (R307) start at 0. -/
def zeroCctr (i : Nat) (d : Dev) : Dev := { d with cctr := tdrop d.cctr fun k => k / 8 == i }
def zeroFlowCtr (i : Nat) (d : Dev) : Dev := { d with pkt := { d.pkt with ctr := tdrop d.pkt.ctr fun k => k / 8 == i } }

/-- Before the tables change: the flows deleted with a packet container run on, and their queues with them, until it is flushed at its
R251 frame; one that does not run is flushed at once. The queue of a flow deleted alone is emptied, and so is one whose context
index a new flow takes (R322, R325; log entry 93). -/
def flushGone (new : Tbl Bytes) (d : Dev) : Dev :=
  let gone := (conts d.prov.serv).filter fun e => isPkt e.2 && (contRec new e.1).isNone
  let lost := (flows d.prov.serv).filter fun e => (tfind new (okey 4 e.1)).isNone
  let again := ((List.range 4).flatMap fun n => (psl d n).left).filter fun e => (tfind new (okey 4 e.1)).isSome
  let d := again.foldl (fun d e => modPsl (ctxSlice e.1) (fun s => { s with left := tdel s.left e.1 }) (dropFlow e.1 d)) d
  let d := gone.foldl (fun d e =>
    let n := ctClientSlice e.2
    let fs := lost.filter fun f => flCont f.2 == e.1
    if (tget {} d.cont e.1).up then
      fs.foldl (fun d f => modPsl n (fun s => { s with left := tset s.left f.1 f.2 }) d) d
    else flushStop n e.1 (fs.map (·.1)) d) d
  (lost.filter fun e => !gone.any fun c => c.1 == flCont e.2).foldl (fun d e => dropFlow e.1 d) d

/-- Flows that leave, move or are set to TEMPLATE_MODE 0 are withdrawn while their records still stand (R294). -/
def withdrawFlows (new : Tbl Bytes) (d : Dev) : Dev :=
  (flows d.prov.serv).foldl (fun d e =>
    match tfind new (okey 4 e.1) with
    | none => withdraw e.1 true d
    | some b => gate (flCont b != flCont e.2 || (flMode b == 0 && flMode e.2 != 0)) (withdraw e.1 false) d) d

/-- A flow record has entered service (R280, R293, R522). -/
def flowCommit (old : Option Bytes) (f : Nat) (d : Dev) : Dev :=
  match old, serv d 4 f with
  | none, some _ =>
    let d := modPsl (ctxSlice f) (fun s => { s with buckets := tdel s.buckets f }) (zeroFlowCtr f d)
    flowStart f d
  | some a, some b =>
    if flCont a ≠ flCont b then flowStart f d
    else if flMode b = 1 ∧ (flMode a ≠ 1 ∨ flTemplate a ≠ flTemplate b) then setTemplate f (flTemplate b) d
    else if flMode b = 2 ∧ flMode a ≠ 2 then modSnd f (fun s => { s with tpl := none, miss := 0 }) d
    else d
  | _, none => modPsl (ctxSlice f) (fun s => { s with buckets := tdel s.buckets f }) d

/-- A changed policer keeps the levels that its old record gives it at the commit epoch, clipped to the new sizes; a new one
starts full, and a deleted one leaves none (R280). -/
def policerCommit (old : Option Bytes) (f : Nat) (d : Dev) : Dev :=
  let n := ctxSlice f
  match old, serv d 5 f with
  | some o, some r =>
    let b := fillBucket o (tfind (psl d n).buckets f) (now d * 1000000)
    let b : Bucket := { b with c := min b.c (plCbs r * 8000000), p := min b.p (plPbs r * 8000000) }
    modPsl n (fun s => { s with buckets := tset s.buckets f b }) d
  | _, _ => modPsl n (fun s => { s with buckets := tdel s.buckets f }) d

/-- A queue-class record: a change of FLUSH_GEN flushes the container queue (R322). -/
def queueCommit (old : Tbl Bytes) (i : Nat) (d : Dev) : Dev :=
  let c := i / 8
  let k := i % 8
  gate (qcFlushGen (qcIn old c k) != qcFlushGen (qcRec d c k) && isPkt (ctRec d c) && (contRec old c).isSome)
    (startFlush c false k) d

/-- A protection group enters or leaves service, or changes (R418, R437, R522). -/
def pgCommit (old : Option Bytes) (g : Nat) (d : Dev) : Dev :=
  match old, serv d 7 g with
  | some _, none => setReg (.xcPgstat g) 0 { d with prot := tdel d.prot g }
  | none, some _ => sfSdChange g (zeroCctr (0x4000 + g) { d with prot := tset d.prot g {} })
  | _, _ => sfSdChange g d

/-- A merge group enters or leaves service (R430, R437, R522). -/
def mgCommit (old : Option Bytes) (g : Nat) (d : Dev) : Dev :=
  match old, serv d 8 g with
  | some _, none => setReg (.xcMgskew g) 0 (setReg (.xcMgstat g) 0 { d with merge := tdel d.merge g })
  | none, some _ => zeroCctr (0x2000 + g) { d with merge := tset d.merge g {} }
  | _, _ => d

/-- A container enters service: its counters start at 0 (R522). It runs from its frame of R251, and one deleted until then; one
created anew before that frame is flushed first. -/
def contCommit (old : Option Bytes) (c : Nat) (d : Dev) : Dev :=
  match old, serv d 2 c with
  | none, some _ =>
    let x := tget {} d.cont c
    let n := ctClientSlice x.last
    let d := gate (x.up && isPkt x.last) (flushStop n c (leftOf d n c)) d
    let d := zeroCctr c (zeroObj (ctrDelin 0 0) c 8 (zeroObj (ctrCq 0 0) c 64 d))
    each (List.range 32) (fun e => zeroFlowCtr (2 ^ 18 + c * 32 + e)) d
  | some b, none => gate (tget {} d.cont c).up (modCont c fun x => { x with last := b }) d
  | _, _ => d

/-- Slices and line ports that enter service have their counters at 0 (R522). -/
def sliceCommit (old : Tbl Bytes) (n : Nat) (d : Dev) : Dev :=
  let d := gate (!provisioned old n && provisioned d.prov.serv n) (zeroObj (ctrSlice 0 0) n 32) d
  gate (!tableUses old (6 + n) && tableUses d.prov.serv (6 + n)) (zeroObj (ctrLine 0 0) n 16) d

/-! ### Function modes (R33, R35) -/

/-- An instance that has come to hardware mode acts on its current state: what its host had not decided is decided by the
engine (R33, R301, R402, R504). -/
def actHardware (fn i : Nat) (d : Dev) : Dev :=
  if fn = 2 then evalPg (pg d i) i 0 d
  else if fn = 3 then stepMg i d
  else if fn = 4 then
    let d := modPsl i (fun s => { s with cands := [] }) d
    ((flows d.prov.serv).filter fun e => ctxSlice e.1 == i && (sndOf d e.1).st == .full).foldl (fun d e => tryAnnounce e.1 1 d) d
  else if fn = 5 then
    let z := rz d i
    if z.st ≠ 2 then d
    else
      let v := verdict (modRz i (fun z => { z with st := 0 }) d) i z.newMap z.preempt (calCrc d i z.newMap)
      showRz i (if v = 0 then acceptProp i d else refuseProp i v d)
  else if fn = 7 then glideTimeout i d
  else if fn = 8 then binAll d
  else d

/-- An instance that has come to host-assisted mode reports what waits for a decision. -/
def actAssisted (fn i : Nat) (d : Dev) : Dev :=
  if fn = 2 then if hasPg d i then protReport i d else d
  else if fn = 6 then selReports i d
  else if fn = 8 then backlogReport d
  else d

/-- The outstanding report of an instance ends, and with it a change of mode that waits on it (R169). -/
def closeReport (fn i : Nat) (d : Dev) : Dev :=
  { d with
    mbx := { d.mbx with mir := d.mbx.mir.filter fun m => m.opcode != 0 || u32 m.req.payload 0 != akey fn i }
    asst := { d.asst with newest := match tfind d.asst.newest (akey fn i) with
      | some r => tset d.asst.newest (akey fn i) { r with opened := false, changeAt := none }
      | none => d.asst.newest } }

/-- The mode of an instance has changed: cause 1 commit, 2 assist timeout (R176). A change to hardware mode ends a freeze without
ASSIST_RESUME (DESIGN CHOICE, log entry 178). -/
def modeChanged (fn i cause : Nat) (d : Dev) : Dev :=
  let m := modeIn d.prov.serv fn i
  let d := postThino 0x000A (fnBlock fn i).1 (fnBlock fn i).2 i (be 1 fn ++ be 1 m ++ be 1 cause) (closeReport fn i d)
  let d := showFrozen (akey fn i)
    { d with asst := { d.asst with frozen := if m = 0 then d.asst.frozen.filter (· != akey fn i) else d.asst.frozen } }
  let d := gate (fn == 4 && cause == 2) (nextCandidate i) d
  let d := gate (fn == 1 && m == 0 && domReady d 4) (restartRuns i) d
  if m = 0 then actHardware fn i d else actAssisted fn i d

/-- The modes that a commit changed. -/
def modeCommits (old : Tbl Bytes) (d : Dev) : Dev :=
  (changed old d.prov.serv 0x0B).foldl (fun d k =>
    let fn := k / 2 ^ 24
    let i := k % 2 ^ 24
    if modeIn old fn i = modeIn d.prov.serv fn i then d else modeChanged fn i 1 d) d

/-- R33 without a commit: the mode is written into the record of the tables in service and of the shadow tables. -/
def writeMode (fn i : Nat) (t : Tbl Bytes) : Tbl Bytes :=
  let k := okey 0x0B (akey fn i)
  tset t k (patch (tget (be 1 fn ++ zeros 7) t k) 1 [0])

def toHardware (fn i : Nat) (d : Dev) : Dev :=
  if !assisted d fn i then d
  else
    modeChanged fn i 2 { d with prov := { d.prov with
      serv := writeMode fn i d.prov.serv, shadow := writeMode fn i d.prov.shadow } }

/-! ### COMMIT_ENTER_SERVICE (R24, R29, R165) -/

/-- New tables go into service together, with what each changed object does. -/
def changeTables (new : Tbl Bytes) (d : Dev) : Dev :=
  let old := d.prov.serv
  let was := layout d
  let d := withdrawFlows new (flushGone new d)
  let d := { d with prov := { d.prov with serv := new } }
  let d := layoutChange was d
  let d := gate (was != layout d && was != 0 && layout d != 0)
    (eachMerge fun m d => gate (mgMode (mgRec d m) == 1) (emptyMerge m) d) d
  let on (ty : Nat) (f : Option Bytes → Nat → Dev → Dev) (d : Dev) : Dev :=
    (changed old new ty).foldl (fun d i => f (tfind old (okey ty i)) i d) d
  let d := each [0, 1, 2, 3] (sliceCommit old) d
  let d := on 1 (fun o i d => portLeave i o (serv d 1 i) d) d
  let d := on 1 (fun o i d => portCommit i o (serv d 1 i) (gate o.isNone (zeroObj (ctrEgq 0 0) i 32) d)) d
  let d := on 2 contCommit d
  let d := each (objs new 2) flexStart d
  let d := on 5 policerCommit d
  let d := on 4 (fun o i d => if i < 2 ^ 18 then flowCommit o i d else d) d
  let d := on 6 (fun _ => queueCommit old) d
  let d := on 8 mgCommit d
  let d := on 9 (fun o i d => pointCommit i o (serv d 9 i) d) d
  let d := on 7 pgCommit d
  let d := modeCommits old d
  let d := { d with line := tmap d.line fun _ l => { l with ohx := { l.ohx with rxSlipSeen := false, inSlipSeen := false } } }
  let d := each [0, 1, 2, 3] (fun n d => updPools n (eachQueue n (updLevels n) d)) d
  reevaluate (markLeaving d)

/-- The tables of a commit go into service together. -/
def enterService (e : Pend) (d : Dev) : Dev :=
  postEvt 0x0005 0x0001 0 e.id (be 6 e.epoch)
    (changeTables e.tables { d with prov := { d.prov with doneId := e.id, doneEpoch := e.epoch } })

/-- STATE_IMAGE_INSTALLED: the tables of the image go into service and its state after them (R460). -/
def imageInstalled (im : JoinImage) (d : Dev) : Dev :=
  let wake (d : Dev) : Dev := im.pend.foldl (fun d p => wakeFor p.tables d) (wakeFor im.serv d)
  if imageDue d then imageState im (now d + 2) (changeTables im.serv (wake d)) else d

/-- The domains that a commit needs and that are not awake, bit d for domain d (R24, R176). -/
def missing (e : Pend) (d : Dev) : Nat := bitmap 24 fun n => (tableNeeds e.tables).contains n && !domReady d n

/-- COMMIT_ENTER_SERVICE: the oldest pending commit at its epoch. In the FATAL safe state no commit enters service (R110); in the
freeze of PFW_N it is cancelled (R84, R86). A second that ends at the boundary is closed first, under the old tables (R30). The
restored commit, whose epoch R94 only bounds from below, waits for its domains (DESIGN CHOICE, log entry 36). -/
def commitEnter (d : Dev) : Dev :=
  match d.prov.pend with
  | [] => d
  | e :: rest =>
    if now d < e.epoch || isFatal d then d
    else if isPfwFrozen d then dropPending rest [e] 3 (setRb .pwrPfwStat 4 true d)
    else
      let d := pmSecond d
      let miss := missing e d
      if miss = 0 then
        enterService (if e.restore then { e with epoch := now d } else e) { d with prov := { d.prov with pend := rest } }
      else if e.restore then d
      else
        let d := postEvt 0x0006 0x0001 0 e.id (be 6 e.epoch ++ zeros 2 ++ be 3 miss) { d with prov := { d.prov with pend := [] } }
        dropPending [] rest 1 d

end Sys2Proof.Machine
end

