-- ==== Sys2Proof/Machine/Ranges.lean ====
section
/-! DEFINITION. The ranges of the numbers that commands carry. -/

namespace Sys2Proof.Machine

/-- Slices, MEM groups, line ports, client ports by slice × 16 + port, lanes of one line or client block. -/
def isSlice (n : Nat) : Bool := decide (n < 4)
def isMem (g : Nat) : Bool := decide (g < 4)
def isPort (p : Nat) : Bool := decide (p < 4)
def isClient (i : Nat) : Bool := decide (i < 64)
def isLane (line : Bool) (k : Nat) : Bool := decide (k < if line then 8 else 16)

/-- Containers, flows, PM points, protection groups and merge groups (R162). -/
def isCont (c : Nat) : Bool := decide (c < 1024)
def isFlow (f : Nat) : Bool := decide (f < 262144)
def isPoint (i : Nat) : Bool := decide (i < 16384)
def isPg (g : Nat) : Bool := decide (g < 512)
def isMg (g : Nat) : Bool := decide (g < 256)

/-- Failure classes of a point. -/
def isClass (c : Nat) : Bool := decide (c < 8)

/-- A queue of a slice: a flow of that slice, or an egress queue of 16 ports × 8 classes. -/
def isQueue (n : Nat) (egress : Bool) (i : Nat) : Bool :=
  if egress then decide (i < 128) else decide (i < 262144) && i / 65536 == n

/-- References and DPLLs (R475, R483). -/
def isRef (r : Nat) : Bool := decide (r < 24)
def isDpll (i : Nat) : Bool := decide (i < 4)

/-- Power domains (R58), rails, enables PSEQ_EN0 to PSEQ_EN7, thermal regions, wake ranks (R23), temperatures in a signed byte
of °C. -/
def isDom (n : Nat) : Bool := decide (n < 24)
def isRail (k : Nat) : Bool := decide (k < 10)
def isEn (k : Nat) : Bool := decide (k < 8)
def isRegion (r : Nat) : Bool := decide (r < 5)
def isRank (r : Nat) : Bool := decide (1 ≤ r ∧ r ≤ 3)
def isTemp (t : Int) : Bool := decide (-128 ≤ t ∧ t ≤ 127)

/-- Mailbox channels (R151), bytes, half words, the 4 offset bytes of a SPI or I²C transaction (R120, R121), nanoseconds within an
epoch (R171). -/
def isChannel (c : Nat) : Bool := decide (c < 8)
def isByte (b : Nat) : Bool := decide (b < 256)
def isHalf (h : Nat) : Bool := decide (h < 65536)
def isOffset (o : Nat) : Bool := decide (o < 2 ^ 32)
/-- The 7-bit address that starts an I²C transfer (R121). -/
def isI2cAddr (a : Nat) : Bool := decide (a < 128)
def isNs (t : Nat) : Bool := decide (t < 1000000)

/-- A request: its ring, the CHANNEL and LENGTH fields of its header, its time (R152). -/
def isReq (q : Req) : Bool := isChannel q.ch && isByte q.chField && isHalf q.payload.length && isNs q.ns

/-- An engine's error: its area of R534, container, or LTAB block and cause (R149). -/
def isEngineErr : EngineErr → Bool
  | .mramCorr n => isHalf n
  | .mramUncorr area => decide (area < 9)
  | .epochFault => true
  | .commitEngine => true
  | .xcParity c => isCont c
  | .engineFatal ty inst cause => isHalf ty && isByte inst && isHalf cause

/-- A register value with KEY in bits 31:16 (R127). -/
def keyWord (key low : Nat) : Word := BitVec.ofNat 32 (key * 65536 + low)

end Sys2Proof.Machine
end

