-- ==== Sys2Proof/Machine/Assist.lean ====
section
/-! DEFINITION. Host-assisted functions (R33 to R35, R168 to R170) and re-initialisation of instances and slices (R36, R180, R592). -/

namespace Sys2Proof.Machine

/-! ### Decisions (R169) -/

/-- CTX of the newest candidate report of a slice (R301). -/
def candCtx (d : Dev) (n : Nat) : Nat := match tfind d.asst.newest (akey 4 n) with
  | some r => u32 r.content 0
  | none => 0

/-- The decision of function 4 at its X: CTX, ACTION, TLEN, TEMPLATE (R301). -/
def decideLearn (n : Nat) (b : Bytes) (d : Dev) : Dev :=
  let f := u32 b 0
  let t := slice b 6 (min 26 (u8 b 5))
  let d := if u8 b 4 = 1 then if zpcFlow d f then announce f t (modSnd f (fun s => { s with tpl := some t }) d) else d
    else if u8 b 4 = 2 then withdraw f false d
    else d
  nextCandidate n d

/-- What refuses a decision, beyond R169: a field out of range at its payload offset, or STALE (R301, R372, R402, R435, R503). -/
def decisionBad (d : Dev) (fn i : Nat) (b : Bytes) : Option Ans :=
  let act (o least most : Nat) : Option Ans := if least ≤ u8 b o ∧ u8 b o ≤ most then none else some (badParam (12 + o))
  if fn = 2 then (act 0 0 15).orElse fun _ => (act 2 0 1).orElse fun _ => act 3 0 1
  else if fn = 3 then (act 0 0 1).orElse fun _ => act 1 1 3
  else if fn = 4 then
    if u32 b 0 ≠ candCtx d i then some (badParam 12)
    else (act 4 1 3).orElse fun _ => if u8 b 4 = 1 then act 5 14 26 else none
  else if fn = 5 then
    if (rz d i).st ≠ 2 ∨ u32 b 0 ≠ (rz d i).propId then some (status 0xF) else act 4 1 2
  else if fn = 6 then (act 0 1 3).orElse fun _ => if selectBad d i b then some (badParam 13) else none
  else if fn = 7 then (act 0 1 3).orElse fun _ =>
    if u8 b 0 = 3 then (checkHoldover (slice b 4 36)).map fun o => badParam (16 + o) else none
  else if fn = 8 then (act 0 1 2).orElse fun _ =>
    if 1 ≤ u16 b 6 ∧ u16 b 6 ≤ d.pm.backlog.length then none else some (badParam 18)
  else none

/-- A decision takes effect. -/
def applyDecision (fn i : Nat) (b : Bytes) (d : Dev) : Dev :=
  if fn = 1 then decideFailure i b d else if fn = 2 then decideProt i b d else if fn = 3 then decideMerge i b d
  else if fn = 4 then decideLearn i b d else if fn = 5 then decideResize i b d else if fn = 6 then decideSelect i b d
  else if fn = 7 then decideGlide i b d else if fn = 8 then decideBinning b d else decideEsmc i b d

/-- ASSIST_DECIDE: REPORT_ID, FUNCTION, INSTANCE, decision (R169). -/
def assistDecide (p : Bytes) (d : Dev) : Ans × Dev :=
  let fn := u8 p 4
  let i := u32 p 8
  let b := p.drop 12
  if fn = 0 ∨ 9 < fn then (badParam 4, d)
  else if instances fn ≤ i then (status sNoResource, d)
  else if !((tfind d.asst.newest (akey fn i)).any fun r => r.id == u32 p 0) then (status 0xF, d)
  else if !assisted d fn i || isFrozen d fn i then (status 0xE, d)
  else match decisionBad d fn i b with
    | some a => (a, d)
    | none => (success (be 6 (now d)), applyDecision fn i b (closeReport fn i d))

/-! ### Freeze and resume (R34, R170) -/

/-- The content of a report made anew for the current state; a function whose report tells of one event repeats it. -/
def contentNow (d : Dev) (fn i : Nat) (r : Report) : Bytes :=
  if fn = 1 then failureContent d i else if fn = 2 then protContent d i
  else if fn = 4 then candContent d (u32 r.content 0)
  else if fn = 5 then propContent d i (calCrc d i (rz d i).newMap)
  else if fn = 6 then selContent d i
  else r.content

/-- One instance is resumed: it acts on its current state, and reports again if a decision is outstanding. -/
def resume (k : Nat) (d : Dev) : Dev :=
  let fn := k / 2 ^ 24
  let i := k % 2 ^ 24
  let d := showFrozen k { d with asst := { d.asst with frozen := d.asst.frozen.filter (· != k) } }
  let d := gate (fn == 1 && domReady d 4) (restartRuns i) d
  if !assisted d fn i then actHardware fn i d
  else match tfind d.asst.newest k with
    | some r =>
      if !r.opened then actAssisted fn i d
      else if fn = 8 then backlogReport (closeReport 8 0 d)
      else report fn i r.reason (contentNow d fn i r) d
    | none => actAssisted fn i d

/-- ASSIST_RESUME: FUNCTION, INSTANCE. -/
def assistResume (p : Bytes) (d : Dev) : Ans × Dev :=
  let fn := u8 p 0
  let i := u32 p 4
  let every := i == 0xFFFFFFFF
  if 9 < fn then (badParam 0, d)
  else if fn = 0 ∧ !every then (badParam 4, d)
  else if !every && decide (instances fn ≤ i) then (status sNoResource, d)
  else
    let l := d.asst.frozen.filter fun k => (fn == 0 || k / 2 ^ 24 == fn) && (every || k % 2 ^ 24 == i)
    (success (be 4 l.length), each l resume d)

/-- ASSIST_LIST: FUNCTION, FROM; up to 58 frozen instances in ascending order. -/
def assistList (p : Bytes) (d : Dev) : Ans :=
  if u8 p 0 = 0 ∨ 9 < u8 p 0 then badParam 0
  else
    let l := (sortBy (fun a b => decide (a ≤ b)) ((frozenOf d (u8 p 0)).filter fun i => decide (u32 p 4 ≤ i))).take 58
    success (be 1 l.length ++ zeros 3 ++ l.flatMap (be 4))

/-! ### Assist timeout (R33, R35) -/

/-- X of R161 for an event `ns` into the current epoch, on an active whose standby is IN_STEP. -/
def execEpoch (d : Dev) (ns : Nat) : Nat := if ns ≤ 800000 then now d + 1 else now d + 2

/-- ASSIST_TIMEOUT: the report of an instance has gone unanswered for its assist timeout; the mode changes at the next boundary,
or on a paired active at X, where the standby changes too. OPCODE 0 carries the change (DESIGN CHOICE, log entry 37). While the
instance is frozen the timeout does nothing (DESIGN CHOICE, log entry 171). -/
def assistTimeoutAt (fn i ns : Nat) (d : Dev) : Dev :=
  match tfind d.asst.newest (akey fn i) with
  | none => d
  | some r =>
    if !r.opened || r.changeAt.isSome || !assisted d fn i || isFrozen d fn i || assistTimeout d fn i == 0 || following d then d
    else
      let pair := inStep d && d.mate.active
      let x := if pair then execEpoch d ns else now d + 1
      let d := gate pair (sendCommand x 0 0 0 (be 4 (akey fn i) ++ be 4 r.id)) d
      { d with asst := { d.asst with newest := tset d.asst.newest (akey fn i) { r with changeAt := some x } } }

/-- A decision on the report is accepted and waits for its X (R169). -/
def decisionWaits (d : Dev) (fn i id : Nat) : Bool :=
  d.mbx.mir.any fun m => m.opcode == 0x0601 && u32 m.req.payload 0 == id && u8 m.req.payload 4 == fn && u32 m.req.payload 8 == i

/-- OPCODE 0 at its X on the standby: the change of mode on the report `id`, which a decision accepted before X cancels here as on the
active (R33, R169). -/
def mirroredChange (p : Bytes) (d : Dev) : Dev :=
  let fn := u32 p 0 / 2 ^ 24
  let i := u32 p 0 % 2 ^ 24
  gate (!decisionWaits d fn i (u32 p 4)) (toHardware fn i) d

/-- The mode changes that are due at this boundary. -/
def timeoutsDue (d : Dev) : Dev :=
  d.asst.newest.foldl (fun d e =>
    let fn := e.1 / 2 ^ 24
    let i := e.1 % 2 ^ 24
    match e.2.changeAt with
    | some x => if e.2.opened && decide (x ≤ now d) && !decisionWaits d fn i e.2.id then toHardware fn i d else d
    | none => d) d

/-! ### Re-initialisation (R36, R105, R180, R287, R297, R396, R421, R436) -/

/-- The packet engine of slice n restarts: markers from SEQ 0 with RESTART, every flow in FULL, no receiver entry. The generation
counters stay (R295). -/
def reinitPacket (n : Nat) (d : Dev) : Dev :=
  let cs := (clientConts d n).filter fun c => isPkt (ctRec d c)
  let d := cs.foldl (fun d c => rewindUnits c d) d
  let d := modPsl n (fun s => { s with snd := [], wdr := [], buckets := [], cands := [], rx := [] }) d
  let d := cs.foldl (fun d c =>
    zLive c 3 false <| zLive c 4 false <| resetDelin c (modPct c (fun p =>
      { zpcOk := p.zpcOk, rxPt := p.rxPt, faultRx := p.faultRx, wdrAll := wdrOwed p }) d)) d
  let d := each (cs.filter fun c => isZpc (ctRec d c)) (fun c d => resyncAll c (gate (pct d c).wdrAll (withdrawAll c) d))
    (updSliceRx n d)
  ((flows d.prov.serv).filter fun e => ctxSlice e.1 == n).foldl (fun d e => flowStart e.1 d) d

/-- The mapper of slice n restarts from the committed records; FC continues in XC (R272). -/
def reinitMapper (n : Nat) (d : Dev) : Dev :=
  each (clientConts d n) (fun c d =>
    if (tfind d.cont c).isSome then
      { d with cont := tmod {} d.cont c fun x => { x with jc := [], just := none, csf := false } }
    else d) d

/-- Every queue of slice n is reset (R336). -/
def reinitQueues (n : Nat) (d : Dev) : Dev :=
  let d := each (tkeys (psl d n).flowq) (resetQueue n false) d
  each (tkeys (psl d n).egq) (resetQueue n true) d

/-- A client port restarts. -/
def reinitPort (i : Nat) (d : Dev) : Dev :=
  match serv d 1 i with
  | none => d
  | some r => reinitEsmc i (lanesUp i r (lanesDown i r d))

/-- The last instance and the last INDEX of an LTAB TYPE that holds re-initialisable instances (R139, R180; the indices of log
entry 38). -/
def reinitLimit (ty : Nat) : Option (Nat × Nat) :=
  if ty = 0x04 ∨ ty = 0x0A ∨ ty = 0x0D then some (0, 0)
  else if ty = 0x09 then some (0, 3) else if ty = 0x0B then some (0, 511) else if ty = 0x0C then some (4, 0)
  else if ty = 0x0E then some (0, 16383) else if ty = 0x10 ∨ ty = 0x12 ∨ ty = 0x13 ∨ ty = 0x14 then some (3, 0)
  else if ty = 0x11 then some (3, 15) else none

/-- The resident part that an instance reloads (R549, R552). -/
def typePart (ty : Nat) : Nat :=
  if ty = 0x09 then 2 else if ty = 0x0A then 4 else if ty = 0x10 ∨ ty = 0x11 then 3
  else if ty = 0x0B ∨ ty = 0x0C ∨ ty = 0x12 ∨ ty = 0x13 ∨ ty = 0x14 then 6 else 0

/-- The part that an instance reloads would be refused (R552). -/
def partRefused (ty : Nat) (d : Dev) : Bool := typePart ty != 0 && reloadFails d (typePart ty)

/-- One instance is reset and restored from the committed tables. -/
def reinitOne (ty inst i : Nat) (d : Dev) : Dev :=
  if ty = 0x04 then { d with evt := { d.evt with staged := [], lost := d.evt.lost || !d.evt.staged.isEmpty, due := false, holdoff := false } }
  else if ty = 0x09 then reinitDpll i d
  else if ty = 0x0A then mateLinkDown d
  else if ty = 0x0B then
    let d := gate (hasPg d i) (reinitPg i) d
    gate (decide (i < 256) && hasMg d i) (reinitMg i) d
  else if ty = 0x0C then modMemc (fun m => { m with fails := [], grant := [], demand := [] }) d
  else if ty = 0x0D then { d with pctr := { ring := d.pctr.ring, win := d.pctr.win } }
  else if ty = 0x0E then gate (hasPoint d i) (reinitPoint i) d
  else if ty = 0x10 then if domReady d (6 + inst) then showRz inst (clearLine inst d) else d
  else if ty = 0x11 then if domReady d (10 + inst) then reinitPort (inst * 16 + i) d else d
  else if ty = 0x12 then if domReady d (10 + inst) then reinitMapper inst d else d
  else if ty = 0x13 then if domReady d (14 + inst) then reinitPacket inst d else d
  else if ty = 0x14 then if domReady d (14 + inst) then reinitQueues inst d else d
  else d

/-- The domains that slice n's repair isolates and resets (R36). -/
def sliceDoms (d : Dev) (n : Nat) : List Nat := [6 + n, 10 + n, 14 + n] ++ (sliceUnit d n).map (18 + ·)

/-- A container names slice n as its line slice or client slice. -/
def sliceNamed (t : Tbl Bytes) (n : Nat) : Bool := (conts t).any fun e => lineOf e.1 == n || ctClientSlice e.2 == n

/-- The whole slice is isolated and reset; its awake domains start anew (R36). -/
def reinitSlice (n : Nat) (d : Dev) : Dev :=
  let set_ := (sliceDoms d n).filter fun k => domAwake d k
  let d := each set_ (fun k d => modDom k (fun x => { x with st := .ramping }) (clearDom k d)) d
  { d with boot := { d.boot with sliceOut := nputBit d.boot.sliceOut n true, sliceNew := nputBit d.boot.sliceNew n false } }

/-- FUNC_REINIT: TYPE, INSTANCE, WHOLE_SLICE, INDEX (R180). -/
def funcReinit (p : Bytes) (d : Dev) : Ans × Dev :=
  let ty := u16 p 0
  let inst := u8 p 2
  if wbit p 3 0 then
    if ty ≠ 0 then (badParam 0, d)
    else if 3 < inst then (status sNoResource, d)
    else if layout d = 2 then (status sNotSupported, d)
    else if sliceNamed d.prov.serv inst then (status 0x11, d)
    else (success, reinitSlice inst d)
  else match reinitLimit ty with
    | none => (badParam 0, d)
    | some (a, b) =>
      if a < inst ∨ b < u32 p 4 then (status sNoResource, d)
      else if partRefused ty d then (status sVerifyFailed, partReload (typePart ty) d)
      else (success, reinitOne ty inst (u32 p 4) d)

/-- SLICE_READY: every awake domain of the slice is READY again. -/
def sliceReady (n : Nat) (d : Dev) : Dev :=
  if 3 < n || !d.boot.sliceOut.testBit n || (sliceDoms d n).any fun k => (dom d k).st == .ramping then d
  else
    let new := d.boot.sliceNew.testBit n
    evtGlb 0x000B n (be 1 new.toNat) { d with boot := { d.boot with sliceOut := nputBit d.boot.sliceOut n false } }

/-- SLICE_LOAD: SLICE, BULK_OFFSET, LEN. Microcode is loaded for a slice that is out of service (R36). -/
def sliceLoad (p : Bytes) (s : Sys) : Ans × Sys :=
  let n := u8 p 0
  if 3 < n then (badParam 0, s)
  else if !s.dev.boot.sliceOut.testBit n then (status sNotSupported, s)
  else if bulkSize < u32 p 4 + u32 p 8 then (badParam 4, s)
  else if !Config.partValid (rdBytes s.mem (bulkBase + u32 p 4) (u32 p 8)) then (status sVerifyFailed, s)
  else (success, onDev (fun d => { d with boot := { d.boot with sliceNew := nputBit d.boot.sliceNew n true } }) s)

/-- The instance that an AUTO_REINIT names: only that of BIST_FAIL (R592). -/
def autoReinit (e : ErrRec) (d : Dev) : Option (Nat × Nat) :=
  if e.sev = 3 ∧ e.code = 0x0022 ∧ rb d .glbErrCtl 0 then
    match reinitLimit e.d0 with
    | some (a, _) => if e.d1 ≤ a then some (e.d0, e.d1) else none
    | none => none
  else none

/-- The next record that Thino takes: of the highest severity, and of these the oldest (R108). -/
def nextErr (q : List ErrRec) : Option ErrRec := q.find? fun e => e.sev == maxSev q

/-- An instance is re-initialised with INDEX 0; where its part is refused it stays as it is, with a record (R552). -/
def reinitOrRefuse (ty inst : Nat) (d : Dev) : Dev :=
  if partRefused ty d then partReload (typePart ty) d else reinitOne ty inst 0 d

/-- The handling of a record without the commands it aborts: the record is handled, posted and leaves the queue (R107, R108, R592).
What Thino does for a record in one handling is indivisible here; a suspended handling starts anew from its beginning (DESIGN CHOICE,
log entry 134). -/
def handleErr (e : ErrRec) (d : Dev) : Dev :=
  let d := { d with err := { d.err with queue := d.err.queue.erase e } }
  let d := match autoReinit e d with
    | some (ty, inst) => reinitOrRefuse ty inst d
    | none => d
  postErr { e with st := 3 } d

/-- The next record goes into handling; one in handling of a lower severity is suspended (R108). -/
def takeErr (d : Dev) : Dev := match nextErr d.err.queue with
  | none => d
  | some e =>
    let mark (x : ErrRec) : ErrRec := if x.st = 1 then { x with st := 2 } else x
    { d with err := { d.err with queue := replaceFirst (fun x => x == mark e) { e with st := 1 } (d.err.queue.map mark) } }

/-- The source of an engine's error, as TYPE × 256 + INSTANCE of LTAB: of the epoch counter CLK, of the commit engine GLB (PRESUMED, log
entry 125). -/
def engineSrc : EngineErr → Nat
  | .mramCorr _ => 0x0700
  | .mramUncorr _ => 0x0700
  | .epochFault => 0x0600
  | .commitEngine => 0x0100
  | .xcParity _ => 0x0B00
  | .engineFatal ty inst _ => ty % 65536 * 256 + inst % 256

/-- An engine's error is raised with its record; a FATAL one enters the safe state at once (R110, R149, R563). -/
def engineErr (e : EngineErr) (d : Dev) : Dev :=
  let put (sev code d0 : Nat) (d : Dev) : Dev := raiseErr sev (engineSrc e / 256) (engineSrc e % 256) code d0 0 d
  match e with
  | .mramCorr n =>
    if n = 0 then d else put 1 0x0040 (min n 65535) (setRb .nvmErr 2 true (satCtr .nvmCorrCnt 31 0 n d))
  | .mramUncorr area => nvmFail 1 area d
  | .epochFault => enterFatal (put 4 0x0060 0 d)
  | .commitEngine => enterFatal (put 4 0x0061 0 d)
  | .xcParity c => enterFatal (put 4 0x0062 (c % 65536) d)
  | .engineFatal _ _ cause => enterFatal (put 4 0x0063 (cause % 65536) d)

/-- The errors that engines detect next: free, as many and which (R110, R149; log entry 125), in ascending order of source. -/
def detected (d : Dev) : List EngineErr :=
  sortBy (fun a b => decide (engineSrc a ≤ engineSrc b)) ((Config.engineErrs d.time.free).filter isEngineErr)

/-- They enter the queue, FATAL ones acting at once. -/
def detect (d : Dev) : Dev := (detected d).foldl (fun d e => engineErr e d) (stepFree d)

end Sys2Proof.Machine
end

