-- ==== Sys2Proof/Machine/Commands.lean ====
section
/-! DEFINITION. What each mailbox command does once it executes (R179): its checks beyond the header, its effect and its answer. -/

namespace Sys2Proof.Machine

/-- A command of the device alone. -/
def devCmd (f : Dev → Ans × Dev) (s : Sys) : Ans × Sys :=
  let r := f s.dev
  (r.1, { s with dev := r.2 })

/-- A command that only answers. -/
def ask (f : Dev → Ans) (s : Sys) : Ans × Sys := (f s.dev, s)

/-- A step that succeeds. -/
def done (f : Dev → Dev) (d : Dev) : Ans × Dev := (success, f d)

/-- A check of a field, then a step: BAD_PARAM at an offset where the check fails. -/
def need (ok : Bool) (o : Nat) (f : Dev → Ans × Dev) (d : Dev) : Ans × Dev := if ok then f d else (badParam o, d)

/-! ### Channels 0 to 2 -/

/-- BOOT_INFO. -/
def bootInfo (d : Dev) : Ans :=
  success (be 1 (rf d .glbBootStat 3 0) ++ be 1 (rf d .glbBootStat 7 4) ++ be 1 (attempts d) ++ zeros 1 ++ be 4 (mfVersion (activeMan d))
    ++ be 4 (match d.nvm.staged with
      | some (_, m) => mfVersion m
      | none => 0) ++ be 4 (mfSecnum (activeMan d)) ++ be 4 (arbCounter d))

/-- RECOVERY_ENTER: KEY. The warm reset follows the response (`afterResponse`). -/
def recoveryEnter (p : Bytes) (d : Dev) : Ans × Dev :=
  need (u16 p 0 == 0xA55A) 0 (done fun d => { d with boot := { d.boot with recover := true } }) d

/-- RESIZE_PROPOSE: PORT, FLAGS, SLOTS (R373). -/
def resizePropose (p : Bytes) (d : Dev) : Ans × Dev :=
  let port := u8 p 0
  let n := u16 p 2
  let pre := wbit p 1 0
  if 3 < port then (badParam 0, d)
  else if !decide (1 ≤ n ∧ n ≤ 320) then (badParam 2, d)
  else if !capable d port then (status sNotSupported, d)
  else if rszBusy d port then (status 8, d)
  else if n = slotCount (rz d port).txMap then (badParam 2, d)
  else match planMap d port n pre with
    | none => (status sNoResource, d)
    | some m =>
      let r := startProposal port m pre d
      (success (be 4 r.1), showRz port r.2)

/-- INVENTORY. -/
def inventory (d : Dev) : Ans :=
  success (be 2 (rf d .glbId 31 16) ++ be 1 (rf d .glbId 15 8) ++ be 1 (rf d .glbId 7 0) ++ be 8 Config.serial.toNat
    ++ be 4 (versionOf d 1) ++ be 4 (versionOf d 2) ++ be 4 (versionOf d 3) ++ be 4 (versionOf d 4) ++ be 4 d.boot.ltabGen)

/-- PM_READ: POINT, BIN (R406). -/
def pmRead (p : Bytes) (d : Dev) : Ans :=
  if 16383 < u32 p 0 then badParam 0
  else match binSel (u16 p 4) with
    | none => badParam 4
    | some s => success (pmRecord d (u32 p 0) (u16 p 4) s)

/-- PM_CLEAR: POINT, BIN (R407). -/
def pmClear (p : Bytes) (d : Dev) : Ans × Dev :=
  let i := u32 p 0
  let bin := u16 p 4
  if i ≠ 0xFFFFFFFF ∧ 16383 < i then (badParam 0, d)
  else if bin ≠ 0 ∧ bin ≠ 2 ∧ bin ≠ 0xFFFF then (badParam 4, d)
  else
    let l := (points d.prov.serv).filter fun e => i == 0xFFFFFFFF || e.1 == i
    (success, l.foldl (fun d e => requestClear bin e.1 d) d)

/-- EVT_LOG_READ: FIRST_SEQ, COUNT: the records of these SEQ that the log still holds (R174). -/
def evtLogRead (p : Bytes) (d : Dev) : Ans :=
  let n := u8 p 2
  if n = 0 ∨ 3 < n then badParam 2
  else
    let l := (List.range n).filterMap fun k => d.evt.log.find? fun e => e.seq == BitVec.ofNat 16 (u16 p 0 + k)
    success (be 1 l.length ++ zeros 3 ++ l.flatMap evtBytes)

/-! ### Channel 3: timing (R490, R507 to R512) -/

/-- The refusal of a record check, as an offset in the payload. -/
def recAt (o : Option Nat) (f : Dev → Dev) (d : Dev) : Ans × Dev := match o with
  | some k => (badParam (4 + k), d)
  | none => (success, f d)

/-- REF_CFG. -/
def refCfg (p : Bytes) (d : Dev) : Ans × Dev :=
  need (decide (u8 p 0 < 24)) 0 (recAt (checkRef (u8 p 0) (p.drop 4)) (applyRef (u8 p 0) (clearReserved refReserved (p.drop 4)))) d

/-- DPLL_CFG of a DPLL or an output. -/
def dpllCfg (p : Bytes) (d : Dev) : Ans × Dev :=
  let t := u8 p 0
  if t < 4 then recAt (checkDpll t (p.drop 4)) (applyDpll t (clearReserved dpllReserved (p.drop 4))) d
  else if 0x10 ≤ t ∧ t ≤ 0x19 then recAt (checkOut t (p.drop 4)) (applyOut t (clearReserved outReserved (p.drop 4))) d
  else (badParam 0, d)

/-- DPLL_CMD. -/
def dpllCommand (p : Bytes) (d : Dev) : Ans × Dev :=
  let i := u8 p 0
  if 4 ≤ i then (badParam 0, d)
  else match dpllCmdRefusal d i (p.drop 4) with
    | some o => (badParam o, d)
    | none => (success, dpllCmd i (p.drop 4) d)

/-- ALIGN. -/
def alignCommand (p : Bytes) (d : Dev) : Ans × Dev :=
  need (decide (0x18 ≤ u8 p 0 ∧ u8 p 0 ≤ 0x1A)) 0 (recAt (checkAlign d (p.drop 4)) (acceptAlign (u8 p 0) (p.drop 4))) d

/-- HOLDOVER_LOAD. -/
def holdoverLoad (p : Bytes) (d : Dev) : Ans × Dev :=
  need (decide (u8 p 0 < 4)) 0 (recAt (checkHoldover (p.drop 4)) (loadModel (u8 p 0) (clearReserved holdReserved (p.drop 4)))) d

/-- TIME_STATUS (R512). Where a TARGET is the number of a reference and of a DPLL or output too, the manual does not say which it
names: log entry 39. -/
def timeStatusCmd (p : Bytes) (d : Dev) : Ans :=
  let t := u8 p 0
  if 0x19 < t then badParam 0
  else if (t < 24 ∧ Config.targetIsRef t = true) ∨ (4 ≤ t ∧ t < 0x10) then success (timeStatus d t false)
  else if t < 4 then success (dpllStatus d t)
  else success (timeStatus d t true)

/-! ### Channel 4: protection (R417, R432, R438) -/

/-- APS_CMD: GROUP, REQUEST. -/
def apsCmd (p : Bytes) (d : Dev) : Ans × Dev :=
  let g := u32 p 0
  if 511 < g then (status sNoResource, d)
  else if !hasPg d g then (badParam 0, d)
  else if 6 < u8 p 4 then (badParam 4, d)
  else (success, apsCommand (u8 p 4) g d)

/-- MERGE_CMD: GROUP, ACTION; a path named must be QUALIFIED. -/
def mergeCmd (p : Bytes) (d : Dev) : Ans × Dev :=
  let g := u32 p 0
  let a := u8 p 4
  if 255 < g then (status sNoResource, d)
  else if !hasMg d g then (badParam 0, d)
  else if 3 < a ∨ ((a = 1 ∨ a = 2) ∧ (mg d g).qual / 2 ^ (a - 1) % 2 = 0) then (badParam 4, d)
  else (success, mergeCommand a g d)

/-- PROT_STATUS: KIND, GROUP. -/
def protStatus (p : Bytes) (d : Dev) : Ans :=
  let g := u32 p 4
  if 1 < u8 p 0 then badParam 0
  else if (if u8 p 0 = 0 then 511 else 255) < g then status sNoResource
  else if u8 p 0 = 0 then if hasPg d g then success (pgStatus d g) else badParam 4
  else if hasMg d g then success (mgStatus d g) else badParam 4

/-! ### Channel 5: the mate -/

/-- MATE_SWITCH: KEY (R462, R467). -/
def mateSwitchCmd (p : Bytes) (d : Dev) : Ans × Dev :=
  let r := mateSwitch p d
  (if r.1 = 4 then badParam 0 else status r.1, r.2)

/-- MATE_JOIN: KEY, ACTION (R471). -/
def mateJoinCmd (p : Bytes) (d : Dev) : Ans × Dev :=
  let r := mateJoin p d
  (if r.1 = 4 then badParam r.2.1 else if r.1 = 0x15 then nvmBlocked r.2.2 else status r.1, r.2.2)

/-! ### By opcode -/

/-- The effect and the answer of an opcode of R179; none for an opcode that the table does not have. OPCODE 0 carries a change of
mode to the standby (log entry 37). -/
def runOp (op : Nat) (c : Ctx) (q : Req) : Option (Sys → Ans × Sys) :=
  let p := q.payload
  match op with
  | 0x0000 => some (devCmd (done (mirroredChange p)))
  | 0x0001 => some (ask bootInfo)
  | 0x0002 => some (devCmd (recoveryEnter p))
  | 0x0003 => some (devCmd (jtagUnlock p))
  | 0x0010 => some (updBegin p)
  | 0x0011 => some (updWrite p)
  | 0x0012 => some (updCommit p)
  | 0x0013 => some updAbort
  | 0x0014 => some (devCmd updConfirm)
  | 0x0015 => some (ask fun d => success (updStatus d))
  | 0x0101 => some (devCmd (objSet p))
  | 0x0102 => some (devCmd (objDel p))
  | 0x0103 => some (ask (objGet p))
  | 0x0104 => some (devCmd (commit c p))
  | 0x0105 => some (devCmd (commitCancel c p))
  | 0x0106 => some (devCmd (done shadowRevert))
  | 0x0107 => some (ask fun d => success (commitStatus d))
  | 0x0108 => some (devCmd (funcReinit p))
  | 0x0109 => some (devCmd (storeCmd q.ch q.tag))
  | 0x010A => some (sliceLoad p)
  | 0x010B => some (devCmd (resizePropose p))
  | 0x0201 => some (ask inventory)
  | 0x0202 => some (ask fun d => success (healthBytes d))
  | 0x0203 => some (ask (pmRead p))
  | 0x0204 => some (devCmd (pmClear p))
  | 0x0205 => some (devCmd (gaspRead p))
  | 0x0206 => some (devCmd gaspAck)
  | 0x0207 => some (ask (evtLogRead p))
  | 0x0301 => some (devCmd (refCfg p))
  | 0x0302 => some (devCmd (dpllCfg p))
  | 0x0303 => some (devCmd (dpllCommand p))
  | 0x0304 => some (devCmd (alignCommand p))
  | 0x0305 => some (devCmd (holdoverLoad p))
  | 0x0306 => some (ask (timeStatusCmd p))
  | 0x0401 => some (devCmd (apsCmd p))
  | 0x0402 => some (devCmd (mergeCmd p))
  | 0x0403 => some (ask (protStatus p))
  | 0x0501 => some (ask fun d => success (mateStatus d))
  | 0x0502 => some (devCmd (mateSwitchCmd p))
  | 0x0503 => some (devCmd (mateJoinCmd p))
  | 0x0504 => some (ask fun d => if 1 < u8 p 0 then badParam 0 else success (mateDigest p d))
  | 0x0601 => some (devCmd (assistDecide p))
  | 0x0602 => some (devCmd (assistResume p))
  | 0x0603 => some (ask (assistList p))
  | _ => none

/-- LENGTH that an opcode takes: least and most (R179 and the records of each chapter). OBJ_SET and ASSIST_DECIDE carry what
follows their header. -/
def opLength (op : Nat) : Nat × Nat :=
  let at_ (n : Nat) := (n, n)
  match op with
  | 0x0002 => at_ 2 | 0x0003 => at_ 232 | 0x0010 => at_ 8 | 0x0011 => at_ 16 | 0x0012 => at_ 8
  | 0x0101 => (8, 240) | 0x0102 => at_ 8 | 0x0103 => at_ 8 | 0x0104 => at_ 8 | 0x0105 => at_ 2 | 0x0108 => at_ 8
  | 0x010A => at_ 12 | 0x010B => at_ 8 | 0x0203 => at_ 6 | 0x0204 => at_ 6 | 0x0205 => at_ 6 | 0x0207 => at_ 3
  | 0x0301 => at_ 36 | 0x0302 => at_ 20 | 0x0303 => at_ 12 | 0x0304 => at_ 20 | 0x0305 => at_ 40 | 0x0306 => at_ 4
  | 0x0401 => at_ 8 | 0x0402 => at_ 8 | 0x0403 => at_ 8 | 0x0502 => at_ 2 | 0x0503 => at_ 4 | 0x0504 => at_ 8
  | 0x0601 => (12, 240) | 0x0602 => at_ 8 | 0x0603 => at_ 8
  | _ => at_ 0

/-- Commands marked M (R179). -/
def opMirrored (op : Nat) : Bool :=
  [0x0101, 0x0102, 0x0104, 0x0105, 0x0106, 0x0108, 0x0109, 0x010A, 0x010B, 0x0204, 0x0301, 0x0302, 0x0303, 0x0304, 0x0305,
    0x0401, 0x0402, 0x0601, 0x0602].contains op

/-- What the ROM serves (R160): in recovery mode every opcode marked R, else BOOT_INFO and UPD_STATUS. -/
def romServes (d : Dev) (op : Nat) : Bool :=
  (if rb d .glbStat 2 then [0x0001, 0x0003, 0x0010, 0x0011, 0x0012, 0x0013, 0x0015] else [0x0001, 0x0015]).contains op

end Sys2Proof.Machine
end

