-- ==== Sys2Proof/Machine/Mailbox.lean ====
section
/-! DEFINITION. The mailboxes (R151 to R161, R182): a request is taken from its ring, checked, executed at its X and answered; the
tag log (R104, R157); mirrored commands (R161, R453); re-initialisation, which aborts commands in progress (R105). -/

namespace Sys2Proof.Machine

/-! ### Rings and responses -/

/-- BAR0 offset of slot i of the request ring and of the response ring of channel c (R151). -/
def reqSlot (c i : Nat) : Nat := 0x2200000 + c * 0x8000 + i % 64 * 256
def rspSlot (c i : Nat) : Nat := 0x2204000 + c * 0x8000 + i % 64 * 256

/-- The slot at the head of the request ring of channel c. -/
def headSlot (c : Nat) (s : Sys) : Bytes := rdBytes s.mem (reqSlot c (rf s.dev (.mbxReqHead c) 6 0)) 256

/-- The request is the next one of its ring, as the slot holds it, and dispatch takes it: its server runs, there is room for its
response, and its channel has its turn (R25, R151, R153, R154). -/
def atHead (op : Nat) (q : Req) (s : Sys) : Bool :=
  let b := headSlot q.ch s
  decide (q.ch < 8) && dispatches s.dev q.ch
    && u16 b 0 == op && u16 b 2 == q.tag.toNat && u16 b 4 == q.payload.length && u8 b 10 == q.chField
    && (b.drop 16).take q.payload.length == q.payload.take 240

/-- A response is written into its ring (R152, R153); after a channel reset, none (R156). -/
def writeRsp (h : Slot) (pay : Bytes) (s : Sys) : Sys :=
  let c := h.ch
  if 7 < c then s
  else
    let t := rf s.dev (.mbxRspTail c) 6 0
    { mem := wrBytes s.mem (rspSlot c t) (slotBytes h pay)
      dev := raiseInt (1 + c) (wrapCtr (.mbxServed c) 31 0 1 (setRf (.mbxRspTail c) 6 0 ((t + 1) % 128) s.dev)) }

/-! ### The tag log (R104, R157) -/

/-- Statuses that are never logged; TAG_CONFLICT leaves the entry that it met. -/
def neverLogged (st : Nat) : Bool := [6, 9, 0xA, 0xB, 0xC, 0xD, 0x12].contains st

/-- The newest 64 completed tags of a channel are kept. -/
def logTag (c : Nat) (e : TagEnt) (d : Dev) : Dev :=
  if e.tag = 0 || neverLogged e.status then d
  else { d with mbx := { d.mbx with logs := tmod [] d.mbx.logs (c % 8) fun l => (e :: l).take 64 } }

/-- The entry of a tag. -/
def logged (d : Dev) (q : Req) : Option TagEnt :=
  if q.tag = 0 then none else (tget [] d.mbx.logs (q.ch % 8)).find? fun e => e.tag == q.tag

/-- The entry is of this very command. -/
def sameCommand (e : TagEnt) (op : Nat) (q : Req) : Bool := e.opcode == op && e.crc == crc32 q.payload

/-- The active's own STATUS of a forwarded command meets the standby's RESULT, or waits for it (R453). -/
def noteResult (op : Nat) (x : Nat) (q : Req) (st : Nat) (d : Dev) : Dev :=
  if !(opMirrored op && d.mate.active && (d.mate.st == 3 || d.mate.st == 4 || (d.mate.st == 2 && d.mate.joinS))) then d
  else
    let e := (x, q.ch % 8, q.tag.toNat, st)
    match d.mate.results.find? (sameResult e) with
    | some r => meetStatus e r (modMate (fun m => { m with results := m.results.erase r }) d)
    | none => modMate (fun m => { m with statuses := m.statuses ++ [e] }) d

/-- The RESULT of a command that the mate forwarded. -/
def sendResult (op x : Nat) (q : Req) (st : Nat) (d : Dev) : Dev :=
  sendCell 5 (be 6 x ++ be 1 (q.ch % 8) ++ [0] ++ be 2 q.tag.toNat ++ be 2 op ++ be 2 st ++ zeros 2) d

/-- A command is answered: its tag is logged in the same step, and the response goes to the ring, or as a RESULT to the mate. -/
def answer (op : Nat) (c : Ctx) (own : Bool) (q : Req) (a : Ans) (s : Sys) : Sys :=
  let s := onDev (logTag q.ch {
    tag := q.tag, opcode := op, crc := crc32 q.payload, status := a.st, payload := a.pay, mirrored := c.mirrored && own, epoch := c.x }) s
  if own then
    writeRsp {
      opcode := op, tag := q.tag, len := a.pay.length, resp := true, mirrored := c.mirrored, status := a.st, ch := q.ch,
      epochLo := c.x % 2 ^ 32 } a.pay (onDev (noteResult op c.x q a.st) s)
  else onDev (sendResult op c.x q a.st) s

/-- A logged response is returned with RETRY_HIT, or TAG_CONFLICT to another command of the same tag; MIRRORED where this request was
forwarded, or the logged one was (R152). -/
def replay (op x : Nat) (own fwd : Bool) (q : Req) (e : TagEnt) (s : Sys) : Sys :=
  let hit := sameCommand e op q
  let st := if hit then e.status else 0xC
  let pay := if hit then e.payload else []
  if own then
    writeRsp {
      opcode := op, tag := q.tag, len := pay.length, resp := true, hit := hit, mirrored := fwd || (hit && e.mirrored), status := st,
      ch := q.ch, epochLo := (if hit then e.epoch else x) % 2 ^ 32 } pay (onDev (gate fwd (noteResult op x q st)) s)
  else onDev (sendResult op x q st) s

/-! ### Commands in progress that a re-initialisation aborts (R105) -/

/-- The instance that a command names: LTAB TYPE, INSTANCE, INDEX. -/
def namesOne (op : Nat) (p : Bytes) : Option (Nat × Nat × Nat) :=
  if (op = 0x0302 ∨ op = 0x0303 ∨ op = 0x0305) ∧ u8 p 0 < 4 then some (0x09, 0, u8 p 0)
  else if op = 0x0401 ∨ op = 0x0402 then some (0x0B, 0, u32 p 0)
  else if op = 0x0204 then some (0x0E, 0, u32 p 0)
  else if op = 0x010B then some (0x10, u8 p 0, 0)
  else if op = 0x0601 ∨ op = 0x0602 then
    let fn := if op = 0x0601 then u8 p 4 else u8 p 0
    let i := if op = 0x0601 then u32 p 8 else u32 p 4
    let b := fnBlock fn i
    some (b.1, b.2, if fn = 4 ∨ fn = 5 then 0 else if fn = 9 then i % 16 else i)
  else none

/-- The re-initialisation of `t` reaches the instance; with `whole`, every block of a slice. -/
def reaches (whole : Bool) (t n : Nat × Nat × Nat) : Bool :=
  if whole then decide (0x10 ≤ n.1 ∧ n.1 ≤ 0x14) && n.2.1 == t.2.1 else n == t

/-- The commands in progress of an instance end ABORTED. Those held for X have been forwarded to the mate, and say so (R152). -/
def abortCmds (whole : Bool) (t : Nat × Nat × Nat) (s : Sys) : Sys :=
  let hit (m : MirItem) : Bool := (namesOne m.opcode m.req.payload).any (reaches whole t)
  let gone := s.dev.mbx.mir.filter hit
  let s := onDev (fun d => { d with mbx := { d.mbx with mir := d.mbx.mir.filter fun m => !hit m } }) s
  gone.foldl (fun s m => if m.own then answer m.opcode { x := now s.dev, mirrored := true } true m.req (status 0xB) s else s) s

/-! ### Execution -/

/-- What follows a command: FUNC_REINIT aborts, RECOVERY_ENTER resets once its response is written. -/
def beforeAnswer (op : Nat) (p : Bytes) (a : Ans) (s : Sys) : Sys :=
  gate (op == 0x0108 && a.st == 0) (abortCmds (wbit p 3 0) (u16 p 0, u8 p 2, u32 p 4)) s
def afterAnswer (op : Nat) (a : Ans) (s : Sys) : Sys := gate (op == 0x0002 && a.st == 0) (askWarm none) s

/-- Opcodes whose effect changes what the ports and containers carry at once. -/
def opActs (op : Nat) : Bool := [0x0000, 0x0108, 0x010B, 0x0401, 0x0402, 0x0502, 0x0503, 0x0601, 0x0602].contains op

/-- A firmware fault: no effect but the record of FW_INTERNAL (R149, R159). -/
def firmwareFault (op : Nat) (q : Req) (d : Dev) : Dev := raiseErr 2 0x0003 0 0x0050 op (q.ch % 8) d

/-- A command executes at X and is answered; STORE is answered later (R540). -/
def execute (op : Nat) (c : Ctx) (own : Bool) (q : Req) (s : Sys) : Sys :=
  match runOp op c q with
  | none => s
  | some f =>
    if q.internal then answer op c own q (status 0xFF) (onDev (firmwareFault op q) s)
    else
    let r := f s
    let s := onDev (gate (opActs op) refresh) r.2
    if r.1.later then
      onDev (modNvm fun m => { m with store := m.store.map fun t => { t with x := c.x, mirrored := c.mirrored, own := own } }) s
    else afterAnswer op r.1 (answer op c own q r.1 (beforeAnswer op q.payload r.1 s))

/-- A command whose MRAM access waits for D2: the wake is deferred, and nothing else is done yet (R60, R69). -/
def stalls (op : Nat) (c : Ctx) (q : Req) (s : Sys) : Bool := match runOp op c q with
  | some f => !q.internal && (f s).1.wait
  | none => false

/-- The freezes answer every M command but those of channel 2 (R182). With both in force FATAL is told first (DESIGN CHOICE, log entry
132). -/
def freezeRefusal (d : Dev) (op : Nat) (q : Req) : Option Nat :=
  if !opMirrored op || q.ch % 8 == 2 then none
  else if isFatal d then some 0xA
  else if isPfwFrozen d then some 9
  else none

/-- The refusals of the header, the server, the role and the freezes (R151, R152, R159 to R161, R182). The rules give their
conditions and no order among them; the order here is the model's (DESIGN CHOICE, log entry 133). -/
def headerRefusal (d : Dev) (op : Nat) (q : Req) : Option Nat :=
  let m := opMirrored op
  let home := if opcodeChannel op = 6 then q.ch == 6 || q.ch == 7 else q.ch == opcodeChannel op
  if !home || q.chField != q.ch then some 2
  else if !d.boot.thino && !romServes d op then some 0x12
  else if q.payload.length < (opLength op).1 ∨ (opLength op).2 < q.payload.length then some 3
  else if m && d.mate.st != 0 && !d.mate.active then some 0xD
  else freezeRefusal d op q

/-- The command is forwarded to a standby IN_STEP and waits for its X (R161). -/
def waitsForX (d : Dev) (op : Nat) : Bool := opMirrored op && d.mate.active && inStep d

/-- A command that passed its header checks: mirrored to a standby IN_STEP it waits for X, otherwise it executes now (R161); a
standby that catches up has it forwarded (R460). -/
def accept (op : Nat) (q : Req) (s : Sys) : Sys :=
  let d := s.dev
  if waitsForX d op then
    let x := execEpoch d q.ns
    onDev (fun d => sendCommand x q.ch op q.tag q.payload
      { d with mbx := { d.mbx with mir := d.mbx.mir ++ [{ opcode := op, req := q, x := x }] } }) s
  else
    let fwd := opMirrored op && d.mate.active && (d.mate.st == 3 || (d.mate.st == 2 && d.mate.joinS))
    execute op { x := now d, mirrored := false } true q (onDev (gate fwd (sendCommand (now d) q.ch op q.tag q.payload)) s)

/-- The request leaves its ring, and Thino's time that it takes is drawn on its channel's budget: how much is a free value (R25, R153;
log entry 34). -/
def takeReq (c : Nat) (d : Dev) : Dev :=
  let run := d.boot.thino
  setRf (.mbxReqHead c) 6 0 ((rf d (.mbxReqHead c) 6 0 + 1) % 128) { d with
    mbx := { d.mbx with
      stall := tdel d.mbx.stall c
      turn := if run && !budgetLeft d c then c else d.mbx.turn
      used := if run then tmod 0 d.mbx.used (budgetOf c) (· + peekFree d 65536) else d.mbx.used }
    time := { d.time with free := d.time.free + run.toNat } }

/-- A refused command is answered; a STORE refused by a freeze or for want of D2 posts its event (R541). -/
def refuse (op : Nat) (c : Ctx) (own : Bool) (q : Req) (st : Nat) (s : Sys) : Sys :=
  answer op c own q (status st) (onDev (gate (op == 0x0109 && (st == 9 || st == 0xA || st == 0x15)) (refuseStore st)) s)

/-- A STORE has waited 100 ms for D2 (R541). -/
def storeLate (d : Dev) (op since : Nat) : Bool := op == 0x0109 && decide (since + 100 ≤ now d)

/-- The request at the head of channel c goes on waiting for D2. -/
def stallOn (c : Nat) (d : Dev) : Dev :=
  wakeNvm { d with mbx := { d.mbx with stall := tset d.mbx.stall c (tget (now d) d.mbx.stall c) } }

/-- R179 lists the opcode; OPCODE 0 is none of a host's. -/
def listed (op : Nat) (q : Req) : Bool := op != 0 && (runOp op { x := 0, mirrored := false } q).isSome

/-- An opcode that R179 does not list is answered BAD_OPCODE (R159), also by the ROM, which answers UNAVAILABLE to the listed ones that it
does not serve (R160; DESIGN CHOICE, log entry 180). -/
def serveUnknown (op : Nat) (q : Req) (s : Sys) : Sys :=
  if !atHead op q s then s
  else
    let s := onDev (takeReq q.ch) s
    match logged s.dev q with
    | some e => replay op (now s.dev) true false q e s
    | none => answer op { x := now s.dev, mirrored := false } true q (status 1) s

/-- Thino, or the ROM, takes the request at the head of a ring (R153, R154). `sel` picks the actions of the row among those of its
opcode; a request of an opcode that no row has is taken by any of them (log entry 95). -/
def serve (op : Nat) (sel : Bytes → Bool) (q : Req) (s : Sys) : Sys :=
  let here := u16 (headSlot q.ch s) 0
  if !listed here q then serveUnknown here q s
  else if !atHead op q s || !sel q.payload then s
  else match logged s.dev q with
    | some e => replay op (now s.dev) true false q e (onDev (takeReq q.ch) s)
    | none => match headerRefusal s.dev op q with
      | some st => refuse op { x := now s.dev, mirrored := false } true q st (onDev (takeReq q.ch) s)
      | none =>
        if !waitsForX s.dev op && stalls op { x := now s.dev, mirrored := false } q s then
          if storeLate s.dev op (tget (now s.dev) s.dev.mbx.stall q.ch) then
            refuse op { x := now s.dev, mirrored := false } true q 0x15 (onDev (takeReq q.ch) s)
          else onDev (stallOn q.ch) s
        else accept op q (onDev (takeReq q.ch) s)

/-- A row for every payload of its opcode. -/
def anyAction (_ : Bytes) : Bool := true
/-- A row for one action, in the byte at an offset; a value above the last action belongs to every row. -/
def action (o k last : Nat) (p : Bytes) : Bool := u8 p o == k || decide (last < u8 p o)

/-! ### Mirrored commands at X (R161, R453) -/

/-- One held command executes; a retry that was in flight finds its tag logged, a freeze that has come answers the device's own host
(R84, R182), and one that needs D2 waits for it. -/
def runHeld (m : MirItem) (s : Sys) : Sys :=
  let c : Ctx := { x := m.x, mirrored := m.ahead }
  let t := onDev (fun d => { d with mbx := { d.mbx with mir := d.mbx.mir.erase m } }) s
  match logged s.dev m.req with
  | some e => replay m.opcode m.x m.own m.ahead m.req e t
  | none => match if m.own then freezeRefusal s.dev m.opcode m.req else none with
    | some st => refuse m.opcode c true m.req st t
    | none =>
      if !stalls m.opcode c m.req s then execute m.opcode c m.own m.req t
      else if storeLate s.dev m.opcode m.x then refuse m.opcode c m.own m.req 0x15 t
      else onDev wakeNvm s

/-- The held commands wait for J (R460). -/
def heldForJ (d : Dev) (m : MirItem) : Bool := !m.own && (d.mate.st == 2 || d.mate.joinAt.isSome)

/-- MIRRORED_EXEC: the oldest held command whose X has come. -/
def mirroredExec (s : Sys) : Sys :=
  if !s.dev.boot.thino then s
  else match s.dev.mbx.mir.find? fun m => decide (m.x ≤ now s.dev) with
    | none => s
    | some m => if heldForJ s.dev m then s else runHeld m s

/-- JOIN_EPOCH_J: on the standby the held commands execute first, then the held records apply (R460). -/
def joinJ (s : Sys) : Sys :=
  match s.dev.mate.joinAt with
  | none => s
  | some j =>
    if now s.dev < j || s.dev.mate.st != 3 then s
    else
      let due := s.dev.mbx.mir.filter fun m => !m.own && decide (m.x ≤ now s.dev)
      onDev joinEpoch (if s.dev.mate.active then s else due.foldl (fun s m => runHeld m s) s)

/-- STORE_SET_COMMIT: the STORE ends and is answered (R540). -/
def storeCommit (readback : Bool) (s : Sys) : Sys :=
  let r := storeFinish readback s.dev
  let s := { s with dev := r.2 }
  match r.1 with
  | none => s
  | some (t, a) =>
    answer 0x0109 { x := t.x, mirrored := t.mirrored } t.own { ch := t.ch, tag := t.tag, chField := 1, payload := [], ns := 0 } a s

/-- The handling of a record is complete: a re-initialisation aborts the instance's commands (R105, R107, R592). -/
def finishErr (e : ErrRec) (s : Sys) : Sys :=
  let s := match autoReinit e s.dev with
    | some (ty, inst) => if partRefused ty s.dev then s else abortCmds false (ty, inst, 0) s
    | none => s
  onDev (handleErr e) s

/-- Thino's next move in the queue: the record in handling is completed where none of a higher severity waits, and suspended
otherwise; then the next record is taken into handling (R108). -/
def handleNext (s : Sys) : Sys :=
  let q := s.dev.err.queue
  match q.find? fun e => e.st == 1 with
  | some e => if maxSev q ≤ e.sev then onDev takeErr (finishErr e s) else onDev takeErr s
  | none => onDev takeErr s

/-- ERR_HANDLE: Thino handles; the errors that engines raise meanwhile enter the queue (R108, R110). -/
def errHandle (s : Sys) : Sys := onDev detect (if s.dev.boot.thino then handleNext s else s)

/-- Whether what `ASSIST_TIMEOUT` needs to run holds: Thino runs. -/
def assistTimeoutCmd (fn i ns : Nat) (d : Dev) : Dev := if d.boot.thino then assistTimeoutAt fn i ns d else d

end Sys2Proof.Machine
end

