-- ==== Sys2Proof/Machine/Epoch.lean ====
section
/-! DEFINITION. The 1 ms epoch boundary (R65) with everything the manual ties to it, and rows that join parts of several blocks. -/

namespace Sys2Proof.Machine

/-- What may occur once per epoch may occur again (R132, R310, R331, R348, R532). -/
def freshEpoch (d : Dev) : Dev :=
  { d with
    err := { d.err with accSeen := 0 }
    pctr := { d.pctr with wrapSeen := 0, skipSeen := false }
    pkt := { d.pkt with
      cont := tmap d.pkt.cont fun _ p => { p with fullSeen := false }
      slice := tmap d.pkt.slice fun _ s => { s with
        wm := tmap s.wm fun _ w => { w with seen := false }
        flowq := tmap s.flowq fun _ q => { q with rewindSeen := false }
        egq := tmap s.egq fun _ q => { q with rewindSeen := false } } } }

/-- Budgets refill, and new ones take effect (R25, R177). -/
def takeBudgets (d : Dev) : Dev :=
  { d with mbx := { d.mbx with used := [], inForce := (List.range 7).map fun c => (c, rf d (.mbxBudget c) 7 0) } }

/-- The stream bytes that CBR and OTN ports receive and send are counted (R521). No row carries them: how many an epoch brings is a
free value (log entry 159). -/
def streamOctets (d : Dev) : Dev :=
  each ((objs d.prov.serv 1).filter fun i => portOn d i && cpMode (cpOf d i) != 1) (fun i d =>
    let n := 10 + i / 16
    let d := stepFree (count n (ctrClient i 1) (peekFree d (2 ^ 32)) d)
    stepFree (count n (ctrClient i 3) (peekFree d (2 ^ 32)) d)) d

/-- Thino services the watchdog (R102). -/
def serviceWdt (d : Dev) : Dev :=
  if d.boot.thino then wrapCtr .glbCpuHb 31 0 1 { d with boot := { d.boot with hbAt := now d } } else d

/-- Time advances by one epoch. The real-time counter has its own oscillator: 32 or 33 units in a millisecond, with the RC
oscillator up to 34; which, is a free value (R63, R64; log entry 40). -/
def advance (d : Dev) : Dev :=
  let n := if rb d .glbStrap 4 then 2 else 3
  stepFree { d with time := { d.time with epoch := d.time.epoch + 1, rtc := d.time.rtc + BitVec.ofNat 64 (32 + peekFree d n) } }

/-- EPOCH_BOUNDARY. -/
def epochBoundary (d : Dev) : Dev :=
  let d := serviceWdt (takeBudgets (freshEpoch (advance d)))
  let d := streamOctets (pmEpoch (missEpoch (esmcEvents (fecEpoch d))))
  let d := each ((objs d.prov.serv 8).filter fun _ => domReady d 22) skewEpoch d
  refresh (alignReady (mateEpoch (timEpoch (timeoutsDue d))))

/-! ### Rows over several blocks -/

/-- DOMAIN_READY: the domain and what runs on it start; a re-woken client block restarts its ports, a re-woken line block sends
FRESH (R207, R376). -/
def domainReadyCmd (n : Nat) (d : Dev) : Dev :=
  let was := domReady d n
  let d := domainUp n d
  if was || !domReady d n then d
  else if 6 ≤ n ∧ n < 10 then showRz (n - 6) (modRz (n - 6) (fun z => { z with fresh := true }) d)
  else if 10 ≤ n ∧ n < 14 then portsRestart (n - 10) d
  else d

/-- DOMAIN_READY with the processor SRAM: when D1 comes up its BULK window holds nothing (R181). -/
def domainReadySys (n : Nat) (s : Sys) : Sys :=
  let d := refresh (domainReadyCmd n s.dev)
  { dev := d
    mem := if n = 1 ∧ !domReady s.dev 1 ∧ domReady d 1 then clearRange s.mem bulkBase bulkSize else s.mem }

/-- SPILL_SCRUB_PASS: the errors that the scrub of a wake unit meets, then its domains no longer stay awake for it (R335, R468). -/
def scrubPassCmd (g corr : Nat) (bad : List QueueErr) (d : Dev) : Dev := scrubEnds g (spillPass g corr bad d)

/-- The delineator of a container examines bytes at position p: its slice is up and it is not held (R225). -/
def examines (d : Dev) (c : Nat) : Bool := domReady d (14 + contSlice d c) && !delinHeld d c && (pct d c).delin.st != 0

/-- ZPC_MARKER_RX, and the block of the ADAPT point that ends with it: an errored block is one whose marker fails (R381). -/
def markerCmd (c pos : Nat) (m : Bytes) (d : Dev) : Dev :=
  let seen := zpcDelin d c && examines d c && m.length == 8 && (pct d c).delin.grid == pos
  gate seen (countBlock 6 c (!zmOk m)) (markerRx c pos m d)

/-- GFP_CORE_HEADER_RX, and the block of the ADAPT point: an errored block is one whose core HEC fails (R381). -/
def gfpHeaderCmd (c pos : Nat) (skipped h : Bytes) (d : Dev) : Dev :=
  let seen := gfpDelin d c && examines d c && h.length == 4 && (pct d c).delin.next == some pos
  gate seen (countBlock 6 c (!gfpOk (gfpCore h))) (gfpHeaderRx c pos skipped h d)

/-- A step of the resize engine of a line port, whose block is up; its registers show the new state (R378). -/
def rszCmd (p : Nat) (f : Dev → Dev) (d : Dev) : Dev := gate (domReady d (6 + p)) (fun d => showRz p (f d)) d

/-- HANDOVER_ACK_RX, and the reset that waited for it (R101). -/
def handoverAckCmd (s : Sys) : Sys := afterHandover (onDev handoverAckRx s)

/-- HANDOVER_ACK_TIMEOUT, and the reset that waited for it (R101). -/
def handoverTimeoutCmd (s : Sys) : Sys := afterHandover (onDev handoverTimeout s)

end Sys2Proof.Machine
end

