-- ==== Sys2Proof/Syntax.lean ====
section
/-! DEFINITION. The commands: one constructor per row of the table, with the row's operands. -/

namespace Sys2Proof

/-- A command to the device: a mailbox command, a register access, or an event at a pin, on a line, or of a timer. Its docstring
names the rule of the row. -/
inductive Instr where
  /-- BOOT_INFO, R179 -/
  | bootInfo (q : Req)
  /-- RECOVERY_ENTER, R179 -/
  | recoveryEnter (q : Req)
  /-- JTAG_UNLOCK, R562 -/
  | jtagUnlock (q : Req)
  /-- UPD_BEGIN, R551 -/
  | updBegin (q : Req)
  /-- UPD_WRITE, R553 -/
  | updWrite (q : Req)
  /-- UPD_COMMIT, R553 -/
  | updCommit (q : Req)
  /-- UPD_ABORT, R551 -/
  | updAbort (q : Req)
  /-- UPD_CONFIRM, R557 -/
  | updConfirm (q : Req)
  /-- UPD_STATUS, R553 -/
  | updStatus (q : Req)
  /-- OBJ_SET, R593 -/
  | objSet (q : Req)
  /-- OBJ_DEL, R179 -/
  | objDel (q : Req)
  /-- OBJ_GET, R179 -/
  | objGet (q : Req)
  /-- COMMIT, R164 -/
  | commit (q : Req)
  /-- COMMIT_CANCEL, R166 -/
  | commitCancel (q : Req)
  /-- SHADOW_REVERT, R179 -/
  | shadowRevert (q : Req)
  /-- COMMIT_STATUS, R179 -/
  | commitStatus (q : Req)
  /-- FUNC_REINIT, R180 -/
  | funcReinit (q : Req)
  /-- SLICE_READY, R36 -/
  | sliceReady (n : Nat)
  /-- STORE, R540 -/
  | store (q : Req)
  /-- STORE_SET_COMMIT, R540 -/
  | storeSetCommit (readback : Bool)
  /-- SLICE_LOAD, R36 -/
  | sliceLoad (q : Req)
  /-- RESIZE_PROPOSE, R373 -/
  | resizePropose (q : Req)
  /-- INVENTORY, R179 -/
  | inventory (q : Req)
  /-- HEALTH, R470 -/
  | health (q : Req)
  /-- PM_READ, R406 -/
  | pmRead (q : Req)
  /-- PM_CLEAR, R407 -/
  | pmClear (q : Req)
  /-- LAST_GASP_READ, R548 -/
  | lastGaspRead (q : Req)
  /-- LAST_GASP_ACK, R548 -/
  | lastGaspAck (q : Req)
  /-- EVT_LOG_READ, R174 -/
  | evtLogRead (q : Req)
  /-- REF_CFG, R507 -/
  | refCfg (q : Req)
  /-- DPLL_CFG, R508 -/
  | dpllCfg (q : Req)
  /-- DPLL_CLEAR, R490 -/
  | dpllClear (q : Req)
  /-- DPLL_FORCE, R490 -/
  | dpllForce (q : Req)
  /-- DPLL_MANUAL, R490 -/
  | dpllManual (q : Req)
  /-- DPLL_LOCKOUT, R490 -/
  | dpllLockout (q : Req)
  /-- DPLL_UNLOCK, R490 -/
  | dpllUnlock (q : Req)
  /-- DPLL_HOLDOVER, R490 -/
  | dpllHoldover (q : Req)
  /-- DPLL_FREERUN, R490 -/
  | dpllFreerun (q : Req)
  /-- DPLL_RELEARN, R490 -/
  | dpllRelearn (q : Req)
  /-- DPLL_TEMP, R490 -/
  | dpllTemp (q : Req)
  /-- ALIGN, R501 -/
  | align (q : Req)
  /-- HOLDOVER_LOAD, R497 -/
  | holdoverLoad (q : Req)
  /-- TIME_STATUS, R512 -/
  | timeStatus (q : Req)
  /-- APS_CLEAR, R421 -/
  | apsClear (q : Req)
  /-- APS_LOCKOUT, R417 -/
  | apsLockout (q : Req)
  /-- APS_FORCED_PROTECTION, R417 -/
  | apsForcedProtection (q : Req)
  /-- APS_FORCED_WORKING, R417 -/
  | apsForcedWorking (q : Req)
  /-- APS_MANUAL_PROTECTION, R417 -/
  | apsManualProtection (q : Req)
  /-- APS_MANUAL_WORKING, R417 -/
  | apsManualWorking (q : Req)
  /-- APS_EXERCISE, R417 -/
  | apsExercise (q : Req)
  /-- MERGE_AUTOMATIC, R432 -/
  | mergeAutomatic (q : Req)
  /-- MERGE_FORCE_PATH_A, R432 -/
  | mergeForcePathA (q : Req)
  /-- MERGE_FORCE_PATH_B, R432 -/
  | mergeForcePathB (q : Req)
  /-- MERGE_RESTART_ALIGNMENT, R432 -/
  | mergeRestartAlignment (q : Req)
  /-- PROT_STATUS, R438 -/
  | protStatus (q : Req)
  /-- MATE_STATUS, R471 -/
  | mateStatus (q : Req)
  /-- MATE_SWITCH, R462 -/
  | mateSwitch (q : Req)
  /-- MATE_JOIN_CLEAR, R442 -/
  | mateJoinClear (q : Req)
  /-- MATE_JOIN_SET, R442 -/
  | mateJoinSet (q : Req)
  /-- MATE_JOIN_REJOIN, R452 -/
  | mateJoinRejoin (q : Req)
  /-- MATE_DIGEST, R471 -/
  | mateDigest (q : Req)
  /-- ASSIST_DECIDE, R169 -/
  | assistDecide (q : Req)
  /-- ASSIST_RESUME, R170 -/
  | assistResume (q : Req)
  /-- ASSIST_LIST, R170 -/
  | assistList (q : Req)
  /-- MIRRORED_EXEC, R161 -/
  | mirroredExec
  /-- MBX_DOORBELL, R154 -/
  | mbxDoorbell (q : Requester) (c tail : Nat)
  /-- MBX_CHANNEL_RESET, R156 -/
  | mbxChannelReset (q : Requester) (c key : Nat) (spi : Bool)
  /-- GLB_RST_WARM, R99 -/
  | glbRstWarm (q : Requester) (key : Nat)
  /-- GLB_RST_PWR_CYCLE, R106 -/
  | glbRstPwrCycle (q : Requester) (key : Nat) (warm : Bool)
  /-- GLB_CPU_RESTART_GO, R103 -/
  | glbCpuRestartGo (q : Requester) (key : Nat)
  /-- PWR_CAP_WRITE, R67 -/
  | pwrCapWrite (q : Requester) (w : Word)
  /-- PWR_HOST_HOLD, R144 -/
  | pwrHostHold (q : Requester) (w : Word)
  /-- PWR_HOST_DROP, R144 -/
  | pwrHostDrop (q : Requester) (w : Word)
  /-- PWR_RAIL_CLR, R79 -/
  | pwrRailClr (q : Requester) (w : Word)
  /-- DOMAIN_FAULT_CLEAR, R80 -/
  | domainFaultClear (q : Requester) (n cnt : Nat)
  /-- WIDE_SEL_WRITE, R133 -/
  | wideSelWrite (q : Requester) (w : Word)
  /-- WIDE_RECAPTURE, R135 -/
  | wideRecapture (q : Requester)
  /-- WIDE_WRITE, R135 -/
  | wideWrite (q : Requester) (recapture : Bool)
  /-- WIDE_CAPTURE_DONE, R134 -/
  | wideCaptureDone (q : Requester)
  /-- ERR_INJ_GO, R146 -/
  | errInjGo (q : Requester) (key sev : Nat)
  /-- EVT_CTL_RESET, R178 -/
  | evtCtlReset (q : Requester) (enable : Bool)
  /-- EVT_ENABLE, R173 -/
  | evtEnable (q : Requester)
  /-- PCTR_CLR_GO, R525 -/
  | pctrClrGo (q : Requester) (key banks : Nat)
  /-- NVM_JTAG_RELOCK, R562 -/
  | nvmJtagRelock (q : Requester)
  /-- QM_CLEAR, R332 -/
  | qmClear (q : Requester) (n space index : Nat)
  /-- PMON_PHASE_WRITE, R403 -/
  | pmonPhaseWrite (q : Requester) (w : Word)
  /-- MSIX_UNMASK, R118 -/
  | msixUnmask (pf1 : Bool) (k : Nat)
  /-- REGISTER_WRITE, R127 -/
  | registerWrite (q : Requester) (t : RegTarget) (size : Nat) (lo hi : Word)
  /-- SPI_READ, R120 -/
  | spiRead (o n : Nat) (ready : Bool)
  /-- SPI_WRITE, R120 -/
  | spiWrite (o : Nat) (ws : List Word) (cut : Bool)
  /-- SPI_STATUS, R120 -/
  | spiStatus
  /-- I2C_WRITE, R121 -/
  | i2cWrite (o : I2cPlace) (ws : List Word)
  /-- I2C_READ, R121 -/
  | i2cRead (o : I2cPlace) (n : Nat) (answered : Bool)
  /-- PERST_N_RISE, R92 -/
  | perstNRise
  /-- PCIE_LINK_TRAINING_START, R92 -/
  | pcieLinkTrainingStart
  /-- PF0_FLR, R117 -/
  | pf0Flr
  /-- PF1_FLR, R117 -/
  | pf1Flr
  /-- PF0_D3HOT_ENTRY, R117 -/
  | pf0D3hotEntry (d3hot : Bool)
  /-- PF0_DMA_RESUME, R117 -/
  | pf0DmaResume
  /-- EVT_HOLDOFF_EXPIRY, R172 -/
  | evtHoldoffExpiry
  /-- EVT_POST_ON_ROOM, R172 -/
  | evtPostOnRoom
  /-- REGISTER_READ, R116 -/
  | registerRead (q : Requester) (t : RegTarget) (size : Nat) (answered : Bool)
  /-- PERST_N_FALL, R115 -/
  | perstNFall
  /-- POR_N_FALL, R99 -/
  | porNFall
  /-- COLD_START, R91 -/
  | coldStart (straps : Nat)
  /-- WARM_RST_PIN, R99 -/
  | warmRstPin
  /-- BROWNOUT, R81 -/
  | brownout
  /-- BROWNOUT_END, R81 -/
  | brownoutEnd (porHigh : Bool) (straps : Nat)
  /-- COMMON_RAIL_ENABLE, R90 -/
  | commonRailEnable
  /-- RAIL_PG_TIMEOUT, R76 -/
  | railPgTimeout (k : Nat)
  /-- ROM_BOOT, R94 -/
  | romBoot
  /-- THINO_START, R94 -/
  | thinoStart
  /-- BOOT_READY, R94 -/
  | bootReady
  /-- BOOT_WDT_EXPIRY, R94 -/
  | bootWdtExpiry
  /-- CPU_WDT_EXPIRY, R102 -/
  | cpuWdtExpiry
  /-- CPU_RESTART_DONE, R103 -/
  | cpuRestartDone
  /-- PFW_N_FALL, R84 -/
  | pfwNFall (ns : Nat)
  /-- LAST_GASP_WRITTEN, R84 -/
  | lastGaspWritten
  /-- PFW_N_RISE, R87 -/
  | pfwNRise
  /-- PFW_LIFT, R87 -/
  | pfwLift
  /-- ERR_HANDLE, R108 -/
  | errHandle
  /-- JTAG_EXPIRY, R562 -/
  | jtagExpiry
  /-- WARM_RST_N_RISE, R56 -/
  | warmRstNRise
  /-- ROM_START_TIMEOUT, R106 -/
  | romStartTimeout
  /-- RAIL_EXCURSION_SHORT, R78 -/
  | railExcursionShort (k : Nat)
  /-- DOMAIN_FAULT, R78 -/
  | domainFault (n cause : Nat)
  /-- PSEQ_PG_FALL, R76 -/
  | pseqPgFall (k : Nat)
  /-- PSEQ_PG_RISE, R76 -/
  | pseqPgRise (k : Nat)
  /-- PMB_ALERT, R75 -/
  | pmbAlert (k addr statusByte statusWord : Nat)
  /-- PMBUS_POLL, R75 -/
  | pmbusPoll (readings : List (Nat × Nat × Nat × Int))
  /-- AVS_STEP, R74 -/
  | avsStep (k : Nat)
  /-- THERMAL_READING, R83 -/
  | thermalReading (r : Nat) (celsius : Int)
  /-- THERM_REARM, R83 -/
  | thermRearm (r : Nat)
  /-- SLICE_THERMAL_REJOIN, R83 -/
  | sliceThermalRejoin (n : Nat)
  /-- REGION_SKEW_ALARM, R82 -/
  | regionSkewAlarm (kind : Nat) (values : List Int)
  /-- REGION_REJOIN, R82 -/
  | regionRejoin (n : Nat)
  /-- XO_IN_LOSS, R478 -/
  | xoInLoss
  /-- WAKE_REQUEST, R23 -/
  | wakeRequest (rank n : Nat)
  /-- DOMAIN_READY, R58 -/
  | domainReady (n : Nat)
  /-- DOMAIN_SLEEP, R61 -/
  | domainSleep (n : Nat)
  /-- D2_IDLE_SLEEP, R60 -/
  | d2IdleSleep
  /-- SLICE_RAIL_OFF, R76 -/
  | sliceRailOff (n : Nat)
  /-- MEM_IDLE_SELF_REFRESH, R70 -/
  | memIdleSelfRefresh (g : Nat)
  /-- MEM_SCRUB_WAKE, R73 -/
  | memScrubWake (g : Nat)
  /-- FAULT_REWAKE, R80 -/
  | faultRewake (n : Nat)
  /-- POWER_SWITCHED_OFF, R62 -/
  | powerSwitchedOff (n : Nat)
  /-- VDD_AON_WRITE_GUARD, R81 -/
  | vddAonWriteGuard (low : Bool)
  /-- VDD_IO18_EXCURSION, R78 -/
  | vddIo18Excursion (k : Nat) (high : Bool)
  /-- EPOCH_BOUNDARY, R65 -/
  | epochBoundary
  /-- COMMIT_ENTER_SERVICE, R29 -/
  | commitEnterService
  /-- CALENDAR_CHANGE, R251 -/
  | calendarChange (p : Nat)
  /-- ASSIST_TIMEOUT, R35 -/
  | assistTimeout (fn i ns : Nat)
  /-- PM_SECOND_BOUNDARY, R397 -/
  | pmSecondBoundary
  /-- PM_BIN_FINAL, R403 -/
  | pmBinFinal (day : Bool)
  /-- FAILURE_DECLARE, R394 -/
  | failureDeclare (i c : Nat)
  /-- FAILURE_CLEAR, R394 -/
  | failureClear (i c : Nat)
  /-- PM_FAILURE_REPORT, R395 -/
  | pmFailureReport (i reason : Nat)
  /-- PCTR_WINDOW_END, R526 -/
  | pctrWindowEnd
  /-- PCTR_DUMP_WRITTEN, R528 -/
  | pctrDumpWritten
  /-- LANE_SIGNAL_DETECT, R193 -/
  | laneSignalDetect (line : Bool) (n k : Nat) (present : Bool)
  /-- LANE_CDR_LOCK, R193 -/
  | laneCdrLock (line : Bool) (n k : Nat)
  /-- LANE_ADAPTED, R193 -/
  | laneAdapted (line : Bool) (n k : Nat)
  /-- CLIENT_LOS_CHANGE, R194 -/
  | clientLosChange (i : Nat) (live : Bool)
  /-- CLIENT_DEFECT_CHANGE, R194 -/
  | clientDefectChange (i b : Nat) (live : Bool) (x : ClientRx)
  /-- MAC_FRAME_RX, R185 -/
  | macFrameRx (i : Nat) (frame : Bytes) (ns : Nat)
  /-- ESMC_PDU_RX, R198 -/
  | esmcPduRx (i : Nat) (frame : Bytes)
  /-- ESMC_TIMEOUT, R199 -/
  | esmcTimeout (i : Nat)
  /-- ESMC_INFO_PDU_TX, R200 -/
  | esmcInfoPduTx (i : Nat)
  /-- CLIENT_FAULT_RX, R196 -/
  | clientFaultRx (i : Nat) (lf rf : Bool)
  /-- PRBS_CHECKER_LOCK, R201 -/
  | prbsCheckerLock (n k : Nat) (locked : Bool) (errs : Nat)
  /-- EGRESS_FRAME_TX, R326 -/
  | egressFrameTx (i : Nat)
  /-- FLEXO_MARKER, R212 -/
  | flexoMarker (p k pos bad : Nat) (crcOk : Bool) (id gid skew : Nat) (rpf : Bool)
  /-- FLEXO_LOF, R212 -/
  | flexoLof (p : Nat)
  /-- FEC_CODEWORD, R214 -/
  | fecCodeword (line : Bool) (i errs : Nat)
  /-- OTUC_FRAME_RX, R217 -/
  | otucFrameRx (p : Nat) (x : OtucRx)
  /-- LOF_CHANGE, R217 -/
  | lofChange (p : Nat)
  /-- LOM_CHANGE, R219 -/
  | lomChange (p : Nat)
  /-- LINE_TX_FRAME, R209 -/
  | lineTxFrame (p ns : Nat) (odu : List OduTx)
  /-- BEACON_RX, R224 -/
  | beaconRx (p : Nat) (beacon : Bytes)
  /-- OHX_OUT_FRAME, R234 -/
  | ohxOutFrame (p : Nat)
  /-- OHX_IN_FRAME, R235 -/
  | ohxInFrame (p : Nat) (start : Bool) (frame : Bytes)
  /-- OHX_IN_LOS, R235 -/
  | ohxInLos (p : Nat)
  /-- ZPC_MARKER_RX, R227 -/
  | zpcMarkerRx (c pos : Nat) (m : Bytes)
  /-- ZPC_HEADER_RX, R227 -/
  | zpcHeaderRx (c pos : Nat) (h : HeaderIn)
  /-- GFP_CORE_HEADER_RX, R231 -/
  | gfpCoreHeaderRx (c pos : Nat) (h : HeaderIn)
  /-- RX_PT_CHANGE, R275 -/
  | rxPtChange (c pt : Nat)
  /-- GMP_JC_RX, R253 -/
  | gmpJcRx (c cm cnd : Nat) (crc : JcCrc) (amp : Option (List Nat))
  /-- EXTFC_RECORD_RX, R267 -/
  | extfcRecordRx (c : Nat) (record : Bytes) (mfas : Nat)
  /-- MIRROR_MISS, R255 -/
  | mirrorMiss (c : Nat)
  /-- CSF_MGMT_FRAME_TX, R256 -/
  | csfMgmtFrameTx (c : Nat)
  /-- CSF_MGMT_FRAME_RX, R256 -/
  | csfMgmtFrameRx (c : Nat) (area : Bytes)
  /-- CSF_CLEAR_TIMEOUT, R256 -/
  | csfClearTimeout (c : Nat)
  /-- LCR_ACK_RX, R263 -/
  | lcrAckRx (c : Nat) (ok : Bool)
  /-- LCR_SWITCH, R263 -/
  | lcrSwitch (c : Nat)
  /-- BWR_RAMP_COMPLETE, R263 -/
  | bwrRampComplete (c : Nat)
  /-- LCR_TIMEOUT, R263 -/
  | lcrTimeout (c : Nat)
  /-- CTX_ANNOUNCE_RX, R296 -/
  | ctxAnnounceRx (c ctx gen : Nat) (body : Bytes)
  /-- CTX_ACK_RX, R294 -/
  | ctxAckRx (c ctx gen : Nat) (body : Bytes)
  /-- CTX_WITHDRAW_RX, R296 -/
  | ctxWithdrawRx (c ctx gen : Nat) (body : Bytes)
  /-- CTX_RESYNC_REQ_RX, R294 -/
  | ctxResyncReqRx (c ctx gen : Nat) (body : Bytes)
  /-- CLIENT_FAULT_FRAME_RX, R305 -/
  | clientFaultFrameRx (c : Nat) (body : Bytes)
  /-- DATA_C_RX, R296 -/
  | dataCRx (c ctx gen : Nat) (efcs : Bool) (body : Bytes)
  /-- DATA_F_RX, R292 -/
  | dataFRx (c ctx : Nat) (efcs gfp : Bool) (body : Bytes)
  /-- ANN_RETRY_EXPIRY, R294 -/
  | annRetryExpiry (t : CtxTimer)
  /-- ANN_REATTEMPT_EXPIRY, R294 -/
  | annReattemptExpiry (f : Nat)
  /-- RESYNC_HOLD_REPEAT, R297 -/
  | resyncHoldRepeat (c : Nat)
  /-- CLIENT_FAULT_REFRESH_TX, R305 -/
  | clientFaultRefreshTx (i : Nat)
  /-- CLIENT_FAULT_RX_TIMEOUT, R305 -/
  | clientFaultRxTimeout (c far : Nat)
  /-- ZPC_ENCAP_FRAME, R289 -/
  | zpcEncapFrame (c : Nat)
  /-- LINE_ASSEMBLY_UNIT, R321 -/
  | lineAssemblyUnit (c n : Nat)
  /-- ASSEMBLY_UNIT_HANDOFF, R321 -/
  | assemblyUnitHandoff (c : Nat)
  /-- PREFETCH_BLOCK_ARRIVE, R316 -/
  | prefetchBlockArrive (n : Nat) (egress : Bool) (i : Nat)
  /-- FLUSH_BOUNDARY, R322 -/
  | flushBoundary (f : Nat)
  /-- STALE_TIMER_EXPIRY, R333 -/
  | staleTimerExpiry (n space i : Nat)
  /-- QUEUE_SWEEP_DONE, R336 -/
  | queueSweepDone (n : Nat) (blocks : Bool)
  /-- MEMC_GRANT_ROUND, R21 -/
  | memcGrantRound (r : GrantRound)
  /-- MEMC_BURST_EDC_FAIL, R342 -/
  | memcBurstEdcFail (iface failed n : Nat) (egress : Bool) (i : Nat)
  /-- MEMC_RETRAIN_DONE, R342 -/
  | memcRetrainDone (g : Nat) (ok : Bool)
  /-- MEMC_TRAINING_DONE, R339 -/
  | memcTrainingDone (g trained : Nat)
  /-- RESIZE_PROPOSE_RX, R362 -/
  | resizeProposeRx (p : Nat) (msg : Bytes)
  /-- RESIZE_ACK_RX, R361 -/
  | resizeAckRx (p : Nat) (msg : Bytes)
  /-- RESIZE_NAK_RX, R361 -/
  | resizeNakRx (p : Nat) (msg : Bytes)
  /-- RESIZE_ABORT_RX, R362 -/
  | resizeAbortRx (p : Nat) (msg : Bytes)
  /-- RESIZE_SWITCH_RX, R365 -/
  | resizeSwitchRx (p : Nat) (msg : Bytes)
  /-- RESIZE_DONE_RX, R375 -/
  | resizeDoneRx (p : Nat) (msg : Bytes)
  /-- RESIZE_ACK_TMO, R361 -/
  | resizeAckTmo (p : Nat)
  /-- RESIZE_RESPONDER_TMO, R362 -/
  | resizeResponderTmo (p : Nat)
  /-- RESIZE_TX_SWITCH, R368 -/
  | resizeTxSwitch (p : Nat)
  /-- RESIZE_RX_SWITCH, R365 -/
  | resizeRxSwitch (p : Nat)
  /-- FRESH_CLEAR, R376 -/
  | freshClear (p : Nat)
  /-- SF_SD_CHANGE, R415 -/
  | sfSdChange (g : Nat)
  /-- APS_HOLDOFF_EXPIRY, R418 -/
  | apsHoldoffExpiry (g : Nat)
  /-- APS_WTR_EXPIRY, R418 -/
  | apsWtrExpiry (g : Nat)
  /-- APS_RX_ACCEPT, R418 -/
  | apsRxAccept (g : Nat) (aps : Bytes)
  /-- FOP_TIMER_EXPIRY, R418 -/
  | fopTimerExpiry (g : Nat)
  /-- SLALOM_UNIT_ARRIVAL, R428 -/
  | slalomUnitArrival (g path unit ns : Nat) (intact : Bool) (content : Bytes)
  /-- SLALOM_DUE_DELIVERY, R429 -/
  | slalomDueDelivery (g unit : Nat)
  /-- REJOIN_HOLD_EXPIRY, R430 -/
  | rejoinHoldExpiry (g : Nat)
  /-- FIRST_ARRIVAL_BLOCK, R433 -/
  | firstArrivalBlock (g path seq ns : Nat) (restart markerOk : Bool) (content : Bytes)
  /-- RESTART_DISCARD_TIMEOUT, R433 -/
  | restartDiscardTimeout (g : Nat)
  /-- HEARTBEAT_TX, R447 -/
  | heartbeatTx
  /-- HEARTBEAT_RX, R447 -/
  | heartbeatRx (payload : Bytes) (sent got : Nat)
  /-- HEARTBEAT_LOSS, R448 -/
  | heartbeatLoss
  /-- MATE_LINK_UP, R444 -/
  | mateLinkUp
  /-- MATE_LINK_DOWN, R444 -/
  | mateLinkDown
  /-- MATE_CELL_ERROR, R446 -/
  | mateCellError (ty seq : Nat)
  /-- MATE_NAK_RX, R446 -/
  | mateNakRx (ty seq : Nat)
  /-- COMMAND_MSG_RX, R453 -/
  | commandMsgRx (msg : Bytes)
  /-- RESULT_RX, R453 -/
  | resultRx (cell : Bytes)
  /-- DECISION_JUST, R455 -/
  | decisionJust (record : Bytes)
  /-- DECISION_ADMIT, R455 -/
  | decisionAdmit (record : Bytes)
  /-- DECISION_STALL, R455 -/
  | decisionStall (record : Bytes)
  /-- DECISION_CONTEXT, R455 -/
  | decisionContext (record : Bytes)
  /-- DECISION_ALIGN, R459 -/
  | decisionAlign (record : Bytes)
  /-- DECISION_PROT, R455 -/
  | decisionProt (record : Bytes)
  /-- DECISION_MERGE, R455 -/
  | decisionMerge (record : Bytes)
  /-- DECISION_RESIZE, R455 -/
  | decisionResize (record : Bytes)
  /-- DECISION_TIMING, R455 -/
  | decisionTiming (record : Bytes)
  /-- DIGEST_RX, R469 -/
  | digestRx (digests : List Word) (conts : Tbl Word)
  /-- JOIN_BOUNDARY_S, R460 -/
  | joinBoundaryS (epoch : Nat) (mfas : List Nat)
  /-- STATE_IMAGE_INSTALLED, R460 -/
  | stateImageInstalled (image : Machine.JoinImage)
  /-- JOIN_AT_RX, R460 -/
  | joinAtRx (j : Nat)
  /-- JOIN_EPOCH_J, R460 -/
  | joinEpochJ
  /-- HANDOVER_RX, R462 -/
  | handoverRx
  /-- HANDOVER_ACK_RX, R462 -/
  | handoverAckRx
  /-- HANDOVER_REQ_RX, R462 -/
  | handoverReqRx
  /-- HANDOVER_ACK_TIMEOUT, R462 -/
  | handoverAckTimeout
  /-- ACT_N_RELEASED, R450 -/
  | actNReleased (free : Bool)
  /-- ACT_N_PROBE, R451 -/
  | actNProbe (low : Bool)
  /-- CLAIM_TIMER_EXPIRY, R466 -/
  | claimTimerExpiry
  /-- PHASE_ALARM_RAISE, R449 -/
  | phaseAlarmRaise
  /-- PHASE_ALARM_CLEAR, R449 -/
  | phaseAlarmClear
  /-- SRAM_SCRUB_PASS, R468 -/
  | sramScrubPass (src block ms corrected : Nat) (bad : List Nat) (queues : List Machine.QueueErr)
  /-- SPILL_SCRUB_PASS, R468 -/
  | spillScrubPass (g corrected : Nat) (bad : List Machine.QueueErr)
  /-- BIST_RUN, R468 -/
  | bistRun (ty block : Nat) (fail : Bool)
  /-- REF_MEASUREMENT, R483 -/
  | refMeasurement (means : List (Nat × Int)) (dplls : List DpllMeas)
  /-- REF_LOS, R485 -/
  | refLos (r : Nat) (mean : Option Int)
  /-- REF_HOLDOFF_EXPIRY, R485 -/
  | refHoldoffExpiry (r : Nat)
  /-- REF_WTR_EXPIRY, R487 -/
  | refWtrExpiry (r : Nat)
  /-- DPLL_LOCKED, R492 -/
  | dpllLocked (i : Nat)
  /-- ANCHOR_VALID, R495 -/
  | anchorValid (i : Nat)
  /-- GLIDE_MINUTE_RECORD, R496 -/
  | glideMinuteRecord (i : Nat) (freq temp : Int)
  /-- GLIDE_FIT, R496 -/
  | glideFit (i : Nat) (model : Bytes) (resid : Nat)
  /-- GLIDE_STALE, R496 -/
  | glideStale (i : Nat)
  /-- XO_WARMUP_EXPIRY, R484 -/
  | xoWarmupExpiry (i : Nat)
  /-- PPS_OUT_PULSE, R500 -/
  | ppsOutPulse
  /-- FP_OUT_PULSE, R500 -/
  | fpOutPulse
  /-- ALIGN_APPLY, R501 -/
  | alignApply (measured : Int)
  /-- REF_LOS_CLEAR, R485 -/
  | refLosClear (r : Nat)
  deriving DecidableEq, Repr

end Sys2Proof
end

