-- ==== Sys2Proof/Machine/State.lean ====
section
/-! DEFINITION. The state of the machine, its reasons to stop, and its state after reset. -/

namespace Sys2Proof.Machine

/-- The machine: the device with its registers, FIFOs, tables and pins; its byte-addressed memories; and the commands that wait,
first in, first out. -/
structure State where
  dev : Dev := {}
  mem : Memory := []
  pending : List Instr := []
  deriving DecidableEq, Repr

/-- Reasons to stop with a fault. There is none: the manual describes no event that stops the device, and gives every command an
effect in every state. -/
inductive Fault where
  deriving DecidableEq, Repr

/-- Reasons to refuse a command. -/
inductive Refusal where
  /-- A command without a meaning in this model, by its mnemonic; no command raises it. Safe: nothing is claimed of it. -/
  | notModelled (mnemonic : String)
  deriving DecidableEq, Repr

/-- The machine in reset: POR_N is low and VDD_AON within its limits, so that D0 stands at its reset values and every other domain
is off (R60, R89, R99); every memory is empty, the PCIe configuration as after a fundamental reset; a ZK6400-CB. -/
def State.reset : State := {}

end Sys2Proof.Machine
end

