-- ==== Sys2Proof/Machine/Run.lean ====
section
/-! DEFINITION. How a command's effect on the device becomes an answer of the machine. -/

namespace Sys2Proof.Machine

/-- What a command answers. -/
abbrev Answer := Host.Outcome State Fault Refusal

/-- The device runs: POR_N is high, and VDD_AON is above its brownout threshold (R52, R81, R99). -/
def powered (d : Dev) : Bool := d.pin.porN && !d.pin.brownout

/-- The device of a state with its memories. -/
def State.sys (s : State) : Sys := { dev := s.dev, mem := s.mem }

/-- A state with another device and memories; the waiting commands stay. -/
def State.withSys (s : State) (x : Sys) : State := { s with dev := x.dev, mem := x.mem }

/-- An event that reaches the device even in reset: a change of a supply or of a ball. `ok`: the command is well formed; one that
is not names nothing of the device and changes nothing (log entry 41). -/
def rawSys (ok : Bool) (f : Sys → Sys) (s : State) : Answer := .next (if ok then s.withSys (f s.sys) else s)
def rawDev (ok : Bool) (f : Dev → Dev) (s : State) : Answer := rawSys ok (onDev f) s

/-- A command to a device that runs; a device held in reset does nothing (log entry 42). -/
def runSys (ok : Bool) (f : Sys → Sys) (s : State) : Answer := rawSys (ok && powered s.dev) f s
def runDev (ok : Bool) (f : Dev → Dev) (s : State) : Answer := runSys ok (onDev f) s

end Sys2Proof.Machine
end

