-- ==== Sys2Proof/Machine/CmdClocks.lean ====
section
/-! DEFINITION. The meanings of the commands, one per row: references, DPLLs and outputs. -/

namespace Sys2Proof.Machine

/-- REF_MEASUREMENT (R483): Each second the frequency offset and drift of every reference are updated. -/
def execRefMeasurement (means : List (Nat × Int)) (dplls : List DpllMeas) (s : State) : Answer :=
  runDev true (refMeasured means dplls) s

/-- REF_LOS (R485): A reference enters LOS or OOR and a selected one freezes its DPLL. -/
def execRefLos (r : Nat) (mean : Option Int) (s : State) : Answer := runDev (isRef r) (refLosEnter r mean) s

/-- REF_HOLDOFF_EXPIRY (R485): HOLDOFF_MS ends with the condition present and the reference is disqualified. -/
def execRefHoldoffExpiry (r : Nat) (s : State) : Answer := runDev (isRef r) (refHoldoff r) s

/-- REF_WTR_EXPIRY (R487): WTR_S ends and the reference requalifies. -/
def execRefWtrExpiry (r : Nat) (s : State) : Answer := runDev (isRef r) (refWtr r) s

/-- DPLL_LOCKED (R492): Three consecutive seconds of frequency error below 10 ppb lock the DPLL. -/
def execDpllLocked (i : Nat) (s : State) : Answer := runDev (isDpll i) (dpllLocked i) s

/-- ANCHOR_VALID (R495): After 60 s locked the holdover anchor becomes valid. -/
def execAnchorValid (i : Nat) (s : State) : Answer := runDev (isDpll i) (anchorValid i) s

/-- GLIDE_MINUTE_RECORD (R496): A minute's mean frequency and temperature is recorded for learning. -/
def execGlideMinuteRecord (i : Nat) (freq temp : Int) (s : State) : Answer := runDev (isDpll i) (glideMinute i freq temp) s

/-- GLIDE_FIT (R496): The Glide model is fitted after 24 h and hourly, stored and made LEARNED. -/
def execGlideFit (i : Nat) (model : Bytes) (resid : Nat) (s : State) : Answer :=
  runDev (isDpll i && model.length == 36) (glideFit i model resid) s

/-- GLIDE_STALE (R496): A model disagreeing for 10 min falls to AVERAGE and XO becomes untrusted. -/
def execGlideStale (i : Nat) (s : State) : Answer := runDev (isDpll i) (glideStale i) s

/-- XO_WARMUP_EXPIRY (R484): XO_WARMUP_MIN after D3 ready, XO_IN may become trusted. -/
def execXoWarmupExpiry (i : Nat) (s : State) : Answer := runDev (isDpll i) (xoWarm i) s

/-- PPS_OUT_PULSE (R500): PPS_OUT rises OFFSET_NS after each PM second boundary. -/
def execPpsOutPulse (s : State) : Answer := runDev true ppsPulse s

/-- FP_OUT_PULSE (R500): FP_OUT rises every FP_DIV × 125 µs. -/
def execFpOutPulse (s : State) : Answer := runDev true fpPulse s

/-- ALIGN_APPLY (R501): A pending ALIGN takes effect at its PM second boundary and TIM_ALIGN_DONE is posted. -/
def execAlignApply (measured : Int) (s : State) : Answer := runDev true (alignApply measured) s

/-- REF_LOS_CLEAR (R485): A REFIN's edges return and its LOS clears, resuming tracking within HOLDOFF_MS and starting the
wait of R487. -/
def execRefLosClear (r : Nat) (s : State) : Answer := runDev (isRef r) (refLosClear r) s

end Sys2Proof.Machine
end

