-- ==== Sys2Proof/Machine/CmdContainers.lean ====
section
/-! DEFINITION. The meanings of the commands, one per row: containers, mapping and delineation. -/

namespace Sys2Proof.Machine

/-- ZPC_MARKER_RX (R227): A ZPC block marker is checked at a hunt or grid position and the delineator state updated. -/
def execZpcMarkerRx (c pos : Nat) (m : Bytes) (s : State) : Answer :=
  runDev (isCont c) (fun d => refresh (markerCmd c pos m d)) s

/-- ZPC_HEADER_RX (R227): A ZPC header is checked at its predicted position and the frame delivered or discarded. -/
def execZpcHeaderRx (c pos : Nat) (h : HeaderIn) (s : State) : Answer :=
  runDev (isCont c) (fun d => refresh (headerRx c pos h.skipped h.bytes d)) s

/-- GFP_CORE_HEADER_RX (R231): A GFP-F core header is checked, corrected or failed and the delineator state updated. -/
def execGfpCoreHeaderRx (c pos : Nat) (h : HeaderIn) (s : State) : Answer :=
  runDev (isCont c) (fun d => refresh (gfpHeaderCmd c pos h.skipped h.bytes d)) s

/-- RX_PT_CHANGE (R275): A change of received payload type restarts a PAYLOAD 4 delineator in HUNT. -/
def execRxPtChange (c pt : Nat) (s : State) : Answer :=
  runDev (isCont c && isByte pt) (fun d => refresh (rxPtChange c pt d)) s

/-- GMP_JC_RX (R253): Justification control of a period is received, CRC-checked and applied. -/
def execGmpJcRx (c cm cnd : Nat) (crc : JcCrc) (amp : Option (List Nat)) (s : State) : Answer :=
  runDev (isCont c) (fun d => refresh (gmpJcRx c cm cnd crc amp d)) s

/-- EXTFC_RECORD_RX (R267): An extended frame counter record is assembled and EXTFC_LOCK updated. -/
def execExtfcRecordRx (c : Nat) (record : Bytes) (mfas : Nat) (s : State) : Answer :=
  runDev (isCont c && isByte mfas) (fun d => refresh (extRecord c record mfas d)) s

/-- MIRROR_MISS (R255): A standby begins a period without its mirrored decision and decides for itself. -/
def execMirrorMiss (c : Nat) (s : State) : Answer := runDev (isCont c) (mirrorMiss c) s

/-- CSF_MGMT_FRAME_TX (R256): A GFP-F CSF-LOS client management frame is sent every 100 ms. -/
def execCsfMgmtFrameTx (c : Nat) (s : State) : Answer := runDev (isCont c) (csfTxFrame c) s

/-- CSF_MGMT_FRAME_RX (R256): A CSF client management frame received declares CSF. -/
def execCsfMgmtFrameRx (c : Nat) (area : Bytes) (s : State) : Answer :=
  runDev (isCont c) (fun d => refresh (received c (areaFits area) area (fun _ => csfRxFrame c) d)) s

/-- CSF_CLEAR_TIMEOUT (R256): CSF clears after 300 ms without a CSF frame. -/
def execCsfClearTimeout (c : Nat) (s : State) : Answer := runDev (isCont c) (fun d => refresh (csfClear c d)) s

/-- LCR_ACK_RX (R263): The far end acknowledges or refuses the LCR phase of a G.7044 resize. -/
def execLcrAckRx (c : Nat) (ok : Bool) (s : State) : Answer := runDev (isCont c) (fun d => refresh (lcrAck c ok d)) s

/-- LCR_SWITCH (R263): Tributary slots are added or removed at the LCR switch frame. -/
def execLcrSwitch (c : Nat) (s : State) : Answer := runDev (isCont c) (fun d => refresh (lcrSwitch c d)) s

/-- BWR_RAMP_COMPLETE (R263): A bandwidth-resize ramp completes. -/
def execBwrRampComplete (c : Nat) (s : State) : Answer := runDev (isCont c) (fun d => refresh (bwrDone c d)) s

/-- LCR_TIMEOUT (R263): No LCR acknowledgement within 500 ms aborts the resize to s1. -/
def execLcrTimeout (c : Nat) (s : State) : Answer := runDev (isCont c) (fun d => refresh (lcrTimeout c d)) s

end Sys2Proof.Machine
end

