-- ==== Sys2Proof/Machine/CmdElastic.lean ====
section
/-! DEFINITION. The meanings of the commands, one per row: resizing of line capacity. -/

namespace Sys2Proof.Machine

/-- RESIZE_PROPOSE_RX (R362): A responder acts on a received PROPOSE, evaluating it or reporting it to the host. -/
def execResizeProposeRx (p : Nat) (msg : Bytes) (s : State) : Answer :=
  runDev (isPort p) (fun d => refresh (rszCmd p (rszHear p [1] msg (proposeRx p msg)) d)) s

/-- RESIZE_ACK_RX (R361): The proposer receives a matching ACK and schedules SWITCH messages. -/
def execResizeAckRx (p : Nat) (msg : Bytes) (s : State) : Answer :=
  runDev (isPort p) (fun d => refresh (rszCmd p (rszHear p [2] msg (rszAckRx p msg)) d)) s

/-- RESIZE_NAK_RX (R361): The proposer receives a NAK and returns to IDLE. -/
def execResizeNakRx (p : Nat) (msg : Bytes) (s : State) : Answer :=
  runDev (isPort p) (fun d => refresh (rszCmd p (rszHear p [3] msg (rszNakRx p msg)) d)) s

/-- RESIZE_ABORT_RX (R362): The responder receives ABORT and returns to IDLE. -/
def execResizeAbortRx (p : Nat) (msg : Bytes) (s : State) : Answer :=
  runDev (isPort p) (fun d => refresh (rszCmd p (rszHear p [5] msg (rszAbortRx p msg)) d)) s

/-- RESIZE_SWITCH_RX (R365): A received SWITCH countdown is adopted as the prediction of the receive switch. -/
def execResizeSwitchRx (p : Nat) (msg : Bytes) (s : State) : Answer :=
  runDev (isPort p) (fun d => refresh (rszCmd p (rszHear p [4] msg (rszSwitchRx p msg)) d)) s

/-- RESIZE_DONE_RX (R375): A far-end IDLE or DONE map differing from the receive map is followed. -/
def execResizeDoneRx (p : Nat) (msg : Bytes) (s : State) : Answer :=
  runDev (isPort p) (fun d => refresh (rszCmd p (rszHear p [0, 6] msg (rszDoneRx p msg)) d)) s

/-- RESIZE_ACK_TMO (R361): A proposer without ACK or NAK after ACK_TMO sends ABORT. -/
def execResizeAckTmo (p : Nat) (s : State) : Answer := runDev (isPort p) (fun d => refresh (rszCmd p (rszAckTmo p) d)) s

/-- RESIZE_RESPONDER_TMO (R362): An ACKED responder without a prediction after ACK_TMO follows the far end's state. -/
def execResizeResponderTmo (p : Nat) (s : State) : Answer :=
  runDev (isPort p) (fun d => refresh (rszCmd p (rszRespTmo p) d)) s

/-- RESIZE_TX_SWITCH (R368): The SWITCH countdown ends and the transmit map, GMP rate and preemptions change in one frame. -/
def execResizeTxSwitch (p : Nat) (s : State) : Answer := runDev (isPort p) (fun d => refresh (rszCmd p (txSwitchCmd p) d)) s

/-- RESIZE_RX_SWITCH (R365): At the predicted multiframe the receive map changes, and a responder schedules its transmit
switch. -/
def execResizeRxSwitch (p : Nat) (s : State) : Answer := runDev (isPort p) (fun d => refresh (rszCmd p (rxSwitchCmd p) d)) s

/-- FRESH_CLEAR (R376): FRESH ends once the maps have agreed for 1 s. -/
def execFreshClear (p : Nat) (s : State) : Answer := runDev (isPort p) (fun d => refresh (rszCmd p (freshClear p) d)) s

end Sys2Proof.Machine
end

