-- ==== Sys2Proof/Machine/CmdEpochs.lean ====
section
/-! DEFINITION. The meanings of the commands, one per row: epoch boundaries and what falls at them. -/

namespace Sys2Proof.Machine

/-- EPOCH_BOUNDARY (R65): The epoch counter advances at each 1 ms boundary. -/
def execEpochBoundary (s : State) : Answer := runDev true epochBoundary s

/-- COMMIT_ENTER_SERVICE (R29): At epoch E a pending commit's tables enter service together, or the commit is not applied. -/
def execCommitEnterService (s : State) : Answer := runDev true (fun d => refresh (commitEnter d)) s

/-- CALENDAR_CHANGE (R251): At the first MFAS 0 frame after a commit, slot ownership, connections and AVAIL_MAP change
whole. -/
def execCalendarChange (p : Nat) (s : State) : Answer := runDev (isPort p) (fun d => refresh (calendarChange p d)) s

/-- ASSIST_TIMEOUT (R35): An unanswered host-assisted report times out and the instance changes to hardware mode at the
next boundary. -/
def execAssistTimeout (fn i ns : Nat) (s : State) : Answer := runDev (isNs ns) (assistTimeoutCmd fn i ns) s

/-- PM_SECOND_BOUNDARY (R397): At each 1,000th epoch the PM engine snapshots, clears, evaluates and bins the closing
second. -/
def execPmSecondBoundary (s : State) : Answer := runDev true pmSecond s

/-- PM_BIN_FINAL (R403): A previous bin becomes final 10 s after its boundary and PM_INTERVAL is posted. -/
def execPmBinFinal (day : Bool) (s : State) : Answer := runDev true (pmBinFinal day) s

/-- FAILURE_DECLARE (R394): A failure class is declared after INT_SET consecutive defect epochs. -/
def execFailureDeclare (i c : Nat) (s : State) : Answer :=
  runDev (isPoint i && isClass c) (fun d => refresh (failureDeclare i c d)) s

/-- FAILURE_CLEAR (R394): A declared failure class clears after INT_CLR consecutive clean epochs. -/
def execFailureClear (i c : Nat) (s : State) : Answer :=
  runDev (isPoint i && isClass c) (fun d => refresh (failureClear i c d)) s

/-- PM_FAILURE_REPORT (R395): A host-assisted point reports a change of defect classes, or every 1 s while declared
differs. -/
def execPmFailureReport (i reason : Nat) (s : State) : Answer :=
  runDev (isPoint i && (reason == 1 || reason == 2)) (failureReport i reason) s

/-- PCTR_WINDOW_END (R526): At a window boundary counters are captured, bandwidths computed and a pending clear applied. -/
def execPctrWindowEnd (s : State) : Answer := runDev true pctrWindowEnd s

/-- PCTR_DUMP_WRITTEN (R528): A dump slot is written whole and PCTR_PROD advanced. -/
def execPctrDumpWritten (s : State) : Answer := runDev true pctrDumpWritten s

end Sys2Proof.Machine
end

