-- ==== Sys2Proof/Machine/CmdHost.lean ====
section
/-! DEFINITION. The meanings of the commands, one per row: register accesses and host-interface events. -/

namespace Sys2Proof.Machine

/-- MBX_DOORBELL (R154): Write of MBX_DBc.REQ_TAIL submits requests, or is ignored with OVERRUN or DB_ERR. -/
def execMbxDoorbell (q : Requester) (c tail : Nat) (s : State) : Answer :=
  runSys (isChannel c && decide (tail < 128)) (writeNamed q (.mbxDb c) (BitVec.ofNat 32 tail)) s

/-- MBX_CHANNEL_RESET (R156): Write of MBX_CTLc.RESET with KEY discards untaken requests and zeroes the channel indices. -/
def execMbxChannelReset (q : Requester) (c key : Nat) (spi : Bool) (s : State) : Answer :=
  runSys (isChannel c && isHalf key) (writeNamed q (.mbxCtl c) (keyWord key (spi.toNat * 2 + 1))) s

/-- GLB_RST_WARM (R99): Write of GLB_RST_CMD.WARM with KEY starts a warm reset, with handover first on an IN_STEP active. -/
def execGlbRstWarm (q : Requester) (key : Nat) (s : State) : Answer :=
  runSys (isHalf key) (writeNamed q .glbRstCmd (keyWord key 1)) s

/-- GLB_RST_PWR_CYCLE (R106): Write of GLB_RST_CMD.PWR_CYCLE with KEY asserts PWR_CYCLE_REQ_N. -/
def execGlbRstPwrCycle (q : Requester) (key : Nat) (warm : Bool) (s : State) : Answer :=
  runSys (isHalf key) (writeNamed q .glbRstCmd (keyWord key (2 + warm.toNat))) s

/-- GLB_CPU_RESTART_GO (R103): Write of GLB_CPU_RESTART.GO with KEY starts a control-processor restart. -/
def execGlbCpuRestartGo (q : Requester) (key : Nat) (s : State) : Answer :=
  runSys (isHalf key) (writeNamed q .glbCpuRestart (keyWord key 1)) s

/-- PWR_CAP_WRITE (R67): Write of PWR_CAP stores a clamped cap and re-evaluates deferred wakes, posting PWR_CAP_BELOW_LOAD
if below load. -/
def execPwrCapWrite (q : Requester) (w : Word) (s : State) : Answer := runSys true (writeNamed q .pwrCap w) s

/-- PWR_HOST_HOLD (R144): Write of PWR_HOST_HOLD requests a domain and keeps it awake. -/
def execPwrHostHold (q : Requester) (w : Word) (s : State) : Answer := runSys true (writeNamed q .pwrHostHold w) s

/-- PWR_HOST_DROP (R144): Write of PWR_HOST_DROP ends a host hold on a domain. -/
def execPwrHostDrop (q : Requester) (w : Word) (s : State) : Answer := runSys true (writeNamed q .pwrHostDrop w) s

/-- PWR_RAIL_CLR (R79): Write of PWR_RAIL_CLR re-enables a slice rail switched off by overvoltage. -/
def execPwrRailClr (q : Requester) (w : Word) (s : State) : Answer := runSys true (writeNamed q .pwrRailClr w) s

/-- DOMAIN_FAULT_CLEAR (R80): W1C of PWR_DOM_STATd.FAULT clears a latched fault and re-arms re-wake. -/
def execDomainFaultClear (q : Requester) (n cnt : Nat) (s : State) : Answer :=
  runSys (isDom n && isByte cnt) (writeNamed q (.pwrDomStat n) (BitVec.ofNat 32 (cnt * 256 + 16))) s

/-- WIDE_SEL_WRITE (R133): Write of WIDE_SEL starts a capture of a wide value, abandoning any capture in progress. -/
def execWideSelWrite (q : Requester) (w : Word) (s : State) : Answer := runSys true (writeNamed q .wideSel w) s

/-- WIDE_RECAPTURE (R135): WIDE_CMD.RECAPTURE captures the current selector again. -/
def execWideRecapture (q : Requester) (s : State) : Answer := runSys true (writeNamed q .wideCmd 2) s

/-- WIDE_WRITE (R135): WIDE_CMD.WRITE loads WIDE_WDATA into a writable wide value and makes a fresh capture. -/
def execWideWrite (q : Requester) (recapture : Bool) (s : State) : Answer :=
  runSys true (writeNamed q .wideCmd (BitVec.ofNat 32 (1 + recapture.toNat * 2))) s

/-- WIDE_CAPTURE_DONE (R134): A wide capture completes, updating WIDE_DATA, VALID, TICKET and ERRC together. -/
def execWideCaptureDone (q : Requester) (s : State) : Answer := runDev true (wideDone q) s

/-- ERR_INJ_GO (R146): Write of ERR_INJ with KEY and GO raises a test ERR record of the given severity. -/
def execErrInjGo (q : Requester) (key sev : Nat) (s : State) : Answer :=
  runSys (isHalf key && decide (sev < 8)) (writeNamed q .errInj (keyWord key (256 + sev))) s

/-- EVT_CTL_RESET (R178): EVT_CTL.RESET zeroes EVT_PROD and EVT_CONS and clears ENABLE, keeping staged records. -/
def execEvtCtlReset (q : Requester) (enable : Bool) (s : State) : Answer :=
  runSys true (writeNamed q .evtCtl (BitVec.ofNat 32 (2 + enable.toNat))) s

/-- EVT_ENABLE (R173): Setting EVT_CTL.ENABLE starts event DMA into the host ring. -/
def execEvtEnable (q : Requester) (s : State) : Answer := runSys true (writeNamed q .evtCtl 1) s

/-- PCTR_CLR_GO (R525): Write of PCTR_CLR with KEY and GO schedules zeroing of named counter banks at the next window
boundary. -/
def execPctrClrGo (q : Requester) (key banks : Nat) (s : State) : Answer :=
  runSys (isHalf key && decide (banks < 128)) (writeNamed q .pctrClr (keyWord key (256 + banks))) s

/-- NVM_JTAG_RELOCK (R562): NVM_JTAG_CTL.RELOCK locks JTAG at once. -/
def execNvmJtagRelock (q : Requester) (s : State) : Answer := runSys true (writeNamed q .nvmJtagCtl 1) s

/-- QM_CLEAR (R332): Write of SLn_QM_CLR clears the sticky, count and peak of one queue or pool entry. -/
def execQmClear (q : Requester) (n space index : Nat) (s : State) : Answer :=
  runSys (isSlice n && decide (space < 4) && isHalf index) (writeNamed q (.qmClr n) (BitVec.ofNat 32 (space * 2 ^ 30 + index))) s

/-- PMON_PHASE_WRITE (R403): Write of PMON_PHASE schedules a new bin phase, closing current bins early with SUSPECT. -/
def execPmonPhaseWrite (q : Requester) (w : Word) (s : State) : Answer := runSys true (writeNamed q .pmonPhase w) s

/-- MSIX_UNMASK (R118): Unmasking an MSI-X vector sends its pending message if the source bit is still 1. -/
def execMsixUnmask (pf1 : Bool) (k : Nat) (s : State) : Answer := runDev (decide (k < 16)) (msixUnmask pf1 k) s

/-- REGISTER_WRITE (R127): Write to any register without its own row, under the access types and rules of R127 to R132. -/
def execRegisterWrite (q : Requester) (t : RegTarget) (size : Nat) (lo hi : Word) (s : State) : Answer :=
  runSys true (hostWrite q t size lo hi) s

/-- SPI_READ (R120): SPI transaction 0x0B reads dwords from ascending BAR0 offsets. -/
def execSpiRead (o n : Nat) (ready : Bool) (s : State) : Answer := runSys (isOffset o) (spiRead o n ready) s

/-- SPI_WRITE (R120): SPI transaction 0x02 writes dwords to ascending BAR0 offsets. -/
def execSpiWrite (o : Nat) (ws : List Word) (cut : Bool) (s : State) : Answer := runSys (isOffset o) (spiWrite o ws cut) s

/-- SPI_STATUS (R120): SPI transaction 0x05 returns the status of the previous transaction. -/
def execSpiStatus (s : State) : Answer := runDev true spiStatus s

/-- I2C_WRITE (R121): I2C write transaction to a target address writes dwords at an offset. -/
def execI2cWrite (o : I2cPlace) (ws : List Word) (s : State) : Answer :=
  runSys (isI2cAddr o.addr && isOffset o.off) (i2cWrite o.addr o.off ws) s

/-- I2C_READ (R121): I2C read transaction to a target address reads dwords from an offset. -/
def execI2cRead (o : I2cPlace) (n : Nat) (answered : Bool) (s : State) : Answer :=
  runSys (isI2cAddr o.addr && isOffset o.off) (i2cRead o.addr o.off n answered) s

/-- PERST_N_RISE (R92): PERST_N rises, releasing the PCIe endpoint from conventional reset. -/
def execPerstNRise (s : State) : Answer := rawDev true perstRise s

/-- PCIE_LINK_TRAINING_START (R92): The endpoint starts link training at the later of 1 ms after PERST_N and D4 ready. -/
def execPcieLinkTrainingStart (s : State) : Answer := runDev true startLink s

/-- PF0_FLR (R117): Function Level Reset of PF0 stops event DMA and dumps and resets PF0 state. -/
def execPf0Flr (s : State) : Answer := runDev true pf0Flr s

/-- PF1_FLR (R117): Function Level Reset of PF1 affects PF1 only. -/
def execPf1Flr (s : State) : Answer := runDev true pf1Flr s

/-- PF0_D3HOT_ENTRY (R117): PF0 enters D3hot or loses bus mastering, pausing event DMA and dumps. -/
def execPf0D3hotEntry (d3hot : Bool) (s : State) : Answer := runDev true (pf0Pause d3hot) s

/-- PF0_DMA_RESUME (R117): PF0 returns to D0 with bus mastering, resuming DMA and sending pending MSI-X messages. -/
def execPf0DmaResume (s : State) : Answer := runDev true pf0Resume s

/-- EVT_HOLDOFF_EXPIRY (R172): The holdoff timer reaches EVT_HOLDOFF and staged records are posted. -/
def execEvtHoldoffExpiry (s : State) : Answer := runDev true holdoffEnd s

/-- EVT_POST_ON_ROOM (R172): A posting that fell due while the ring was full or DMA stopped is made once room appears or
DMA resumes. -/
def execEvtPostOnRoom (s : State) : Answer := runDev true postOnRoom s

/-- REGISTER_READ (R116): A BAR0 read over PCIe is answered, or denied, timed out or refused with its GLB_ACCERR cause and
ACCESS record, or removes an item from a FIFO data register. -/
def execRegisterRead (q : Requester) (t : RegTarget) (size : Nat) (answered : Bool) (s : State) : Answer :=
  runSys true (hostRead q t size answered) s

/-- PERST_N_FALL (R115): PERST_N is asserted and the PCIe endpoint enters conventional reset. -/
def execPerstNFall (s : State) : Answer := rawDev true perstFall s

end Sys2Proof.Machine
end

