-- ==== Sys2Proof/Machine/CmdMailbox.lean ====
section
/-! DEFINITION. The meanings of the commands, one per row: mailbox commands. -/

namespace Sys2Proof.Machine

/-- BOOT_INFO (R179): Command that returns boot stage, cause, attempts and the active, staged and anti-rollback versions. -/
def execBootInfo (q : Req) (s : State) : Answer := runSys (isReq q) (serve 0x0001 anyAction q) s

/-- RECOVERY_ENTER (R179): Command that answers and then makes a warm reset into ROM recovery mode with cause COMMAND. -/
def execRecoveryEnter (q : Req) (s : State) : Answer := runSys (isReq q) (serve 0x0002 anyAction q) s

/-- JTAG_UNLOCK (R562): Command that verifies an unlock token and opens JTAG, waking D23 when DEBUG is set; the nonce is
redrawn. -/
def execJtagUnlock (q : Req) (s : State) : Answer := runSys (isReq q) (serve 0x0003 anyAction q) s

/-- UPD_BEGIN (R551): Command that starts staging a release, invalidating MAN_STAGED and entering RECEIVING. -/
def execUpdBegin (q : Req) (s : State) : Answer := runSys (isReq q) (serve 0x0010 anyAction q) s

/-- UPD_WRITE (R553): Command that checks the CRC of BULK window bytes and writes them into the IMAGE area at
STAGE_OFFSET. -/
def execUpdWrite (q : Req) (s : State) : Answer := runSys (isReq q) (serve 0x0011 anyAction q) s

/-- UPD_COMMIT (R553): Command that checks the manifest structurally, writes MAN_STAGED and its marker, and enters STAGED. -/
def execUpdCommit (q : Req) (s : State) : Answer := runSys (isReq q) (serve 0x0012 anyAction q) s

/-- UPD_ABORT (R551): Command that abandons staging, returning to IDLE or to DAMAGED after any UPD_WRITE. -/
def execUpdAbort (q : Req) (s : State) : Answer := runSys (isReq q) (serve 0x0013 anyAction q) s

/-- UPD_CONFIRM (R557): Command that migrates settings, raises the anti-rollback target and fuses, and confirms the active
release. -/
def execUpdConfirm (q : Req) (s : State) : Answer := runSys (isReq q) (serve 0x0014 anyAction q) s

/-- UPD_STATUS (R553): Command that returns the staging state, bytes written and last update status. -/
def execUpdStatus (q : Req) (s : State) : Answer := runSys (isReq q) (serve 0x0015 anyAction q) s

/-- OBJ_SET (R593): Command that checks one part of a provisioning record alone and writes it into the shadow tables. -/
def execObjSet (q : Req) (s : State) : Answer := runSys (isReq q) (serve 0x0101 anyAction q) s

/-- OBJ_DEL (R179): Command that deletes an object from the shadow tables. -/
def execObjDel (q : Req) (s : State) : Answer := runSys (isReq q) (serve 0x0102 anyAction q) s

/-- OBJ_GET (R179): Command that returns one part of a shadow or committed record. -/
def execObjGet (q : Req) (s : State) : Answer := runSys (isReq q) (serve 0x0103 anyAction q) s

/-- COMMIT (R164): Command that checks shadow tables in the order of R594 and, if accepted, copies them into a pending
commit for epoch E. -/
def execCommit (q : Req) (s : State) : Answer := runSys (isReq q) (serve 0x0104 anyAction q) s

/-- COMMIT_CANCEL (R166): Command that removes a pending commit and every later one if its epoch is far enough ahead. -/
def execCommitCancel (q : Req) (s : State) : Answer := runSys (isReq q) (serve 0x0105 anyAction q) s

/-- SHADOW_REVERT (R179): Command that makes the shadow tables a copy of the committed tables. -/
def execShadowRevert (q : Req) (s : State) : Answer := runSys (isReq q) (serve 0x0106 anyAction q) s

/-- COMMIT_STATUS (R179): Command that returns the last completed commit and the pending commits. -/
def execCommitStatus (q : Req) (s : State) : Answer := runSys (isReq q) (serve 0x0107 anyAction q) s

/-- FUNC_REINIT (R180): Command that aborts a function instance's commands, resets it and restores it from committed
tables, or repairs a whole slice. -/
def execFuncReinit (q : Req) (s : State) : Answer := runSys (isReq q) (serve 0x0108 anyAction q) s

/-- SLICE_READY (R36): A slice re-initialised under FUNC_REINIT becomes ready and SLICE_READY is posted. -/
def execSliceReady (n : Nat) (s : State) : Answer := runDev (isSlice n) (fun d => refresh (sliceReady n d)) s

/-- STORE (R540): Command that starts saving the tables in service into the settings area not in force. -/
def execStore (q : Req) (s : State) : Answer := runSys (isReq q) (serve 0x0109 anyAction q) s

/-- STORE_SET_COMMIT (R540): After an epoch boundary D the built image is written, read back and made valid by SET_COMMIT;
STORE answers and STORE_DONE is posted. -/
def execStoreSetCommit (readback : Bool) (s : State) : Answer := runSys true (storeCommit readback) s

/-- SLICE_LOAD (R36): Command that verifies and loads SDS or engine microcode for a slice from the BULK window. -/
def execSliceLoad (q : Req) (s : State) : Answer := runSys (isReq q) (serve 0x010A anyAction q) s

/-- RESIZE_PROPOSE (R373): Command that plans a new line-port map and starts an in-band resize proposal. -/
def execResizePropose (q : Req) (s : State) : Answer := runSys (isReq q) (serve 0x010B anyAction q) s

/-- INVENTORY (R179): Command that returns part, revision, serial and part versions. -/
def execInventory (q : Req) (s : State) : Answer := runSys (isReq q) (serve 0x0201 anyAction q) s

/-- HEALTH (R470): Command that returns the Groomer report. -/
def execHealth (q : Req) (s : State) : Answer := runSys (isReq q) (serve 0x0202 anyAction q) s

/-- PM_READ (R406): Command that returns one PM bin record of a monitoring point. -/
def execPmRead (q : Req) (s : State) : Answer := runSys (isReq q) (serve 0x0203 anyAction q) s

/-- PM_CLEAR (R407): Command that requests zeroing of PM bins at the next PM second boundary. -/
def execPmClear (q : Req) (s : State) : Answer := runSys (isReq q) (serve 0x0204 anyAction q) s

/-- LAST_GASP_READ (R548): Command that returns bytes of the valid last-gasp record. -/
def execLastGaspRead (q : Req) (s : State) : Answer := runSys (isReq q) (serve 0x0205 anyAction q) s

/-- LAST_GASP_ACK (R548): Command that marks the last-gasp record superseded. -/
def execLastGaspAck (q : Req) (s : State) : Answer := runSys (isReq q) (serve 0x0206 anyAction q) s

/-- EVT_LOG_READ (R174): Command that returns records from the D0 event log. -/
def execEvtLogRead (q : Req) (s : State) : Answer := runSys (isReq q) (serve 0x0207 anyAction q) s

/-- REF_CFG (R507): Command that sets a reference record at X. -/
def execRefCfg (q : Req) (s : State) : Answer := runSys (isReq q) (serve 0x0301 anyAction q) s

/-- DPLL_CFG (R508): Command that sets a DPLL or output record at X. -/
def execDpllCfg (q : Req) (s : State) : Answer := runSys (isReq q) (serve 0x0302 anyAction q) s

/-- DPLL_CLEAR (R490): DPLL_CMD CLEAR ends forced and manual selection and forced holdover or freerun. -/
def execDpllClear (q : Req) (s : State) : Answer := runSys (isReq q) (serve 0x0303 (action 4 0 8) q) s

/-- DPLL_FORCE (R490): DPLL_CMD FORCE sets a forced selection of a reference. -/
def execDpllForce (q : Req) (s : State) : Answer := runSys (isReq q) (serve 0x0303 (action 4 1 8) q) s

/-- DPLL_MANUAL (R490): DPLL_CMD MANUAL sets a manual selection among the best references. -/
def execDpllManual (q : Req) (s : State) : Answer := runSys (isReq q) (serve 0x0303 (action 4 2 8) q) s

/-- DPLL_LOCKOUT (R490): DPLL_CMD LOCKOUT makes a reference ineligible for the DPLL. -/
def execDpllLockout (q : Req) (s : State) : Answer := runSys (isReq q) (serve 0x0303 (action 4 3 8) q) s

/-- DPLL_UNLOCK (R490): DPLL_CMD UNLOCK ends the lockout of a reference. -/
def execDpllUnlock (q : Req) (s : State) : Answer := runSys (isReq q) (serve 0x0303 (action 4 4 8) q) s

/-- DPLL_HOLDOVER (R490): DPLL_CMD HOLDOVER forces holdover, or freerun without an anchor. -/
def execDpllHoldover (q : Req) (s : State) : Answer := runSys (isReq q) (serve 0x0303 (action 4 5 8) q) s

/-- DPLL_FREERUN (R490): DPLL_CMD FREERUN forces freerun. -/
def execDpllFreerun (q : Req) (s : State) : Answer := runSys (isReq q) (serve 0x0303 (action 4 6 8) q) s

/-- DPLL_RELEARN (R490): DPLL_CMD RELEARN discards the learned Glide model. -/
def execDpllRelearn (q : Req) (s : State) : Answer := runSys (isReq q) (serve 0x0303 (action 4 7 8) q) s

/-- DPLL_TEMP (R490): DPLL_CMD TEMP sets the host temperature used as TEMP_SRC 0xFF. -/
def execDpllTemp (q : Req) (s : State) : Answer := runSys (isReq q) (serve 0x0303 (action 4 8 8) q) s

/-- ALIGN (R501): Command that schedules a new OFFSET_NS for PPS_OUT and FP_OUT. -/
def execAlign (q : Req) (s : State) : Answer := runSys (isReq q) (serve 0x0304 anyAction q) s

/-- HOLDOVER_LOAD (R497): Command that replaces a DPLL's holdover model at X and sets it LOADED. -/
def execHoldoverLoad (q : Req) (s : State) : Answer := runSys (isReq q) (serve 0x0305 anyAction q) s

/-- TIME_STATUS (R512): Command that returns the status record of a reference, DPLL or output. -/
def execTimeStatus (q : Req) (s : State) : Answer := runSys (isReq q) (serve 0x0306 anyAction q) s

/-- APS_CLEAR (R421): APS_CMD clear ends LO, FS, MS and EXER, starting WTR or holding DNR as applicable. -/
def execApsClear (q : Req) (s : State) : Answer := runSys (isReq q) (serve 0x0401 (action 4 0 6) q) s

/-- APS_LOCKOUT (R417): APS_CMD lockout of protection raises the LO request. -/
def execApsLockout (q : Req) (s : State) : Answer := runSys (isReq q) (serve 0x0401 (action 4 1 6) q) s

/-- APS_FORCED_PROTECTION (R417): APS_CMD forced switch to protection raises FS. -/
def execApsForcedProtection (q : Req) (s : State) : Answer := runSys (isReq q) (serve 0x0401 (action 4 2 6) q) s

/-- APS_FORCED_WORKING (R417): APS_CMD forced switch to working raises FS. -/
def execApsForcedWorking (q : Req) (s : State) : Answer := runSys (isReq q) (serve 0x0401 (action 4 3 6) q) s

/-- APS_MANUAL_PROTECTION (R417): APS_CMD manual switch to protection raises MS. -/
def execApsManualProtection (q : Req) (s : State) : Answer := runSys (isReq q) (serve 0x0401 (action 4 4 6) q) s

/-- APS_MANUAL_WORKING (R417): APS_CMD manual switch to working raises MS. -/
def execApsManualWorking (q : Req) (s : State) : Answer := runSys (isReq q) (serve 0x0401 (action 4 5 6) q) s

/-- APS_EXERCISE (R417): APS_CMD exercise raises EXER without switching. -/
def execApsExercise (q : Req) (s : State) : Answer := runSys (isReq q) (serve 0x0401 (action 4 6 6) q) s

/-- MERGE_AUTOMATIC (R432): MERGE_CMD action 0 returns a merge group to automatic operation. -/
def execMergeAutomatic (q : Req) (s : State) : Answer := runSys (isReq q) (serve 0x0402 (action 4 0 3) q) s

/-- MERGE_FORCE_PATH_A (R432): MERGE_CMD action 1 makes PATH_A the only member of the delivery set, re-timing if lagging. -/
def execMergeForcePathA (q : Req) (s : State) : Answer := runSys (isReq q) (serve 0x0402 (action 4 1 3) q) s

/-- MERGE_FORCE_PATH_B (R432): MERGE_CMD action 2 makes PATH_B the only member of the delivery set, re-timing if lagging. -/
def execMergeForcePathB (q : Req) (s : State) : Answer := runSys (isReq q) (serve 0x0402 (action 4 2 3) q) s

/-- MERGE_RESTART_ALIGNMENT (R432): MERGE_CMD action 3 re-times to the later qualified path. -/
def execMergeRestartAlignment (q : Req) (s : State) : Answer := runSys (isReq q) (serve 0x0402 (action 4 3 3) q) s

/-- PROT_STATUS (R438): Command that returns a protection or merge group status record. -/
def execProtStatus (q : Req) (s : State) : Answer := runSys (isReq q) (serve 0x0403 anyAction q) s

/-- MATE_STATUS (R471): Command that returns mate state, flags, phase and switch history. -/
def execMateStatus (q : Req) (s : State) : Answer := runSys (isReq q) (serve 0x0501 anyAction q) s

/-- MATE_SWITCH (R462): Command that starts a commanded switch-over, or sends HANDOVER_REQ on a standby. -/
def execMateSwitch (q : Req) (s : State) : Answer := runSys (isReq q) (serve 0x0502 anyAction q) s

/-- MATE_JOIN_CLEAR (R442): MATE_JOIN action 0 clears the pairing flag in MRAM. -/
def execMateJoinClear (q : Req) (s : State) : Answer := runSys (isReq q) (serve 0x0503 (action 2 0 2) q) s

/-- MATE_JOIN_SET (R442): MATE_JOIN action 1 sets the pairing flag in MRAM. -/
def execMateJoinSet (q : Req) (s : State) : Answer := runSys (isReq q) (serve 0x0503 (action 2 1 2) q) s

/-- MATE_JOIN_REJOIN (R452): MATE_JOIN action 2 returns a standby to JOINING. -/
def execMateJoinRejoin (q : Req) (s : State) : Answer := runSys (isReq q) (serve 0x0503 (action 2 2 2) q) s

/-- MATE_DIGEST (R471): Command that returns local and mate state digests. -/
def execMateDigest (q : Req) (s : State) : Answer := runSys (isReq q) (serve 0x0504 anyAction q) s

/-- ASSIST_DECIDE (R169): Command that applies a host decision to the newest report of a host-assisted instance at X. -/
def execAssistDecide (q : Req) (s : State) : Answer := runSys (isReq q) (serve 0x0601 anyAction q) s

/-- ASSIST_RESUME (R170): Command that resumes frozen host-assisted instances. -/
def execAssistResume (q : Req) (s : State) : Answer := runSys (isReq q) (serve 0x0602 anyAction q) s

/-- ASSIST_LIST (R170): Command that lists frozen instances of a function. -/
def execAssistList (q : Req) (s : State) : Answer := runSys (isReq q) (serve 0x0603 anyAction q) s

/-- MIRRORED_EXEC (R161): An accepted mirrored command reaches its execution epoch X and executes on the active and the
standby. -/
def execMirroredExec (s : State) : Answer := runSys true mirroredExec s

end Sys2Proof.Machine
end

