-- ==== Sys2Proof/Machine/CmdPackets.lean ====
section
/-! DEFINITION. The meanings of the commands, one per row: packet mapping, flow queues and buffer memory. -/

namespace Sys2Proof.Machine

/-- CTX_ANNOUNCE_RX (R296): A receiver installs or refuses an announced context template and sends an ACK. -/
def execCtxAnnounceRx (c ctx gen : Nat) (body : Bytes) (s : State) : Answer :=
  runDev (isCont c && isFlow ctx && isByte gen) (received c (ctlFits ctx gen body) body fun _ => announceRx c ctx gen) s

/-- CTX_ACK_RX (R294): A sender receives an ACK and moves the flow's context state. -/
def execCtxAckRx (c ctx gen : Nat) (body : Bytes) (s : State) : Answer :=
  runDev (isCont c && isFlow ctx && isByte gen) (received c (ctlFits ctx gen body) body fun _ => ackRx c ctx gen) s

/-- CTX_WITHDRAW_RX (R296): A receiver removes a withdrawn context and acknowledges. -/
def execCtxWithdrawRx (c ctx gen : Nat) (body : Bytes) (s : State) : Answer :=
  runDev (isCont c && isFlow ctx && isByte gen) (received c (ctlFits ctx gen body) body fun _ => withdrawRx c ctx gen) s

/-- CTX_RESYNC_REQ_RX (R294): A sender receives RESYNC_REQ and re-announces or returns the flow to FULL. -/
def execCtxResyncReqRx (c ctx gen : Nat) (body : Bytes) (s : State) : Answer :=
  runDev (isCont c && isFlow ctx && isByte gen) (received c (ctlFits ctx gen body) body fun _ => resyncRx c ctx gen) s

/-- CLIENT_FAULT_FRAME_RX (R305): A CLIENT_FAULT control frame sets the fault state of mapped egress ports. -/
def execClientFaultFrameRx (c : Nat) (body : Bytes) (s : State) : Answer :=
  runDev (isCont c) (fun d => refresh (received c (fun h => headerFits 3 (zhCtx h) body h) body (fun _ => faultRx c) d)) s

/-- DATA_C_RX (R296): A compressed data frame is restored from its context and delivered, or dropped with RESYNC_REQ. -/
def execDataCRx (c ctx gen : Nat) (efcs : Bool) (body : Bytes) (s : State) : Answer :=
  runDev (isCont c && isFlow ctx && isByte gen) (received c (dataCFits ctx gen efcs body) body fun _ => dataCRx c ctx gen efcs) s

/-- DATA_F_RX (R292): A full data frame, ZPC or GFP-F, is delivered without context lookup. -/
def execDataFRx (c ctx : Nat) (efcs gfp : Bool) (body : Bytes) (s : State) : Answer :=
  runDev (isCont c && isFlow ctx) (received c (dataFFits ctx efcs gfp body) body fun _ => dataFRx c ctx efcs gfp) s

/-- ANN_RETRY_EXPIRY (R294): No ACK within ANN_RETRY resends the announce or withdraw, or gives up after 8 sends. -/
def execAnnRetryExpiry (t : CtxTimer) (s : State) : Answer := runDev (isFlow t.flow && t.wdr.all isCont) (annRetry t.flow t.wdr) s

/-- ANN_REATTEMPT_EXPIRY (R294): A flow's reattempt delay after refusal or failure ends and announcement is permitted
again. -/
def execAnnReattemptExpiry (f : Nat) (s : State) : Answer := runDev (isFlow f) (annReattempt f) s

/-- RESYNC_HOLD_REPEAT (R297): RESYNC_REQ with ALL is repeated every RESYNC_HOLD while DATA_C frames keep missing. -/
def execResyncHoldRepeat (c : Nat) (s : State) : Answer := runDev (isCont c) (resyncRepeat c) s

/-- CLIENT_FAULT_REFRESH_TX (R305): A non-zero CLIENT_FAULT frame is repeated every 10 ms. -/
def execClientFaultRefreshTx (i : Nat) (s : State) : Answer := runDev (isClient i) (refreshFault i) s

/-- CLIENT_FAULT_RX_TIMEOUT (R305): A received client fault returns to none after 35 ms without refresh. -/
def execClientFaultRxTimeout (c far : Nat) (s : State) : Answer :=
  runDev (isCont c && isByte far) (fun d => refresh (applyFault c far 0 d)) s

/-- ZPC_ENCAP_FRAME (R289): At a frame boundary the encapsulator sends a control, data or IDLE frame, inserting block
markers. -/
def execZpcEncapFrame (c : Nat) (s : State) : Answer := runDev (isCont c) (zpcEncapFrame c) s

/-- LINE_ASSEMBLY_UNIT (R321): The line assembler builds one ODU frame unit, marking and reading flows under the
scheduler. -/
def execLineAssemblyUnit (c n : Nat) (s : State) : Answer := runDev (isCont c) (assembleUnit c n) s

/-- ASSEMBLY_UNIT_HANDOFF (R321): A unit handed to the line multiplexer releases every mark of the unit. -/
def execAssemblyUnitHandoff (c : Nat) (s : State) : Answer := runDev (isCont c) (unitHandoff c) s

/-- PREFETCH_BLOCK_ARRIVE (R316): A requested spill block arrives in the prefetch buffer. -/
def execPrefetchBlockArrive (n : Nat) (egress : Bool) (i : Nat) (s : State) : Answer :=
  runDev (isSlice n && isQueue n egress i) (blockArrives n egress i) s

/-- FLUSH_BOUNDARY (R322): A flow in flush scope reaches its packet boundary and its complete frames are discarded. -/
def execFlushBoundary (f : Nat) (s : State) : Answer := runDev (isFlow f) (flushBoundary f) s

/-- STALE_TIMER_EXPIRY (R333): A non-empty queue unread for STALE_MS sets STALE and may flush. -/
def execStaleTimerExpiry (n space i : Nat) (s : State) : Answer :=
  runDev (isSlice n && (space == 1 || space == 2) && isHalf i) (staleExpiry n space i) s

/-- QUEUE_SWEEP_DONE (R336): The background sweep reclaims the cells or blocks of a reset queue. -/
def execQueueSweepDone (n : Nat) (blocks : Bool) (s : State) : Answer := runDev (isSlice n) (sweepDone n blocks) s

/-- MEMC_GRANT_ROUND (R21): MEMC divides deep-buffered bandwidth among slices in a round of block grants, and serves their requests in
the order of R317. -/
def execMemcGrantRound (r : GrantRound) (s : State) : Answer :=
  runDev (r.demands.length == 4 && r.merge.length == 4) (grantRound r.demands r.ns r.merge) s

/-- MEMC_BURST_EDC_FAIL (R342): A GDDR6 burst fails EDC and is retried, failing the block after 3 retries. -/
def execMemcBurstEdcFail (iface failed n : Nat) (egress : Bool) (i : Nat) (s : State) : Answer :=
  runDev (decide (iface < 16) && decide (failed < 4) && isSlice n && isQueue n egress i) (fun d => refresh (burstEdc iface failed n egress i d)) s

/-- MEMC_RETRAIN_DONE (R342): A retraining completes or fails, faulting the group on failure. -/
def execMemcRetrainDone (g : Nat) (ok : Bool) (s : State) : Answer :=
  runDev (isMem g) (fun d => refresh (retrainDone g ok d)) s

/-- MEMC_TRAINING_DONE (R339): Full training of a MEM group completes or fails and trims are stored. -/
def execMemcTrainingDone (g trained : Nat) (s : State) : Answer :=
  runDev (isMem g && decide (trained < 16)) (fun d => refresh (trainingDone g trained d)) s

end Sys2Proof.Machine
end

