-- ==== Sys2Proof/Machine/CmdPair.lean ====
section
/-! DEFINITION. The meanings of the commands, one per row: the mate and the scrub passes. -/

namespace Sys2Proof.Machine

/-- HEARTBEAT_TX (R447): The mate link engine sends a HEARTBEAT cell every 50 µs. -/
def execHeartbeatTx (s : State) : Answer := runDev true heartbeatTx s

/-- HEARTBEAT_RX (R447): A valid mate heartbeat is received and pairing, roles and phase are evaluated. -/
def execHeartbeatRx (payload : Bytes) (sent got : Nat) (s : State) : Answer :=
  runDev (payload.length == 52) (fun d => refresh (heartbeatRx payload sent got d)) s

/-- HEARTBEAT_LOSS (R448): No valid heartbeat for 405 µs declares heartbeat loss. -/
def execHeartbeatLoss (s : State) : Answer := runDev true (fun d => refresh (heartbeatLoss d)) s

/-- MATE_LINK_UP (R444): The mate link comes up. -/
def execMateLinkUp (s : State) : Answer := runDev true mateLinkUp s

/-- MATE_LINK_DOWN (R444): A mate lane loses alignment for 10 µs and the link is down. -/
def execMateLinkDown (s : State) : Answer := runDev true (fun d => refresh (mateLinkDown d)) s

/-- MATE_CELL_ERROR (R446): A received cell fails CRC or shows a SEQ gap and a NAK is sent. -/
def execMateCellError (ty seq : Nat) (s : State) : Answer := runDev (isByte ty && isHalf seq) (cellError ty seq) s

/-- MATE_NAK_RX (R446): A NAK is received and reliable cells are resent, or the stream is broken. -/
def execMateNakRx (ty seq : Nat) (s : State) : Answer :=
  runDev (isByte ty && isHalf seq) (fun d => refresh (nakRx ty seq d)) s

/-- COMMAND_MSG_RX (R453): A standby receives a mirrored COMMAND message and holds it for X. -/
def execCommandMsgRx (msg : Bytes) (s : State) : Answer := runDev true (commandRx msg) s

/-- RESULT_RX (R453): The active receives a RESULT and compares the standby's status. -/
def execResultRx (cell : Bytes) (s : State) : Answer := runDev true (fun d => refresh (resultRx cell d)) s

/-- DECISION_JUST (R455): A standby receives a JUST record governing a justification decision. -/
def execDecisionJust (record : Bytes) (s : State) : Answer := runDev true (fun d => refresh (decisionRx kJust record d)) s

/-- DECISION_ADMIT (R455): A standby receives an ADMIT record of policing and admission verdicts. -/
def execDecisionAdmit (record : Bytes) (s : State) : Answer := runDev true (fun d => refresh (decisionRx kAdmit record d)) s

/-- DECISION_STALL (R455): A standby receives a STALL record naming stalled flows. -/
def execDecisionStall (record : Bytes) (s : State) : Answer := runDev true (fun d => refresh (decisionRx kStall record d)) s

/-- DECISION_CONTEXT (R455): A standby receives a CONTEXT record of a sender or receiver context change. -/
def execDecisionContext (record : Bytes) (s : State) : Answer :=
  runDev true (fun d => refresh (decisionRx kContext record d)) s

/-- DECISION_ALIGN (R459): A standby receives ALIGN and aligns flow heads and deficits, giving PKT_STEP at unit u. -/
def execDecisionAlign (record : Bytes) (s : State) : Answer := runDev true (fun d => refresh (decisionRx kAlign record d)) s

/-- DECISION_PROT (R455): A standby applies a PROT record of APS state and timers. -/
def execDecisionProt (record : Bytes) (s : State) : Answer := runDev true (fun d => refresh (decisionRx kProt record d)) s

/-- DECISION_MERGE (R455): A standby applies a MERGE record of delivery set and timing. -/
def execDecisionMerge (record : Bytes) (s : State) : Answer := runDev true (fun d => refresh (decisionRx kMerge record d)) s

/-- DECISION_RESIZE (R455): A standby applies a RESIZE record of channel message and switch. -/
def execDecisionResize (record : Bytes) (s : State) : Answer :=
  runDev true (fun d => refresh (decisionRx kResize record d)) s

/-- DECISION_TIMING (R455): A standby applies a TIMING record of DPLL selection, state and QL. -/
def execDecisionTiming (record : Bytes) (s : State) : Answer :=
  runDev true (fun d => refresh (decisionRx kTiming record d)) s

/-- DIGEST_RX (R469): Mate digests are compared and a component differing 3 times is acted on. -/
def execDigestRx (digests : List Word) (conts : Tbl Word) (s : State) : Answer :=
  runDev (digests.length == 12) (fun d => refresh (digestRx digests conts d)) s

/-- JOIN_BOUNDARY_S (R460): At boundary S the standby adopts epoch and frame phase and the active starts the state image. -/
def execJoinBoundaryS (epoch : Nat) (mfas : List Nat) (s : State) : Answer :=
  runDev (decide (epoch < 2 ^ 48) && mfas.length == 4) (fun d => refresh (joinBoundary epoch mfas d)) s

/-- STATE_IMAGE_INSTALLED (R460): The standby finishes installing the state image and names J in JOIN_AT. -/
def execStateImageInstalled (image : Machine.JoinImage) (s : State) : Answer :=
  runDev true (fun d => refresh (imageInstalled image d)) s

/-- JOIN_AT_RX (R460): The active receives the JOIN_AT cell naming J. -/
def execJoinAtRx (j : Nat) (s : State) : Answer := runDev (decide (j < 2 ^ 48)) (fun d => refresh (joinAtRx j d)) s

/-- JOIN_EPOCH_J (R460): At J the standby applies held commands and records and enters CATCHUP. -/
def execJoinEpochJ (s : State) : Answer := runSys true (fun s => onDev refresh (joinJ s)) s

/-- HANDOVER_RX (R462): A standby receives HANDOVER, becomes active and sends HANDOVER_ACK. -/
def execHandoverRx (s : State) : Answer := runDev true (fun d => refresh (handoverRx d)) s

/-- HANDOVER_ACK_RX (R462): The old active receives HANDOVER_ACK and releases ACT_N as standby. -/
def execHandoverAckRx (s : State) : Answer := runSys true (fun s => onDev refresh (handoverAckCmd s)) s

/-- HANDOVER_REQ_RX (R462): The active receives HANDOVER_REQ and starts a commanded switch. -/
def execHandoverReqRx (s : State) : Answer := runDev true handoverReqRx s

/-- HANDOVER_ACK_TIMEOUT (R462): No HANDOVER_ACK in 5 µs resends HANDOVER or posts MATE_SWITCH_FAIL. -/
def execHandoverAckTimeout (s : State) : Answer := runSys true (fun s => onDev refresh (handoverTimeoutCmd s)) s

/-- ACT_N_RELEASED (R450): ACT_N high for 10 µs is treated as released. -/
def execActNReleased (free : Bool) (s : State) : Answer := runDev true (fun d => refresh (actReleased free d)) s

/-- ACT_N_PROBE (R451): An active B with link down releases ACT_N for 1 µs each 1 ms and samples it. -/
def execActNProbe (low : Bool) (s : State) : Answer := runDev true (fun d => refresh (actProbe low d)) s

/-- CLAIM_TIMER_EXPIRY (R466): A device's claim timer expires and it claims the active role. -/
def execClaimTimerExpiry (s : State) : Answer := runDev true (fun d => refresh (claimExpiry d)) s

/-- PHASE_ALARM_RAISE (R449): Offset beyond 100 ns for 10 ms raises PHASE_ALARM. -/
def execPhaseAlarmRaise (s : State) : Answer := runDev true (fun d => refresh (phaseAlarm true d)) s

/-- PHASE_ALARM_CLEAR (R449): Offset within 100 ns for 1 s clears PHASE_ALARM. -/
def execPhaseAlarmClear (s : State) : Answer := runDev true (fun d => refresh (phaseAlarm false d)) s

/-- SRAM_SCRUB_PASS (R468): Groomer completes a full SRAM scrub pass. -/
def execSramScrubPass (src block ms corrected : Nat) (bad : List Nat) (queues : List Machine.QueueErr) (s : State) : Answer :=
  runDev (isHalf src && isByte block) (sramPass src block ms corrected bad queues) s

/-- SPILL_SCRUB_PASS (R468): Groomer completes a scrub pass over in-use spill blocks. -/
def execSpillScrubPass (g corrected : Nat) (bad : List Machine.QueueErr) (s : State) : Answer :=
  runDev (isMem g) (scrubPassCmd g corrected bad) s

/-- BIST_RUN (R468): Groomer runs BIST on an idle engine and records a failure. -/
def execBistRun (ty block : Nat) (fail : Bool) (s : State) : Answer :=
  runDev (isHalf ty && isByte block) (bistRun ty block fail) s

end Sys2Proof.Machine
end

