-- ==== Sys2Proof/Machine/CmdPorts.lean ====
section
/-! DEFINITION. The meanings of the commands, one per row: client and line ports. -/

namespace Sys2Proof.Machine

/-- LANE_SIGNAL_DETECT (R193): A SerDes lane gains or loses signal detect. -/
def execLaneSignalDetect (line : Bool) (n k : Nat) (present : Bool) (s : State) : Answer :=
  runDev (isSlice n && isLane line k) (fun d => refresh (laneSignal line n k present d)) s

/-- LANE_CDR_LOCK (R193): A lane's CDR locks. -/
def execLaneCdrLock (line : Bool) (n k : Nat) (s : State) : Answer :=
  runDev (isSlice n && isLane line k) (fun d => refresh (laneCdr line n k d)) s

/-- LANE_ADAPTED (R193): A lane's receiver completes adaptation. -/
def execLaneAdapted (line : Bool) (n k : Nat) (s : State) : Answer :=
  runDev (isSlice n && isLane line k) (fun d => refresh (laneAdapted line n k d)) s

/-- CLIENT_LOS_CHANGE (R194): A client lane lacks or regains signal energy for 100 µs, setting or clearing LOS. -/
def execClientLosChange (i : Nat) (live : Bool) (s : State) : Answer :=
  runDev (isClient i) (fun d => refresh (clientLos i live d)) s

/-- CLIENT_DEFECT_CHANGE (R194): A client PCS or framing defect changes, updating SLn_CLI_PSTATp and fault signalling. -/
def execClientDefectChange (i b : Nat) (live : Bool) (x : ClientRx) (s : State) : Answer :=
  runDev (isClient i && decide (b < 64)) (fun d => refresh (clientDefect i b live x d)) s

/-- MAC_FRAME_RX (R185): A PACKET port receives a whole frame, which is checked, classified, policed and queued. -/
def execMacFrameRx (i : Nat) (frame : Bytes) (ns : Nat) (s : State) : Answer :=
  runDev (isClient i && isNs ns) (macFrameRx i frame ns) s

/-- ESMC_PDU_RX (R198): A valid ESMC PDU is parsed and the port's quality level updated or reported. -/
def execEsmcPduRx (i : Nat) (frame : Bytes) (s : State) : Answer :=
  runDev (isClient i) (fun d => refresh (esmcRx i frame d)) s

/-- ESMC_TIMEOUT (R199): No valid ESMC PDU for 5 s sets QL-FAILED and ESMC_TMO. -/
def execEsmcTimeout (i : Nat) (s : State) : Answer := runDev (isClient i) (fun d => refresh (esmcTimeout i d)) s

/-- ESMC_INFO_PDU_TX (R200): An ESMC information PDU is inserted once per second. -/
def execEsmcInfoPduTx (i : Nat) (s : State) : Answer := runDev (isClient i) (esmcInfo i) s

/-- CLIENT_FAULT_RX (R196): LF_RX or RF_RX changes on a PACKET port and is signalled in a CLIENT_FAULT control frame. -/
def execClientFaultRx (i : Nat) (lf rf : Bool) (s : State) : Answer :=
  runDev (isClient i) (fun d => refresh (clientFault i lf rf d)) s

/-- PRBS_CHECKER_LOCK (R201): A pattern checker locks after 64 good bits or unlocks after 64 errored bits in 1,024. -/
def execPrbsCheckerLock (n k : Nat) (locked : Bool) (errs : Nat) (s : State) : Answer :=
  runDev (isSlice n && isLane false k) (prbsLock n k locked errs) s

/-- EGRESS_FRAME_TX (R326): A MAC takes one whole frame from its highest-class egress queue and sends it. -/
def execEgressFrameTx (i : Nat) (s : State) : Answer := runDev (isClient i) (egressTx i) s

/-- FLEXO_MARKER (R212): A FlexO instance checks its alignment marker position and moves through AM states. -/
def execFlexoMarker (p k pos bad : Nat) (crcOk : Bool) (id gid skew : Nat) (rpf : Bool) (s : State) : Answer :=
  runDev (isPort p && decide (k < 16)) (fun d => refresh (flexoMarker p k pos bad crcOk id gid skew rpf d)) s

/-- FLEXO_LOF (R212): An instance outside AM_LOCK for 3 ms declares FLEXO_LOF, or all locked for 3 ms clears it. -/
def execFlexoLof (p : Nat) (s : State) : Answer := runDev (isPort p) (fun d => refresh (flexoLof p d)) s

/-- FEC_CODEWORD (R214): An RS(544,514) codeword is decoded and its corrections counted. -/
def execFecCodeword (line : Bool) (i errs : Nat) (s : State) : Answer :=
  runDev (if line then isPort i else isClient i) (if line then lineCodeword i errs else clientCodeword i errs) s

/-- OTUC_FRAME_RX (R217): An OTUC16 frame is received and the framer and multiframe states advance. -/
def execOtucFrameRx (p : Nat) (x : OtucRx) (s : State) : Answer := runDev (isPort p) (fun d => refresh (otucFrameRx p x d)) s

/-- LOF_CHANGE (R217): OOF lasting 3 ms declares LOF, or IN_FRAME lasting 3 ms clears it. -/
def execLofChange (p : Nat) (s : State) : Answer := runDev (isPort p) (fun d => refresh (lofChange p d)) s

/-- LOM_CHANGE (R219): OOM lasting 3 ms declares LOM, or alignment for 3 ms clears it. -/
def execLomChange (p : Nat) (s : State) : Answer := runDev (isPort p) (fun d => refresh (lomChange p d)) s

/-- LINE_TX_FRAME (R209): The line transmitter sends an OTUC16 frame in FlexO with its overhead, beacon and resize channel
bytes. -/
def execLineTxFrame (p ns : Nat) (odu : List OduTx) (s : State) : Answer :=
  runDev (isPort p && isNs ns) (fun d => refresh (lineTxFrame p ns odu d)) s

/-- BEACON_RX (R224): A 16-frame capability beacon is assembled and FAR_ZK updated. -/
def execBeaconRx (p : Nat) (beacon : Bytes) (s : State) : Answer :=
  runDev (isPort p) (fun d => refresh (beaconRx p beacon d)) s

/-- OHX_OUT_FRAME (R234): Once per system frame the receive slip buffer is read to send an OHX output frame. -/
def execOhxOutFrame (p : Nat) (s : State) : Answer := runDev (isPort p) (ohxOut p) s

/-- OHX_IN_FRAME (R235): An OHX input frame is checked and entered into the input slip buffer. -/
def execOhxInFrame (p : Nat) (start : Bool) (frame : Bytes) (s : State) : Answer := runDev (isPort p) (ohxIn p start frame) s

/-- OHX_IN_LOS (R235): No input frame for 16 system frames makes OHX_IN_LOS live. -/
def execOhxInLos (p : Nat) (s : State) : Answer := runDev (isPort p) (ohxLos p) s

end Sys2Proof.Machine
end

