-- ==== Sys2Proof/Machine/CmdProtect.lean ====
section
/-! DEFINITION. The meanings of the commands, one per row: protection groups and merge groups. -/

namespace Sys2Proof.Machine

/-- SF_SD_CHANGE (R415): Signal fail or degrade of a protected container changes, starting hold-off or a request. -/
def execSfSdChange (g : Nat) (s : State) : Answer := runDev (isPg g) (fun d => refresh (sfSdChange g d)) s

/-- APS_HOLDOFF_EXPIRY (R418): The hold-off ends and SF or SD is raised as a request if still present. -/
def execApsHoldoffExpiry (g : Nat) (s : State) : Answer := runDev (isPg g) (fun d => refresh (holdoffExpiry g d)) s

/-- APS_WTR_EXPIRY (R418): Wait-to-restore ends and NR follows. -/
def execApsWtrExpiry (g : Nat) (s : State) : Answer := runDev (isPg g) (fun d => refresh (wtrExpiry g d)) s

/-- APS_RX_ACCEPT (R418): Three identical APS occurrences are accepted and the state machine evaluated. -/
def execApsRxAccept (g : Nat) (aps : Bytes) (s : State) : Answer :=
  runDev (isPg g && aps.length == 4) (fun d => refresh (apsRx g aps d)) s

/-- FOP_TIMER_EXPIRY (R418): A mismatch lasting 50 ms declares FOP_PM or FOP_NR. -/
def execFopTimerExpiry (g : Nat) (s : State) : Answer := runDev (isPg g) (fun d => refresh (fopExpiry g d)) s

/-- SLALOM_UNIT_ARRIVAL (R428): A merge unit arrives on a path, is timestamped and judged clean, and buffered or held. -/
def execSlalomUnitArrival (g path unit ns : Nat) (intact : Bool) (content : Bytes) (s : State) : Answer :=
  runDev (isMg g && decide (path < 2)) (fun d => refresh (unitArrival g path unit ns intact content d)) s

/-- SLALOM_DUE_DELIVERY (R429): At a unit's due time the clean copy is delivered. -/
def execSlalomDueDelivery (g unit : Nat) (s : State) : Answer := runDev (isMg g) (fun d => refresh (dueDelivery g unit d)) s

/-- REJOIN_HOLD_EXPIRY (R430): The other path qualified and not lagging for REJOIN_HOLD makes the group MERGED. -/
def execRejoinHoldExpiry (g : Nat) (s : State) : Answer := runDev (isMg g) (fun d => refresh (rejoinExpiry g d)) s

/-- FIRST_ARRIVAL_BLOCK (R433): A first-arrival group delivers a block with newer SEQ and discards older ones. -/
def execFirstArrivalBlock (g path seq ns : Nat) (restart markerOk : Bool) (content : Bytes) (s : State) : Answer :=
  runDev (isMg g && decide (path < 2)) (fun d => refresh (firstArrival g path seq ns restart markerOk content d)) s

/-- RESTART_DISCARD_TIMEOUT (R433): The discard after a RESTART block ends after MAX_SKEW. -/
def execRestartDiscardTimeout (g : Nat) (s : State) : Answer := runDev (isMg g) (restartTimeout g) s

end Sys2Proof.Machine
end

