-- ==== Sys2Proof/Machine/CmdReset.lean ====
section
/-! DEFINITION. The meanings of the commands, one per row: resets, start-up and recovery. -/

namespace Sys2Proof.Machine

/-- POR_N_FALL (R99): POR_N low for 10 µs starts a cold reset of every domain. -/
def execPorNFall (s : State) : Answer := rawSys true porFall s

/-- COLD_START (R91): POR_N rises: straps are latched, D0 starts, counters zero and common rail sequencing begins. -/
def execColdStart (straps : Nat) (s : State) : Answer := rawSys (decide (straps < 128)) (coldStart straps) s

/-- WARM_RST_PIN (R99): WARM_RST_N low for 1 µs starts a warm reset, deferred behind a last-gasp write. -/
def execWarmRstPin (s : State) : Answer := runSys true (fun s => onDev refresh (warmPin s)) s

/-- BROWNOUT (R81): VDD_AON below its brownout threshold for 2 µs makes a full reset held while low. -/
def execBrownout (s : State) : Answer := rawSys true brownout s

/-- BROWNOUT_END (R81): VDD_AON at or above threshold for 2 ms ends the brownout and runs the cold start. -/
def execBrownoutEnd (porHigh : Bool) (straps : Nat) (s : State) : Answer :=
  rawSys (decide (straps < 128)) (brownoutEnd porHigh straps) s

/-- COMMON_RAIL_ENABLE (R90): 100 to 200 µs after a common rail's PSEQ_PG rises, the next PSEQ_EN is driven high. -/
def execCommonRailEnable (s : State) : Answer := runDev true railNext s

/-- RAIL_PG_TIMEOUT (R76): PSEQ_PGk stays low 10 ms after PSEQ_ENk rose: boot fails on RAIL or waiting domains fault. -/
def execRailPgTimeout (k : Nat) (s : State) : Answer := 
  runSys (isEn k) (fun s => afterGasp (onDev (fun d => refresh (railTimeout k d)) s)) s

/-- ROM_BOOT (R94): The ROM starts on D1, scans the journal, handles activation and verifies the active image or enters
recovery. -/
def execRomBoot (s : State) : Answer := runSys true romBoot s

/-- THINO_START (R94): Thino is loaded and started, arming the boot watchdog, extending LTAB and committing the stored
settings. -/
def execThinoStart (s : State) : Answer := runSys true (fun s => onDev refresh (thinoStart s)) s

/-- BOOT_READY (R94): The restored commit enters service: STAGE becomes SETTINGS_APPLIED, attempts clear and BOOT_READY is
posted. -/
def execBootReady (s : State) : Answer := runDev true bootReady s

/-- BOOT_WDT_EXPIRY (R94): The boot watchdog expires before settings apply, making a warm reset with cause BOOT_WDT. -/
def execBootWdtExpiry (s : State) : Answer := runSys true (fun s => onDev refresh (bootWdtExpiry s)) s

/-- CPU_WDT_EXPIRY (R102): GLB_WDT is not serviced within its timeout, restarting the control processor with cause
CPU_WDT. -/
def execCpuWdtExpiry (s : State) : Answer := runSys true (fun s => onDev refresh (cpuWdtExpiry s)) s

/-- CPU_RESTART_DONE (R103): Thino runs again, rebuilds shadow tables, posts CPU_RESTARTED and serves waiting requests. -/
def execCpuRestartDone (s : State) : Answer := runSys true (fun s => onDev refresh (cpuRestartDone s)) s

/-- PFW_N_FALL (R84): PFW_N low is recognised: provisioning freezes, D2 wakes and the last-gasp snapshot begins. -/
def execPfwNFall (ns : Nat) (s : State) : Answer := rawDev (isNs ns) (fun d => gate (powered d) refresh (pfwFall ns d)) s

/-- LAST_GASP_WRITTEN (R84): The last-gasp record and its commit marker are written to MRAM. -/
def execLastGaspWritten (s : State) : Answer := runSys true (fun s => onDev refresh (gaspDone s)) s

/-- PFW_N_RISE (R87): PFW_N returns high, starting the 10 ms lift timer. -/
def execPfwNRise (s : State) : Answer := rawDev true pfwRise s

/-- PFW_LIFT (R87): PFW_N high for 10 ms with rails good lifts the freeze and supersedes the record. -/
def execPfwLift (s : State) : Answer := runSys true (fun s => afterGasp (onDev pfwLift s)) s

/-- ERR_HANDLE (R108): Thino takes the highest-severity pending record and handles it, pre-empting for higher severity; the errors
that engines raise meanwhile enter the queue. -/
def execErrHandle (s : State) : Answer := runSys true (fun s => onDev refresh (errHandle s)) s

/-- JTAG_EXPIRY (R562): DURATION_S ends and JTAG locks again. -/
def execJtagExpiry (s : State) : Answer := runDev true jtagExpiry s

/-- WARM_RST_N_RISE (R56): WARM_RST_N is released, ending the held warm reset and starting the boot from step 3 of R94. -/
def execWarmRstNRise (s : State) : Answer := rawDev true warmRise s

/-- ROM_START_TIMEOUT (R106): 10 ms after a warm reset the ROM has not reached ROM_START; the third such consecutive reset
asserts PWR_CYCLE_REQ_N. -/
def execRomStartTimeout (s : State) : Answer := runDev true romTimeout s

end Sys2Proof.Machine
end

