-- ==== Sys2Proof/Machine/CmdSupply.lean ====
section
/-! DEFINITION. The meanings of the commands, one per row: rails, power domains and thermal events. -/

namespace Sys2Proof.Machine

/-- RAIL_EXCURSION_SHORT (R78): A supply excursion of 2 µs or less is counted in PWR_RAIL_STAT. -/
def execRailExcursionShort (k : Nat) (s : State) : Answer := runDev (isRail k) (railExcursion k) s

/-- DOMAIN_FAULT (R78): An excursion over 2 µs or an isolation faults a domain: it is isolated, reset and its outputs go
to fault signals. -/
def execDomainFault (n cause : Nat) (s : State) : Answer :=
  runSys (isDom n && (cause == 1 || cause == 2)) (fun s => afterGasp (onDev (fun d => refresh (domainFault n cause d)) s)) s

/-- PSEQ_PG_FALL (R76): A PSEQ_PGk falls while its enable is high, faulting every domain on that rail. A fall while the device is held
in reset leaves the level alone, which the next start sees (R90). -/
def execPseqPgFall (k : Nat) (s : State) : Answer :=
  rawSys (isEn k) (fun s => if powered s.dev then afterGasp (onDev (fun d => refresh (railDown k d)) s) else onDev (pgLow k) s) s

/-- PSEQ_PG_RISE (R76): A slice rail's PSEQ_PG rises and the waiting domain's ramp is started; its level alone while held in reset. -/
def execPseqPgRise (k : Nat) (s : State) : Answer :=
  rawSys (isEn k) (fun s => onDev (if powered s.dev then pgRise k else pgHigh k) s) s

/-- PMB_ALERT (R75): PMB_ALERT_N asserted: the alerting regulator's status is read and posted. -/
def execPmbAlert (k addr statusByte statusWord : Nat) (s : State) : Answer :=
  runDev (isRail k && isByte addr && isByte statusByte && isHalf statusWord) (pmbAlert k addr statusByte statusWord) s

/-- PMBUS_POLL (R75): Every 10 ms each listed regulator is read and PWR_RAIL_STAT updated. -/
def execPmbusPoll (readings : List (Nat × Nat × Nat × Int)) (s : State) : Answer := runDev true (pmbusPoll readings) s

/-- AVS_STEP (R74): An AVS rail target moves by one 5 mV step, at most once per 100 µs. -/
def execAvsStep (k : Nat) (s : State) : Answer := runDev (isRegion k) (avsStep k) s

/-- THERMAL_READING (R83): A region temperature reading is evaluated against THERM_WARN, 110 °C and 125 °C. -/
def execThermalReading (r : Nat) (celsius : Int) (s : State) : Answer :=
  runDev (isRegion r && isTemp celsius) (fun d => refresh (thermalReading r celsius d)) s

/-- THERM_REARM (R83): A region 2 °C below threshold for 1 s re-arms its thermal condition. -/
def execThermRearm (r : Nat) (s : State) : Answer := runDev (isRegion r) (thermRearm r) s

/-- SLICE_THERMAL_REJOIN (R83): An isolated slice region at or below 100 °C for 10 s rejoins. -/
def execSliceThermalRejoin (n : Nat) (s : State) : Answer := runDev (isSlice n) (fun d => refresh (thermRejoin n d)) s

/-- REGION_SKEW_ALARM (R82): A voltage or temperature difference between regions persists and the selected region is
isolated. -/
def execRegionSkewAlarm (kind : Nat) (values : List Int) (s : State) : Answer :=
  runDev ((kind == 1 || kind == 2) && values.length == 5) (fun d => refresh (regionSkew kind values d)) s

/-- REGION_REJOIN (R82): An isolated region rejoins once the skew condition has been clear for 1 s. -/
def execRegionRejoin (n : Nat) (s : State) : Answer := runDev (isSlice n) (fun d => refresh (regionRejoin n d)) s

/-- XO_IN_LOSS (R478): XO_IN shows no edge for 1 µs, faulting D3 and entering FATAL. -/
def execXoInLoss (s : State) : Answer := runDev true (fun d => refresh (xoLoss d)) s

/-- WAKE_REQUEST (R23): The wake controller takes a wake request and admits it under PWR_CAP or defers it. -/
def execWakeRequest (rank n : Nat) (s : State) : Answer :=
  runDev (isRank rank && isDom n) (fun d => refresh (requestWake rank n d)) s

/-- DOMAIN_READY (R58): An admitted domain finishes its ramp and clocks and reports READY. -/
def execDomainReady (n : Nat) (s : State) : Answer := 
  runSys (isDom n) (domainReadySys n) s

/-- DOMAIN_SLEEP (R61): A domain whose last use was removed sleeps at the first epoch boundary after its queues empty. -/
def execDomainSleep (n : Nat) (s : State) : Answer := runDev (isDom n) (fun d => refresh (domainSleep n d)) s

/-- D2_IDLE_SLEEP (R60): D2 sleeps 10 ms after its last MRAM access. -/
def execD2IdleSleep (s : State) : Answer := runDev true nvmIdle s

/-- SLICE_RAIL_OFF (R76): A slice's three domains asleep for 100 ms with RAILOFF set drives PSEQ_ENn low. -/
def execSliceRailOff (n : Nat) (s : State) : Answer := runDev (isSlice n) (sliceRailOff n) s

/-- MEM_IDLE_SELF_REFRESH (R70): A wake unit idle for PWR_MEM_IDLE enters self-refresh and its domains switch off. -/
def execMemIdleSelfRefresh (g : Nat) (s : State) : Answer := runDev (isMem g) (fun d => refresh (memIdle g d)) s

/-- MEM_SCRUB_WAKE (R73): A wake unit in self-refresh for 24 h is woken for one Groomer scrub pass. -/
def execMemScrubWake (g : Nat) (s : State) : Answer := runDev (isMem g) (fun d => refresh (memScrubWake g d)) s

/-- FAULT_REWAKE (R80): A faulted domain whose rail has been good for 10 ms is re-woken under admission. -/
def execFaultRewake (n : Nat) (s : State) : Answer := runDev (isDom n) (fun d => refresh (faultRewake n d)) s

/-- POWER_SWITCHED_OFF (R62): A sleeping domain finishes isolation and its power is switched off, so it leaves the
admission sum and a wake request held behind the sleep is handled. -/
def execPowerSwitchedOff (n : Nat) (s : State) : Answer := runDev (isDom n) (fun d => refresh (switchedOff n d)) s

/-- VDD_AON_WRITE_GUARD (R81): VDD_AON crosses the write guard threshold, so the MRAM controller starts or stops refusing
new writes and NVM_STAT.GUARD changes. -/
def execVddAonWriteGuard (low : Bool) (s : State) : Answer := rawDev true (writeGuard low) s

/-- VDD_IO18_EXCURSION (R78): An excursion of VDD_AON or VDD_IO18 beyond a threshold for more than 2 µs sets the OV or UV
bit of PWR_RAIL_STAT9 or PWR_RAIL_STAT8 without faulting a domain. -/
def execVddIo18Excursion (k : Nat) (high : Bool) (s : State) : Answer :=
  runDev (k == 8 || k == 9) (fun d => refresh (aonExcursion k high d)) s

end Sys2Proof.Machine
end

