-- ==== Sys2Proof/Machine/Dispatch.lean ====
section
/-! DEFINITION. One arm per command. -/

namespace Sys2Proof.Machine

def exec (i : Instr) (s : State) : Host.Outcome State Fault Refusal :=
  match i with
  | .bootInfo q => Sys2Proof.Machine.execBootInfo q s
  | .recoveryEnter q => Sys2Proof.Machine.execRecoveryEnter q s
  | .jtagUnlock q => Sys2Proof.Machine.execJtagUnlock q s
  | .updBegin q => Sys2Proof.Machine.execUpdBegin q s
  | .updWrite q => Sys2Proof.Machine.execUpdWrite q s
  | .updCommit q => Sys2Proof.Machine.execUpdCommit q s
  | .updAbort q => Sys2Proof.Machine.execUpdAbort q s
  | .updConfirm q => Sys2Proof.Machine.execUpdConfirm q s
  | .updStatus q => Sys2Proof.Machine.execUpdStatus q s
  | .objSet q => Sys2Proof.Machine.execObjSet q s
  | .objDel q => Sys2Proof.Machine.execObjDel q s
  | .objGet q => Sys2Proof.Machine.execObjGet q s
  | .commit q => Sys2Proof.Machine.execCommit q s
  | .commitCancel q => Sys2Proof.Machine.execCommitCancel q s
  | .shadowRevert q => Sys2Proof.Machine.execShadowRevert q s
  | .commitStatus q => Sys2Proof.Machine.execCommitStatus q s
  | .funcReinit q => Sys2Proof.Machine.execFuncReinit q s
  | .sliceReady n => Sys2Proof.Machine.execSliceReady n s
  | .store q => Sys2Proof.Machine.execStore q s
  | .storeSetCommit readback => Sys2Proof.Machine.execStoreSetCommit readback s
  | .sliceLoad q => Sys2Proof.Machine.execSliceLoad q s
  | .resizePropose q => Sys2Proof.Machine.execResizePropose q s
  | .inventory q => Sys2Proof.Machine.execInventory q s
  | .health q => Sys2Proof.Machine.execHealth q s
  | .pmRead q => Sys2Proof.Machine.execPmRead q s
  | .pmClear q => Sys2Proof.Machine.execPmClear q s
  | .lastGaspRead q => Sys2Proof.Machine.execLastGaspRead q s
  | .lastGaspAck q => Sys2Proof.Machine.execLastGaspAck q s
  | .evtLogRead q => Sys2Proof.Machine.execEvtLogRead q s
  | .refCfg q => Sys2Proof.Machine.execRefCfg q s
  | .dpllCfg q => Sys2Proof.Machine.execDpllCfg q s
  | .dpllClear q => Sys2Proof.Machine.execDpllClear q s
  | .dpllForce q => Sys2Proof.Machine.execDpllForce q s
  | .dpllManual q => Sys2Proof.Machine.execDpllManual q s
  | .dpllLockout q => Sys2Proof.Machine.execDpllLockout q s
  | .dpllUnlock q => Sys2Proof.Machine.execDpllUnlock q s
  | .dpllHoldover q => Sys2Proof.Machine.execDpllHoldover q s
  | .dpllFreerun q => Sys2Proof.Machine.execDpllFreerun q s
  | .dpllRelearn q => Sys2Proof.Machine.execDpllRelearn q s
  | .dpllTemp q => Sys2Proof.Machine.execDpllTemp q s
  | .align q => Sys2Proof.Machine.execAlign q s
  | .holdoverLoad q => Sys2Proof.Machine.execHoldoverLoad q s
  | .timeStatus q => Sys2Proof.Machine.execTimeStatus q s
  | .apsClear q => Sys2Proof.Machine.execApsClear q s
  | .apsLockout q => Sys2Proof.Machine.execApsLockout q s
  | .apsForcedProtection q => Sys2Proof.Machine.execApsForcedProtection q s
  | .apsForcedWorking q => Sys2Proof.Machine.execApsForcedWorking q s
  | .apsManualProtection q => Sys2Proof.Machine.execApsManualProtection q s
  | .apsManualWorking q => Sys2Proof.Machine.execApsManualWorking q s
  | .apsExercise q => Sys2Proof.Machine.execApsExercise q s
  | .mergeAutomatic q => Sys2Proof.Machine.execMergeAutomatic q s
  | .mergeForcePathA q => Sys2Proof.Machine.execMergeForcePathA q s
  | .mergeForcePathB q => Sys2Proof.Machine.execMergeForcePathB q s
  | .mergeRestartAlignment q => Sys2Proof.Machine.execMergeRestartAlignment q s
  | .protStatus q => Sys2Proof.Machine.execProtStatus q s
  | .mateStatus q => Sys2Proof.Machine.execMateStatus q s
  | .mateSwitch q => Sys2Proof.Machine.execMateSwitch q s
  | .mateJoinClear q => Sys2Proof.Machine.execMateJoinClear q s
  | .mateJoinSet q => Sys2Proof.Machine.execMateJoinSet q s
  | .mateJoinRejoin q => Sys2Proof.Machine.execMateJoinRejoin q s
  | .mateDigest q => Sys2Proof.Machine.execMateDigest q s
  | .assistDecide q => Sys2Proof.Machine.execAssistDecide q s
  | .assistResume q => Sys2Proof.Machine.execAssistResume q s
  | .assistList q => Sys2Proof.Machine.execAssistList q s
  | .mirroredExec => Sys2Proof.Machine.execMirroredExec s
  | .mbxDoorbell q c tail => Sys2Proof.Machine.execMbxDoorbell q c tail s
  | .mbxChannelReset q c key spi => Sys2Proof.Machine.execMbxChannelReset q c key spi s
  | .glbRstWarm q key => Sys2Proof.Machine.execGlbRstWarm q key s
  | .glbRstPwrCycle q key warm => Sys2Proof.Machine.execGlbRstPwrCycle q key warm s
  | .glbCpuRestartGo q key => Sys2Proof.Machine.execGlbCpuRestartGo q key s
  | .pwrCapWrite q w => Sys2Proof.Machine.execPwrCapWrite q w s
  | .pwrHostHold q w => Sys2Proof.Machine.execPwrHostHold q w s
  | .pwrHostDrop q w => Sys2Proof.Machine.execPwrHostDrop q w s
  | .pwrRailClr q w => Sys2Proof.Machine.execPwrRailClr q w s
  | .domainFaultClear q n cnt => Sys2Proof.Machine.execDomainFaultClear q n cnt s
  | .wideSelWrite q w => Sys2Proof.Machine.execWideSelWrite q w s
  | .wideRecapture q => Sys2Proof.Machine.execWideRecapture q s
  | .wideWrite q recapture => Sys2Proof.Machine.execWideWrite q recapture s
  | .wideCaptureDone q => Sys2Proof.Machine.execWideCaptureDone q s
  | .errInjGo q key sev => Sys2Proof.Machine.execErrInjGo q key sev s
  | .evtCtlReset q enable => Sys2Proof.Machine.execEvtCtlReset q enable s
  | .evtEnable q => Sys2Proof.Machine.execEvtEnable q s
  | .pctrClrGo q key banks => Sys2Proof.Machine.execPctrClrGo q key banks s
  | .nvmJtagRelock q => Sys2Proof.Machine.execNvmJtagRelock q s
  | .qmClear q n space index => Sys2Proof.Machine.execQmClear q n space index s
  | .pmonPhaseWrite q w => Sys2Proof.Machine.execPmonPhaseWrite q w s
  | .msixUnmask pf1 k => Sys2Proof.Machine.execMsixUnmask pf1 k s
  | .registerWrite q t size lo hi => Sys2Proof.Machine.execRegisterWrite q t size lo hi s
  | .spiRead o n ready => Sys2Proof.Machine.execSpiRead o n ready s
  | .spiWrite o ws cut => Sys2Proof.Machine.execSpiWrite o ws cut s
  | .spiStatus => Sys2Proof.Machine.execSpiStatus s
  | .i2cWrite o ws => Sys2Proof.Machine.execI2cWrite o ws s
  | .i2cRead o n answered => Sys2Proof.Machine.execI2cRead o n answered s
  | .perstNRise => Sys2Proof.Machine.execPerstNRise s
  | .pcieLinkTrainingStart => Sys2Proof.Machine.execPcieLinkTrainingStart s
  | .pf0Flr => Sys2Proof.Machine.execPf0Flr s
  | .pf1Flr => Sys2Proof.Machine.execPf1Flr s
  | .pf0D3hotEntry d3hot => Sys2Proof.Machine.execPf0D3hotEntry d3hot s
  | .pf0DmaResume => Sys2Proof.Machine.execPf0DmaResume s
  | .evtHoldoffExpiry => Sys2Proof.Machine.execEvtHoldoffExpiry s
  | .evtPostOnRoom => Sys2Proof.Machine.execEvtPostOnRoom s
  | .registerRead q t size answered => Sys2Proof.Machine.execRegisterRead q t size answered s
  | .perstNFall => Sys2Proof.Machine.execPerstNFall s
  | .porNFall => Sys2Proof.Machine.execPorNFall s
  | .coldStart straps => Sys2Proof.Machine.execColdStart straps s
  | .warmRstPin => Sys2Proof.Machine.execWarmRstPin s
  | .brownout => Sys2Proof.Machine.execBrownout s
  | .brownoutEnd porHigh straps => Sys2Proof.Machine.execBrownoutEnd porHigh straps s
  | .commonRailEnable => Sys2Proof.Machine.execCommonRailEnable s
  | .railPgTimeout k => Sys2Proof.Machine.execRailPgTimeout k s
  | .romBoot => Sys2Proof.Machine.execRomBoot s
  | .thinoStart => Sys2Proof.Machine.execThinoStart s
  | .bootReady => Sys2Proof.Machine.execBootReady s
  | .bootWdtExpiry => Sys2Proof.Machine.execBootWdtExpiry s
  | .cpuWdtExpiry => Sys2Proof.Machine.execCpuWdtExpiry s
  | .cpuRestartDone => Sys2Proof.Machine.execCpuRestartDone s
  | .pfwNFall ns => Sys2Proof.Machine.execPfwNFall ns s
  | .lastGaspWritten => Sys2Proof.Machine.execLastGaspWritten s
  | .pfwNRise => Sys2Proof.Machine.execPfwNRise s
  | .pfwLift => Sys2Proof.Machine.execPfwLift s
  | .errHandle => Sys2Proof.Machine.execErrHandle s
  | .jtagExpiry => Sys2Proof.Machine.execJtagExpiry s
  | .warmRstNRise => Sys2Proof.Machine.execWarmRstNRise s
  | .romStartTimeout => Sys2Proof.Machine.execRomStartTimeout s
  | .railExcursionShort k => Sys2Proof.Machine.execRailExcursionShort k s
  | .domainFault n cause => Sys2Proof.Machine.execDomainFault n cause s
  | .pseqPgFall k => Sys2Proof.Machine.execPseqPgFall k s
  | .pseqPgRise k => Sys2Proof.Machine.execPseqPgRise k s
  | .pmbAlert k addr statusByte statusWord => Sys2Proof.Machine.execPmbAlert k addr statusByte statusWord s
  | .pmbusPoll readings => Sys2Proof.Machine.execPmbusPoll readings s
  | .avsStep k => Sys2Proof.Machine.execAvsStep k s
  | .thermalReading r celsius => Sys2Proof.Machine.execThermalReading r celsius s
  | .thermRearm r => Sys2Proof.Machine.execThermRearm r s
  | .sliceThermalRejoin n => Sys2Proof.Machine.execSliceThermalRejoin n s
  | .regionSkewAlarm kind values => Sys2Proof.Machine.execRegionSkewAlarm kind values s
  | .regionRejoin n => Sys2Proof.Machine.execRegionRejoin n s
  | .xoInLoss => Sys2Proof.Machine.execXoInLoss s
  | .wakeRequest rank n => Sys2Proof.Machine.execWakeRequest rank n s
  | .domainReady n => Sys2Proof.Machine.execDomainReady n s
  | .domainSleep n => Sys2Proof.Machine.execDomainSleep n s
  | .d2IdleSleep => Sys2Proof.Machine.execD2IdleSleep s
  | .sliceRailOff n => Sys2Proof.Machine.execSliceRailOff n s
  | .memIdleSelfRefresh g => Sys2Proof.Machine.execMemIdleSelfRefresh g s
  | .memScrubWake g => Sys2Proof.Machine.execMemScrubWake g s
  | .faultRewake n => Sys2Proof.Machine.execFaultRewake n s
  | .powerSwitchedOff n => Sys2Proof.Machine.execPowerSwitchedOff n s
  | .vddAonWriteGuard low => Sys2Proof.Machine.execVddAonWriteGuard low s
  | .vddIo18Excursion k high => Sys2Proof.Machine.execVddIo18Excursion k high s
  | .epochBoundary => Sys2Proof.Machine.execEpochBoundary s
  | .commitEnterService => Sys2Proof.Machine.execCommitEnterService s
  | .calendarChange p => Sys2Proof.Machine.execCalendarChange p s
  | .assistTimeout fn idx ns => Sys2Proof.Machine.execAssistTimeout fn idx ns s
  | .pmSecondBoundary => Sys2Proof.Machine.execPmSecondBoundary s
  | .pmBinFinal day => Sys2Proof.Machine.execPmBinFinal day s
  | .failureDeclare idx c => Sys2Proof.Machine.execFailureDeclare idx c s
  | .failureClear idx c => Sys2Proof.Machine.execFailureClear idx c s
  | .pmFailureReport idx reason => Sys2Proof.Machine.execPmFailureReport idx reason s
  | .pctrWindowEnd => Sys2Proof.Machine.execPctrWindowEnd s
  | .pctrDumpWritten => Sys2Proof.Machine.execPctrDumpWritten s
  | .laneSignalDetect line n k present => Sys2Proof.Machine.execLaneSignalDetect line n k present s
  | .laneCdrLock line n k => Sys2Proof.Machine.execLaneCdrLock line n k s
  | .laneAdapted line n k => Sys2Proof.Machine.execLaneAdapted line n k s
  | .clientLosChange idx live => Sys2Proof.Machine.execClientLosChange idx live s
  | .clientDefectChange idx b live layers => Sys2Proof.Machine.execClientDefectChange idx b live layers s
  | .macFrameRx idx frame ns => Sys2Proof.Machine.execMacFrameRx idx frame ns s
  | .esmcPduRx idx frame => Sys2Proof.Machine.execEsmcPduRx idx frame s
  | .esmcTimeout idx => Sys2Proof.Machine.execEsmcTimeout idx s
  | .esmcInfoPduTx idx => Sys2Proof.Machine.execEsmcInfoPduTx idx s
  | .clientFaultRx idx lf rf => Sys2Proof.Machine.execClientFaultRx idx lf rf s
  | .prbsCheckerLock n k locked errs => Sys2Proof.Machine.execPrbsCheckerLock n k locked errs s
  | .egressFrameTx idx => Sys2Proof.Machine.execEgressFrameTx idx s
  | .flexoMarker p k pos bad crcOk id gid skew rpf => Sys2Proof.Machine.execFlexoMarker p k pos bad crcOk id gid skew rpf s
  | .flexoLof p => Sys2Proof.Machine.execFlexoLof p s
  | .fecCodeword line idx errs => Sys2Proof.Machine.execFecCodeword line idx errs s
  | .otucFrameRx p x => Sys2Proof.Machine.execOtucFrameRx p x s
  | .lofChange p => Sys2Proof.Machine.execLofChange p s
  | .lomChange p => Sys2Proof.Machine.execLomChange p s
  | .lineTxFrame p ns odu => Sys2Proof.Machine.execLineTxFrame p ns odu s
  | .beaconRx p beacon => Sys2Proof.Machine.execBeaconRx p beacon s
  | .ohxOutFrame p => Sys2Proof.Machine.execOhxOutFrame p s
  | .ohxInFrame p start frame => Sys2Proof.Machine.execOhxInFrame p start frame s
  | .ohxInLos p => Sys2Proof.Machine.execOhxInLos p s
  | .zpcMarkerRx c pos m => Sys2Proof.Machine.execZpcMarkerRx c pos m s
  | .zpcHeaderRx c pos h => Sys2Proof.Machine.execZpcHeaderRx c pos h s
  | .gfpCoreHeaderRx c pos h => Sys2Proof.Machine.execGfpCoreHeaderRx c pos h s
  | .rxPtChange c pt => Sys2Proof.Machine.execRxPtChange c pt s
  | .gmpJcRx c cm cnd crc amp => Sys2Proof.Machine.execGmpJcRx c cm cnd crc amp s
  | .extfcRecordRx c record mfas => Sys2Proof.Machine.execExtfcRecordRx c record mfas s
  | .mirrorMiss c => Sys2Proof.Machine.execMirrorMiss c s
  | .csfMgmtFrameTx c => Sys2Proof.Machine.execCsfMgmtFrameTx c s
  | .csfMgmtFrameRx c area => Sys2Proof.Machine.execCsfMgmtFrameRx c area s
  | .csfClearTimeout c => Sys2Proof.Machine.execCsfClearTimeout c s
  | .lcrAckRx c ok => Sys2Proof.Machine.execLcrAckRx c ok s
  | .lcrSwitch c => Sys2Proof.Machine.execLcrSwitch c s
  | .bwrRampComplete c => Sys2Proof.Machine.execBwrRampComplete c s
  | .lcrTimeout c => Sys2Proof.Machine.execLcrTimeout c s
  | .ctxAnnounceRx c ctx gen body => Sys2Proof.Machine.execCtxAnnounceRx c ctx gen body s
  | .ctxAckRx c ctx gen body => Sys2Proof.Machine.execCtxAckRx c ctx gen body s
  | .ctxWithdrawRx c ctx gen body => Sys2Proof.Machine.execCtxWithdrawRx c ctx gen body s
  | .ctxResyncReqRx c ctx gen body => Sys2Proof.Machine.execCtxResyncReqRx c ctx gen body s
  | .clientFaultFrameRx c body => Sys2Proof.Machine.execClientFaultFrameRx c body s
  | .dataCRx c ctx gen efcs body => Sys2Proof.Machine.execDataCRx c ctx gen efcs body s
  | .dataFRx c ctx efcs gfp body => Sys2Proof.Machine.execDataFRx c ctx efcs gfp body s
  | .annRetryExpiry t => Sys2Proof.Machine.execAnnRetryExpiry t s
  | .annReattemptExpiry f => Sys2Proof.Machine.execAnnReattemptExpiry f s
  | .resyncHoldRepeat c => Sys2Proof.Machine.execResyncHoldRepeat c s
  | .clientFaultRefreshTx idx => Sys2Proof.Machine.execClientFaultRefreshTx idx s
  | .clientFaultRxTimeout c far => Sys2Proof.Machine.execClientFaultRxTimeout c far s
  | .zpcEncapFrame c => Sys2Proof.Machine.execZpcEncapFrame c s
  | .lineAssemblyUnit c n => Sys2Proof.Machine.execLineAssemblyUnit c n s
  | .assemblyUnitHandoff c => Sys2Proof.Machine.execAssemblyUnitHandoff c s
  | .prefetchBlockArrive n egress idx => Sys2Proof.Machine.execPrefetchBlockArrive n egress idx s
  | .flushBoundary f => Sys2Proof.Machine.execFlushBoundary f s
  | .staleTimerExpiry n space idx => Sys2Proof.Machine.execStaleTimerExpiry n space idx s
  | .queueSweepDone n blocks => Sys2Proof.Machine.execQueueSweepDone n blocks s
  | .memcGrantRound r => Sys2Proof.Machine.execMemcGrantRound r s
  | .memcBurstEdcFail iface failed n egress idx => Sys2Proof.Machine.execMemcBurstEdcFail iface failed n egress idx s
  | .memcRetrainDone g ok => Sys2Proof.Machine.execMemcRetrainDone g ok s
  | .memcTrainingDone g trained => Sys2Proof.Machine.execMemcTrainingDone g trained s
  | .resizeProposeRx p msg => Sys2Proof.Machine.execResizeProposeRx p msg s
  | .resizeAckRx p msg => Sys2Proof.Machine.execResizeAckRx p msg s
  | .resizeNakRx p msg => Sys2Proof.Machine.execResizeNakRx p msg s
  | .resizeAbortRx p msg => Sys2Proof.Machine.execResizeAbortRx p msg s
  | .resizeSwitchRx p msg => Sys2Proof.Machine.execResizeSwitchRx p msg s
  | .resizeDoneRx p msg => Sys2Proof.Machine.execResizeDoneRx p msg s
  | .resizeAckTmo p => Sys2Proof.Machine.execResizeAckTmo p s
  | .resizeResponderTmo p => Sys2Proof.Machine.execResizeResponderTmo p s
  | .resizeTxSwitch p => Sys2Proof.Machine.execResizeTxSwitch p s
  | .resizeRxSwitch p => Sys2Proof.Machine.execResizeRxSwitch p s
  | .freshClear p => Sys2Proof.Machine.execFreshClear p s
  | .sfSdChange g => Sys2Proof.Machine.execSfSdChange g s
  | .apsHoldoffExpiry g => Sys2Proof.Machine.execApsHoldoffExpiry g s
  | .apsWtrExpiry g => Sys2Proof.Machine.execApsWtrExpiry g s
  | .apsRxAccept g aps => Sys2Proof.Machine.execApsRxAccept g aps s
  | .fopTimerExpiry g => Sys2Proof.Machine.execFopTimerExpiry g s
  | .slalomUnitArrival g path unit ns intact content => Sys2Proof.Machine.execSlalomUnitArrival g path unit ns intact content s
  | .slalomDueDelivery g unit => Sys2Proof.Machine.execSlalomDueDelivery g unit s
  | .rejoinHoldExpiry g => Sys2Proof.Machine.execRejoinHoldExpiry g s
  | .firstArrivalBlock g path seq ns restart markerOk content => Sys2Proof.Machine.execFirstArrivalBlock g path seq ns restart markerOk content s
  | .restartDiscardTimeout g => Sys2Proof.Machine.execRestartDiscardTimeout g s
  | .heartbeatTx => Sys2Proof.Machine.execHeartbeatTx s
  | .heartbeatRx payload sent got => Sys2Proof.Machine.execHeartbeatRx payload sent got s
  | .heartbeatLoss => Sys2Proof.Machine.execHeartbeatLoss s
  | .mateLinkUp => Sys2Proof.Machine.execMateLinkUp s
  | .mateLinkDown => Sys2Proof.Machine.execMateLinkDown s
  | .mateCellError ty seq => Sys2Proof.Machine.execMateCellError ty seq s
  | .mateNakRx ty seq => Sys2Proof.Machine.execMateNakRx ty seq s
  | .commandMsgRx msg => Sys2Proof.Machine.execCommandMsgRx msg s
  | .resultRx cell => Sys2Proof.Machine.execResultRx cell s
  | .decisionJust record => Sys2Proof.Machine.execDecisionJust record s
  | .decisionAdmit record => Sys2Proof.Machine.execDecisionAdmit record s
  | .decisionStall record => Sys2Proof.Machine.execDecisionStall record s
  | .decisionContext record => Sys2Proof.Machine.execDecisionContext record s
  | .decisionAlign record => Sys2Proof.Machine.execDecisionAlign record s
  | .decisionProt record => Sys2Proof.Machine.execDecisionProt record s
  | .decisionMerge record => Sys2Proof.Machine.execDecisionMerge record s
  | .decisionResize record => Sys2Proof.Machine.execDecisionResize record s
  | .decisionTiming record => Sys2Proof.Machine.execDecisionTiming record s
  | .digestRx digests conts => Sys2Proof.Machine.execDigestRx digests conts s
  | .joinBoundaryS epoch mfas => Sys2Proof.Machine.execJoinBoundaryS epoch mfas s
  | .stateImageInstalled image => Sys2Proof.Machine.execStateImageInstalled image s
  | .joinAtRx j => Sys2Proof.Machine.execJoinAtRx j s
  | .joinEpochJ => Sys2Proof.Machine.execJoinEpochJ s
  | .handoverRx => Sys2Proof.Machine.execHandoverRx s
  | .handoverAckRx => Sys2Proof.Machine.execHandoverAckRx s
  | .handoverReqRx => Sys2Proof.Machine.execHandoverReqRx s
  | .handoverAckTimeout => Sys2Proof.Machine.execHandoverAckTimeout s
  | .actNReleased free => Sys2Proof.Machine.execActNReleased free s
  | .actNProbe low => Sys2Proof.Machine.execActNProbe low s
  | .claimTimerExpiry => Sys2Proof.Machine.execClaimTimerExpiry s
  | .phaseAlarmRaise => Sys2Proof.Machine.execPhaseAlarmRaise s
  | .phaseAlarmClear => Sys2Proof.Machine.execPhaseAlarmClear s
  | .sramScrubPass src block ms corrected bad queues => Sys2Proof.Machine.execSramScrubPass src block ms corrected bad queues s
  | .spillScrubPass g corrected bad => Sys2Proof.Machine.execSpillScrubPass g corrected bad s
  | .bistRun ty block fail => Sys2Proof.Machine.execBistRun ty block fail s
  | .refMeasurement means dplls => Sys2Proof.Machine.execRefMeasurement means dplls s
  | .refLos r mean => Sys2Proof.Machine.execRefLos r mean s
  | .refHoldoffExpiry r => Sys2Proof.Machine.execRefHoldoffExpiry r s
  | .refWtrExpiry r => Sys2Proof.Machine.execRefWtrExpiry r s
  | .dpllLocked idx => Sys2Proof.Machine.execDpllLocked idx s
  | .anchorValid idx => Sys2Proof.Machine.execAnchorValid idx s
  | .glideMinuteRecord idx freq temp => Sys2Proof.Machine.execGlideMinuteRecord idx freq temp s
  | .glideFit idx model resid => Sys2Proof.Machine.execGlideFit idx model resid s
  | .glideStale idx => Sys2Proof.Machine.execGlideStale idx s
  | .xoWarmupExpiry idx => Sys2Proof.Machine.execXoWarmupExpiry idx s
  | .ppsOutPulse => Sys2Proof.Machine.execPpsOutPulse s
  | .fpOutPulse => Sys2Proof.Machine.execFpOutPulse s
  | .alignApply measured => Sys2Proof.Machine.execAlignApply measured s
  | .refLosClear r => Sys2Proof.Machine.execRefLosClear r s

end Sys2Proof.Machine
end

