-- ==== Sys2Proof/Machine/Pins.lean ====
section
/-! DEFINITION. What the balls show: the state of each group under reset and sleep (R48, R49, R52, R56), and the JTAG instructions
that the TAP answers (R49, R60, R562). -/

namespace Sys2Proof.Machine

/-- What drives a ball. -/
inductive Drive where
  /-- high-impedance: released, or an input -/
  | hiZ
  /-- a SerDes transmitter in electrical idle (R56) -/
  | idle
  | low
  | high
  /-- its own function drives it -/
  | live
  /-- the level of JEDEC GDDR6 self-refresh (R48) -/
  | selfRefresh
  deriving DecidableEq, Repr

/-- A level. -/
def level (b : Bool) : Drive := if b then .high else .low

/-- An open-drain ball: low or released. -/
def openDrain (lowNow : Bool) : Drive := if lowNow then .low else .hiZ

/-- POR_N is low, or VDD_AON is below its brownout threshold: R81 resets the device as POR_N low does. -/
def held (d : Dev) : Bool := !d.pin.porN || d.pin.brownout

/-- WARM_RST_N is high and the device is not held. -/
def running (d : Dev) : Bool := !held d && d.pin.warmRstN

/-- LSDS, CSDS and MSDS transmitters of domain n (R56); what they send is in the framing definitions. -/
def serdesTx (d : Dev) (n : Nat) : Drive := if running d && domReady d n then .live else .idle

/-- What lane k of client bank n sends: the port, its logical lane under TX_MAP, and whether TX_POL inverts it (R44, R189). -/
def clientLaneOut (d : Dev) (n k : Nat) : Option (Nat × Nat × Bool) :=
  (laneOwner d n k).bind fun i =>
    let b := cpOf d i
    ((List.range (cpLanes b)).find? fun j => cpFirst b + mapNibble (cpTxMap b) j == k).map fun j => (i, j, nbit (cpTxPol b) j)

/-- The logical lane whose pattern checker, loopback and recovered clock lane k takes, under RX_MAP and RX_POL (R189). -/
def clientLaneIn (d : Dev) (n k : Nat) : Option (Nat × Nat × Bool) :=
  (laneOwner d n k).bind fun i =>
    let b := cpOf d i
    ((List.range (cpLanes b)).find? fun j => cpRxLane b j == k).map fun j => (i, j, nbit (cpRxPol b) j)

/-- The logical lane that lane k of line port p sends, and whether it is inverted (R44, R210). R44 has polarity inversion for receive
also, and R210's record no field for it: nothing in State inverts a received line lane (DESIGN CHOICE, log entry 173). -/
def lineLaneOut (d : Dev) (p k : Nat) : Option (Nat × Bool) :=
  let b := lineRec d p
  ((List.range 8).find? fun j => mapNibble (lrTxMap b) j == k).map fun j => (j, nbit (lrTxPol b) j)

/-- Their receivers are terminated: also while WARM_RST_N is low (R56). -/
def serdesTerm (d : Dev) (n : Nat) : Bool := !held d && (!d.pin.warmRstN || domReady d n)

/-- The PCIe transmitters (R56): idle with D4 asleep, until link training, and while WARM_RST_N is low unless PCIe is kept. -/
def pcieTx (d : Dev) : Drive := if !held d && pcieUp d && domReady d 4 && d.host.training then .live else .idle

/-- A MEM group whose memory keeps its contents while its domain is off: in self-refresh, also while its wake is deferred or under way
(R48). -/
def memKept (d : Dev) (g : Nat) : Bool :=
  let x := dom d (18 + g)
  x.st == .selfRefresh || (!x.untrained && (x.st == .deferred || x.st == .ramping))

/-- MEMi_RESET_N (R48): held high while the memory keeps its contents; low with the group powered down without self-refresh. -/
def memResetN (d : Dev) (i : Nat) : Drive :=
  if held d then .low else if memKept d (i / 4) then .high else match (dom d (18 + i / 4)).st with
    | .ready | .isolating | .ramping => .live
    | .off | .deferred | .faulted | .selfRefresh => .low

/-- CKE_N and CA of an interface (R48). Powered down without self-refresh they are high-impedance: the manual gives no level
(DESIGN CHOICE, log entry 174). -/
def memCke (d : Dev) (i : Nat) : Drive :=
  if held d then .hiZ else if memKept d (i / 4) then .selfRefresh
  else if domReady d (18 + i / 4) then .live else .hiZ

/-- CLKOUTk, PPS_OUT and FP_OUT (R56): they run while timing is kept. -/
def clkOutBall (d : Dev) (k : Nat) : Drive := if !held d && clkOn d k then .live else .hiZ
def pulseBall (d : Dev) (t : Nat) : Drive := if !held d && pulseOn d t then .live else .low

/-- The OHX outputs of slice n. -/
def ohxBall (d : Dev) (n : Nat) : Drive := if running d && domReady d (6 + n) then .live else .low

/-- PSEQ_ENk. -/
def pseqBall (d : Dev) (k : Nat) : Drive := level (d.pin.pseqEn.getLsbD k)

/-- PWR_CYCLE_REQ_N, as held under R52 whatever POR_N and WARM_RST_N are. -/
def pwrCycleBall (d : Dev) : Drive := openDrain d.pin.pwrCycleReq

/-- ACT_N and MATE_TOKEN: released while held or in WARM_RST_N low. -/
def actBall (d : Dev) : Drive := openDrain (running d && d.mate.actLow)
def tokenBall (d : Dev) : Drive := openDrain (running d && d.mate.tokenLow)

/-- MGMT_INT_N, a level (R49); released while held. -/
def mgmtIntBall (d : Dev) : Drive := openDrain (!held d && mgmtIntLow d)

/-- SPI_MISO: driven only while SPI_CS_N is low. -/
def misoBall (d : Dev) (csN : Bool) : Drive := if !held d && !csN then .live else .hiZ

/-- The I²C, AVS and PMBus lines: respond unless held. -/
def busBall (d : Dev) : Drive := if held d then .hiZ else .live

/-- JTAG_TDO: driven only in Shift-IR and Shift-DR. -/
def tdoBall (d : Dev) (shift : Bool) : Drive := if !held d && shift then .live else .hiZ

/-- GPIOi: an input from reset on; the manual gives no register that configures one (log entry 144). -/
def gpioBall (_ : Dev) (_ : Nat) : Drive := .hiZ

/-- CLKREQ_N, of D4. -/
def clkreqBall (d : Dev) : Drive := if !held d && domReady d 4 then .live else .hiZ

/-- The groups of balls of R56. -/
inductive BallGroup where
  | serdesTx | serdesRx | pcie | gddr6 | clkOut | pulse | ohx | pseqEn | openDrain | serial | tdo | gpio | bus
  deriving DecidableEq, Repr

/-- A group with VDD_AON absent (R56): high-impedance or released, whatever the state. No command is taken then, and the next is a
start from reset; the PCIe balls are as PCI Express 5.0 has them, which is a high-impedance transmitter too (PRESUMED, log entry
175). -/
def unpowered : BallGroup → Drive
  | .serdesTx | .serdesRx | .pcie | .gddr6 | .clkOut | .pulse | .ohx | .pseqEn | .openDrain | .serial | .tdo | .gpio | .bus => .hiZ

/-- The JTAG instructions: BYPASS, IDCODE, the others of IEEE 1149.1 and 1149.6, and access to D23 (R561). -/
inductive TapInstr where
  | bypass | idcode | scan | debug
  deriving DecidableEq, Repr

/-- The TAP answers an instruction: BYPASS and IDCODE whether D23 is awake or not and whether JTAG is locked or open; the others
what the token opened (R49, R60, R562; log entry 141). -/
def tapAnswers (d : Dev) : TapInstr → Bool
  | .bypass | .idcode => !held d
  | .scan => !held d && d.nvm.jtagLeft.isSome && d.nvm.jtagBscan
  | .debug => !held d && d.nvm.jtagLeft.isSome && d.nvm.jtagDebug && domReady d 23

/-- What IDCODE shifts out. -/
def tapIdcode : BitVec 32 := Config.idcode

end Sys2Proof.Machine
end

