-- ==== Sys2Proof/Safety.lean ====
section
/-! DEFINITION. What counts as a safe state and a safe run. -/

namespace Sys2Proof

open Sys2Proof.Machine

/-- The memories of a state are in their canonical form. -/
def MemoryWf (s : State) : Prop := Memory.wf s.mem = true

/-- A step that goes on. -/
def Runs (s : State) : Prop := ∃ t, step s = .next t

/-- States that a run from `s` passes through. -/
inductive Reaches (s : State) : State → Prop where
  | refl : Reaches s s
  | tail {t u : State} : Reaches s t → step t = .next u → Reaches s u

end Sys2Proof
end

