-- ==== Sys2Proof/Certificates/Slice0/Obligations.lean ====
section
/-! DEFINITION. The statements about the machine. Each names the rules of the manual that it rests on; the command rows that it
covers stand in its clauses. -/

namespace Sys2Proof.Spec

open Sys2Proof.Machine

/-! ### Words for statements -/

/-- The command completes: the device becomes `d`; the memories and the waiting commands stay. -/
abbrev Ends (c : Instr) (s : State) (d : Dev) : Prop := Machine.exec c s = .next { s with dev := d }

/-- The command completes: device and memories become those of `x`; the waiting commands stay. -/
abbrev EndsSys (c : Instr) (s : State) (x : Sys) : Prop := Machine.exec c s = .next (s.withSys x)

/-- POR_N is high and VDD_AON above its brownout threshold. -/
abbrev On (s : State) : Prop := powered s.dev = true

/-- The commands that reach the device even while it is held in reset: changes of its supplies and of its balls. -/
def reachesReset : Instr → Bool
  | .porNFall | .coldStart _ | .brownout | .brownoutEnd _ _ | .warmRstNRise | .perstNRise | .perstNFall
  | .pfwNFall _ | .pfwNRise | .vddAonWriteGuard _ | .pseqPgRise _ | .pseqPgFall _ => true
  | _ => false

/-- The device after its request at the head of a ring is taken (R25, R153). -/
def taken (q : Req) (d : Dev) : Dev := takeReq q.ch d

/-- The request stands at the head of its ring and has its turn, its tag is not logged, and it passes every check that comes before
the command's own (R25, R151 to R154, R159 to R161, R182). The firmware meets no internal error, and an MRAM access of the command
does not wait for D2 (R60). A command marked M executes at once and goes to no mate. -/
structure Served (op : Nat) (q : Req) (s : State) : Prop where
  ok : isReq q = true
  on : On s
  head : atHead op q s.sys = true
  fresh : logged s.dev q = none
  pass : headerRefusal s.dev op q = none
  sound : q.internal = false
  ready : stalls op { x := now s.dev, mirrored := false } q s.sys = false
  alone : opMirrored op = true → s.dev.mate.active = true →
    inStep s.dev = false ∧ s.dev.mate.st ≠ 3 ∧ ¬(s.dev.mate.st = 2 ∧ s.dev.mate.joinS = true)

/-- The response to a request at the present epoch: its tag is logged and its slot written (R152, R153, R157). -/
abbrev answered (op : Nat) (q : Req) (a : Ans) (s : State) (x : Sys) : Sys :=
  answer op { x := now s.dev, mirrored := false } true q a x

/-- The request is taken and answered with `a`; beyond the response, the device becomes `d` and no byte of memory changes. -/
abbrev Replies (c : Instr) (op : Nat) (q : Req) (s : State) (a : Ans) (d : Dev) : Prop :=
  EndsSys c s (answered op q a s { dev := d, mem := s.mem })

end Sys2Proof.Spec

open Sys2Proof Sys2Proof.Machine Sys2Proof.Spec

/-! ### The queue, reset, and the memories -/

/-- A step runs the command at the front of the queue on the state with the rest of it. That an empty queue idles is the
model's choice (log entry 43). -/
def Obligations.StepRunsTheFrontCommand : Prop :=
  (∀ (c : Instr) (rest : List Instr) (s : State),
    step { s with pending := c :: rest } = Machine.exec c { s with pending := rest }) ∧
  (∀ s : State, s.pending = [] → step s = .next s)

/-- Every command answers a next state and leaves the queue of waiting commands as it is. -/
def Obligations.EveryCommandCompletesAndLeavesTheQueue : Prop :=
  ∀ (c : Instr) (s : State), ∃ t, Machine.exec c s = .next t ∧ t.pending = s.pending

/-- Held in reset, the device does not react to a command, but for changes of its supplies and balls. That a command has no
effect then is the model's reading of R52, R81 and R99 (log entry 42). -/
def Obligations.HeldInResetNothingHappens : Prop :=
  ∀ (c : Instr) (s : State), powered s.dev = false → reachesReset c = false → Machine.exec c s = .next s

/-- What reset leaves (R7, R60, R64, R65, R99, R162): D0 on and every other domain off, each register at the reset value of
its table, the counters at 0, no record, no event, no error, no tag. That the part is a ZK6400-CB, and that what lies behind
the registers is empty or 0 where no rule prints it, are the model's choice (log entries 2 and 121). -/
def Obligations.ResetLeavesTheManualsValues : Prop :=
  (∀ r : Reg, reg State.reset.dev r = regReset false r) ∧
  (∀ n, domReady State.reset.dev n = decide (n = 0)) ∧
  State.reset.dev.time.epoch = 0 ∧ State.reset.dev.time.rtc = 0 ∧
  (∀ ty i, serv State.reset.dev ty i = none) ∧ State.reset.dev.prov.pend = [] ∧ State.reset.dev.prov.shadow = [] ∧
  State.reset.dev.evt.log = [] ∧ State.reset.dev.evt.seq = 0 ∧ State.reset.dev.err.queue = [] ∧
  (∀ q : Req, logged State.reset.dev q = none) ∧ (∀ i, (ctrVal State.reset.dev i).v = 0) ∧ State.reset.pending = []

/-- The memories of the state after reset are in their canonical form. -/
def Obligations.ResetMemoryIsInForm : Prop := MemoryWf State.reset

/-- Every step keeps the memories in their canonical form: addresses strictly rising, and no byte that an unlisted address
reads as. -/
def Obligations.EveryStepKeepsTheMemoryForm : Prop :=
  ∀ s t : State, MemoryWf s → step s = .next t → MemoryWf t

/-- Reading after writing: the byte written is read back, and every other byte reads as before, in a memory of canonical form;
and a run of bytes written is read back. -/
def Obligations.MemoryReadsWhatWasWritten : Prop :=
  (∀ (m : Memory) (a b : Nat) (v : Byte), Memory.wf m = true → rd (wr m a v) b = if b = a then v else rd m b) ∧
  (∀ (m : Memory) (a : Nat) (l : Bytes), Memory.wf m = true → rdBytes (wrBytes m a l) a l.length = l) ∧
  (∀ (m : Memory) (a : Nat) (l : Bytes) (b : Nat), Memory.wf m = true → b < a ∨ a + l.length ≤ b →
    rd (wrBytes m a l) b = rd m b)

/-! ### Mailbox commands that only answer -/

/-- OBJ_GET, PM_READ, LAST_GASP_READ, EVT_LOG_READ, MATE_DIGEST and ASSIST_LIST with parameters in range answer what the
tables, the bins, the last-gasp record, the log, the digests and the frozen instances hold (R87, R162, R170, R174, R406, R469,
R548). -/
def Obligations.ReadsAnswerWhatTheDeviceHolds : Prop :=
  ∀ (q : Req) (s : State),
    let p := q.payload
    (Served 0x0103 q s → recLen (u8 p 0) (u32 p 4) ≠ 0 → u8 p 1 < parts (recLen (u8 p 0) (u32 p 4)) → u8 p 2 ≤ 1 →
      indexOk (u8 p 0) (u32 p 4) = true →
      Replies (.objGet q) 0x0103 q s (success
        (match tfind (if u8 p 2 = 0 then s.dev.prov.shadow else s.dev.prov.serv) (okey (u8 p 0) (u32 p 4)) with
          | none => be 2 0 ++ zeros 2
          | some b => be 2 (recLen (u8 p 0) (u32 p 4)) ++ zeros 2
            ++ slice b (232 * u8 p 1) (min 232 (recLen (u8 p 0) (u32 p 4) - 232 * u8 p 1)))) (taken q s.dev)) ∧
    (∀ b, Served 0x0203 q s → u32 p 0 ≤ 16383 → binSel (u16 p 4) = some b →
      Replies (.pmRead q) 0x0203 q s (success (pmRecord (taken q s.dev) (u32 p 0) (u16 p 4) b)) (taken q s.dev)) ∧
    (∀ w g, Served 0x0205 q s → u16 p 4 ≤ 236 → w = wakeNvm (taken q s.dev) → domReady w 2 = true → w.nvm.gasp = some g →
      g.state = 1 →
      Replies (.lastGaspRead q) 0x0205 q s (success (
        be 2 (min (u16 p 4) (260096 - u32 p 0)) ++ be 2 0 ++ slice g.bytes (u32 p 0) (min (u16 p 4) (260096 - u32 p 0)))) w) ∧
    (∀ w, Served 0x0205 q s → u16 p 4 ≤ 236 → w = wakeNvm (taken q s.dev) → domReady w 2 = true →
      (∀ g, w.nvm.gasp = some g → g.state ≠ 1) →
      Replies (.lastGaspRead q) 0x0205 q s (success (be 2 0 ++ be 2 0)) w) ∧
    (∀ l, Served 0x0207 q s → 1 ≤ u8 p 2 → u8 p 2 ≤ 3 →
      l = ((List.range (u8 p 2)).filterMap fun k => s.dev.evt.log.find? fun e => e.seq == BitVec.ofNat 16 (u16 p 0 + k)) →
      Replies (.evtLogRead q) 0x0207 q s (success (be 1 l.length ++ zeros 3 ++ l.flatMap evtBytes)) (taken q s.dev)) ∧
    (Served 0x0504 q s → u8 p 0 ≤ 1 →
      Replies (.mateDigest q) 0x0504 q s (success (mateDigest p (taken q s.dev))) (taken q s.dev)) ∧
    (∀ l, Served 0x0603 q s → 1 ≤ u8 p 0 → u8 p 0 ≤ 9 →
      l = (sortBy (fun a b => decide (a ≤ b)) ((frozenOf s.dev (u8 p 0)).filter fun i => decide (u32 p 4 ≤ i))).take 58 →
      Replies (.assistList q) 0x0603 q s (success (be 1 l.length ++ zeros 3 ++ l.flatMap (be 4))) (taken q s.dev))

/-- BOOT_INFO, UPD_STATUS, COMMIT_STATUS, INVENTORY, HEALTH and MATE_STATUS answer SUCCESS with their fields (R179, R470,
R471), and change nothing but the ring, the tag log and the interrupt that every response does. TIME_STATUS answers the status
of the reference, DPLL or output of its TARGET (R512), and PROT_STATUS that of the group (R438). Which of a reference and of a
DPLL or output of one number TIME_STATUS names is the model's free choice (log entry 39). -/
def Obligations.QueriesAnswerWithTheirFields : Prop :=
  (∀ (q : Req) (s : State),
      (Served 0x0001 q s → Replies (.bootInfo q) 0x0001 q s (success (
        be 1 (rf s.dev .glbBootStat 3 0) ++ be 1 (rf s.dev .glbBootStat 7 4) ++ be 1 (attempts s.dev) ++ zeros 1
          ++ be 4 (mfVersion (activeMan s.dev)) ++ be 4 (match s.dev.nvm.staged with
            | some (_, m) => mfVersion m
            | none => 0) ++ be 4 (mfSecnum (activeMan s.dev)) ++ be 4 (arbCounter s.dev))) (taken q s.dev)) ∧
      (Served 0x0015 q s → Replies (.updStatus q) 0x0015 q s (success (
        be 1 (s.dev.nvm.upd + (unconfirmed s.dev).toNat * 128) ++ zeros 3 ++ be 4 s.dev.nvm.written
          ++ be 2 s.dev.nvm.lastStatus ++ zeros 2)) (taken q s.dev)) ∧
      (Served 0x0107 q s → Replies (.commitStatus q) 0x0107 q s (success (
        be 2 s.dev.prov.doneId ++ be 1 s.dev.prov.pend.length ++ [0] ++ be 6 s.dev.prov.doneEpoch ++ zeros 2
          ++ s.dev.prov.pend.flatMap fun e => be 2 e.id ++ be 6 e.epoch)) (taken q s.dev)) ∧
      (Served 0x0201 q s → Replies (.inventory q) 0x0201 q s (success (
        be 2 (rf s.dev .glbId 31 16) ++ be 1 (rf s.dev .glbId 15 8) ++ be 1 (rf s.dev .glbId 7 0) ++ be 8 Config.serial.toNat
          ++ be 4 (versionOf s.dev 1) ++ be 4 (versionOf s.dev 2) ++ be 4 (versionOf s.dev 3) ++ be 4 (versionOf s.dev 4)
          ++ be 4 s.dev.boot.ltabGen)) (taken q s.dev)) ∧
      (Served 0x0202 q s → Replies (.health q) 0x0202 q s (success (healthBytes (taken q s.dev))) (taken q s.dev)) ∧
      (Served 0x0501 q s → Replies (.mateStatus q) 0x0501 q s (success (mateStatus (taken q s.dev))) (taken q s.dev))) ∧
  (∀ (q : Req) (s : State),
      let p := q.payload
      (Served 0x0306 q s → 4 ≤ u8 p 0 → u8 p 0 < 0x10 →
        Replies (.timeStatus q) 0x0306 q s (success (timeStatus (taken q s.dev) (u8 p 0) false)) (taken q s.dev)) ∧
      (Served 0x0306 q s → u8 p 0 < 4 →
        Replies (.timeStatus q) 0x0306 q s (success (if Config.targetIsRef (u8 p 0) then timeStatus (taken q s.dev) (u8 p 0) false
          else dpllStatus (taken q s.dev) (u8 p 0))) (taken q s.dev)) ∧
      (Served 0x0306 q s → 0x10 ≤ u8 p 0 → u8 p 0 < 0x18 →
        Replies (.timeStatus q) 0x0306 q s (success (timeStatus (taken q s.dev) (u8 p 0) (!Config.targetIsRef (u8 p 0))))
          (taken q s.dev)) ∧
      (Served 0x0306 q s → 0x18 ≤ u8 p 0 → u8 p 0 ≤ 0x19 →
        Replies (.timeStatus q) 0x0306 q s (success (timeStatus (taken q s.dev) (u8 p 0) true)) (taken q s.dev)) ∧
      (Served 0x0403 q s → u8 p 0 = 0 → u32 p 4 ≤ 511 → hasPg s.dev (u32 p 4) = true →
        Replies (.protStatus q) 0x0403 q s (success (
          be 4 (reg s.dev (.xcPgstat (u32 p 4))).toNat ++ be 4 (wtrRemaining s.dev (u32 p 4)) ++ fit 4 (pg s.dev (u32 p 4)).far
            ++ zeros 4)) (taken q s.dev)) ∧
      (Served 0x0403 q s → u8 p 0 = 1 → u32 p 4 ≤ 255 → hasMg s.dev (u32 p 4) = true →
        Replies (.protStatus q) 0x0403 q s (success (mgStatus (taken q s.dev) (u32 p 4))) (taken q s.dev)))

/-! ### Provisioning commands -/

/-- OBJ_SET of a part in range writes it into the shadow tables (R593), OBJ_DEL removes an object from them, and SHADOW_REVERT
makes them a copy of the committed tables (R179). The tables in service stay. A part written by OBJ_SET is read back from its
place in the shadow record, its reserved fields zero (R9); every other record of the shadow tables, and every table in
service, stays as it was. -/
def Obligations.ShadowTablesAreEdited : Prop :=
  (∀ (q : Req) (s : State),
      let p := q.payload
      let n := recLen (u8 p 0) (u32 p 4)
      (Served 0x0101 q s → n ≠ 0 → u16 p 2 = n → u8 p 1 < parts n → indexOk (u8 p 0) (u32 p 4) = true →
        p.length = 8 + min 232 (n - 232 * u8 p 1) →
        checkPart (u8 p 0) (u32 p 4) (u8 p 1) (zeros (232 * u8 p 1) ++ p.drop 8) = none →
        Replies (.objSet q) 0x0101 q s success (writePart (u8 p 0) (u32 p 4) (u8 p 1) (p.drop 8) (taken q s.dev))) ∧
      (∀ o, Served 0x0101 q s → n ≠ 0 → u16 p 2 = n → u8 p 1 < parts n → indexOk (u8 p 0) (u32 p 4) = true →
        p.length = 8 + min 232 (n - 232 * u8 p 1) →
        checkPart (u8 p 0) (u32 p 4) (u8 p 1) (zeros (232 * u8 p 1) ++ p.drop 8) = some o →
        Replies (.objSet q) 0x0101 q s { st := 4, pay := be 2 (8 + o - 232 * u8 p 1) } (taken q s.dev)) ∧
      (Served 0x0102 q s → n ≠ 0 → indexOk (u8 p 0) (u32 p 4) = true →
        Replies (.objDel q) 0x0102 q s success { taken q s.dev with prov := { s.dev.prov with
          shadow := tdel s.dev.prov.shadow (okey (u8 p 0) (u32 p 4))
          parts := tdel s.dev.prov.parts (okey (u8 p 0) (u32 p 4)) } }) ∧
      (Served 0x0106 q s → Replies (.shadowRevert q) 0x0106 q s success
        { taken q s.dev with prov := { s.dev.prov with shadow := s.dev.prov.serv, parts := [] } })) ∧
  (∀ (ty i part : Nat) (data : Bytes) (d : Dev), part < parts (recLen ty i) →
      data.length = min 232 (recLen ty i - 232 * part) →
      (∃ b, tfind (writePart ty i part data d).prov.shadow (okey ty i) = some b ∧ b.length = recLen ty i ∧
        slice b (232 * part) data.length =
          (clearReserved (reservedOf ty i) (zeros (232 * part) ++ data)).drop (232 * part)) ∧
      (∀ k, k ≠ okey ty i → tfind (writePart ty i part data d).prov.shadow k = tfind d.prov.shadow k) ∧
      (writePart ty i part data d).prov.serv = d.prov.serv)

/-- COMMIT with fewer than four pending, an epoch that R29 and R164 allow, and tables that pass R594 copies the shadow tables
into a pending commit under the next identifier and wakes the domains that they need; COMMIT_CANCEL in time takes it and every
later one back (R166). COMMIT and COMMIT_CANCEL are refused in the order and with the codes of R29, R164 and R166: an epoch
less than two ahead gives EPOCH_LATE, then an epoch not later than the newest, and then four commits pending, give
EPOCH_CONFLICT, and no table changes. -/
def Obligations.CommitsAreAcceptedOrRefused : Prop :=
  (∀ (q : Req) (s : State),
      let p := q.payload
      let d := taken q s.dev
      (∀ e, Served 0x0104 q s → s.dev.prov.pend.length < 4 → now s.dev + 2 ≤ e →
        (∀ l, s.dev.prov.pend.getLast? = some l → l.epoch < e) →
        (u48 p 0 = e ∨ (u48 p 0 = 0 ∧ (e = now s.dev + 2 ∨ ∃ l, s.dev.prov.pend.getLast? = some l ∧ e = l.epoch + 1))) →
        commitRefusal d = none →
        Replies (.commit q) 0x0104 q s (success (be 6 e ++ be 2 (nextId s.dev.prov.lastId)))
          (wakeFor s.dev.prov.shadow { d with prov := { s.dev.prov with
            pend := s.dev.prov.pend ++ [{ id := nextId s.dev.prov.lastId, epoch := e, tables := s.dev.prov.shadow }]
            lastId := nextId s.dev.prov.lastId } })) ∧
      (∀ e, Served 0x0105 q s → (s.dev.prov.pend.find? fun e => e.id == u16 p 0) = some e → now s.dev + 2 ≤ e.epoch →
        Replies (.commitCancel q) 0x0105 q s success
          (dropPending (s.dev.prov.pend.filter fun x => decide (x.epoch < e.epoch))
            (s.dev.prov.pend.filter fun x => decide (e.epoch ≤ x.epoch)) 2 d))) ∧
  (∀ (q : Req) (s : State),
      let p := q.payload
      let d := taken q s.dev
      (Served 0x0104 q s → u48 p 0 ≠ 0 → u48 p 0 < now s.dev + 2 → Replies (.commit q) 0x0104 q s { st := 7 } d) ∧
      (∀ l, Served 0x0104 q s → now s.dev + 2 ≤ u48 p 0 → s.dev.prov.pend.getLast? = some l → u48 p 0 ≤ l.epoch →
        Replies (.commit q) 0x0104 q s { st := 8 } d) ∧
      (Served 0x0104 q s → u48 p 0 = 0 ∨ now s.dev + 2 ≤ u48 p 0 → 4 ≤ s.dev.prov.pend.length →
        Replies (.commit q) 0x0104 q s { st := 8 } d) ∧
      (∀ e, Served 0x0105 q s → (s.dev.prov.pend.find? fun e => e.id == u16 p 0) = some e → e.epoch < now s.dev + 2 →
        Replies (.commitCancel q) 0x0105 q s { st := 7 } d) ∧
      (Served 0x0105 q s → (s.dev.prov.pend.find? fun e => e.id == u16 p 0) = none →
        Replies (.commitCancel q) 0x0105 q s { st := 4, pay := be 2 0 } d))

/-! ### Re-initialisation, STORE and resize commands -/

/-- FUNC_REINIT of one instance resets it and aborts its commands in progress; with WHOLE_SLICE, a slice that no container
names is isolated and its domains start anew; SLICE_LOAD loads a verified part for it, and SLICE_READY ends its repair (R36,
R105, R180). FUNC_REINIT of a slice is refused with NOT_SUPPORTED in interleaved layout and with IN_SERVICE while a container
names the slice (R36, R37, R180); nothing is reset. -/
def Obligations.ReinitialisationRepairsWhatItNames : Prop :=
  (∀ (q : Req) (s : State),
      let p := q.payload
      let d := taken q s.dev
      (∀ a b, Served 0x0108 q s → wbit p 3 0 = false → reinitLimit (u16 p 0) = some (a, b) → u8 p 2 ≤ a → u32 p 4 ≤ b →
        (typePart (u16 p 0) = 0 ∨ reloadFails s.dev (typePart (u16 p 0)) = false) →
        EndsSys (.funcReinit q) s (answered 0x0108 q success s (abortCmds false (u16 p 0, u8 p 2, u32 p 4)
          { dev := refresh (reinitOne (u16 p 0) (u8 p 2) (u32 p 4) d), mem := s.mem }))) ∧
      (Served 0x0108 q s → wbit p 3 0 = true → u16 p 0 = 0 → u8 p 2 ≤ 3 → layout s.dev ≠ 2 →
        sliceNamed s.dev.prov.serv (u8 p 2) = false →
        EndsSys (.funcReinit q) s (answered 0x0108 q success s (abortCmds true (u16 p 0, u8 p 2, u32 p 4)
          { dev := refresh (reinitSlice (u8 p 2) d), mem := s.mem }))) ∧
      (Served 0x010A q s → u8 p 0 ≤ 3 → s.dev.boot.sliceOut.testBit (u8 p 0) = true → u32 p 4 + u32 p 8 ≤ bulkSize →
        Config.partValid (rdBytes s.mem (bulkBase + u32 p 4) (u32 p 8)) = true →
        Replies (.sliceLoad q) 0x010A q s success { d with boot := { s.dev.boot with
          sliceNew := nputBit s.dev.boot.sliceNew (u8 p 0) true } }) ∧
      (∀ n, On s → isSlice n = true → s.dev.boot.sliceOut.testBit n = true →
        (∀ k ∈ sliceDoms s.dev n, (dom s.dev k).st ≠ .ramping) →
        Ends (.sliceReady n) s (refresh (evtGlb 0x000B n (be 1 (s.dev.boot.sliceNew.testBit n).toNat)
          { s.dev with boot := { s.dev.boot with sliceOut := nputBit s.dev.boot.sliceOut n false } })))) ∧
  (∀ (q : Req) (s : State),
      let p := q.payload
      Served 0x0108 q s → wbit p 3 0 = true → u16 p 0 = 0 → u8 p 2 ≤ 3 →
      (layout s.dev = 2 → Replies (.funcReinit q) 0x0108 q s { st := 0x10 } (refresh (taken q s.dev))) ∧
      (layout s.dev ≠ 2 → sliceNamed s.dev.prov.serv (u8 p 2) = true →
        Replies (.funcReinit q) 0x0108 q s { st := 0x11 } (refresh (taken q s.dev))))

/-- A STORE accepted at X runs, its response owed, into the settings area not in force; at its boundary the image is written,
made valid by SET_COMMIT, answered with STORE_COUNT and posted (R540). A STORE within 1 s of the last, or while one runs, is
answered RATE_LIMIT and posts STORE_REFUSED (R541). RESIZE_PROPOSE on a capable, idle line port with a plan starts a proposal
under the next PROPOSAL_ID (R373, R359 to R362). -/
def Obligations.StoresRunAndResizesAreProposed : Prop :=
  ((∀ (q : Req) (s : State),
      let d := wakeNvm (taken q s.dev)
      (∀ a, Served 0x0109 q s → (∀ e, s.dev.nvm.storeAt = some e → e + 1000 ≤ now s.dev) → s.dev.nvm.store = none →
        unconfirmed s.dev = false → nvmWritable d = true → a = (match curArea d with
          | some 0 => 1
          | _ => 0) →
        EndsSys (.store q) s { dev := modNvm (fun m => { m with
          store := some { area := a, format := runFormat d, ch := q.ch, tag := q.tag, x := now s.dev }
          storeAt := some (now d) }) d, mem := s.mem }) ∧
      (Served 0x0109 q s → (s.dev.nvm.store.isSome = true ∨ ∃ e, s.dev.nvm.storeAt = some e ∧ now s.dev < e + 1000) →
        Replies (.store q) 0x0109 q s { st := 6 } (evtNvm 0x0C02 0 (be 2 6) (taken q s.dev)))) ∧
    (∀ (s : State) (r : StoreRun), On s → s.dev.nvm.store = some r → r.fail = 0 → nvmWritable s.dev = true →
      imageLength (imageEntries (modNvm (fun m => { m with store := none }) s.dev)) ≤ 1048576 →
      let d := modNvm (fun m => { m with store := none }) s.dev
      let w := (writeImage r.area r.format true (imageEntries d) d).2
      EndsSys (.storeSetCommit true) s (answer 0x0109 { x := r.x, mirrored := r.mirrored } r.own
        { ch := r.ch, tag := r.tag, chField := 1, payload := [], ns := 0 } (success (be 4 (storeCount w)))
        { dev := evtNvm 0x0C01 r.area (be 4 (storeCount w) ++ be 4 (imageLength (imageEntries d))) w, mem := s.mem }))) ∧
  (∀ (q : Req) (s : State) (m : Nat),
      let p := q.payload
      let d := taken q s.dev
      let z := rz d (u8 p 0)
      let id := if s.dev.prov.lastProp + 1 = 2 ^ 32 then 1 else s.dev.prov.lastProp + 1
      Served 0x010B q s → u8 p 0 ≤ 3 → 1 ≤ u16 p 2 → u16 p 2 ≤ 320 → capable d (u8 p 0) = true → rszBusy d (u8 p 0) = false →
      u16 p 2 ≠ slotCount z.txMap → planMap d (u8 p 0) (u16 p 2) (wbit p 1 0) = some m →
      Replies (.resizePropose q) 0x010B q s (success (be 4 id)) (refresh (showRz (u8 p 0)
        (evtLine 0x0510 (u8 p 0) (u8 p 0) (be 4 id ++ be 2 (slotCount m) ++ [0]) (fwdRz (u8 p 0)
          (modRz (u8 p 0) (fun z => { z with
            st := 1, responder := false, propId := id, newMap := m, preempt := wbit p 1 0, msg := 1, reason := 0, left := 0
            txDone := false, rxDone := false, oldM := slotCount z.txMap, nPre := 0, nRes := 0, pred := none
            sched := none, cd := 0 })
            { d with prov := { s.dev.prov with lastProp := id } }))))))

/-! ### Update, recovery, JTAG, last gasp -/

/-- The update commands on their sound paths (R551 to R557): UPD_BEGIN enters RECEIVING, UPD_WRITE copies the checked bytes of
the BULK window into IMAGE and no other byte, UPD_COMMIT writes MAN_STAGED and enters STAGED, UPD_ABORT leaves staging,
UPD_CONFIRM of a confirmed release changes nothing. Each leaves LAST_STATUS 0. UPD_CONFIRM of an unconfirmed release whose
settings need no migration raises the anti-rollback counter to its SECNUM and writes CONFIRM (R556, R557). -/
def Obligations.UpdatesAreStagedAndConfirmed : Prop :=
  (∀ (q : Req) (s : State),
      let p := q.payload
      let d := taken q s.dev
      let w := wakeNvm d
      let ok (d : Dev) : Dev := modNvm (fun m => { m with lastStatus := 0 }) d
      (Served 0x0010 q s → u32 p 0 = 936 → 4096 ≤ u32 p 4 → u32 p 4 ≤ 8388608 → nvmWritable w = true →
        w.nvm.active = none →
        w.nvm.upd ≠ 1 →
        Replies (.updBegin q) 0x0010 q s (success (be 4 8388608)) (ok (setUpd 1 0
          (modNvm (fun m => { m with totalLen := u32 p 4, written := 0, wrote := false, staged := none }) w)))) ∧
      (Served 0x0011 q s → s.dev.nvm.upd = 1 → u32 p 0 % 64 = 0 → u32 p 0 + u32 p 8 ≤ s.dev.nvm.totalLen →
        u32 p 4 + u32 p 8 ≤ bulkSize → (crc32 (rdBytes s.mem (bulkBase + u32 p 4) (u32 p 8))).toNat = u32 p 12 →
        nvmWritable w = true →
        EndsSys (.updWrite q) s (answered 0x0011 q success s {
          dev := ok (modNvm (fun m => { m with written := m.written + u32 p 8, wrote := true }) w)
          mem := wrBytes s.mem (imageBase + u32 p 0) (rdBytes s.mem (bulkBase + u32 p 4) (u32 p 8)) })) ∧
      (∀ man, Served 0x0012 q s → s.dev.nvm.upd = 1 → u32 p 0 + u32 p 4 ≤ bulkSize → u32 p 4 = 936 →
        man = rdBytes s.mem (bulkBase + u32 p 0) 936 → manifestSound man s.dev.nvm.totalLen = true →
        (mfSn man = 0 ∨ mfSn man = Config.serial.toNat) → arbCounter s.dev ≤ mfSecnum man → nvmWritable w = true →
        Replies (.updCommit q) 0x0012 q s (success (be 4 (mfVersion man))) (ok (setUpd 2 (w.nvm.mseq + 1)
          (modNvm (fun m => { m with staged := some (w.nvm.mseq + 1, man), mseq := w.nvm.mseq + 1, man := man }) w)))) ∧
      (Served 0x0013 q s → s.dev.nvm.upd = 1 ∨ s.dev.nvm.upd = 2 → nvmWritable w = true →
        Replies (.updAbort q) 0x0013 q s success (ok (setUpd (if s.dev.nvm.wrote then 3 else 0)
          (stagedMseq s.dev) (modNvm (fun m => { m with staged := none }) w)))) ∧
      (Served 0x0014 q s → unconfirmed s.dev = false →
        Replies (.updConfirm q) 0x0014 q s (success (be 4 (arbCounter s.dev))) (ok d))) ∧
  (∀ (q : Req) (s : State),
      let w := wakeNvm (taken q s.dev)
      let sec := mfSecnum (activeMan w)
      let r := if arbCounter w < sec then
          { jappend jArbTarget 0 (be 1 sec) w with fuse := { w.fuse with arb := max w.fuse.arb (min 64 sec) } }
        else w
      let c := jappend jConfirm 0 (be 4 (activeMseq r)) r
      Served 0x0014 q s → unconfirmed s.dev = true → nvmWritable w = true → curArea w = none →
      Replies (.updConfirm q) 0x0014 q s (success (be 4 (arbCounter c))) (modNvm (fun m => { m with lastStatus := 0 })
        (evtNvm 0x0C07 (activeMseq c) (be 1 (arbCounter c)) c)))

/-- RECOVERY_ENTER with its KEY answers, and then the device makes a warm reset into recovery (R100, R179); another KEY is
BAD_PARAM. JTAG_UNLOCK with a token that holds opens JTAG, and with DEBUG asks for D23; every attempt draws a new NONCE (R561,
R562). LAST_GASP_ACK marks a valid record superseded (R548); PM_CLEAR of one point in service requests its clearing (R407). -/
def Obligations.KeysAndAcknowledgementsAreChecked : Prop :=
  (∀ (q : Req) (s : State),
      let p := q.payload
      let d := taken q s.dev
      (Served 0x0002 q s → u16 p 0 = 0xA55A →
        EndsSys (.recoveryEnter q) s (askWarm none (answered 0x0002 q success s
          { dev := { d with boot := { s.dev.boot with recover := true } }, mem := s.mem }))) ∧
      (Served 0x0002 q s → u16 p 0 ≠ 0xA55A → Replies (.recoveryEnter q) 0x0002 q s { st := 4, pay := be 2 0 } d) ∧
      (Served 0x0003 q s → tokenOk d p = true →
        Replies (.jtagUnlock q) 0x0003 q s success (newNonce (evtJtag 1 (u8 p 5 / 64 * 64)
          (gate (wbit p 5 1) (requestWake 3 23) (setRb .glbStat 3 true (modNvm (fun m => { m with
            jtagLeft := some (if u32 p 20 = 0 then 0 else now s.dev + u32 p 20 * 1000), jtagDebug := wbit p 5 1, jtagBscan := wbit p 5 0 }) d)))))) ∧
      (Served 0x0003 q s → tokenOk d p = false → Replies (.jtagUnlock q) 0x0003 q s { st := 0x13 } (newNonce d))) ∧
  (∀ (q : Req) (s : State),
      let p := q.payload
      let d := taken q s.dev
      (∀ g, Served 0x0206 q s → s.dev.nvm.gasp = some g → g.state = 1 → nvmWritable (wakeNvm d) = true →
        Replies (.lastGaspAck q) 0x0206 q s success
          (modNvm (fun m => { m with gasp := m.gasp.map fun g => { g with state := 2 } }) (wakeNvm d))) ∧
      (Served 0x0206 q s → s.dev.nvm.gasp = none → Replies (.lastGaspAck q) 0x0206 q s success d) ∧
      (∀ r, Served 0x0204 q s → u32 p 0 ≤ 16383 → (u16 p 4 = 0 ∨ u16 p 4 = 2 ∨ u16 p 4 = 0xFFFF) →
        ((points s.dev.prov.serv).filter fun e => e.1 == u32 p 0) = [(u32 p 0, r)] →
        Replies (.pmClear q) 0x0204 q s success (requestClear (u16 p 4) (u32 p 0) d)) ∧
      (Served 0x0204 q s → u32 p 0 = 0xFFFFFFFF → (u16 p 4 = 0 ∨ u16 p 4 = 2 ∨ u16 p 4 = 0xFFFF) →
        Replies (.pmClear q) 0x0204 q s success
          ((points s.dev.prov.serv).foldl (fun d e => requestClear (u16 p 4) e.1 d) d)))

/-! ### Timing commands -/

/-- REF_CFG with a sound record sets it at X (R507): a change of EN, FREQ or SOURCE starts the reference anew, another change
keeps its state. DPLL_CFG sets a DPLL record, or an output record (R508, R509). Reserved fields are ignored (R9). The nine
DPLL commands (R490): each sets or ends what it names on its DPLL, RELEARN drops the learned model. MANUAL names a reference
of the best set; TEMP a temperature of −40.0 to 125.0 °C. ALIGN with a sound record waits for its boundary, and one still
waiting is superseded with TIM_ALIGN_DONE; on a standby, where ALIGN comes from the mate, a MODE 1 ALIGN is completed by the
MODE 0 ALIGN that carries its result (R501, R505, R506, R510). HOLDOVER_LOAD replaces the model of a DPLL and stores it, and
one in holdover slews to its new frequency (R497). -/
def Obligations.TimingCommandsTakeEffect : Prop :=
  (∀ (q : Req) (s : State),
      let p := q.payload
      let d := taken q s.dev
      let b := clearReserved refReserved (p.drop 4)
      let old := (tr s.dev (u8 p 0)).rec_
      (Served 0x0301 q s → u8 p 0 < 24 → checkRef (u8 p 0) (p.drop 4) = none →
        (rrEn b = false ∨ rrEn old = false ∨ rrFreq b ≠ rrFreq old ∨ rrSource b ≠ rrSource old) →
        Replies (.refCfg q) 0x0301 q s success (showTiming (syncRecovered (modRef (u8 p 0) (fun x =>
          { rec_ := b, los := decide (u8 p 0 < 8) && rrEn b && x.los }) d)))) ∧
      (Served 0x0301 q s → u8 p 0 < 24 → checkRef (u8 p 0) (p.drop 4) = none →
        rrEn b = true → rrEn old = true → rrFreq b = rrFreq old → rrSource b = rrSource old →
        Replies (.refCfg q) 0x0301 q s success (showTiming (syncRecovered (modRef (u8 p 0) (fun x => { x with rec_ := b }) d)))) ∧
      (∀ o, Served 0x0301 q s → u8 p 0 < 24 → checkRef (u8 p 0) (p.drop 4) = some o →
        Replies (.refCfg q) 0x0301 q s { st := 4, pay := be 2 (4 + o) } d) ∧
      (Served 0x0302 q s → u8 p 0 < 4 → checkDpll (u8 p 0) (p.drop 4) = none →
        Replies (.dpllCfg q) 0x0302 q s success (showTiming (modDp (u8 p 0) (fun x =>
          { x with rec_ := clearReserved dpllReserved (p.drop 4) }) d))) ∧
      (Served 0x0302 q s → 0x10 ≤ u8 p 0 → u8 p 0 ≤ 0x19 → checkOut (u8 p 0) (p.drop 4) = none →
        Replies (.dpllCfg q) 0x0302 q s success
          (modTim (fun t => { t with out := tset t.out (u8 p 0) (clearReserved outReserved (p.drop 4)) }) d))) ∧
  (∀ (q : Req) (s : State),
      let p := q.payload
      let d := taken q s.dev
      let i := u8 p 0
      let r := u8 p 5
      let t := s16 (u16 p 6)
      let sets (f : Dpll → Dpll) : Dev := showTiming (modDp i f d)
      Served 0x0303 q s → i < 4 →
      (u8 p 4 = 0 → Replies (.dpllClear q) 0x0303 q s success (sets fun x => { x with forced := 0, manual := none })) ∧
      (u8 p 4 = 1 → r ≤ 23 → Replies (.dpllForce q) 0x0303 q s success (sets fun x => { x with forced := 1, forceRef := r })) ∧
      (u8 p 4 = 2 → r ≤ 23 → r ∈ bestRefs d i →
        Replies (.dpllManual q) 0x0303 q s success (sets fun x => { x with manual := some r })) ∧
      (u8 p 4 = 2 → r ∉ bestRefs d i → Replies (.dpllManual q) 0x0303 q s { st := 4, pay := be 2 5 } d) ∧
      (u8 p 4 = 3 → r ≤ 23 →
        Replies (.dpllLockout q) 0x0303 q s success (sets fun x => { x with lockout := nputBit x.lockout r true })) ∧
      (u8 p 4 = 4 → r ≤ 23 →
        Replies (.dpllUnlock q) 0x0303 q s success (sets fun x => { x with lockout := nputBit x.lockout r false })) ∧
      (u8 p 4 = 5 → Replies (.dpllHoldover q) 0x0303 q s success (sets fun x => { x with forced := 5 })) ∧
      (u8 p 4 = 6 → Replies (.dpllFreerun q) 0x0303 q s success (sets fun x => { x with forced := 6 })) ∧
      (u8 p 4 = 7 → Replies (.dpllRelearn q) 0x0303 q s success (showTiming (syncTrust i (evtTim 0x0207 i (be 1 4) (modDp i (fun x =>
        { x with model := 0, mrec := [], mins := [], fit := none, stale := false }) d))))) ∧
      (u8 p 4 = 8 → -400 ≤ t → t ≤ 1250 →
        Replies (.dpllTemp q) 0x0303 q s success (sets fun x => { x with hostTemp := some t }))) ∧
  (∀ (q : Req) (s : State),
      let p := q.payload
      let d := taken q s.dev
      let b := p.drop 4
      let waits (d : Dev) : Dev := modTim (fun t => { t with pend := some {
        target := u8 p 0, mode := u8 b 0, ref := u8 b 1, offset := s32 (u32 b 4), epoch := max (u48 b 8) (now s.dev)
        lost := u8 b 0 == 1 && (tr s.dev (u8 b 1)).los } }) d
      (Served 0x0304 q s → 0x18 ≤ u8 p 0 → u8 p 0 ≤ 0x1A → checkAlign s.dev b = none → s.dev.tim.pend = none →
        Replies (.align q) 0x0304 q s success (waits d)) ∧
      (∀ a, Served 0x0304 q s → 0x18 ≤ u8 p 0 → u8 p 0 ≤ 0x1A → checkAlign s.dev b = none → s.dev.tim.pend = some a →
        following s.dev = false → Replies (.align q) 0x0304 q s success (waits (alignDone a.target 2 a.offset d))) ∧
      (∀ a, 0x18 ≤ u8 p 0 → u8 p 0 ≤ 0x1A → checkAlign s.dev b = none → s.dev.tim.pend = some a →
        following s.dev = true → a.mode = 1 → u8 b 0 = 0 → alignCommand p d = (success, waits d)) ∧
      (Served 0x0305 q s → u8 p 0 < 4 → checkHoldover b = none →
        Replies (.holdoverLoad q) 0x0305 q s success (showTiming (syncTrust (u8 p 0) (storeModel (u8 p 0)
          (evtTim 0x0207 (u8 p 0) (be 1 3) (modDp (u8 p 0) (fun x =>
            { x with model := 3, mrec := fit 36 (clearReserved holdReserved b), fit := none, stale := false, slew := x.st == 3 })
            d)))))))

/-! ### Protection, merge and mate commands -/

/-- The seven requests of APS_CMD (R417): each is counted and becomes the command in force, and the state machine is
evaluated; a clear lets WTR or do-not-revert hold the selector (R418, R421). A clear of a group that is not in service is
BAD_PARAM. The four actions of MERGE_CMD (R432): automatic lets the state machine decide, a forced path becomes the only
member of the delivery set, and a restart of the alignment re-times to the later qualified path. In host-assisted mode a
forced path leaves a MERGED set at once, and nothing else moves without a decision, by the model's reading of R435 (log entry
190). -/
def Obligations.ApsAndMergeCommandsAreTaken : Prop :=
  (∀ (q : Req) (s : State),
      let p := q.payload
      let g := u32 p 0
      let d := cctrAdd (pgCtr g 4) 1 (taken q s.dev)
      Served 0x0401 q s → g ≤ 511 →
      (∀ k c, (k, c) ∈ [(1, Instr.apsLockout q), (2, Instr.apsForcedProtection q), (3, Instr.apsForcedWorking q),
          (4, Instr.apsManualProtection q), (5, Instr.apsManualWorking q), (6, Instr.apsExercise q)] →
        hasPg s.dev g = true → u8 p 4 = k →
        Replies c 0x0401 q s success (refresh (evalPg (pg d g) g 0 (modPg g (fun p => { p with cmds := addCmd k p.cmds }) d)))) ∧
      (∀ x, hasPg s.dev g = true → u8 p 4 = 0 →
        x = (if following d || (pg d g).raised % 2 != 0 then { pg d g with cmds := 0 }
          else holdSel (pgRec d g) d { pg d g with cmds := 0 }) →
        Replies (.apsClear q) 0x0401 q s success (refresh
          (evalPg (pg d g) g (if x.wtr && !(pg d g).wtr then 3 else 0) (modPg g (fun _ => x) d)))) ∧
      (hasPg s.dev g = false → u8 p 4 = 0 →
        Replies (.apsClear q) 0x0401 q s { st := 4, pay := be 2 0 } (refresh (taken q s.dev)))) ∧
  (∀ (q : Req) (s : State),
      let p := q.payload
      let g := u32 p 0
      let d := taken q s.dev
      Served 0x0402 q s → g ≤ 255 → hasMg s.dev g = true →
      (assisted d 3 g = false →
        (u8 p 4 = 0 → Replies (.mergeAutomatic q) 0x0402 q s success (refresh (stepMg g (modMg g (fun m => { m with cmd := 0 }) d)))) ∧
        (u8 p 4 = 1 → (mg s.dev g).qual % 2 = 1 →
          Replies (.mergeForcePathA q) 0x0402 q s success (refresh (single g 0 (modMg g (fun m => { m with cmd := 1 }) d)))) ∧
        (u8 p 4 = 2 → (mg s.dev g).qual / 2 % 2 = 1 →
          Replies (.mergeForcePathB q) 0x0402 q s success (refresh (single g 1 (modMg g (fun m => { m with cmd := 2 }) d)))) ∧
        (∀ x, u8 p 4 = 3 → laterPath (mg s.dev g) = some x →
          Replies (.mergeRestartAlignment q) 0x0402 q s success (refresh (retime g x d)))) ∧
      (assisted d 3 g = true →
        (u8 p 4 = 0 → Replies (.mergeAutomatic q) 0x0402 q s success (refresh (modMg g (fun m => { m with cmd := 0 }) d))) ∧
        (u8 p 4 = 1 → (mg s.dev g).qual % 2 = 1 → Replies (.mergeForcePathA q) 0x0402 q s success (refresh (
          let x := modMg g (fun m => { m with cmd := 1 }) d
          if (mg d g).st = 2 then setMg g 1 0 1 (dueOn (mg d g) 0) false x else x))) ∧
        (u8 p 4 = 2 → (mg s.dev g).qual / 2 % 2 = 1 → Replies (.mergeForcePathB q) 0x0402 q s success (refresh (
          let x := modMg g (fun m => { m with cmd := 2 }) d
          if (mg d g).st = 2 then setMg g 1 1 2 (dueOn (mg d g) 1) false x else x))) ∧
        (u8 p 4 = 3 → Replies (.mergeRestartAlignment q) 0x0402 q s success (refresh d))) ∧
      (u8 p 4 = 1 → (mg s.dev g).qual % 2 = 0 →
        Replies (.mergeForcePathA q) 0x0402 q s { st := 4, pay := be 2 4 } (refresh d)))

/-! ### Host-assisted functions -/

/-- MATE_SWITCH with its KEY on a pair IN_STEP sends HANDOVER from the active, or asks for it from the standby (R462); outside
IN_STEP it is NOT_SUPPORTED. MATE_JOIN writes the pairing flag and enters or leaves the pair, or joins anew (R442, R452).
ASSIST_DECIDE on the newest report of a host-assisted instance that is not frozen closes the report and applies the decision
(R169); an older report is STALE and an instance in hardware mode WRONG_MODE. ASSIST_RESUME resumes the frozen instances that
it names (R170). -/
def Obligations.MateCommandsAndDecisionsTakeEffect : Prop :=
  (∀ (q : Req) (s : State),
      let p := q.payload
      let d := taken q s.dev
      let w := wakeNvm d
      (Served 0x0502 q s → u16 p 0 = 0xA55A → inStep s.dev = true → s.dev.mate.active = true → s.dev.mate.handover = none →
        Replies (.mateSwitch q) 0x0502 q s success (refresh (sendControl 1 0 0 0
          (modMate (fun m => { m with handover := some (1, 1) }) d)))) ∧
      (Served 0x0502 q s → u16 p 0 = 0xA55A → inStep s.dev = true → s.dev.mate.active = false →
        Replies (.mateSwitch q) 0x0502 q s success (refresh (sendControl 4 0 0 0 d))) ∧
      (Served 0x0502 q s → u16 p 0 = 0xA55A → inStep s.dev = false →
        Replies (.mateSwitch q) 0x0502 q s { st := 0x10 } (refresh d)) ∧
      (Served 0x0503 q s → u16 p 0 = 0xA55A → u8 p 2 = 0 → nvmWritable w = true →
        Replies (.mateJoinClear q) 0x0503 q s success (refresh (unpair (jappend jPairing 0 (be 1 0) w)))) ∧
      (Served 0x0503 q s → u16 p 0 = 0xA55A → u8 p 2 = 1 → nvmWritable w = true → (jappend jPairing 0 (be 1 1) w).mate.st = 0 →
        Replies (.mateJoinSet q) 0x0503 q s success (refresh (mateStart (jappend jPairing 0 (be 1 1) w)))) ∧
      (Served 0x0503 q s → u16 p 0 = 0xA55A → u8 p 2 = 2 → following s.dev = true →
        Replies (.mateJoinRejoin q) 0x0503 q s success (refresh (enterJoining d)))) ∧
  (∀ (q : Req) (s : State),
      let p := q.payload
      let d := taken q s.dev
      let fn := u8 p 4
      let i := u32 p 8
      (∀ r, Served 0x0601 q s → 1 ≤ fn → fn ≤ 9 → i < instances fn → tfind s.dev.asst.newest (akey fn i) = some r →
        r.id = u32 p 0 → assisted s.dev fn i = true → isFrozen s.dev fn i = false → decisionBad d fn i (p.drop 12) = none →
        Replies (.assistDecide q) 0x0601 q s (success (be 6 (now s.dev)))
          (refresh (applyDecision fn i (p.drop 12) (closeReport fn i d)))) ∧
      (∀ r, Served 0x0601 q s → 1 ≤ fn → fn ≤ 9 → i < instances fn → tfind s.dev.asst.newest (akey fn i) = some r →
        r.id ≠ u32 p 0 → Replies (.assistDecide q) 0x0601 q s { st := 0xF } (refresh d)) ∧
      (∀ r, Served 0x0601 q s → 1 ≤ fn → fn ≤ 9 → i < instances fn → tfind s.dev.asst.newest (akey fn i) = some r →
        r.id = u32 p 0 → assisted s.dev fn i = false → Replies (.assistDecide q) 0x0601 q s { st := 0xE } (refresh d)) ∧
      (∀ l, Served 0x0602 q s → 1 ≤ u8 p 0 → u8 p 0 ≤ 9 → u32 p 4 < instances (u8 p 0) →
        l = (s.dev.asst.frozen.filter fun k => k / 2 ^ 24 == u8 p 0 && k % 2 ^ 24 == u32 p 4) →
        Replies (.assistResume q) 0x0602 q s (success (be 4 l.length)) (refresh (each l resume d))) ∧
      (Served 0x0602 q s → u8 p 0 = 0 → u32 p 4 = 0xFFFFFFFF →
        Replies (.assistResume q) 0x0602 q s (success (be 4 s.dev.asst.frozen.length)) (refresh (each s.dev.asst.frozen resume d))))

namespace Sys2Proof.Spec

open Sys2Proof.Machine

/-- The mailbox commands: OPCODE, request, and the payloads of the row among those of its OPCODE (R151, R179). -/
def mailbox : Instr → Option (Nat × Req × (Bytes → Bool))
  | .bootInfo q => some (0x0001, q, anyAction)
  | .recoveryEnter q => some (0x0002, q, anyAction)
  | .jtagUnlock q => some (0x0003, q, anyAction)
  | .updBegin q => some (0x0010, q, anyAction)
  | .updWrite q => some (0x0011, q, anyAction)
  | .updCommit q => some (0x0012, q, anyAction)
  | .updAbort q => some (0x0013, q, anyAction)
  | .updConfirm q => some (0x0014, q, anyAction)
  | .updStatus q => some (0x0015, q, anyAction)
  | .objSet q => some (0x0101, q, anyAction)
  | .objDel q => some (0x0102, q, anyAction)
  | .objGet q => some (0x0103, q, anyAction)
  | .commit q => some (0x0104, q, anyAction)
  | .commitCancel q => some (0x0105, q, anyAction)
  | .shadowRevert q => some (0x0106, q, anyAction)
  | .commitStatus q => some (0x0107, q, anyAction)
  | .funcReinit q => some (0x0108, q, anyAction)
  | .store q => some (0x0109, q, anyAction)
  | .sliceLoad q => some (0x010A, q, anyAction)
  | .resizePropose q => some (0x010B, q, anyAction)
  | .inventory q => some (0x0201, q, anyAction)
  | .health q => some (0x0202, q, anyAction)
  | .pmRead q => some (0x0203, q, anyAction)
  | .pmClear q => some (0x0204, q, anyAction)
  | .lastGaspRead q => some (0x0205, q, anyAction)
  | .lastGaspAck q => some (0x0206, q, anyAction)
  | .evtLogRead q => some (0x0207, q, anyAction)
  | .refCfg q => some (0x0301, q, anyAction)
  | .dpllCfg q => some (0x0302, q, anyAction)
  | .dpllClear q => some (0x0303, q, action 4 0 8)
  | .dpllForce q => some (0x0303, q, action 4 1 8)
  | .dpllManual q => some (0x0303, q, action 4 2 8)
  | .dpllLockout q => some (0x0303, q, action 4 3 8)
  | .dpllUnlock q => some (0x0303, q, action 4 4 8)
  | .dpllHoldover q => some (0x0303, q, action 4 5 8)
  | .dpllFreerun q => some (0x0303, q, action 4 6 8)
  | .dpllRelearn q => some (0x0303, q, action 4 7 8)
  | .dpllTemp q => some (0x0303, q, action 4 8 8)
  | .align q => some (0x0304, q, anyAction)
  | .holdoverLoad q => some (0x0305, q, anyAction)
  | .timeStatus q => some (0x0306, q, anyAction)
  | .apsClear q => some (0x0401, q, action 4 0 6)
  | .apsLockout q => some (0x0401, q, action 4 1 6)
  | .apsForcedProtection q => some (0x0401, q, action 4 2 6)
  | .apsForcedWorking q => some (0x0401, q, action 4 3 6)
  | .apsManualProtection q => some (0x0401, q, action 4 4 6)
  | .apsManualWorking q => some (0x0401, q, action 4 5 6)
  | .apsExercise q => some (0x0401, q, action 4 6 6)
  | .mergeAutomatic q => some (0x0402, q, action 4 0 3)
  | .mergeForcePathA q => some (0x0402, q, action 4 1 3)
  | .mergeForcePathB q => some (0x0402, q, action 4 2 3)
  | .mergeRestartAlignment q => some (0x0402, q, action 4 3 3)
  | .protStatus q => some (0x0403, q, anyAction)
  | .mateStatus q => some (0x0501, q, anyAction)
  | .mateSwitch q => some (0x0502, q, anyAction)
  | .mateJoinClear q => some (0x0503, q, action 2 0 2)
  | .mateJoinSet q => some (0x0503, q, action 2 1 2)
  | .mateJoinRejoin q => some (0x0503, q, action 2 2 2)
  | .mateDigest q => some (0x0504, q, anyAction)
  | .assistDecide q => some (0x0601, q, anyAction)
  | .assistResume q => some (0x0602, q, anyAction)
  | .assistList q => some (0x0603, q, anyAction)
  | _ => none

/-- A well-formed request stands at the head of its ring, and its row is that of the command; the device runs. -/
structure Waits (c : Instr) (op : Nat) (q : Req) (s : State) : Prop where
  row : ∃ sel, mailbox c = some (op, q, sel) ∧ sel q.payload = true
  ok : isReq q = true
  on : On s
  head : atHead op q s.sys = true

/-- The request stands in a ring of its opcode, and its CHANNEL field names it (R151). -/
def onItsChannel (op : Nat) (q : Req) : Bool :=
  (if op / 256 = 6 then q.ch == 6 || q.ch == 7 else q.ch == op / 256) && q.chField == q.ch

end Sys2Proof.Spec

open Sys2Proof Sys2Proof.Machine Sys2Proof.Spec

/-! ### Rings, refusals, retries and the mate -/

/-- A response takes the slot at RSP_TAIL mod 64 of its ring: its 256 bytes are the header and the payload of R152, every
other byte of memory reads as before, RSP_TAIL and MBX_SERVED advance and the interrupt source 1 + c is raised (R118, R151 to
R153). Taking the request and answering it leaves every power domain, container, port, counter and timing state as the command
left it: a response changes registers, the tag log, the interrupt state and, on an active with a mate, the statuses that it
compares (R453), unless the standby's RESULT shows another STATUS: then the pair joins anew. What the machine refuses before a
command's own checks, in this order: a request out of its channel WRONG_CHANNEL; an opcode that the ROM does not serve
UNAVAILABLE (R160); a LENGTH that the opcode does not take BAD_LENGTH; on a standby a command marked M STANDBY (R161); outside
channel 2, a command marked M FROZEN in the FATAL safe state and POWER_FAIL after PFW_N (R182). STORE then posts
STORE_REFUSED. An opcode that R179 does not list is answered BAD_OPCODE, whatever row takes it (R159; log entry 95). Otherwise
nothing happens beyond the response. The order is the model's choice (log entries 132 and 133). -/
def Obligations.ResponsesAndRefusals : Prop :=
  (∀ (op : Nat) (q : Req) (a : Ans) (s : State) (d : Dev) (m : Memory), Memory.wf m = true → q.ch < 8 → a.pay.length ≤ 240 →
      let n := noteResult op (now s.dev) q a.st (logTag q.ch {
        tag := q.tag, opcode := op, crc := crc32 q.payload, status := a.st, payload := a.pay, mirrored := false, epoch := now s.dev } d)
      let t := rf n (.mbxRspTail q.ch) 6 0
      let x := answered op q a s { dev := d, mem := m }
      rdBytes x.mem (0x2204000 + q.ch * 0x8000 + t % 64 * 256) 16 =
        be 2 op ++ be 2 q.tag.toNat ++ be 2 a.pay.length ++ be 2 0x8000 ++ be 2 a.st ++ be 1 q.ch ++ [0] ++ be 4 (now s.dev % 2 ^ 32) ∧
      rdBytes x.mem (0x2204000 + q.ch * 0x8000 + t % 64 * 256 + 16) a.pay.length = a.pay ∧
      (∀ b, b < 0x2204000 + q.ch * 0x8000 + t % 64 * 256 ∨ 0x2204000 + q.ch * 0x8000 + t % 64 * 256 + 256 ≤ b → rd x.mem b = rd m b) ∧
      x.dev = raiseInt (1 + q.ch) (wrapCtr (.mbxServed q.ch) 31 0 1 (setRf (.mbxRspTail q.ch) 6 0 ((t + 1) % 128) n))) ∧
  (∀ (op : Nat) (q : Req) (a : Ans) (s : State) (x : Sys),
      let y := (answered op q a s x).dev
      let mine := (now s.dev, q.ch % 8, q.tag.toNat, a.st)
      ((∀ r, x.dev.mate.results.find? (sameResult mine) = some r → r.2.2.2 = a.st) →
        y = { x.dev with
          regs := y.regs
          mbx := { x.dev.mbx with logs := y.mbx.logs }
          host := { x.dev.host with pf0 := y.host.pf0, pf1 := y.host.pf1 }
          mate := { x.dev.mate with statuses := y.mate.statuses, results := y.mate.results } } ∧
        (∀ r, r ≠ .mbxRspTail q.ch → r ≠ .mbxServed q.ch → r ≠ .glbIntStat → reg y r = reg x.dev r)) ∧
      (∀ r, opMirrored op = true → x.dev.mate.active = true → 3 ≤ x.dev.mate.st → x.dev.mate.st ≤ 4 →
        x.dev.mate.results.find? (sameResult mine) = some r → r.2.2.2 ≠ a.st → y.mate.st = 2)) ∧
  ((∀ (c : Instr) (op here : Nat) (q : Req) (sel : Bytes → Bool) (s : State), mailbox c = some (op, q, sel) → isReq q = true → On s →
      atHead here q s.sys = true → listed here q = false → logged s.dev q = none →
      Replies c here q s { st := 1 } (taken q s.dev)) ∧
    (∀ (c : Instr) (op : Nat) (q : Req) (s : State), Waits c op q s → logged s.dev q = none →
      let d := taken q s.dev
      let len := (opLength op).1 ≤ q.payload.length ∧ q.payload.length ≤ (opLength op).2
      let served := s.dev.boot.thino = true ∨ romServes d op = true
      let m := opMirrored op = true
      let standby := s.dev.mate.st ≠ 0 ∧ s.dev.mate.active = false
      (onItsChannel op q = false → Replies c op q s { st := 2 } d) ∧
      (onItsChannel op q = true → ¬served → Replies c op q s { st := 0x12 } d) ∧
      (onItsChannel op q = true → served → ¬len → Replies c op q s { st := 3 } d) ∧
      (onItsChannel op q = true → served → len → m → standby → Replies c op q s { st := 0xD } d) ∧
      (onItsChannel op q = true → served → len → m → ¬standby → q.ch ≠ 2 → isFatal s.dev = true →
        Replies c op q s { st := 0xA } (if op = 0x0109 then evtNvm 0x0C02 0 (be 2 0xA) d else d)) ∧
      (onItsChannel op q = true → served → len → m → ¬standby → q.ch ≠ 2 → isFatal s.dev = false → isPfwFrozen s.dev = true →
        Replies c op q s { st := 9 } (if op = 0x0109 then evtNvm 0x0C02 0 (be 2 9) d else d))))

/-- A request whose tag is logged is not executed: the same command is answered from the log with RETRY_HIT, another command
with TAG_CONFLICT (R104, R157). A request with TAG 0 is never looked up. Each response is logged under its tag in its channel,
at the front of the newest 64, unless its tag is 0 or its status is one after which a retry executes afresh: RATE_LIMIT,
POWER_FAIL, FROZEN, ABORTED, STANDBY and UNAVAILABLE (R104, R157); and TAG_CONFLICT, by the model's reading, leaves the entry
it met. On an active whose standby is IN_STEP, a command marked M that passes its checks is forwarded and waits for X, the
first boundary at least 200 µs later; it is not answered yet (R161). At X it executes and is answered with MIRRORED and X,
first come first. -/
def Obligations.TagsAreLoggedAndMirroredCommandsWait : Prop :=
  ((∀ (c : Instr) (op : Nat) (q : Req) (s : State) (e : TagEnt), Waits c op q s → logged s.dev q = some e →
      (e.opcode = op ∧ e.crc = crc32 q.payload →
        EndsSys c s (writeRsp {
          opcode := op, tag := q.tag, len := e.payload.length, resp := true, hit := true, mirrored := e.mirrored, status := e.status
          ch := q.ch, epochLo := e.epoch % 2 ^ 32 } e.payload { dev := taken q s.dev, mem := s.mem })) ∧
      (¬(e.opcode = op ∧ e.crc = crc32 q.payload) →
        EndsSys c s (writeRsp {
          opcode := op, tag := q.tag, len := 0, resp := true, hit := false, mirrored := false, status := 0xC
          ch := q.ch, epochLo := now s.dev % 2 ^ 32 } [] { dev := taken q s.dev, mem := s.mem }))) ∧
    (∀ (q : Req) (d : Dev), q.tag = 0 → logged d q = none)) ∧
  (∀ (c : Nat) (e : TagEnt) (d : Dev) (q : Req), q.ch = c → c < 8 →
      ((e.tag = 0 ∨ e.status ∈ [6, 9, 0xA, 0xB, 0xC, 0xD, 0x12]) → logTag c e d = d) ∧
      (e.tag ≠ 0 → e.status ∉ [6, 9, 0xA, 0xB, 0xC, 0xD, 0x12] →
        tget [] (logTag c e d).mbx.logs c = (e :: tget [] d.mbx.logs c).take 64 ∧
        (q.tag = e.tag → logged (logTag c e d) q = some e) ∧
        (∀ k, k ≠ c → tfind (logTag c e d).mbx.logs k = tfind d.mbx.logs k))) ∧
  ((∀ (c : Instr) (op : Nat) (q : Req) (s : State), Waits c op q s → logged s.dev q = none →
      headerRefusal s.dev op q = none → opMirrored op = true → s.dev.mate.active = true → inStep s.dev = true →
      let x := if q.ns ≤ 800000 then now s.dev + 1 else now s.dev + 2
      Ends c s (sendCommand x q.ch op q.tag q.payload
        { taken q s.dev with mbx := { (taken q s.dev).mbx with mir := s.dev.mbx.mir ++ [{ opcode := op, req := q, x := x }] } })) ∧
    (∀ (s : State) (m : MirItem), On s → s.dev.boot.thino = true → (s.dev.mbx.mir.find? fun m => decide (m.x ≤ now s.dev)) = some m →
      (m.own = true ∨ (s.dev.mate.st ≠ 2 ∧ s.dev.mate.joinAt = none)) → logged s.dev m.req = none →
      (m.own = true → freezeRefusal s.dev m.opcode m.req = none) →
      stalls m.opcode { x := m.x, mirrored := m.ahead } m.req s.sys = false →
      EndsSys .mirroredExec s (execute m.opcode { x := m.x, mirrored := m.ahead } m.own m.req
        { dev := { s.dev with mbx := { s.dev.mbx with mir := s.dev.mbx.mir.erase m } }, mem := s.mem })) ∧
    (∀ s : State, On s → (∀ m ∈ s.dev.mbx.mir, now s.dev < m.x) → Machine.exec .mirroredExec s = .next s))

namespace Sys2Proof.Spec

open Sys2Proof.Machine

/-- A dword write of a register that exists, over a path that works, breaks no rule of R590. -/
structure Grants (q : Requester) (r : Reg) (s : State) : Prop where
  on : On s
  path : pathUp s.dev q = true
  valid : regValid r = true
  free : refusalOf s.dev q (.named r) 4 true true = none

end Sys2Proof.Spec

open Sys2Proof Sys2Proof.Machine Sys2Proof.Spec

/-! ### Registers -/

/-- A register holds what is written and every other keeps its value, after reset the values of the tables; and a write under
the access types of R127 alone loads the bits of RW and CTR fields, clears the bits of W1C fields that are written 1, and
leaves every other bit. An access that breaks a rule of R590 does nothing but log itself: the cause in GLB_ACCERR, the offset,
requester and direction in GLB_ACCERR_ADDR, and one ACCESS record per cause and epoch, the rest counted (R132). -/
def Obligations.RegistersHoldWhatIsWritten : Prop :=
  ((∀ (r x : Reg) (w : Word) (d : Dev), reg (setReg r w d) x = if x = r then w else reg d x) ∧
    (∀ (r : Reg) (old w : Word) (i : Nat), i < 32 →
      (typedValue r old w).getLsbD i =
        if (regMask r fun t => t == .w1c).getLsbD i && w.getLsbD i then false
        else if (regMask r fun t => t == .rw || t == .ctr).getLsbD i then w.getLsbD i else old.getLsbD i)) ∧
  (∀ (q : Requester) (t : RegTarget) (size : Nat) (lo hi : Word) (s : State) (b : Nat) (v : Word), On s → pathUp s.dev q = true →
      size ≠ 8 → refusalOf s.dev q t size true true = some (b, v) →
      let o := match t with
        | .offset o => o
        | .named r => regOffset r
      let d := setReg .glbAccerrAddr (BitVec.ofNat 32 (2 ^ 28 + reqNo q * 2 ^ 26 + o % 2 ^ 26)) (setRb .glbAccerr b true s.dev)
      (s.dev.err.accSeen.testBit b = true → Ends (.registerWrite q t size lo hi) s (satCtr .errAccCnt 31 0 1 d)) ∧
      (s.dev.err.accSeen.testBit b = false → Ends (.registerWrite q t size lo hi) s (raiseErr 0 0x0001 0 0x0001 b (o % 65536)
        { d with err := { s.dev.err with accSeen := nputBit s.dev.err.accSeen b true } })))

/-! ### Commands with a register of their own -/

/-- A doorbell moves REQ_TAIL; one that would lead by more than 64 sets OVERRUN, one that would move it backwards sets DB_ERR,
and neither moves it (R154). A channel reset with its KEY zeroes the four indices, and commands in execution write no response
any more; without the KEY it only takes OWNER and logs the access (R156). With its KEY, GLB_RST_CMD.WARM starts a warm reset
with cause bit 3, after a switch-over where the device is the active of a pair IN_STEP (R99 to R101); PWR_CYCLE drives
PWR_CYCLE_REQ_N and takes precedence (R106, R143); GLB_CPU_RESTART.GO restarts the control processor and clears the BULK
window (R103, R181). Another KEY logs the access. -/
def Obligations.DoorbellsResetsAndTheirKeys : Prop :=
  (∀ (q : Requester) (c : Nat) (s : State), c < 8 →
      let d := s.dev
      (∀ tail, Grants q (.mbxDb c) s → tail < 128 →
        let lead := (tail + 128 - rf d (.mbxReqHead c) 6 0) % 128
        (64 < lead → Ends (.mbxDoorbell q c tail) s (setRb (.mbxStat c) 4 true d)) ∧
        (lead ≤ 64 → lead < reqUsed d c → Ends (.mbxDoorbell q c tail) s (setRb (.mbxStat c) 3 true d)) ∧
        (lead ≤ 64 → reqUsed d c ≤ lead → Ends (.mbxDoorbell q c tail) s (setRf (.mbxDb c) 6 0 tail d))) ∧
      (∀ key spi, Grants q (.mbxCtl c) s → key < 65536 →
        (key = 0xA55A → Ends (.mbxChannelReset q c key spi) s (muteChannel c (setRf (.mbxDb c) 6 0 0 (setRf (.mbxReqHead c) 6 0 0
          (setRf (.mbxRspTail c) 6 0 0 (setRf (.mbxRspHead c) 6 0 0 (setRb (.mbxCtl c) 1 spi d))))))) ∧
        (key ≠ 0xA55A → Ends (.mbxChannelReset q c key spi) s
          (accErr accKey q true (0x10014 + 0x20 * c) (setRb (.mbxCtl c) 1 spi d))))) ∧
  (∀ (q : Requester) (s : State) (key : Nat), key < 65536 →
      (Grants q .glbRstCmd s → key = 0xA55A → warmWaits s.dev = false →
        (¬(inStep s.dev = true ∧ s.dev.mate.active = true) → EndsSys (.glbRstWarm q key) s (askWarm (some 3) s.sys)) ∧
        (inStep s.dev = true → s.dev.mate.active = true → s.dev.mate.handover = none →
          Ends (.glbRstWarm q key) s (modMate (fun m => { m with thenReset := some 3 })
            (sendControl 1 0 0 0 (modMate (fun m => { m with handover := some (7, 1) }) s.dev))))) ∧
      (∀ warm, Grants q .glbRstCmd s → key = 0xA55A →
        Ends (.glbRstPwrCycle q key warm) s (enterFatal { s.dev with pin := { s.dev.pin with pwrCycleReq := true } })) ∧
      (Grants q .glbCpuRestart s → key = 0xA55A → s.dev.boot.cpuRestart = none → domReady s.dev 1 = true →
        EndsSys (.glbCpuRestartGo q key) s { dev := cpuRestart 6 s.dev, mem := clearRange s.mem 0x2400000 0x40000 }) ∧
      (Grants q .glbRstCmd s → key ≠ 0xA55A →
        Ends (.glbRstWarm q key) s (accErr accKey q true 0x18 s.dev) ∧
        ∀ warm, Ends (.glbRstPwrCycle q key warm) s (accErr accKey q true 0x18 s.dev)) ∧
      (Grants q .glbCpuRestart s → key ≠ 0xA55A → Ends (.glbCpuRestartGo q key) s (accErr accKey q true 0x1C s.dev)))

/-- PWR_CAP takes its value, clamped to 2,000 with RANGE, tells a load above it and re-evaluates the deferred wakes (R67,
R132); the host holds and releases the domains of R144; PWR_RAIL_CLR switches a slice rail on again (R79); a 1 in FAULT clears
a latched fault (R80). ERR_INJ with its KEY raises a test record (R146); EVT_CTL.RESET zeroes the two ring indices and clears
ENABLE, EVT_CTL.ENABLE starts the event DMA, and with it the first pass through the ring (R173, R178); PCTR_CLR with its KEY
schedules the clear of the named banks, and changes nothing while one is pending (R127, R525); RELOCK locks an open JTAG
(R562). -/
def Obligations.HostPowerTestAndCounterWrites : Prop :=
  (∀ (q : Requester) (w : Word) (s : State),
      let d := s.dev
      (Grants q .pwrCap s → 2000 ≤ bits w 15 0 →
        let e := setRf .pwrCap 15 0 (bits w 15 0) d
        Ends (.pwrCapWrite q w) s (reevaluate (if bits w 15 0 < load e then
          evtPwr 0x0103 0 (be 2 (bits w 15 0) ++ be 2 (load e)) e else e))) ∧
      (Grants q .pwrCap s → bits w 15 0 < 2000 → Ends (.pwrCapWrite q w) s (accErr accRange q true 0x30000 (writeCap 2000 d))) ∧
      (∀ n, Grants q .pwrHostHold s → n < 24 → (n = 2 ∨ n = 3 ∨ n = 5 ∨ 18 ≤ n) → w = BitVec.twoPow 32 n →
        Ends (.pwrHostHold q w) s (requestWake 3 n (setRb .pwrHostHold n true d))) ∧
      (∀ n, Grants q .pwrHostDrop s → n < 24 → (n = 2 ∨ n = 3 ∨ n = 5 ∨ 18 ≤ n) → w = BitVec.twoPow 32 n →
        Ends (.pwrHostDrop q w) s (markLeaving (setRb .pwrHostHold n false d))) ∧
      (∀ k, Grants q .pwrRailClr s → k < 4 → w = BitVec.twoPow 32 k → d.pwr.ovOff.testBit k = true →
        Ends (.pwrRailClr q w) s (setRail k true { d with pwr := { d.pwr with ovOff := nputBit d.pwr.ovOff k false } })) ∧
      (∀ n cnt, Grants q (.pwrDomStat n) s → n < 24 → cnt < 256 →
        Ends (.domainFaultClear q n cnt) s (setRb (.pwrDomStat n) 4 false
          (modDom n (fun x => { x with latched := false, faults := if x.latched then [] else x.faults })
            (setRf (.pwrDomStat n) 15 8 cnt d))))) ∧
  (∀ (q : Requester) (s : State),
      let d := s.dev
      (∀ key sev, Grants q .errInj s → key = 0xA55A → sev < 4 →
        Ends (.errInjGo q key sev) s (raiseErr sev 0x0008 0 0x0002 sev 0 d)) ∧
      (∀ key sev, Grants q .errInj s → key < 65536 → key ≠ 0xA55A → sev < 8 →
        Ends (.errInjGo q key sev) s (accErr accKey q true 0x60040 d)) ∧
      (∀ e, Grants q .evtCtl s → ∃ x, Ends (.evtCtlReset q e) s x ∧ rb x .evtCtl 0 = false ∧ rf x .evtProd 16 0 = 0 ∧
        rf x .evtCons 16 0 = 0 ∧ x.evt = { d.evt with pass := x.evt.pass } ∧
          ∀ r, r ≠ .evtCtl → r ≠ .evtProd → r ≠ .evtCons → reg x r = reg d r) ∧
      (Grants q .evtCtl s → Ends (.evtEnable q) s (setRb .evtCtl 0 true (if rb d .evtCtl 0 then d
        else { d with evt := { d.evt with pass := rf d .evtProd 16 0 / evtEntries d % 2 } }))) ∧
      (∀ key banks, Grants q .pctrClr s → key = 0xA55A → banks < 128 → d.pctr.clr = 0 → d.pctr.clrGo = false →
        domReady d 4 = true → Ends (.pctrClrGo q key banks) s { d with pctr := { d.pctr with clr := banks, clrGo := true } }) ∧
      (∀ key banks, Grants q .pctrClr s → key = 0xA55A → banks < 128 → d.pctr.clrGo = true → Ends (.pctrClrGo q key banks) s d) ∧
      (Grants q .nvmJtagCtl s → d.nvm.jtagLeft.isSome = true → d.nvm.jtagDebug = false →
        Ends (.nvmJtagRelock q) s (evtNvm 0x0C08 0 (be 1 0 ++ be 1 0) (setRb .glbStat 3 false
          (modNvm (fun m => { m with jtagLeft := none, jtagDebug := false, jtagBscan := false }) d)))))

/-- A write of WIDE_SEL keeps SPACE and INDEX and starts a capture under the next of 16 tickets, and WIDE_CMD.RECAPTURE starts
one of the same selection (R133 to R135). WIDE_CMD.WRITE by PF0 or SPI of a performance counter loads 48 bits of WIDE_WDATA
with the wrap sticky clear and starts a capture (R135, R524); while D4 is not READY it writes nothing and starts the capture;
during a capture, by another requester, or of what is no performance counter, it is refused with ERRC 4 alone. Where a capture
runs, its completion gives the four dwords with ERRC 0 and the TICKET; ERRC 1 where the selection names no value, whose dwords
are the model's free values, or no ERR record; ERRC 2 with all ones where its domain is not READY; and ERRC 3 with zeros and a
logged PRIV where the requester has no privilege, the last as log entry 131 says. Nothing runs: nothing changes. A requester's
bank is its own. SLn_QM_CLR clears the sticky bits of the flow that it names, and of a watermark entry the sticky bits and the
count, its peak becoming the level (R332). PMON_PHASE keeps the phase that is written, a phase above 86,399,000 ms taken as
that and one between seconds rounded down, both with RANGE, and the rotation is due at the next second (R403, R410). Unmasking
a vector of PF0 or PF1 clears its mask bit; where it is pending and the function can send, it is pending no more, and its
message is sent if its source is still 1; else nothing more changes. Unmasking a vector beyond those of the function changes
nothing (R118). -/
def Obligations.WideQueuePhaseAndVectorControls : Prop :=
  (∀ (q : Requester) (s : State),
      let d := s.dev
      let b := bankOf d q
      (∀ w, Grants q .wideSel s →
        Ends (.wideSelWrite q w) s (modBank q (fun b => { b with sel := w &&& 0x7FFFFFFF, writes := (b.writes + 1) % 16, busy := true }) d)) ∧
      (Grants q .wideCmd s → Ends (.wideRecapture q) s (modBank q (fun b => { b with busy := true, cmd := Nat.lor b.cmd 2 }) d)) ∧
      (∀ again, Grants q .wideCmd s → b.busy = false → q = .pf0 ∨ q = .spi → wideSpace b = 3 → (ctrBank (wideIndex b)).isSome = true →
        domReady d 4 = true →
        let v := ((b.wdata.getD 0 0).toNat + (b.wdata.getD 1 0).toNat * 2 ^ 32) % 2 ^ 48
        Ends (.wideWrite q again) s (modBank q (fun b => { b with busy := true, cmd := Nat.lor b.cmd (if again then 3 else 1) })
          { d with pctr := { d.pctr with ctr := tset d.pctr.ctr (wideIndex b) { v := v } } })) ∧
      (∀ again, Grants q .wideCmd s → b.busy = false → q = .pf0 ∨ q = .spi → wideSpace b = 3 → (ctrBank (wideIndex b)).isSome = true →
        domReady d 4 = false →
        Ends (.wideWrite q again) s (modBank q (fun b => { b with busy := true, cmd := Nat.lor b.cmd (if again then 3 else 1) }) d)) ∧
      (∀ again, Grants q .wideCmd s →
        b.busy = true ∨ (q ≠ .pf0 ∧ q ≠ .spi) ∨ wideSpace b ≠ 3 ∨ (ctrBank (wideIndex b)).isNone = true →
        Ends (.wideWrite q again) s (modBank q (fun b => { b with errc := 4 }) d)) ∧
      (On s → b.busy = false → Ends (.wideCaptureDone q) s d) ∧
      (On s → b.busy = true → wideValue d q (wideSpace b) (wideIndex b) = .noRecord →
        Ends (.wideCaptureDone q) s (modBank q (fun b =>
          { b with busy := false, cmd := 0, valid := true, ticket := b.writes, errc := 1, data := [0, 0, 0, 0] }) d)) ∧
      (On s → b.busy = true → wideValue d q (wideSpace b) (wideIndex b) = .noValue →
        ∃ w, w.length = 4 ∧ Ends (.wideCaptureDone q) s (modBank q (fun b =>
          { b with busy := false, cmd := 0, valid := true, ticket := b.writes, errc := 1, data := w })
          { d with time := { d.time with free := d.time.free + 2 } })) ∧
      (On s → b.busy = true → wideValue d q (wideSpace b) (wideIndex b) = .denied →
        Ends (.wideCaptureDone q) s (accErr accPriv q true 0x2000000 (modBank q (fun b =>
          { b with busy := false, cmd := 0, valid := true, ticket := b.writes, errc := 3, data := [0, 0, 0, 0] }) d))) ∧
      (∀ w, On s → b.busy = true → wideValue d q (wideSpace b) (wideIndex b) = .data w →
        Ends (.wideCaptureDone q) s (modBank q (fun b =>
          { b with busy := false, cmd := 0, valid := true, ticket := b.writes, errc := 0, data := w }) d)) ∧
      (On s → b.busy = true → wideValue d q (wideSpace b) (wideIndex b) = .notReady →
        Ends (.wideCaptureDone q) s (modBank q (fun b =>
          { b with busy := false, cmd := 0, valid := true, ticket := b.writes, errc := 2, data := List.replicate 4 0xFFFFFFFF }) d)) ∧
      (∀ k, k ≠ reqNo q → ∀ f, tfind (modBank q f d).host.wide k = tfind d.host.wide k)) ∧
  (∀ (q : Requester) (s : State),
      let d := s.dev
      (∀ n i, Grants q (.qmClr n) s → n < 4 → i < 65536 →
        Ends (.qmClear q n 0 i) s (modPsl n (fun x => { x with flowq := tmod {} x.flowq (n * 65536 + i) fun y =>
          { y with overrun := false, rewindErr := false, dupReset := false } }) d)) ∧
      (∀ n sp i, Grants q (.qmClr n) s → n < 4 → 1 ≤ sp → sp < 4 → i < 65536 →
        Ends (.qmClear q n sp i) s (modWm n sp i (fun x =>
          { x with sticky := false, staleSticky := false, count := 0, peak := wmLevel d n sp i }) d)) ∧
      (∀ w, Grants q .pmonPhase s → bits w 26 0 ≤ 86399000 → bits w 26 0 % 1000 = 0 →
        Ends (.pmonPhaseWrite q w) s (modPm (fun m => { m with phaseDue := true }) (setRf .pmonPhase 26 0 (bits w 26 0) d))) ∧
      (∀ w, Grants q .pmonPhase s → bits w 26 0 ≤ 86399000 → bits w 26 0 % 1000 ≠ 0 →
        Ends (.pmonPhaseWrite q w) s (accErr accRange q true (regOffset .pmonPhase) (modPm (fun m => { m with phaseDue := true })
          (setRf .pmonPhase 26 0 (bits w 26 0 / 1000 * 1000) d)))) ∧
      (∀ w, Grants q .pmonPhase s → 86399000 < bits w 26 0 →
        Ends (.pmonPhaseWrite q w) s (accErr accRange q true (regOffset .pmonPhase) (modPm (fun m => { m with phaseDue := true })
          (setRf .pmonPhase 26 0 86399000 d)))) ∧
      (∀ pf1 k, On s → k < (if pf1 then 2 else 16) →
        let m := msixOf d pf1
        let mask := m.mask &&& ~~~ BitVec.twoPow 16 k
        let pend := m.pend &&& ~~~ BitVec.twoPow 16 k
        (m.pend.getLsbD k = true → msixRuns d pf1 = true → rb d .glbIntStat (vectorSrc pf1 k) = true →
          Ends (.msixUnmask pf1 k) s (setMsix pf1 { m with mask := mask, pend := pend, sent := tmod 0 m.sent k (· + 1) } d)) ∧
        (m.pend.getLsbD k = true → msixRuns d pf1 = true → rb d .glbIntStat (vectorSrc pf1 k) = false →
          Ends (.msixUnmask pf1 k) s (setMsix pf1 { m with mask := mask, pend := pend } d)) ∧
        (m.pend.getLsbD k = false ∨ msixRuns d pf1 = false →
          Ends (.msixUnmask pf1 k) s (setMsix pf1 { m with mask := mask } d))) ∧
      (∀ k, On s → 2 ≤ k → Ends (.msixUnmask true k) s d))

/-- REGISTER_WRITE of a register under its access type alone stores the typed value, here shown for registers of each kind; a
write of a ring slot or of the BULK window stores its four bytes and no other; a write where no register stands is ignored
(R124, R127, R151, R181). REGISTER_READ returns the dword that stands at its place. A SPI or I²C transaction of one dword is
the write or read of that dword, with the status of R120 kept for SPI_STATUS: 0 where nothing was refused (R120, R121). I²C
answers to the address 0x5C + STRAP_I2CA, and to no other (R54). -/
def Obligations.RegisterAccessesTakePlace : Prop :=
  (∀ (q : Requester) (s : State) (lo hi : Word),
      (∀ r, Grants q r s → r ∈ [Reg.glbScratch, .glbRstCause, .glbIntStat, .glbIntEn, .glbIntMgmtEn, .glbErrCtl, .pwrRailoff, .errLost,
          .mbxRspHead 0, .mbxServed 7, .evtCons, .evtLost, .nvmErr, .nvmCorrCnt, .pctrMask, .pctrCons, .pctrWrapSum,
          .cliPstat 0 0, .lineStat 3, .lineOhxSlip 1, .xcCstat 1023, .timRefStat 23] →
        Ends (.registerWrite q (.named r) 4 lo hi) s (setReg r (typedValue r (reg s.dev r) lo) s.dev)) ∧
      (∀ o, On s → pathUp s.dev q = true → o % 4 = 0 → (0x2200000 ≤ o ∧ o < 0x2240000) ∨ (0x2400000 ≤ o ∧ o < 0x2440000) →
        refusalOf s.dev q (.offset o) 4 true true = none →
        EndsSys (.registerWrite q (.offset o) 4 lo hi) s { dev := s.dev, mem := wrBytes s.mem o (wordLe lo) }) ∧
      (∀ o, On s → pathUp s.dev q = true → o % 4 = 0 → 0x48 ≤ o → o < 0x80 → refusalOf s.dev q (.offset o) 4 true true = none →
        Ends (.registerWrite q (.offset o) 4 lo hi) s s.dev) ∧
      (∀ r, On s → pathUp s.dev q = true → regValid r = true → refusalOf s.dev q (.named r) 4 false true = none →
        r ≠ .wideSel → r ≠ .wideStat → r ≠ .wideCmd → (∀ i, r ≠ .wideData i ∧ r ≠ .wideWdata i ∧ r ≠ .pwrRegion i) →
        Ends (.registerRead q (.named r) 4 true) s
          { s.dev with host := { s.dev.host with answer := tset s.dev.host.answer (reqNo q) (wordLe (readReg s.dev r)) } })) ∧
  (∀ (o : Nat) (s : State) (p : Place), On s → o < 2 ^ 26 → o % 4 = 0 → resolve s.dev (.offset o) = some p → drawsFree p.site = false →
      let a := 0x5C + rf s.dev .glbStrap 3 2
      (∀ w, refusalOf s.dev .spi (.offset o) 4 true true = none →
        let x := writeSite .spi o p w s.sys
        EndsSys (.spiWrite o [w] false) s { x with dev := { x.dev with host := { x.dev.host with spiOut := [], spiStatus := 0 } } }) ∧
      (∀ w, refusalOf s.dev .i2c (.offset o) 4 true true = none →
        EndsSys (.i2cWrite ⟨a, o⟩ [w]) s (writeSite .i2c o p w s.sys)) ∧
      (refusalOf s.dev .spi (.offset o) 4 false true = none →
        Ends (.spiRead o 1 true) s { s.dev with host := { s.dev.host with
          spiOut := 0x5A :: wordLe (readSite .spi p s.sys), spiStatus := 0 } }) ∧
      (refusalOf s.dev .i2c (.offset o) 4 false true = none →
        Ends (.i2cRead ⟨a, o⟩ 1 true) s { s.dev with host := { s.dev.host with
          i2cOut := [leWord (slice (wordLe (readSite .i2c p s.sys)) 0 4)] } }) ∧
      (∀ k ws, k < 128 → k ≠ a → Ends (.i2cWrite ⟨k, o⟩ ws) s s.dev ∧ ∀ n, Ends (.i2cRead ⟨k, o⟩ n true) s s.dev) ∧
      Ends .spiStatus s { s.dev with host := { s.dev.host with spiOut := be 1 s.dev.host.spiStatus } })

/-- PERST_N and the resets of the PCIe functions (R92, R115, R117): a fundamental reset clears both functions and the link,
training starts once PERST_N is high, D4 READY and the link not held by WARM_RST_N; an FLR of PF0 stops its event and dump DMA
and zeroes the ring indices, one of PF1 clears PF1 only; D3hot and a cleared bus mastering pause DMA, and the return sends
what is pending. EVT_HOLDOFF_EXPIRY posts the staged records while the DMA runs and the ring has room, oldest first; with the
DMA stopped the posting stays due, and EVT_POST_ON_ROOM makes it once there is room (R172, R174). -/
def Obligations.ThePcieEndpointAndItsEvents : Prop :=
  (∀ s : State,
      let d := s.dev
      let h := d.host
      Ends .perstNRise s { d with pin := { d.pin with perstN := true } } ∧
      Ends .perstNFall s { d with
        pin := { d.pin with perstN := false }
        host := { h with pf0 := {}, pf1 := {}, training := false, busMaster := false, d3hot := false } } ∧
      (On s → d.pin.perstN = true → domReady d 4 = true → d.pin.warmRstN = true ∨ d.boot.keptPcie = true →
        Ends .pcieLinkTrainingStart s { d with host := { h with training := true, trained := h.trained + 1 } }) ∧
      (On s → d.pin.warmRstN = false → d.boot.keptPcie = false → Ends .pcieLinkTrainingStart s d) ∧
      (On s → domReady d 4 = true → h.training = true →
        Ends .pf0Flr s (setRf .evtProd 16 0 0 (setRf .evtCons 16 0 0 (setRf .pctrProd 8 0 0 (setRf .pctrCons 8 0 0
          (setRb .evtCtl 0 false (setRb .pctrCtl 0 false { d with
            host := { h with pf0 := {}, busMaster := false, d3hot := false }
            pctr := { d.pctr with writing := none } })))))) ∧
        Ends .pf1Flr s { d with host := { h with pf1 := {} } } ∧
        Ends (.pf0D3hotEntry true) s { d with host := { h with d3hot := true } } ∧
        Ends (.pf0D3hotEntry false) s { d with host := { h with busMaster := false } } ∧
        Ends .pf0DmaResume s (each (List.range 16) (sendPending false) { d with host := { h with d3hot := false, busMaster := true } }))) ∧
  (∀ (s : State) (e : EvtRec) (l : List EvtRec), On s → domReady s.dev 4 = true → s.dev.evt.staged = e :: l →
      rf s.dev .evtSize 4 0 ≤ 16 →
      (s.dev.evt.holdoff = true → evtDma s.dev = false →
        Ends .evtHoldoffExpiry s { s.dev with evt := { s.dev.evt with due := true } }) ∧
      (∀ c, ((c = Instr.evtHoldoffExpiry ∧ s.dev.evt.holdoff = true) ∨ (c = Instr.evtPostOnRoom ∧ s.dev.evt.due = true)) →
        evtDma s.dev = true → 0 < evtRoom s.dev →
        let p := rf s.dev .evtProd 16 0
        let n := min (evtRoom s.dev) (l.length + 1)
        ∃ x, Ends c s x ∧ x.evt.staged = (e :: l).drop n ∧ x.evt.due = false ∧ x.evt.lost = false ∧
          rf x .evtProd 16 0 = (p + n) % (2 * evtEntries s.dev) ∧ rb x .glbIntStat 0 = true ∧
          x.evt.log = s.dev.evt.log ∧ x.evt.seq = s.dev.evt.seq))

namespace Sys2Proof.Spec

open Sys2Proof.Machine

/-- The command completes: the device becomes `d`, with what follows at once from its conditions (`refresh`); memories and waiting
commands stay. -/
abbrev Settles (c : Instr) (s : State) (d : Dev) : Prop := Ends c s (refresh d)

/-- The same, with the memories. -/
abbrev SettlesSys (c : Instr) (s : State) (x : Sys) : Prop := EndsSys c s (onDev refresh x)

/-- The same, and a warm reset that waited for a last-gasp write follows where the write has ended (R57, R101). -/
abbrev SettlesThenReset (c : Instr) (s : State) (d : Dev) : Prop := EndsSys c s (afterGasp { dev := refresh d, mem := s.mem })

/-- What a cold reset leaves of a device: its fuses, the levels of its inputs, and MRAM with nothing in progress, in which a last-gasp
write that had not ended leaves no valid record (R86, R100). A device that waits for a power cycle shows FATAL (R106; log entry 127).
-/
def coldDev (d : Dev) (p : PinSt) : Dev :=
  { regs := if p.pwrCycleReq then [(.glbStat, 3)] else [], fuse := d.fuse,
    time := { free := d.time.free, stamps := d.time.stamps }, pin := p
    nvm := nvmReset (if d.pwr.gaspBusy then { d.nvm with gaspNext := none, gasp := none } else d.nvm) }

end Sys2Proof.Spec

open Sys2Proof Sys2Proof.Machine Sys2Proof.Spec

/-! ### Resets and start-up -/

/-- POR_N low and a brownout reset every domain and drop every PSEQ_EN; MRAM, fuses and input levels remain, and only a
brownout clears PWR_CYCLE_REQ_N. The rise of POR_N, or the end of a brownout with POR_N high, latches the straps, drives
PSEQ_EN4 and records its cause; VDD_AON crossing the write guard threshold only sets or lifts the guard (R52, R53, R81, R90,
R91, R99, R100). A warm reset follows WARM_RST_N, the boot watchdog, and the third CPU_WDT restart within 60 s under ESCALATE,
and waits for a last-gasp write; an earlier CPU_WDT restarts the control processor alone. The release of WARM_RST_N ends the
hold; the third warm reset in a row without ROM_START asks for a power cycle (R56, R57, R99, R101 to R103, R106). -/
def Obligations.ResetsAndWatchdogs : Prop :=
  (∀ s : State,
      let d := s.dev
      let low (straps cause : Nat) (p : PinSt) (x : Dev) : Dev := setRb .glbRstCause cause true (setRf .glbStrap 6 0 straps
        { x with pin := { p with porN := true, pseqEn := 0x10 }, boot := { x.boot with rail := 5, waitRom := false } })
      EndsSys .porNFall s { dev := coldDev d { d.pin with porN := false, pseqEn := 0 }, mem := mramOnly s.mem } ∧
      EndsSys .brownout s { dev := coldDev d { d.pin with porN := false, pseqEn := 0, brownout := true, guard := true, pwrCycleReq := false }
                            mem := mramOnly s.mem } ∧
      (∀ straps, straps < 128 → d.pin.porN = false → d.pin.brownout = false →
        EndsSys (.coldStart straps) s { dev := low straps 0 d.pin (coldDev d d.pin), mem := mramOnly s.mem }) ∧
      (∀ straps, straps < 128 → d.pin.brownout = true →
        Ends (.brownoutEnd true straps) s (low straps 1 { d.pin with brownout := false, guard := false } d) ∧
        Ends (.brownoutEnd false straps) s (setRb .glbRstCause 1 true
          { d with pin := { d.pin with brownout := false, guard := false } })) ∧
      (∀ v, Ends (.vddAonWriteGuard v) s { d with pin := { d.pin with guard := v } }) ∧
      (∀ x : Dev, x = coldDev d { d.pin with porN := false, pseqEn := 0 } →
        (∀ r, reg x r = if r = .glbStat ∧ d.pin.pwrCycleReq = true then 3 else regReset d.fuse.ib r) ∧
          (∀ n, domReady x n = decide (n = 0)) ∧ x.nvm.jrnl = d.nvm.jrnl ∧
        x.nvm.gasp = (if d.pwr.gaspBusy then none else d.nvm.gasp) ∧ x.nvm.active = d.nvm.active ∧ x.fuse = d.fuse) ∧
      (∀ a, Memory.wf s.mem = true → rd (mramOnly s.mem) a = if imageBase ≤ a then rd s.mem a else 0)) ∧
  (∀ s : State,
      let d := s.dev
      let pinLow : Dev := { d with pin := { d.pin with warmRstN := false } }
      let seen := (now d :: (d.boot.wdtAt.filter fun e => now d < e + 60000)).take 3
      let bitten : Dev := { d with boot := { d.boot with wdtAt := seen } }
      Ends .warmRstNRise s { d with pin := { d.pin with warmRstN := true }, boot := { d.boot with warmHeld := false } } ∧
      (On s → d.pwr.gaspBusy = false → SettlesSys .warmRstPin s (warmReset (some 2) { dev := pinLow, mem := s.mem })) ∧
      (On s → d.pwr.gaspBusy = true → Settles .warmRstPin s { pinLow with pwr := { d.pwr with warmDeferred := some 2 } }) ∧
      (On s → d.pwr.gaspBusy = false → d.boot.bootWdt = true → SettlesSys .bootWdtExpiry s (warmReset (some 4) s.sys)) ∧
      (On s → d.pwr.gaspBusy = false → d.boot.thino = true → seen.length = 3 → rb d .glbRstCtl 2 = true →
        SettlesSys .cpuWdtExpiry s (warmReset (some 5) { dev := bitten, mem := s.mem })) ∧
      (On s → d.boot.thino = true → domReady d 1 = true → (seen.length ≠ 3 ∨ rb d .glbRstCtl 2 = false) →
        SettlesSys .cpuWdtExpiry s { dev := cpuRestart 7 bitten, mem := clearRange s.mem bulkBase bulkSize }) ∧
      (On s → d.boot.waitRom = true → d.boot.warmHeld = false → d.boot.noRom < 2 →
        Ends .romStartTimeout s { d with boot := { d.boot with noRom := d.boot.noRom + 1, waitRom := false } }) ∧
      (On s → d.boot.waitRom = true → d.boot.warmHeld = false → 2 ≤ d.boot.noRom →
        Ends .romStartTimeout s (enterFatal { d with
          pin := { d.pin with pwrCycleReq := true }
          boot := { d.boot with noRom := d.boot.noRom + 1, waitRom := false } })))

/-- What a warm reset keeps and clears (R100), with no domain held by the host: time, fuses, error queue, event log, SEQ and
journal stay, records that Thino had taken waiting again (R108); registers outside D0 are at reset, those of D3 stay with
KEEP_TIMING while it is ready; the cause bit is set; D1 and D4 ramp, line, client and packet domains are off; the BULK window
is cleared and MRAM is not. -/
def Obligations.AWarmResetKeepsItsState : Prop :=
  ∀ (k : Nat) (y : Sys), (∀ n, n < 24 → rb y.dev .pwrHostHold n = false) → k < 9 →
    let d := y.dev
    let x := warmReset (some k) y
    let keepTiming := rb d .glbRstCtl 0 && domReady d 3
    x.dev.time = d.time ∧ x.dev.fuse = d.fuse ∧ 
    x.dev.err = { d.err with queue := d.err.queue.map fun e => { e with st := 0 } } ∧ x.dev.evt.log = d.evt.log ∧ x.dev.evt.seq = d.evt.seq ∧
    x.dev.evt.staged = [] ∧ x.dev.nvm.jrnl = d.nvm.jrnl ∧ x.dev.prov.serv = [] ∧ x.dev.boot.thino = false ∧
    x.dev.boot.waitRom = true ∧ x.dev.boot.warmHeld = !d.pin.warmRstN ∧
    (∀ r, regDomain r ≠ 0 → (regDomain r ≠ 3 ∨ keepTiming = false) → reg x.dev r = regReset d.fuse.ib r) ∧
    (∀ r, regDomain r = 3 → keepTiming = true → reg x.dev r = reg d r) ∧
    (∀ r, r ∈ [Reg.glbScratch, .glbStrap, .pwrCap, .pwrThermCtl, .nvmErr, .errCnt 3] → reg x.dev r = reg d r) ∧
    rb x.dev .glbRstCause k = true ∧ rf x.dev .glbBootStat 3 0 = 0 ∧
    (∀ n, 5 ≤ n → n < 18 → domReady x.dev n = false ∧ domAwake x.dev n = false) ∧
    (∀ a, Memory.wf y.mem = true → rd x.mem a = if bulkBase ≤ a ∧ a < bulkBase + bulkSize then 0 else rd y.mem a)

/-- Start-up (R90 to R98, R102): common rails come up one after the other, and one that stays low ends the start with RAIL; a
slice rail lets its domains ramp. The ROM verifies the active image, or enters recovery mode with its cause; Thino restores
and commits the settings; BOOT_READY ends the boot; a restarted control processor takes its shadow tables from those in
service. -/
def Obligations.TheDeviceBoots : Prop :=
  ∀ s : State, On s →
    let d := s.dev
    let stage := rf d .glbBootStat 3 0
    let up (k : Nat) : Dev := { d with pin := { d.pin with pseqPg := d.pin.pseqPg ||| BitVec.twoPow 8 k } }
    let w := wakeNvm d
    let scanned := setRf .glbBootStat 9 8 (attempts w) (burnFuses (newNonce (setStage 3 w)))
    (4 < d.boot.rail → d.boot.rail < 8 → d.pin.pseqPg.getLsbD (d.boot.rail - 1) = true → railOn d (d.boot.rail - 1) = true →
      d.boot.rom = false → Ends .commonRailEnable s (setRail d.boot.rail true
        { d with boot := { d.boot with rail := d.boot.rail + 1 } })) ∧
    (∀ k, 4 ≤ k → k < 8 → railOn d k = true → d.pin.pseqPg.getLsbD k = false → d.pwr.gaspBusy = false →
      let e := evtPwr 0x0109 k (be 1 1) d
      SettlesThenReset (.railPgTimeout k) s (askPowerCycle (setBootCause 5 (setStage 0xF { e with
        pin := { e.pin with pseqEn := 0 }
        pwr := { e.pwr with doms := [(0, { st := .ready })] }
        boot := { e.boot with rom := false, thino := false } })))) ∧
    (∀ k, k < 4 → railOn d k = true → d.pin.pseqPg.getLsbD k = false →
      SettlesThenReset (.railPgTimeout k) s (each [6 + k, 10 + k, 14 + k] (fun n d => gate (dom d n).waitRail (faultDomain n 4) d)
        (evtPwr 0x0109 k (be 1 1) d))) ∧
    (∀ k, k < 4 → 2 < stage →
      Ends (.pseqPgRise k) s (each [6 + k, 10 + k, 14 + k] (fun n => modDom n fun x => { x with waitRail := false }) (up k))) ∧
    (∀ x, stage ≤ 2 → x = requestWake 3 2 (requestWake 3 1 (up 4)) →
      Ends (.pseqPgRise 4) s (if railsUp x = true ∧ domAwake x 4 = false then requestWake 3 4 x else x)) ∧
    (d.boot.rom = true → d.boot.cpuRestart = none → domReady d 1 = true → railsUp d = true → stage ≤ 2 → domReady w 2 = true →
      (rb w .glbStrap 5 = true → Ends .romBoot s (enterRecovery 1 scanned)) ∧
      (rb w .glbStrap 5 = false → w.boot.recover = true → Ends .romBoot s (enterRecovery 4 scanned)) ∧
      (∀ ms man, rb w .glbStrap 5 = false → w.boot.recover = false → (attempts w ≠ 3 ∨ w.boot.step3 = true) →
        (nvmWritable scanned = false ∨ (activationOpen scanned = false ∧ scanned.nvm.staged = none)) →
        scanned.nvm.active = some (ms, man) → verify s.mem scanned man = 0 →
        Ends .romBoot s (postVerify ms 1 0 (setStage 3 scanned)))) ∧
    (∀ c, d.boot.rom = true → d.boot.cpuRestart = none → domReady d 1 = true → stage = 3 →
      c = (if d.boot.counted then d else setAttempts (min 3 (attempts d + 1)) d) →
      let b := wakeNvm (setStage 5 { c with boot := { c.boot with
        bootWdt := true, rom := false, thino := true, exposed := true, hbAt := now c, counted := false, warm := false } })
      Settles .thinoStart s (setStage 6 (mateStart (reportGasp (commitRestored (restoreSettings
        (if domReady b 2 then extendLtab s.mem b else b))))))) ∧
    (d.boot.bootWdt = true → d.boot.thino = true → d.prov.doneId ≠ 0 → (∀ e ∈ d.prov.pend, e.restore = false) →
      let e := setStage 7 (setAttempts 0 { d with boot := { d.boot with bootWdt := false } })
      Ends .bootReady s (evtGlb 0x0001 0 (be 4 (mfVersion (activeMan e)) ++ be 2 (rf e .glbRstCause 8 0) ++ be 2 e.boot.restoreId) e)) ∧
    (∀ cause, d.boot.cpuRestart = some cause → domReady d 1 = true → reloadFails d 1 = false → w.nvm.staged = none →
      w.mbx.mir = [] → w.asst.frozen = [] → w.prov.parts = [] →
      Settles .cpuRestartDone s (evtGlb 0x0004 cause (zeros 36 ++ be 1 (decide (w.prov.shadow ≠ w.prov.serv)).toNat) { w with
        boot := { w.boot with thino := true, rom := false, exposed := true, cpuRestart := none, hbAt := now w }
        prov := { w.prov with shadow := w.prov.serv } }))

/-- PFW_N low freezes provisioning, cancels nothing where nothing is pending, wakes D2 and begins the last-gasp write, which
first clears the marker of an older record; the record stands once MRAM has taken it; 10 ms after PFW_N is high again the
freeze lifts and the record is superseded (R84 to R87, R548). Thino takes the oldest record of the highest severity into
handling, and completes it unless a higher one waits; the errors that engines detect meanwhile, which are free, are raised
after it, those of the epoch counter, the commit engine, XC and an engine's FATAL code with the FATAL safe state (R107, R108,
R110, R149; handling in one piece is log entry 134, the errors and their source log entry 125). JTAG locks when its time ends
(R562). -/
def Obligations.PowerFailErrorsAndJtagExpiry : Prop :=
  ∀ s : State, On s →
    let d := s.dev
    (∀ ns, ns < 1000000 → d.pin.pfwN = true → isPfwFrozen d = false → d.prov.pend = [] → d.nvm.store = none → d.mate.st = 0 →
      (∀ p, p < 4 → (rz d p).st = 0) →
      let f := updFrozen (setRb .pwrPfwStat 2 true (setRb .pwrPfwStat 3 false (setRb .pwrPfwStat 1 true
        { d with pin := { d.pin with pfwN := false }, pwr := { d.pwr with liftRun := false } })))
      let w := requestWake 3 2 { f with pwr := { f.pwr with frozenAt := now d, gaspBusy := true } }
      Settles (.pfwNFall ns) s (markLeaving (raiseInt 11 (evtPwr 0x0106 0 (be 4 ns ++ [0]) (senseRead { w with
        nvm := { w.nvm with
          gaspNext := some (gaspBytes w false false), gasp := if nvmWritable w then none else w.nvm.gasp } }))))) ∧
    (∀ b, d.nvm.gaspNext = some b → d.pwr.warmDeferred = none → nvmWritable d = true →
      Settles .lastGaspWritten s (setRb .pwrPfwStat 3 true { d with
        pwr := { d.pwr with gaspBusy := false }
        nvm := { d.nvm with gaspNext := none, gasp := some { state := 1, bytes := b } } })) ∧
    Ends .pfwNRise s { d with pin := { d.pin with pfwN := true }, pwr := { d.pwr with liftRun := isPfwFrozen d } } ∧
    (∀ x, d.pin.pfwN = true → isPfwFrozen d = true → d.pwr.liftRun = true → d.pwr.gaspBusy = false →
      (∀ k, k < 8 → railOn d k = true → d.pin.pseqPg.getLsbD k = true) →
      x = updFrozen (setRb .pwrPfwStat 2 false { d with pwr := { d.pwr with liftRun := false } }) →
      EndsSys .pfwLift s (afterGasp {
        dev := evtPwr 0x0107 0 (be 6 d.pwr.frozenAt) (if gaspValid x then nvmWrite supersede x else x), mem := s.mem })) ∧
    (d.boot.thino = true → (∀ e ∈ d.err.queue, e.st ≠ 1) → Settles .errHandle s (detect (takeErr d))) ∧
    (∀ e, d.boot.thino = true → (d.err.queue.find? fun e => e.st == 1) = some e →
      (maxSev d.err.queue ≤ e.sev → autoReinit e d = none → Settles .errHandle s (detect (takeErr
        (postErr { e with st := 3 } { d with err := { d.err with queue := d.err.queue.erase e } })))) ∧
      (e.sev < maxSev d.err.queue → Settles .errHandle s (detect (takeErr d)))) ∧
    (d.boot.thino = false → Settles .errHandle s (detect d)) ∧
    (∀ n, n ≠ 0 → engineErr (.mramCorr n) d = raiseErr 1 7 0 0x40 (min n 65535) 0 (setRb .nvmErr 2 true (satCtr .nvmCorrCnt 31 0 n d))) ∧
    engineErr .epochFault d = enterFatal (raiseErr 4 6 0 0x60 0 0 d) ∧ engineErr .commitEngine d = enterFatal (raiseErr 4 1 0 0x61 0 0 d) ∧
    (∀ c, c < 1024 → engineErr (.xcParity c) d = enterFatal (raiseErr 4 0xB 0 0x62 c 0 d)) ∧
    (∀ ty i k, ty < 65536 → i < 256 → k < 65536 → engineErr (.engineFatal ty i k) d = enterFatal (raiseErr 4 ty i 0x63 k 0 d)) ∧
    (∀ e, d.nvm.jtagLeft = some e → e ≠ 0 → e ≤ now d → d.nvm.jtagDebug = false →
      Ends .jtagExpiry s (evtNvm 0x0C08 0 (be 1 0 ++ be 1 0) (setRb .glbStat 3 false
        (modNvm (fun m => { m with jtagLeft := none, jtagDebug := false, jtagBscan := false }) d))))

/-! ### Supplies, domains and temperature -/

/-- Rails (R74 to R79): a short excursion is counted; one of a slice or memory domain's supply isolates it and, as an
overvoltage, switches its slice rail off; a fall of PSEQ_PG faults the domains of its rail; VDD_IO18 and VDD_AON only set
their bits. An alert is posted, a poll stored, and an AVS target moves by 5 mV toward its aim (the aim is log entry 8). A
domain that faults is isolated and reset: STATE shows it, FAULT is set and FAULT_CNT counts, a record DOMAIN_FAULT and an
event are raised; the third fault within 60 s holds it faulted; the loss of XO_IN faults D3 and enters FATAL (R78, R80, R110,
R478). -/
def Obligations.RailsAndFaultsArePolicedByDomain : Prop :=
  (∀ s : State, On s →
      let d := s.dev
      (∀ k, k < 10 → Ends (.railExcursionShort k) s (satCtr (.pwrRailStat k) 7 0 1 d)) ∧
      (∀ n k, domAwake d n = true → 1 ≤ n → n < 24 → k = (if 6 ≤ n ∧ n < 18 then (n - 6) % 4 else 4) →
        SettlesThenReset (.domainFault n 1) s (faultDomain n 1 (setRb (.pwrRailStat k) 8 true d)) ∧
        (k < 4 → let e := faultDomain n 2 (setRb (.pwrRailStat k) 9 true d)
          SettlesThenReset (.domainFault n 2) s (evtPwr 0x0109 k (be 1 3) (setRail k false
            { e with pwr := { e.pwr with ovOff := nputBit e.pwr.ovOff k true } })))) ∧
      (∀ n cause, domAwake d n = false → n < 24 → (cause = 1 ∨ cause = 2) → SettlesThenReset (.domainFault n cause) s d) ∧
      (∀ k, k < 4 → railOn d k = true →
        let low := evtPwr 0x0109 k (be 1 2) { d with pin := { d.pin with pseqPg := d.pin.pseqPg &&& ~~~ BitVec.twoPow 8 k } }
        SettlesThenReset (.pseqPgFall k) s (each [6 + k, 10 + k, 14 + k] (fun n => faultDomain n 3) low)) ∧
      (∀ k over_, k = 8 ∨ k = 9 → Settles (.vddIo18Excursion k over_) s (setRb (.pwrRailStat k) (if over_ then 9 else 8) true d)) ∧
      (∀ k addr sb sw, k < 10 → addr < 256 → sb < 256 → sw < 65536 →
        Ends (.pmbAlert k addr sb sw) s (postEvt 0x0108 0x0005 0 k (be 1 addr ++ be 1 sb ++ be 2 sw) d)) ∧
      (∀ k mv io t, k < 8 → Ends (.pmbusPoll [(k, mv, io, t)]) s (setRf (.pwrRailStat k) 23 16 (twos 8 t)
        (setReg (.pwrRailMeas k) (BitVec.ofNat 32 (io % 65536 * 65536 + mv % 65536)) d))) ∧
      (∀ k, k < 5 → d.pin.pseqPg.getLsbD k = true →
        let goal := 700 + 5 * min 20 (Config.avsTarget k (regionTemp d k))
        let cur := tget 700 d.pwr.avs k
        let next := if cur < goal then cur + 5 else if goal < cur then cur - 5 else cur
        Ends (.avsStep k) s { d with pwr := { d.pwr with avs := tset d.pwr.avs k next } })) ∧
  ((∀ (n cause : Nat) (d : Dev), 5 < n → n < 18 → domAwake d n = true → cause < 7 →
      let recent := (now d :: ((dom d n).faults.filter fun e => now d < e + 60000)).take 3
      let x : Dom := { dom d n with
        st := .faulted, waitRail := false, leaving := false, heldWake := 0, faults := recent, cause := cause
        latched := (dom d n).latched || decide (3 ≤ recent.length), railOk := d.boot.warm }
      let y := satCtr (.pwrDomStat n) 15 8 1 (modDom n (fun _ => x) (clearDom n d))
      let z := raiseErr 3 0x0005 0 0x0010 n cause (setRb (.pwrDomStat n) 4 true y)
      faultDomain n cause d = reevaluate (markLeaving (raiseInt 11 (evtPwr 0x0104 n
        (be 1 cause ++ be 1 (rf z (.pwrDomStat n) 15 8) ++ be 1 x.latched.toNat) z)))) ∧
    (∀ s : State, On s → domAwake s.dev 3 = true → ∃ x, Settles .xoInLoss s x ∧ x = faultDomain 3 5 s.dev ∧ isFatal x = true))

/-- Wake and sleep (R23, R58, R60 to R62, R67 to R73, R80): a request that fits under the cap is admitted, one that does not
is deferred with one event; an admitted domain becomes READY; a domain out of use is isolated, then switched off and reset; D2
sleeps when idle, an idle MEM wake unit refreshes itself and is woken for its scrub; a faulted domain is woken anew; no slice
domain wakes without a valid BOARD section (R589). -/
def Obligations.DomainsWakeAndSleep : Prop :=
  ∀ s : State, On s →
    let d := s.dev
    (∀ rank n, 1 ≤ rank → rank ≤ 3 → n < 24 → requires n = [] → n < 18 ∨ n = 23 → (dom d n).latched = false →
      (dom d n).barred = false → (dom d n).st = .off →
      (load d + est d n ≤ cap d → Settles (.wakeRequest rank n) s (admitDom rank n d)) ∧
      (cap d < load d + est d n → n ≠ 2 ∨ d.pwr.gaspBusy = false → Settles (.wakeRequest rank n) s
        (let e := modDom n (fun x => { x with st := .deferred, rank := rank, heldWake := 0 }) d
        raiseInt 11 (evtPwr 0x0101 n (be 2 (est d n) ++ be 2 (load d) ++ be 2 (cap d) ++ be 1 rank) e)))) ∧
    (∀ n, (n = 2 ∧ d.pwr.gaspBusy = false) ∨ n = 4 ∨ n = 22 ∨ n = 23 → (dom d n).st = .ramping → (dom d n).waitRail = false →
      reloadFails d (domainPart n) = false →
      Settles (.domainReady n) s (modDom n (fun x => { x with st := .ready, rank := 3 }) d)) ∧
    (∀ n, n < 24 → ((dom d n).st ≠ .ramping ∨ (dom d n).waitRail = true) → n ≠ 1 → ∃ x, Settles (.domainReady n) s x ∧ x = d) ∧
    (∀ n, n < 24 → (dom d n).st = .ready → (dom d n).leaving = true → domUsed d n = false →
      (14 ≤ n → n < 18 → queuesEmpty d (n - 14) = true) →
      Settles (.domainSleep n) s (modDom n (fun x => { x with st := .isolating, leaving := false }) d)) ∧
    (∀ n, n < 24 → (dom d n).st = .isolating → (dom d n).heldWake = 0 →
      Settles (.powerSwitchedOff n) s (reevaluate (markLeaving (heldNext (modDom n (fun x => { x with st := .off, heldWake := 0 }) (clearDom n d)))))) ∧
    (domReady d 2 = true → rb d .pwrHostHold 2 = false → d.nvm.store = none → d.pwr.gaspBusy = false →
      Ends .d2IdleSleep s (modDom 2 (fun x => { x with st := .isolating }) d)) ∧
    (∀ n, n < 4 → (dom d (6 + n)).st = .off → (dom d (10 + n)).st = .off → (dom d (14 + n)).st = .off →
      (rf d .pwrRailoff 3 0).testBit n = true → railOn d n = true → Ends (.sliceRailOff n) s (setRail n false d)) ∧
    (∀ g, g < 4 → unitOf d g = [g] → domReady d (18 + g) = true → (dom d (18 + g)).scrub = false → rb d .pwrHostHold (18 + g) = false →
      rf d (.memcGstat g) 2 0 = 2 → rf d .pwrMemIdle 13 0 ≠ 0 → unitMerging d g = false →
      Settles (.memIdleSelfRefresh g) s (reevaluate (markLeaving
        (modDom (18 + g) (fun x => { x with st := .selfRefresh, leaving := false }) (dropRegs (18 + g) d))))) ∧
    (∀ g, g < 4 → unitOf d g = [g] → (dom d (18 + g)).st = .selfRefresh →
      Settles (.memScrubWake g) s (requestWake 3 (18 + g) (modDom (18 + g) (fun x => { x with scrub := true }) d))) ∧
    (∀ n, n < 18 → (dom d n).st = .faulted → (dom d n).latched = false → (dom d n).barred = false → railGood d n = true →
      d.boot.warm = false → Settles (.faultRewake n) s (requestWake 2 n (modDom n (fun x => { x with railOk := true }) d))) ∧
    (∀ rank n, 1 ≤ rank → rank ≤ 3 → 6 ≤ n → n < 14 → (dom d n).st = .off → board d = none → domReady d 3 = true →
      (dom d 3).leaving = false → (dom d 3).heldWake = 0 → Settles (.wakeRequest rank n) s d)

/-- Temperature and regions (R82, R83): a reading is stored; at 110 °C a record and an event are raised, and under SLICE_ISO
the slice is isolated; at 125 °C the device drops its rails and asks for a power cycle; conditions re-arm 2 °C below; an
isolated region rejoins. -/
def Obligations.RegionsAreIsolatedAndRejoin : Prop :=
  ∀ s : State, On s →
    let d := s.dev
    (∀ (r : Nat) (t : Int), r < 5 → -128 ≤ t → t < 110 → t < (rf d .pwrThermCtl 15 8 : Nat) →
      Settles (.thermalReading r t) s (setRf (.pwrRegion r) 23 16 (twos 8 t) d)) ∧
    (∀ (r : Nat) (t : Int), r < 5 → t < 110 → (rf d .pwrThermCtl 15 8 : Nat) ≤ t → d.pwr.warnUp.testBit r = false →
      let e := setRb .pwrThermStat 0 true (setRf (.pwrRegion r) 23 16 (twos 8 t)
        { d with pwr := { d.pwr with warnUp := nputBit d.pwr.warnUp r true } })
      Settles (.thermalReading r t) s (showTherm (raiseInt 11 (evtPwr 0x0105 r (be 1 1 ++ be 1 (twos 8 t)) e)))) ∧
    (∀ (r : Nat) (t : Int), r < 5 → 110 ≤ t → t < 125 → d.pwr.warnUp.testBit r = true → d.pwr.critUp.testBit r = false →
      let e := showTherm (setRb .pwrThermStat (1 + r) true (setRf (.pwrRegion r) 23 16 (twos 8 t)
        { d with pwr := { d.pwr with critUp := nputBit d.pwr.critUp r true } }))
      let f := raiseInt 11 (evtPwr 0x0105 r (be 1 2 ++ be 1 (twos 8 t)) (raiseErr 3 0x0005 0 0x0012 r (twos 16 t) e))
      Settles (.thermalReading r t) s (if r < 4 ∧ rb d .pwrThermCtl 0 = true then
        isolateSlice r { f with pwr := { f.pwr with thermIso := nputBit f.pwr.thermIso r true } } else f)) ∧
    (∀ (r : Nat) (t : Int), r < 5 → 125 ≤ t → t ≤ 127 → d.pwr.warnUp.testBit r = true → d.pwr.critUp.testBit r = true →
      Settles (.thermalReading r t) s (enterFatal (setRf (.pwrRegion r) 23 16 (twos 8 t)
        { d with pin := { d.pin with pseqEn := 0, pwrCycleReq := true } }))) ∧
    (∀ r, r < 5 → regionTemp d r + 2 ≤ (rf d .pwrThermCtl 15 8 : Nat) → regionTemp d r + 2 ≤ 110 →
      Ends (.thermRearm r) s (showTherm { d with pwr := { d.pwr with
        warnUp := nputBit d.pwr.warnUp r false
        critUp := nputBit d.pwr.critUp r false } })) ∧
    (∀ n, n < 4 → d.pwr.thermIso.testBit n = true → d.pwr.skewIso.testBit n = false → regionTemp d n ≤ 100 →
      Settles (.sliceThermalRejoin n) s (rejoinSlice n (evtPwr 0x0105 n (be 1 3 ++ be 1 (twos 8 (regionTemp d n)))
        { d with pwr := { d.pwr with thermIso := nputBit d.pwr.thermIso n false } }))) ∧
    (∀ n, n < 4 → d.pwr.skewIso.testBit n = true → d.pwr.thermIso.testBit n = false →
      Settles (.regionRejoin n) s (rejoinSlice n { d with pwr := { d.pwr with skewIso := nputBit d.pwr.skewIso n false } })) ∧
    (∀ n, n < 4 → d.pwr.skewIso.testBit n = true → d.pwr.thermIso.testBit n = true →
      Settles (.regionRejoin n) s { d with pwr := { d.pwr with skewIso := nputBit d.pwr.skewIso n false } }) ∧
    (∀ (n : Nat) (v w : Int), n < 4 → awakeRegions d = [n, 4] → w + 250 < v →
      let l := (List.replicate n w) ++ [v] ++ List.replicate (4 - n) w
      let e := setRf .pwrThermStat 10 8 n (setRb .pwrThermStat 6 true d)
      let f := evtPwr 0x010A n (be 1 2 ++ [0] ++ be 2 (v - w).natAbs) (raiseErr 3 0x0005 0 0x0011 n 2 e)
      Settles (.regionSkewAlarm 2 l) s (isolateSlice n { f with pwr := { f.pwr with skewIso := nputBit f.pwr.skewIso n true } }))

/-! ### The epoch boundary, commits in service, calendars, assist timeouts -/

/-- At an epoch boundary the epoch counter advances by 1 and the real-time counter by its units of a millisecond (free within
R64, log entry 40); what may occur once per epoch may occur again, new budgets take effect, Thino services its watchdog, and
every block takes its epoch step (R25, R65, R102, R132, R177, R394). A commit whose epoch has come enters service whole where
its domains are ready, after the snapshot of a second that ends there, and else is cancelled with every later one (R24, R29,
R30); during a power-fail freeze it is cancelled alone, and one restored at boot waits for its domains (R84). What the stream
octets of a port bring in an epoch is a free value (log entry 159). At the frame of R251 a port takes the calendar and the
available map of the tables in service, here where no container of the port starts or stops; an unanswered report of a
host-assisted instance makes its mode change due at the next boundary, and on a paired active at X for both mates (R33, R35,
R251, R355). -/
def Obligations.EpochsCommitsCalendarsAndTimeouts : Prop :=
  (∀ s : State, On s →
      let d := s.dev
      let n := if rb d .glbStrap 4 then 2 else 3
      let t : Dev := { d with time := { d.time with
        epoch := d.time.epoch + 1
        rtc := d.time.rtc + BitVec.ofNat 64 (32 + peekFree d n)
        free := d.time.free + 1 } }
      let u := freshEpoch t
      let b : Dev := { u with mbx := { u.mbx with used := [], inForce := (List.range 7).map fun c => (c, rf u (.mbxBudget c) 7 0) } }
      let w := if b.boot.thino then wrapCtr .glbCpuHb 31 0 1 { b with boot := { b.boot with hbAt := (d.time.epoch + 1).toNat } } else b
      let p := streamOctets (pmEpoch (missEpoch (esmcEvents (fecEpoch w))))
      Ends .epochBoundary s (refresh (alignReady (mateEpoch (timEpoch (timeoutsDue
        (each ((objs p.prov.serv 8).filter fun _ => domReady p 22) skewEpoch p)))))) ∧
      (∀ e rest, d.prov.pend = e :: rest → e.epoch ≤ now d → isFatal d = false → isPfwFrozen d = false →
        let f := pmSecond d
        (missing e f = 0 → e.restore = false →
          Settles .commitEnterService s (enterService e { f with prov := { f.prov with pend := rest } })) ∧
        (missing e f = 0 → e.restore = true →
          Settles .commitEnterService s (enterService { e with epoch := now f } { f with prov := { f.prov with pend := rest } })) ∧
        (missing e f ≠ 0 → e.restore = true → Settles .commitEnterService s f) ∧
        (missing e f ≠ 0 → e.restore = false → Settles .commitEnterService s (markLeaving (rest.foldl (fun d e => commitCancelled e 1 d)
          (postEvt 0x0006 0x0001 0 e.id (be 6 e.epoch ++ zeros 2 ++ be 3 (missing e f)) { f with prov := { f.prov with pend := [] } }))))) ∧
      (∀ e rest, d.prov.pend = e :: rest → e.epoch ≤ now d → isFatal d = false → isPfwFrozen d = true →
        let f := setRb .pwrPfwStat 4 true d
        Settles .commitEnterService s (markLeaving (commitCancelled e 3 { f with prov := { f.prov with pend := rest } }))) ∧
      (d.prov.pend = [] → Settles .commitEnterService s d) ∧
      (∀ e rest, d.prov.pend = e :: rest → now d < e.epoch → Settles .commitEnterService s d)) ∧
  (∀ s : State, On s →
      let d := s.dev
      (∀ p, p < 4 → lineOn d p = true → (∀ c ∈ tkeys d.cont, lineOf c ≠ p) → (∀ e ∈ conts d.prov.serv, lineOf e.1 ≠ p) →
        let m := lrMap (lineRec d p)
        let e := modLn p (fun l => { l with cal := newCal d p }) d
        Settles (.calendarChange p) s (showRz p (followMap p (if m ≠ (rz d p).txMap ∧ (rz d p).st = 0 then
          modRz p (fun z => { z with txMap := m, rxMap := m }) e else e)))) ∧
      (∀ fn i ns r, ns < 1000000 → d.boot.thino = true → tfind d.asst.newest (akey fn i) = some r → r.opened = true →
        r.changeAt = none → assisted d fn i = true → isFrozen d fn i = false → assistTimeout d fn i ≠ 0 → following d = false →
        let at_ (x : Nat) (d : Dev) : Dev :=
          { d with asst := { d.asst with newest := tset d.asst.newest (akey fn i) { r with changeAt := some x } } }
        ((inStep d = false ∨ d.mate.active = false) → Ends (.assistTimeout fn i ns) s (at_ (now d + 1) d)) ∧
        (inStep d = true → d.mate.active = true →
          let x := if ns ≤ 800000 then now d + 1 else now d + 2
          Ends (.assistTimeout fn i ns) s (at_ x (sendCommand x 0 0 0 (be 4 (akey fn i) ++ be 4 r.id) d)))) ∧
      (∀ fn i ns, ns < 1000000 → tfind d.asst.newest (akey fn i) = none → Ends (.assistTimeout fn i ns) s d))

/-- The compact form holds a count in 16 bits: up to 4,095 it is exact, above it keeps 12 significant bits and rounds down,
and its code 0xFFFF stands for every count of 4,095 × 2^30 or more and decodes to no value (R405). -/
def Obligations.TheCompactFormRoundsDown : Prop :=
  (∀ v, v ≤ 4095 → pmDecode (pmEncode v) = some v) ∧
  (∀ v, v ≤ 2047 → pmEncode v = v) ∧
  (∀ e m, 1 ≤ e → e ≤ 31 → m < 2048 → (e = 31 → m < 2047) → ∀ low, low < 2 ^ (e - 1) →
    pmEncode ((2048 + m) * 2 ^ (e - 1) + low) = e * 2048 + m) ∧
  (∀ e m, 1 ≤ e → e ≤ 31 → m < 2048 → e * 2048 + m ≠ 0xFFFF → pmDecode (e * 2048 + m) = some ((2048 + m) * 2 ^ (e - 1))) ∧
  (∀ m, m < 2048 → pmDecode m = some m) ∧ pmDecode 0xFFFF = none ∧
  (∀ v, pmEncode v < 65536 ∧ (pmEncode v = 0xFFFF ↔ 4095 * 2 ^ 30 ≤ v)) ∧
  (∀ v e, 1 ≤ e → 2 ^ (e + 10) ≤ v → v < 2 ^ (e + 11) → v < 4095 * 2 ^ 30 →
    ∃ d, pmDecode (pmEncode v) = some d ∧ v < d + 2 ^ (e - 1) ∧ d ≤ v) ∧
  (∀ c d, c < 65536 → pmDecode c = some d → d ≤ 4094 * 2 ^ 30) ∧ pmDecode 0xFFFE = some (4094 * 2 ^ 30) ∧
  bbeShown true 0xFFFF = 0xFFFFFFFFFFFFFFFF ∧ 15 * 900 * 312500000 / 100 < 4095 * 2 ^ 30 ∧
  pmEncode 1234567 = 0x516B ∧ pmDecode 0x516B = some 1234432

/-- Performance monitoring (R394, R395, R397 to R403): a failure is declared after its run of defect epochs and cleared after
its run of clean ones; a host-assisted point reports; at the second the snapshot of a point is evaluated and binned and a new
second begins; a bin 10 s old is final and is posted. -/
def Obligations.PerformanceIsMonitored : Prop :=
  ∀ s : State, On s → domReady s.dev 4 = true →
    let d := s.dev
    (∀ i c, i < 16384 → c < 8 → hasPoint d i = true → assisted d 1 i = false → isFrozen d 1 i = false →
      ((point d i).decl.testBit c = false → max 1 (mpIntSet (mpRec d i) c * 100) ≤ tget 0 (point d i).runSet c →
        Settles (.failureDeclare i c) s (setDeclared i (nputBit (point d i).decl c true) d)) ∧
      ((point d i).decl.testBit c = false → tget 0 (point d i).runSet c < max 1 (mpIntSet (mpRec d i) c * 100) →
        Settles (.failureDeclare i c) s d) ∧
      ((point d i).decl.testBit c = true → max 1 (mpIntClr (mpRec d i) c * 100) ≤ tget 0 (point d i).runClr c →
        Settles (.failureClear i c) s (setDeclared i (nputBit (point d i).decl c false) d)) ∧
      ((point d i).decl.testBit c = true → tget 0 (point d i).runClr c < max 1 (mpIntClr (mpRec d i) c * 100) →
        Settles (.failureClear i c) s d)) ∧
    (∀ i reason, i < 16384 → hasPoint d i = true → assisted d 1 i = true → isFrozen d 1 i = false →
      (reason = 1 ∧ (point d i).epochLast ≠ (point d i).repSet) ∨ (reason = 2 ∧ (point d i).epochLast ≠ (point d i).decl) →
      Ends (.pmFailureReport i reason) s (report 1 i reason (failureContent d i)
        (modPoint i (fun q => { q with repSet := (point d i).epochLast }) d))) ∧
    (∀ i r, now d % 1000 = 0 → d.pm.secAt ≠ now d → d.pm.secAt ≠ 0 → assisted d 8 0 = false → points d.prov.serv = [(i, r)] →
      (point d i).fresh = false → (point d i).clr = 0 →
      let x := snapshot d (i, r)
      let e := modPm (fun m => { m with secAt := now d }) (evalSecond (now d - 1000) i x (stepDeg i r x d))
      Ends .pmSecondBoundary s (newSecond (wrapCtr .pmonSec 31 0 1
        (allPoints (fun _ p => if p.fresh then beginPoint false (rotate e) p else p) (rotate e))))) ∧
    (d.pm.secAt = now d → Ends .pmSecondBoundary s d) ∧
    (now d % 1000 ≠ 0 → Ends .pmSecondBoundary s d) ∧
    (∀ day b l, (if day then d.pm.fin24 else d.pm.fin15) = b :: l → assisted d 8 0 = false → b.end_ + 10000 ≤ now d →
      points d.prov.serv ≠ [] →
      Ends (.pmBinFinal day) s (evtPm 0x0A03 0xFFFFFFFF
        (be 6 b.start ++ be 1 day.toNat ++ zeros 1 ++ be 4 (b.n.getD (suspects d (if day then 3 else 1))))
        (modPm (fun m => if day then { m with fin24 := l } else { m with fin15 := l }) d)))

/-- A counter counts modulo 2^48 and sets its wrap sticky, and a delta modulo 2^48 is exact; at a window boundary the
bandwidths are computed, the banks captured for a dump, a pending clear applied, and the next window begins; a dump written
advances PCTR_PROD and raises interrupt 14 (R519, R522, R525 to R528). -/
def Obligations.CountersWindowsAndDumps : Prop :=
  (∀ (dm n k : Nat) (d : Dev), domReady d dm = true → domReady d 4 = true → 1 ≤ k → k < 2 ^ 48 → (ctrVal d n).v < 2 ^ 48 →
    ctrVal (count dm n k d) n = { v := ((ctrVal d n).v + k) % 2 ^ 48, wrap := (ctrVal d n).wrap || decide (2 ^ 48 ≤ (ctrVal d n).v + k) } ∧
    subMod (2 ^ 48) (ctrVal (count dm n k d) n).v (ctrVal d n).v = k ∧
    (∀ j, j ≠ n → ctrVal (count dm n k d) j = ctrVal d j)) ∧
  (∀ (dm n k : Nat) (d : Dev), domReady d dm = false ∨ domReady d 4 = false ∨ k = 0 → count dm n k d = d) ∧
  ∀ s : State, On s →
    let d := s.dev
    let us := subMod (2 ^ 48) (now d) d.pctr.start * 1000
    let next (d x : Dev) : Dev := { x with pctr := { x.pctr with
      win := rf d .pctrWin 13 0, part := rf d .pctrWin 13 0 != x.pctr.win, start := now d, clrGo := false } }
    let e := wrapCtr .pctrWinSeq 31 0 1 (computeBw us d)
    (domReady d 4 = true → now d % d.pctr.win = 0 →
      (rb d .pctrCtl 0 = false → d.pctr.clr = 0 → Ends .pctrWindowEnd s (next d e)) ∧
      (rb d .pctrCtl 0 = true → d.pctr.clr = 0 → dumpUsed d < dumpSlots d → d.pctr.writing = none → pf0Dma d = true →
        64 + dumpEntries (rf d .pctrMask 6 0) * 8 ≤ 2 ^ rf d .pctrRingSize 12 8 →
        let w : Dump := {
          seq := ((reg d .pctrWinSeq).toNat + 1) % 2 ^ 32, epoch := now d, winMs := d.pctr.win, winUs := us, banks := rf d .pctrMask 6 0
          phase := ringPass d % 2 == d.pctr.pass, restart := d.pctr.restart
          partWin := d.pctr.part || decide (us < d.pctr.win * 1000), skipped := d.pctr.skipped
          snap := d.pctr.ctr.filter fun e => inBanks (rf d .pctrMask 6 0) e.1 }
        Ends .pctrWindowEnd s (next d { e with pctr := { e.pctr with writing := some w, restart := false, skipped := 0 } })) ∧
      (rb d .pctrCtl 0 = false → d.pctr.clr ≠ 0 → Ends .pctrWindowEnd s (next d (zeroCtrs (inBanks d.pctr.clr)
        (setReg .pctrWrapSum (reg e .pctrWrapSum &&& ~~~ BitVec.ofNat 32 d.pctr.clr) { e with pctr := { e.pctr with
          restart := true, clr := 0, prev := e.pctr.prev.filter fun x => !inBanks d.pctr.clr x.1 } }))))) ∧
    (∀ w, d.pctr.writing = some w →
      Ends .pctrDumpWritten s (raiseInt 14 (setRf .pctrProd 8 0 ((rf d .pctrProd 8 0 + 1) % (2 * dumpSlots d))
        { d with pctr := { d.pctr with ring := tset d.pctr.ring (rf d .pctrProd 8 0 % dumpSlots d) w, writing := none } }))) ∧
    (d.pctr.writing = none → Ends .pctrDumpWritten s d)

/-! ### Client ports -/

/-- Lanes (R193, R205, R211, R239): signal sets SIGNAL_DETECT and its loss clears lock and adaptation too; a lane with signal
locks, a locked lane adapts, each where it may; a client port's LOL follows its lanes. Codewords are counted with what they
correct (R183, R194, R214). -/
def Obligations.LanesAndCodewords : Prop :=
  ∀ s : State, On s →
    let d := s.dev
    (∀ p k, p < 4 → k < 8 → lineOn d p = true →
      Settles (.laneSignalDetect true p k true) s (setRb (.lineLstat p k) 0 true d) ∧
      Settles (.laneSignalDetect true p k false) s
        (setRb (.lineLstat p k) 1 false (setRb (.lineLstat p k) 2 false (setRb (.lineLstat p k) 0 false d))) ∧
      (rb d (.lineLstat p k) 0 = true → Settles (.laneCdrLock true p k) s (setRb (.lineLstat p k) 1 true d)) ∧
      (rb d (.lineLstat p k) 0 = false → Settles (.laneCdrLock true p k) s d) ∧
      (rb d (.lineLstat p k) 1 = true → Settles (.laneAdapted true p k) s (setRb (.lineLstat p k) 2 true d)) ∧
      (rb d (.lineLstat p k) 1 = false → Settles (.laneAdapted true p k) s d)) ∧
    (∀ n k i, n < 4 → k < 16 → clientOn d n = true → laneOwner d n k = some i →
      Settles (.laneSignalDetect false n k true) s (showLol i (setRb (.cliLstat n k) 0 true d)) ∧
      Settles (.laneSignalDetect false n k false) s (showLol i
        (setRb (.cliLstat n k) 1 false (setRb (.cliLstat n k) 2 false (setRb (.cliLstat n k) 0 false d)))) ∧
      (rb d (.cliLstat n k) 0 = true → Settles (.laneCdrLock false n k) s (showLol i (setRb (.cliLstat n k) 1 true d))) ∧
      (rb d (.cliLstat n k) 1 = true → Settles (.laneAdapted false n k) s (setRb (.cliLstat n k) 2 true d))) ∧
    (∀ p errs, p < 4 → lineOn d p = true →
      let e (fixed : Nat) := modLn p (fun l => { l with fecSyms := l.fecSyms + 544, fecErrs := l.fecErrs + fixed }) d
      (errs = 0 → Ends (.fecCodeword true p errs) s (count (6 + p) (ctrLine p 0) 1 (e 0))) ∧
      (1 ≤ errs → errs ≤ 15 → lrDetectOnly (rxFlexRec d p) = false → Ends (.fecCodeword true p errs) s
        (count (6 + p) (ctrLine p 2) errs (count (6 + p) (ctrLine p 0) 1 (count (6 + p) (ctrLine p 1) 1 (e errs))))) ∧
      (15 < errs → Ends (.fecCodeword true p errs) s (count (6 + p) (ctrLine p 3) 1 (count (6 + p) (ctrLine p 0) 1 (e 0))))) ∧
    (∀ i errs, i < 64 → portOn d i = true →
      let n := 10 + i / 16
      let r := cpOf d i
      let code := if cpFec r = 1 then (528, 7) else (544, 15)
      let e := modCli i (fun c => { c with fecSyms := c.fecSyms + code.1, fecErrs := c.fecErrs + errs }) d
      let block (lost : Bool) (d : Dev) := if cpEth r then countBlock 5 i lost d else d
      (cpFec r = 0 → Ends (.fecCodeword false i errs) s
        (countBlock 5 i (decide (0 < errs)) (if 0 < errs then count n (ctrClient i 15) 1 d else d))) ∧
      (cpFec r = 1 ∨ cpFec r = 2 →
        (errs = 0 → Ends (.fecCodeword false i errs) s (block false (count n (ctrClient i 11) 1 e))) ∧
        (1 ≤ errs → errs ≤ code.2 → Ends (.fecCodeword false i errs) s
          (block false (count n (ctrClient i 13) errs (count n (ctrClient i 11) 1 (count n (ctrClient i 12) 1 e))))) ∧
        (code.2 < errs → Ends (.fecCodeword false i errs) s
          (block true (count n (ctrClient i 14) 1 (count n (ctrClient i 11) 1 e))))))

/-- Client ports (R185, R194, R196 to R202, R319, R326): a defect changes its live bit, and fails the quality level where it
is LOS, LOBL or LOAML; a received frame is counted, one that is too short or too long is discarded, and an ESMC PDU is not
forwarded; ESMC sets the quality level, and its absence fails it; a PRBS checker counts errors while locked; the MAC sends by
strict priority and, with no frame eligible, stalls; a DEVICE loopback makes what is sent the ingress. -/
def Obligations.ClientPortsReceiveAndSend : Prop :=
  ∀ (s : State) (i : Nat), On s → i < 64 → portOn s.dev i = true →
    let d := s.dev
    let r := cpOf d i
    let n := 10 + i / 16
    (∀ v, pstat d i 0 ≠ v → Settles (.clientLosChange i v) s (let e := setPort i 0 v d
      if v then qlFail i 4 e else e)) ∧
    (∀ v, pstat d i 0 = v → Settles (.clientLosChange i v) s d) ∧
    (∀ b v x, let d := otnFrames i x.frames (x.layers.foldl (fun d x => layerRx x d) d)
      ((b = 2 ∨ b = 3) → pstat d i b ≠ v → Settles (.clientDefectChange i b v x) s (let e := setPort i b v d
        if v then qlFail i 4 e else e)) ∧
      ((b = 4 ∨ b = 13) → pstat d i b ≠ v → Settles (.clientDefectChange i b v x) s (setPort i b v d)) ∧
      (3 ≤ b → b < 8 → Settles (.clientDefectChange i (b + 32) v x) s
        (modCli i (fun c => { c with otn := nputBit c.otn b v }) d))) ∧
    (∀ l, otnFrames i [] d = d ∧ (cpMode r < 2 → otnFrames i l d = d) ∧ (2 ≤ cpMode r → l ≠ [] →
      let f := l.foldl (otnStep (otuInstances r)) (if pstat d i 0 || pstat d i 1 then {} else (cliOf d i).fr)
      let e := modCli i (fun c => { c with fr := f }) d
      otnFrames i l d = if pstat e i 2 = !f.inFrame then e else
        let x := setPort i 2 (!f.inFrame) e
        if f.inFrame then x else qlFail i 4 x)) ∧
    (∀ lf rf_, cpMode r = 1 → Settles (.clientFaultRx i lf rf_) s
      (modCli i (fun c => { c with faultSeen := nputBit (nputBit c.faultSeen 6 lf) 7 rf_ }) d)) ∧
    (cpLoop r = 2 → ∀ f ns, ns < 1000000 → Ends (.macFrameRx i f ns) s d ∧ Settles (.esmcPduRx i f) s d) ∧
    (∀ f ns, ns < 1000000 → cpLoop r ≠ 2 → cpMode r = 1 → clientFailed d i = false →
      let e := count n (ctrClient i 0) 1 (count n (ctrClient i 1) f.length d)
      (f.length < 64 → Ends (.macFrameRx i f ns) s (count n (ctrClient i 4) 1 e)) ∧
      (64 ≤ f.length → cpMaxFrame r < f.length → Ends (.macFrameRx i f ns) s (count n (ctrClient i 5) 1 e)) ∧
      (64 ≤ f.length → f.length ≤ cpMaxFrame r → fcsGood f = true → isEsmc f = true →
        Ends (.macFrameRx i f ns) s e) ∧
      (64 ≤ f.length → f.length ≤ cpMaxFrame r → fcsGood f = true → isEsmc f = false →
        domReady d (14 + i / 16) = true → ∀ flow, classify (count (14 + i / 16) (ctrSlice (i / 16) 0) 1 e) (i / 16) (i % 16) f = some flow →
        Ends (.macFrameRx i f ns) s (admitFrame i flow false (now d * 1000000 + ns) f (count (14 + i / 16) (ctrSlice (i / 16) 0) 1 e)))) ∧
    (∀ f q, cpLoop r ≠ 2 → cpEsmc r = true → clientFailed d i = false → isEsmc f = true → fcsGood f = true → esmcQl f = some q →
      assisted d 9 i = false → isFrozen d 9 i = false →
      ∃ x, Settles (.esmcPduRx i f) s x ∧
        x = setQl i q (setPort i 11 false (count n (ctrClient i 8) 1 (modCli i (fun c => { c with pdus := c.pdus + 1 }) d)))) ∧
    (cpEsmc r = true → Settles (.esmcTimeout i) s (qlFail i 2 (setPort i 11 true d))) ∧
    (cpMode r = 1 → cpEsmc r = true → domReady d 3 = true → (cliOf d i).txSig = 0 → (cliOf d i).eventDue = false →
      let q := esmcLevel d i
      let b := esmcPdu q false
      let e := count n (ctrClient i 2) 1 (count n (ctrClient i 3) b.length (modCli i (fun c => { c with sent := b })
        (count n (ctrClient i 10) 1 (modCli i (fun c => { c with lastTx := some q }) d))))
      Ends (.esmcInfoPduTx i) s
        (if cpLoop r = 2 then macIngress i b (Config.freeNs d.time.stamps % 1000000) (esmcParse i b e) else e)) ∧
    (∀ k j v errs, k < 4 → j < 16 → laneOwner d k j = some i → i / 16 = k → cpPatRx r ≠ 0 →
      let e := if rb d (.cliLstat k j) 3 then satCtr (.cliPrbsCnt k j) 31 0 errs d else d
      (rb d (.cliLstat k j) 3 = v → Ends (.prbsCheckerLock k j v errs) s e) ∧
      (rb d (.cliLstat k j) 3 ≠ v → Ends (.prbsCheckerLock k j v errs) s (evtCli 0x0606 k i (be 1 j) (setRb (.cliLstat k j) 3 v e)))) ∧
    (∀ k x, cpMode r = 1 → domReady d (14 + i / 16) = true → (cliOf d i).txSig = 0 → k < 8 →
      qReadable (egQ d (i / 16) (i % 16 * 8 + k)) = some x →
      (∀ j, k < j → j < 8 → qReadable (egQ d (i / 16) (i % 16 * 8 + j)) = none) →
      let j := i % 16 * 8 + k
      let e := count n (ctrClient i 2) 1 (count n (ctrClient i 3) x.bytes.length (modCli i (fun c => { c with sent := x.bytes })
        (count (14 + i / 16) (ctrEgq (i / 16 * 128 + j) 0) 1
          (afterRead (i / 16) true j (modQueue (i / 16) true j qRead d)))))
      Ends (.egressFrameTx i) s
        (if cpLoop r = 2 then macIngress i x.bytes (Config.freeNs d.time.stamps % 1000000) (esmcParse i x.bytes e) else e)) ∧
    (cpMode r = 1 → domReady d (14 + i / 16) = true → (cliOf d i).txSig = 0 →
      (∀ j, j < 8 → qReadable (egQ d (i / 16) (i % 16 * 8 + j)) = none) →
      Ends (.egressFrameTx i) s (count (14 + i / 16) (ctrSlice (i / 16) 4) 1 d))

/-! ### Line ports -/

/-- Line framing (R209, R210, R212, R215, R217 to R219, R221, R223, R233, R236): a FlexO instance walks the states of R212 and
takes the overhead of its frame where the CRC is correct; the framer in frame counts the frame and leaves it after 5 bad ones;
LOF and LOM follow the framer, and alignment is then lost; the transmitter sends the next frame of its multiframe, whose
overhead bytes are those of R221. -/
def Obligations.LinesFrameAndAlign : Prop :=
  (∀ (x : FlexO) (pos : Nat) (valid : Bool), amStep x pos valid = match x.st with
    | .hunt => if valid then { x with st := .confirm, pos := pos, miss := 0 } else x
    | .confirm => if pos = x.pos + 696320 then
        if valid then { x with st := .lock, pos := pos, miss := 0 } else { x with st := .hunt } else x
    | .lock => if pos = x.pos + 696320 then
        if valid then { x with pos := pos, miss := 0 }
        else if x.miss < 4 then { x with pos := pos, miss := x.miss + 1 } else { x with st := .hunt, miss := 0 } else x) ∧
  ∀ (s : State) (p : Nat), On s → p < 4 → domReady s.dev (6 + p) = true →
    let d := s.dev
    (∀ k pos bad crcOk id gid skew rpf, k < 16 → laneGood d p (k / 2) = true →
      let y := amStep (flexO d p k) pos (decide (bad ≤ 4))
      let e (x : FlexO) := modFlexO p k (fun _ => x) (modLn p (fun l => { l with rxRec := some (lineRec d p) }) d)
      (y = flexO d p k ∨ (4 < bad ∧ (crcOk = false ∨ (flexO d p k).st ≠ .lock ∨ y.st ≠ .lock)) →
        Settles (.flexoMarker p k pos bad crcOk id gid skew rpf) s (showLine p (e y))) ∧
      (y ≠ flexO d p k → bad ≤ 4 → crcOk = false → Settles (.flexoMarker p k pos bad crcOk id gid skew rpf) s
        (showLine p (e { y with skew := skew }))) ∧
      (y ≠ flexO d p k → bad ≤ 4 → crcOk = true → Settles (.flexoMarker p k pos bad crcOk id gid skew rpf) s
        (showLine p (setLine p 15 rpf (e { y with skew := skew, id := id % 32, gid := gid })))) ∧
      (y ≠ flexO d p k → 4 < bad → crcOk = true → (flexO d p k).st = .lock → y.st = .lock →
        Settles (.flexoMarker p k pos bad crcOk id gid skew rpf) s
          (showLine p (setLine p 15 rpf (e { y with id := id % 32, gid := gid }))))) ∧
    Settles (.flexoLof p) s (setLine p 3 (!amLocked d p) d) ∧
    (∀ x, laneLost d p = false → flexHeld d p = false → (framer d p).inFrame = true →
      (obsAt x.obs (framer d p).pos).ok = false → 4 ≤ (framer d p).bad →
      Settles (.otucFrameRx p x) s (leaveFrame p true (count (6 + p) (ctrLine p 5) 1
        (modFramer p (fun f => { f with bad := (framer d p).bad + 1 }) d)))) ∧
    (∀ x, laneLost d p = false → flexHeld d p = false → (framer d p).inFrame = true →
      (obsAt x.obs (framer d p).pos).ok = true →
      Settles (.otucFrameRx p x) s (frameIn p x (obsAt x.obs (framer d p).pos) (modFramer p (fun f => { f with bad := 0 }) d))) ∧
    (∀ x, laneLost d p = false → flexHeld d p = false → (framer d p).inFrame = false →
      Settles (.otucFrameRx p x) s (huntFrame p x.obs d)) ∧
    (fstat d p 9 ≠ (!(framer d p).inFrame) → Settles (.lofChange p) s
      (if (framer d p).inFrame then setLine p 9 false d else alignLost p (setLine p 9 true d))) ∧
    (fstat d p 9 = (!(framer d p).inFrame) → Settles (.lofChange p) s d) ∧
    (fstat d p 11 ≠ fstat d p 10 → Settles (.lomChange p) s
      (if fstat d p 10 then alignLost p (setLine p 11 true d) else setLine p 11 false d)) ∧
    (fstat d p 11 = fstat d p 10 → Settles (.lomChange p) s d) ∧
    (∀ ns odu, ns < 1000000 → (ln d p).txMfas % 32 ≠ 0 →
      let m := (ln d p).txMfas
      let y := ohxTake p d
      let at_ := (ln y.2 p).flexPos + flexStep
      let z := modLn p (fun l => { l with
        flexPos := at_ % flexLen
        txRec := if flexLen ≤ at_ ∨ l.txRec = none then some (lineRec y.2 p) else l.txRec, txMsg := if l.txMsg = [] then rszMessage y.2 p else l.txMsg
        txBeacon := if m % 16 = 0 ∨ l.txBeacon = [] then beaconBytes y.2 p else l.txBeacon }) y.2
      let e := (odu.filter fun x => lineOf x.cont == p).foldl (fun d x => oduSent x d) z
      ∃ f g, Settles (.lineTxFrame p ns odu) s (count (6 + p) (ctrLine p 11) (slotOctets (busySlots g p (rz g p).txMap) m) g) ∧
        g = modLn p (fun l => { l with tx := f, txMfas := (m + 1) % 256, txMf := if m = 255 then l.txMf + 1 else l.txMf })
          ((portLayers e p).foldl (fun d l => modLayer l.key (fun y => { y with bei := y.bei.drop 1 }) d) e) ∧
        f.mfas = m ∧ f.exp1 = slice (ln e p).txMsg (2 * (m % 32)) 2 ∧ f.ohx = y.1 ∧ f.msi = portMsi e p ∧ f.avail = (rz e p).txMap ∧
        f.fill = portFill e p ∧ f.fatal = muted e ∧ f.layers = portLayers e p ∧ f.fx.map (·.id) = List.range 16 ∧
        (∀ x ∈ f.fx, x.gid = lrTxGid (txFlexRec y.2 p) ∧ x.rpf = fstat y.2 p 3) ∧ f.lanes = flexLanes y.2 p ∧
        f.fxNext = (if flexLen ≤ at_ then some (flexTx e p, flexLanes e p) else none) ∧
        (lrBeaconTx (lineRec y.2 p) = true → f.exp2 = slice (ln e p).txBeacon (2 * (m % 16)) 2) ∧
        (lrBeaconTx (lineRec y.2 p) = false → f.exp2 = [0, 0]) ∧
        ∀ inst, inst < 16 → (∀ col, col < 6 → txOverhead f inst 0 col = some (fasBytes.getD col 0)) ∧
          txOverhead f inst 0 6 = some (BitVec.ofNat 8 m) ∧ (∀ col, 4 ≤ col → col < 13 → txOverhead f inst 1 col = some 0) ∧
          (2 ≤ inst → f.ohx = none → ∀ col, col = 12 ∨ col = 13 → ohxInOk inst 2 col = true → txOverhead f inst 2 col = some 0))

/-- The beacon (R223, R224): three agreeing beacons with a correct CRC make FAR_ZK, eight bad ones end it. OHX (R232 to R236):
each system frame reads the receive slip buffer and, with OHX_EN, drives an output frame; an input frame enters its own
buffer, one with a wrong CRC is counted and leaves its place empty, a system frame takes the bytes of a valid one, and 16
system frames without one are LOS. -/
def Obligations.BeaconsAndOverheadExchange : Prop :=
  ∀ (s : State) (p : Nat), On s → p < 4 → domReady s.dev (6 + p) = true →
    let d := s.dev
    let w := (ln d p).beacon
    let put (x : BeaconSt) : Dev := modLn p (fun l => { l with beacon := x }) d
    (∀ b, beaconOk b = true → fstat d p 8 = false → fstat d p 10 = false → w.n = 2 → beaconKey b = beaconKey w.cand →
      fstat d p 14 = false → Settles (.beaconRx p b) s
        (showRz p (evtLine 0x0502 p p b (setLine p 14 true (put { cand := b, n := 3, acc := some b, bad := 0 }))))) ∧
    (∀ b, beaconOk b = true → fstat d p 8 = false → fstat d p 10 = false → w.n = 0 →
      Settles (.beaconRx p b) s (put { w with cand := b, n := 1, bad := 0 })) ∧
    (∀ b, beaconOk b = false → (w.bad < 7 ∨ fstat d p 14 = false) → ∃ x, Settles (.beaconRx p b) s x ∧
      x = modLn p (fun l => { l with beacon := { w with bad := w.bad + 1, n := 0 } }) (count (6 + p) (ctrLine p 7) 1 d)) ∧
    (∀ b, beaconOk b = false → 7 ≤ w.bad → fstat d p 14 = true → ∃ x y, Settles (.beaconRx p b) s x ∧
      y = count (6 + p) (ctrLine p 7) 1 d ∧
      x = showRz p (setLine p 14 false (evtLine 0x0502 p p (farBeacon y p) (modLn p (fun l => { l with beacon := {} }) y)))) ∧
    (let o := (ln d p).ohx
      let en := lrOhxEn (lineRec d p)
      (∀ x rest, o.rx = x :: rest → Ends (.ohxOutFrame p) s (modLn p (fun l => { l with ohx := { l.ohx with
        rx := rest, slipped := false, last := some x, count := (o.count + 1) % 65536
        out := if en then ohxFrame (lineRec d p) (some x) (framer d p).inFrame o.slipped o.count else o.out } }) d)) ∧
      (∀ x, o.rx = [] → o.last = some x → Ends (.ohxOutFrame p) s (ohxSlip p false (modLn p (fun l => { l with ohx := { l.ohx with
        rx := [], slipped := false, last := some x, count := (o.count + 1) % 65536
        out := if en then ohxFrame (lineRec d p) (some x) (framer d p).inFrame true o.count else o.out } }) d))) ∧
      (en = true →
        (∀ b, b.length = 40 → u16 b 38 ≠ crcCcitt (b.take 38) → Ends (.ohxInFrame p true b) s
          (satCtr (.lineOhxErr p) 15 0 1 (modLn p (fun l => { l with ohx := { l.ohx with
            inq := if l.ohx.inq.length < 2 then l.ohx.inq ++ [none] else l.ohx.inq } }) d))) ∧
        (∀ b, b.length = 40 → u16 b 38 = crcCcitt (b.take 38) → o.inq.length < 2 → fstat d p 13 = false →
          Ends (.ohxInFrame p true b) s (modLn p (fun l => { l with ohx := { l.ohx with inq := o.inq ++ [some b], idle := 0 } }) d)) ∧
        (∀ b, Ends (.ohxInFrame p false b) s d) ∧
        (fstat d p 13 = false → 16 ≤ o.idle →
          Ends (.ohxInLos p) s (evtLine 0x0503 p p (be 4 (reg d (.lineOhxSlip p)).toNat) (setLine p 13 true d))) ∧
        (o.idle < 16 → Ends (.ohxInLos p) s d) ∧
        (∀ b rest, o.inq = some b :: rest → (ohxTake p d).1 = (if wbit b 1 0 && !fstat d p 13 then some b else none)) ∧
        (∀ rest, o.inq = none :: rest → (ohxTake p d).1 = none)) ∧
      (en = false → (ohxTake p d).1 = none ∧ ∀ start b, Ends (.ohxInFrame p start b) s d))

/-! ### Containers in the mapper -/

/-- Delineation (R225, R227, R231, R275): in HUNT a correct marker or core header is the candidate; a second and a third
correct header make SYNC, where a frame to be handled makes its body due; a wrong one in PRESYNC hunts again past the entry,
and the third in a row in SYNC hunts past itself; a changed payload type hunts anew. The bytes skipped before a header pass
the descrambler (R226, R228). -/
def Obligations.DelineatorsHuntAndSynchronise : Prop :=
  ∀ (s : State) (c : Nat), On s → c < 1024 → domReady s.dev (14 + contSlice s.dev c) = true →
    let d := s.dev
    let x := (pct d c).delin
    (∀ pos m, zpcDelin d c = true → delinHeld d c = false → m.length = 8 → x.st = 0 → zmOk m = true → x.resume ≤ pos →
      Settles (.zpcMarkerRx c pos m) s (setDelin c { x with
        st := 1, good := 0, err := 0, grid := pos + 2056, next := markHeader pos m, seq := zmSeq m, entry := pos } d)) ∧
    (∀ pos m, zpcDelin d c = true → delinHeld d c = true → Settles (.zpcMarkerRx c pos m) s d) ∧
    (∀ m, zpcDelin d c = true → delinHeld d c = false → m.length = 8 → x.st = 2 → zmOk m = true → zmSeq m = (x.seq + 1) % 2 ^ 32 →
      markAgrees x.grid m x.next = true → x.next ≠ none →
      Settles (.zpcMarkerRx c x.grid m) s (countBlock 6 c false (setDelin c { x with grid := x.grid + 2056, seq := zmSeq m } d))) ∧
    (∀ pos skipped h, zpcDelin d c = true → delinHeld d c = false → h.length = 8 → x.next = some pos →
      let e := skipBytes c skipped d
      (zhOk h = true → x.st = 1 ∨ x.st = 2 →
        let sync := x.st = 2 ∨ 1 ≤ x.good
        let y := { x with
          next := some (nextHeader x.grid pos (zhLen h)), good := x.good + 1, err := 0, st := if sync then 2 else 1
          due := if sync ∧ zhType h ≠ 0 ∧ zhLenOk h = true then some h else none }
        let i := if sync ∧ zhType h = 0 then countDelin c 7 1 e else e
        Settles (.zpcHeaderRx c pos ⟨skipped, h⟩) s (setDelin c y (if sync ∧ zhLenOk h = false then countDelin c 4 1 i else i))) ∧
      (zhOk h = false → x.st = 1 → Settles (.zpcHeaderRx c pos ⟨skipped, h⟩) s (setDelin c
        { x with st := 0, good := 0, err := 0, next := none, due := none, resume := x.entry + 8 } e)) ∧
      (zhOk h = false → x.st = 2 → Settles (.zpcHeaderRx c pos ⟨skipped, h⟩) s (countDelin c 0 1 (countDelin c 3 1 (setDelin c
        (if x.err < 2 then { x with err := x.err + 1, next := none, due := none }
         else { x with st := 0, good := 0, err := 0, next := none, due := none, resume := pos + 8 }) e))))) ∧
    (∀ pos skipped h, gfpDelin d c = true → delinHeld d c = false → h.length = 4 →
      let e := skipBytes c skipped d
      (x.st = 0 → gfpOk (gfpCore h) = true → x.resume ≤ pos → Settles (.gfpCoreHeaderRx c pos ⟨skipped, h⟩) s (setDelin c { x with
        st := 1, good := 0, err := 0, next := some (pos + 4 + u16 (gfpCore h) 0), entry := pos } e)) ∧
      (x.st = 1 → x.next = some pos → gfpOk (gfpCore h) = true →
        Settles (.gfpCoreHeaderRx c pos ⟨skipped, h⟩) s (countBlock 6 c false (setDelin c { x with
          good := x.good + 1, next := some (pos + 4 + u16 (gfpCore h) 0), st := if 1 ≤ x.good then 2 else 1
          due := if 1 ≤ x.good then gfpDue (gfpCore h) else none } e))) ∧
      (x.st = 2 → x.next = some pos → gfpOk (gfpCore h) = true →
        Settles (.gfpCoreHeaderRx c pos ⟨skipped, h⟩) s (countBlock 6 c false (setDelin c { x with
          err := 0, next := some (pos + 4 + u16 (gfpCore h) 0), due := gfpDue (gfpCore h) } e))) ∧
      (x.st = 1 → x.next = some pos → gfpOk (gfpCore h) = false →
        Settles (.gfpCoreHeaderRx c pos ⟨skipped, h⟩) s (countBlock 6 c true (setDelin c
          { x with st := 0, good := 0, err := 0, next := none, due := none, resume := x.entry + 1 } e)))) ∧
    (∀ pt, pt < 256 → isZpc (ctRec d c) = true → (pct d c).rxPt ≠ pt →
      Settles (.rxPtChange c pt) s (setDelin c {} (modPct c (fun p => { p with rxPt := pt }) d))) ∧
    (∀ pt, pt < 256 → (pct d c).rxPt = pt → Settles (.rxPtChange c pt) s d)

/-- A container that runs (R246, R253, R255, R256, R263, R267): in each GMP stage, the client's of a GMP mapping and the one
into the parent, a Cm or CnD with a correct CRC takes effect, one with a wrong CRC is counted, and the third period with one
is JC_ERR of the stage until a good Cm; where the pair runs AMP the majority of the JC fields counts; two records of the
extended counter that follow each other lock it; CSF of GFP-F is sent, received and cleared; a G.7044 resize walks LCR, BWR
and its timeouts; a standby without a decision of one of its stages counts a miss. The coding of the JC fields of AMP and the
values of GFP-F and CSF are those of the standards (log entry 53). -/
def Obligations.ContainersJustifyAndResize : Prop :=
  ∀ (s : State) (c : Nat), On s → c < 1024 → contOn s.dev c = true →
    let d := s.dev
    let x := contOf d c
    let r := ctRec d c
    (∀ cm cnd cmOk cndOk, domReady d (6 + lineOf c) = true →
      (∀ st, (st = 0 ∧ ctPayload r = 0 ∧ ctType r = 5) ∨ (st = 1 ∧ byAmp d c = false) →
        let x := tget {} x.jc st
        let y : Jc := {
          cm := if cmOk then cm else x.cm, cnd := if cndOk then cnd else x.cnd
          bad := if cmOk && cndOk then 0 else x.bad + 1, err := !cmOk && (x.err || decide (2 ≤ x.bad)) }
        let e := cctrAdd (c * 8 + 2) ((!cmOk).toNat + (!cndOk).toNat) (modCont c (fun z => { z with jc := tset z.jc st y })
          (cctrAdd (c * 8 + 3) (if x.cm < y.cm then 1 else 0) (cctrAdd (c * 8 + 4) (if y.cm < x.cm then 1 else 0) d)))
        Settles (.gmpJcRx c cm cnd ⟨cmOk, cndOk, st⟩ none) s (setLive (.xcCstat c) 24 1 ((contOf e c).jc.any fun z => z.2.err) e)) ∧
      (byAmp d c = true → ∀ l,
        (ampVote l = some 1 → Settles (.gmpJcRx c cm cnd ⟨cmOk, cndOk, 1⟩ (some l)) s (cctrAdd (c * 8 + 4) 1 d)) ∧
        (ampVote l = some 2 → Settles (.gmpJcRx c cm cnd ⟨cmOk, cndOk, 1⟩ (some l)) s (cctrAdd (c * 8 + 3) 2 d)) ∧
        (ampVote l = some 3 → Settles (.gmpJcRx c cm cnd ⟨cmOk, cndOk, 1⟩ (some l)) s (cctrAdd (c * 8 + 3) 1 d)) ∧
        (ampVote l = none → Settles (.gmpJcRx c cm cnd ⟨cmOk, cndOk, 1⟩ (some l)) s (cctrAdd (c * 8 + 2) 1 d)))) ∧
    (∀ b mfas, mfas < 256 → extCut d c = false → extLock d c = false → b.length = 8 →
      u16 b 6 = crcCcitt (b.take 6) → u32 b 0 % 256 = mfas →
      let e : ExtFc := { x.ext with rxFc := u32 b 0, rxTag := u16 b 4, bad := 0, cand := none }
      (x.ext.good = 0 → Settles (.extfcRecordRx c b mfas) s (modCont c (fun x => { x with ext := { e with good := 1 } }) d)) ∧
      (x.ext.good = 1 → u32 b 0 = (x.ext.rxFc + 4) % 2 ^ 32 →
        Settles (.extfcRecordRx c b mfas) s (setExtLock c true (modCont c (fun x => { x with ext := { e with good := 2 } }) d)))) ∧
    (ctPayload r = 3 → ctCsfEn r = true → domReady d (14 + contSlice d c) = true →
      (∃ e ∈ flowsOf d c, clientFailed d (ctxSlice e.1 * 16 + flPort e.2) = true) →
      Ends (.csfMgmtFrameTx c) s (emitGfp c (gfpMgmt 1) (modCont c (fun x => { x with csfSent := x.csfSent + 1 }) d))) ∧
    (∀ q h area, frameDue d c = some (q, h) → areaFits area h = true → ctPayload r = 3 →
      let b := (descramble (pct d q).des area).1
      gfpTypeOk b = true → gfpPti b = 4 → gfpUpi b = 1 ∨ gfpUpi b = 2 →
      Settles (.csfMgmtFrameRx c area) s (modCont c (fun x => { x with csf := true }) (takeDue c q h area d))) ∧
    Settles (.csfClearTimeout c) s (modCont c (fun x => { x with csf := false }) d) ∧
    ((x.flex = .lcrInc ∨ x.flex = .lcrDec) →
      Settles (.lcrAckRx c true) s (modCont c (fun x => { x with acked := true }) d) ∧
      Settles (.lcrAckRx c false) s (setFlex c .idle 2 d) ∧
      (x.acked = false → Settles (.lcrTimeout c) s (setFlex c .idle 3 d))) ∧
    (x.acked = true → x.flex = .lcrInc → Settles (.lcrSwitch c) s (setFlex c .bwrUp 0 (setNow c x.s2 (moveSlots c d)))) ∧
    (x.acked = true → x.flex = .lcrDec → Settles (.lcrSwitch c) s (setFlex c .idle 1 (setNow c x.s2 (moveSlots c d)))) ∧
    (x.acked = false → Settles (.lcrSwitch c) s d) ∧
    (x.flex = .bwrUp → Settles (.bwrRampComplete c) s (setFlex c .idle 1 d)) ∧
    (x.flex = .bwrDown → Settles (.bwrRampComplete c) s (setFlex c .lcrDec 0 d)) ∧
    (following d = true → inStep d = true → (∃ g ∈ justStages d c, justRec d c g.1 = none) →
      let e := setLive (.xcCstat c) 24 2 true (modCont c (fun x => { x with missSeen := true }) (mateMiss (cctrAdd (c * 8 + 7) 1 d)))
      Ends (.mirrorMiss c) s (if x.missSeen then e else evtXc 0x0705 c (be 4 (tget {} e.cctr (c * 8 + 7)).v) e))

/-! ### Packet containers and contexts -/

/-- Control frames of a container (R226, R228, R284, R288, R294, R296 to R298, R305): the frame due in its stream passes the
descrambler; an ANNOUNCE fills its entry and is acknowledged; an ACK makes its flow ACTIVE, refuses it, or releases a
withdrawn context; a WITHDRAW frees its entry; a RESYNC_REQ returns its flow to FULL; CLIENT_FAULT applies to the ports of its
far port. A frame with a wrong CRC is counted and does nothing more. -/
def Obligations.ControlFramesActOnContexts : Prop :=
  ∀ (s : State) (c f g q : Nat) (h body : Bytes), On s → c < 1024 → f < 262144 → g < 256 → frameDue s.dev c = some (q, h) →
    ctlFits f g body h = true →
    let d := s.dev
    let n := contSlice d c
    let b := (descramble (pct d q).des body).1
    let e := count (14 + n) (ctrSlice n 10) 1 (takeDue c q h body d)
    let bad := count (14 + n) (ctrSlice n 12) 1 e
    let x := sndOf d f
    (cbOk ccAnnounce b = false → Ends (.ctxAnnounceRx c f g body) s bad) ∧
    (cbOk ccAck b = false → Ends (.ctxAckRx c f g body) s bad) ∧
    (cbOk ccWithdraw b = false → Ends (.ctxWithdrawRx c f g body) s bad) ∧
    (cbOk ccResync b = false → Ends (.ctxResyncReqRx c f g body) s bad) ∧
    (cbOk ccFault b = false → Settles (.clientFaultFrameRx c body) s bad) ∧
    (cbOk ccAnnounce b = true → following d = false → 14 ≤ cbTlen b → cbTlen b ≤ 26 → (rxOf d c f).isSome = true →
      Ends (.ctxAnnounceRx c f g body) s (pushLossy c f g (ctlBody ccAck false 0 [] 0 0)
        (fwdRx 3 c f g (cbTemplate b) (setRx c f g (cbTemplate b) e)))) ∧
    (cbOk ccAnnounce b = true → following d = false → (cbTlen b < 14 ∨ 26 < cbTlen b) →
      Ends (.ctxAnnounceRx c f g body) s (pushLossy c f g (ctlBody ccAck false 2 [] 0 0) e)) ∧
    (cbOk ccAck b = true → following d = false → x.st = .announcing → x.gen = g → x.cont = c →
      (cbStatus b = 0 → Ends (.ctxAckRx c f g body) s (fwdSnd 1 f (modSnd f (fun s => { s with st := .active, sends := 0 }) e))) ∧
      (cbStatus b = 1 ∨ cbStatus b = 2 → learnHost d n = false →
        Ends (.ctxAckRx c f g body) s (modSnd f (fun s => { s with delay := true }) (sndFull f e)))) ∧
    (cbOk ccAck b = true → x.st ≠ .announcing → wdrOf d c f = none →
      Ends (.ctxAckRx c f g body) s (count (14 + n) (ctrSlice n 13) 1 e)) ∧
    (∀ w, cbOk ccAck b = true → following d = false → x.st ≠ .announcing → wdrOf d c f = some w → w.gen = g → cbStatus b = 3 →
      Ends (.ctxAckRx c f g body) s (release c f w e)) ∧
    (cbOk ccWithdraw b = true → following d = false → cbAll b = false → rxOf d c f = none →
      Ends (.ctxWithdrawRx c f g body) s (pushLossy c f g (ctlBody ccAck false 3 [] 0 0) e)) ∧
    (∀ t, cbOk ccWithdraw b = true → following d = false → cbAll b = false → rxOf d c f = some { gen := g, tpl := t } →
      Ends (.ctxWithdrawRx c f g body) s (pushLossy c f g (ctlBody ccAck false 3 [] 0 0) (fwdRx 4 c f g []
        (updRxFull c (modPsl n (fun s => { s with rx := tdel s.rx (rxKey d c f) }) e))))) ∧
    (cbOk ccResync b = true → cbAll b = false → following d = false → x.st = .active → x.gen = g → x.cont = c →
      Ends (.ctxResyncReqRx c f g body) s (resyncFlow f e)) ∧
    (cbOk ccResync b = true → cbAll b = false → x.st = .full →
      Ends (.ctxResyncReqRx c f g body) s (count (14 + n) (ctrSlice n 13) 1 e)) ∧
    (cbOk ccFault b = true → (pct d c).zpcOk = true →
      Settles (.clientFaultFrameRx c body) s (applyFault c (cbFarPort b) (cbFault b) e))

/-- Data frames and timers of the context protocol (R282, R292, R294, R296, R297, R304, R305): the frame due in a container's
stream, past the descrambler, is delivered to the egress queue of its range: DATA_F as it is, DATA_C of the entry's generation
restored from its template, a GFP-F client data frame from its payload area; an errored one carries an inverted FCS. A context
miss is counted and asked for once in its hold; a frame that the stream cannot give does nothing (log entry 137). ANNOUNCE and
WITHDRAW are repeated up to 8 times; held requests and faults are repeated or end. -/
def Obligations.DataFramesAndContextTimers : Prop :=
  ∀ (s : State) (c f : Nat), On s → c < 1024 → f < 262144 →
    let d := s.dev
    let n := contSlice d c
    let o := rxOwner d c
    let r := pcRec d c
    let sent (e : Nat) (b : Bytes) (d : Dev) : Dev :=
      writeEgress n (rgPort r e) (rgClass r e) b (countRange o e 0 1 (countRange o e 1 b.length d))
    let mark (efcs : Bool) (e : Nat) (d : Dev) : Dev := if efcs then countRange o e 3 1 d else d
    (∀ q h body efcs gfp, frameDue d c = some (q, h) → dataFFits f efcs gfp body h = true →
      let b := (descramble (pct d q).des body).1
      let k := takeDue c q h body d
      (∀ e, gfp = false → rangeOf d c f = some e → (efcs = true ∨ fcsGood b = true) →
        (rgDrop r e = false → Ends (.dataFRx c f efcs gfp body) s (sent e (if efcs then fcsInvert b else b) (mark efcs e k))) ∧
        (rgDrop r e = true → Ends (.dataFRx c f efcs gfp body) s (countRange o e 5 1 (mark efcs e k)))) ∧
      (∀ e, gfp = false → rangeOf d c f = some e → efcs = false → fcsGood b = false → rgDrop r e = false →
        Ends (.dataFRx c f efcs gfp body) s
          (if pcLineFcsFwd r then sent e (fcsInvert b) (countRange o e 4 1 k) else countRange o e 4 1 k)) ∧
      (gfp = false → rangeOf d c f = none → Ends (.dataFRx c f efcs gfp body) s (dropUnmatched c k)) ∧
      (∀ e, gfp = true → gfpTypeOk b = true → gfpPti b = 0 → gfpUpi b = 1 → rangeOf d c f = some e → rgDrop r e = false →
        (gfpClient b).2 = false → fcsGood (gfpClient b).1 = true →
        Ends (.dataFRx c f efcs gfp body) s (sent e (gfpClient b).1 k)) ∧
      (gfp = true → gfpTypeOk b = false → Ends (.dataFRx c f efcs gfp body) s k)) ∧
    (∀ q h body g efcs, g < 256 → frameDue d c = some (q, h) → dataCFits f g efcs body h = true →
      let b := (descramble (pct d q).des body).1
      let k := takeDue c q h body d
      (∀ e t, rxOf d c f = some { gen := g, tpl := t } → rangeOf d c f = some e → rgDrop r e = false →
        (efcs = true ∨ fcsGood (t ++ b) = true) →
        let x := if efcs then fcsInvert (t ++ b) else t ++ b
        Ends (.dataCRx c f g efcs body) s (writeEgress n (rgPort r e) (rgClass r e) x
          (countRange o e 2 1 (countRange o e 0 1 (countRange o e 1 x.length (mark efcs e k)))))) ∧
      ((∀ y, rxOf d c f = some y → y.gen ≠ g) →
        let m := modPct c (fun p => { p with missed := true }) (match rangeOf d c f with
          | some e => countRange o e 6 1 k
          | none => dropUnmatched c k)
        (∀ t, tfind (pct d c).resyncCtx f = some t → now d ≤ t + pcHold r → Ends (.dataCRx c f g efcs body) s m) ∧
        (tfind (pct d c).resyncCtx f = none → following d = false →
          Ends (.dataCRx c f g efcs body) s (pushLossy c f g (ctlBody ccResync false 0 [] 0 0)
            (modPct c (fun p => { p with resyncCtx := tset p.resyncCtx f (now d) }) m))))) ∧
    (frameDue d c = none → ∀ g efcs gfp (b : Bytes), g < 256 → Ends (.dataFRx c f efcs gfp b) s d ∧ Ends (.dataCRx c f g efcs b) s d) ∧
    (following d = false → (sndOf d f).st = .announcing → learnFrozen d (ctxSlice f) = false →
      ((sndOf d f).sends < 8 → Ends (.annRetryExpiry ⟨f, none⟩) s (sendCtx f d)) ∧
      (8 ≤ (sndOf d f).sends → learnHost d (ctxSlice f) = false → Ends (.annRetryExpiry ⟨f, none⟩) s
        (modSnd f (fun s => { s with delay := true }) (evtPkt 0x0803 (ctxSlice f) f [] (sndFull f d))))) ∧
    (∀ w, following d = false → wdrOf d c f = some w →
      (w.sends < 8 → Ends (.annRetryExpiry ⟨f, some c⟩) s (sendWdr c f d)) ∧
      (8 ≤ w.sends → Ends (.annRetryExpiry ⟨f, some c⟩) s (release c f w d))) ∧
    ((sndOf d f).st = .active → Ends (.annRetryExpiry ⟨f, none⟩) s d) ∧
    ((sndOf d f).delay = true → Ends (.annReattemptExpiry f) s (tryAnnounce f 1 (modSnd f (fun s => { s with delay := false }) d))) ∧
    ((sndOf d f).delay = false → Ends (.annReattemptExpiry f) s d) ∧
    ((pct d c).resync = false → Ends (.resyncHoldRepeat c) s d) ∧
    ((pct d c).resync = true → (pct d c).missed = true → Ends (.resyncHoldRepeat c) s (resyncAll c d)) ∧
    ((pct d c).resync = true → (pct d c).missed = false →
      Ends (.resyncHoldRepeat c) s (zLive c 3 false (modPct c (fun p => { p with resync := false }) d))) ∧
    (∀ i, i < 64 → cpMode (servRec d 1 i) = 1 → faultOf d i ≠ 0 → contsOfPort d i = [c] → Ends (.clientFaultRefreshTx i) s
      (pushLossy c 0 0 (ctlBody ccFault false 0 [] (faultOf d i) i) d)) ∧
    (∀ i, i < 64 → (faultOf d i = 0 ∨ contsOfPort d i = []) → Ends (.clientFaultRefreshTx i) s d) ∧
    (∀ far i, far < 256 → portsOfFar d c far = [i] → tget 0 (pct d c).faultRx i ≠ 0 →
      let e := modPct c (fun p => { p with faultRx := tdel p.faultRx i }) d
      let any (v : Nat) : Bool := (pct e c).faultRx.any fun x => x.2 == v
      Settles (.clientFaultRxTimeout c far) s (evtPkt 0x0806 n i [] (zLive c 6 (any 1) (zLive c 7 (any 2) e))))

/-! ### Queues, the line assembler and MEMC -/

/-- Queues and the line assembler (R287, R289, R315, R316, R321, R322, R326, R333, R336): the encapsulator sends one frame, or
fills; at most two units are assembled ahead, and a unit handed over releases its marks; a spilled block comes back; a waiting
flush takes effect; a stale timer marks its entry and may flush it; a sweep reclaims. -/
def Obligations.QueuesAndUnitsMove : Prop :=
  ∀ s : State, On s →
    let d := s.dev
    (∀ c, c < 1024 → isPkt (ctRec d c) = true → (serv d 2 c).isSome = true → domReady d (14 + contSlice d c) = true →
      let e := (encapFrame c 0 d).2
      ((pct e c).cur = none → Ends (.zpcEncapFrame c) s e) ∧
      (∀ f, (pct e c).cur = some f → Ends (.zpcEncapFrame c) s (flushBoundary f (modPct c (fun p => { p with cur := none }) e)))) ∧
    (∀ c, c < 1024 → (serv d 2 c).isSome = false → Ends (.zpcEncapFrame c) s d ∧ ∀ n, Ends (.lineAssemblyUnit c n) s d) ∧
    (∀ c n, c < 1024 → isPkt (ctRec d c) = true → (serv d 2 c).isSome = true → domReady d (14 + contSlice d c) = true →
      (pct d c).units.length < 2 → partnerOf d.prov.serv c = none →
      let p := pct d c
      let u : AsmUnit := {
        deficits := (flowsOf d c).map fun e => (e.1, (flowQ d e.1).deficit)
        round := p.round, rest := p.rest, cur := p.cur, seq := p.seq, left := p.left, restart := p.restart, ctlInBlock := p.ctlInBlock
        scr := p.scr }
      let e := modPct c (fun p => { p with units := p.units ++ [u] }) (sendStalls c d)
      let counted (x : Dev) : Dev := modMate (fun m => { m with
        stall := tdel m.stall (stallKey c (mfnOf x c)), mfn := tmod 0 m.mfn c fun k => (k + 1) % 2 ^ 32 }) x
      (n ≤ p.rest → Ends (.lineAssemblyUnit c n) s (counted (modPct c (fun p => { p with rest := p.rest - n }) e))) ∧
      (p.rest < n → Ends (.lineAssemblyUnit c n) s
        (counted (fillUnit c (n / 4 + 2) (n - p.rest) (modPct c (fun p => { p with rest := 0 }) e))))) ∧
    (∀ c n, c < 1024 → 2 ≤ (pct d c).units.length → Ends (.lineAssemblyUnit c n) s d) ∧
    (∀ c u rest f k, c < 1024 → (pct d c).units = u :: rest → u.marks = [(f, k)] → (∀ v ∈ rest, tfind v.marks f = none) →
      Ends (.assemblyUnitHandoff c) s (releaseFlow f (modPct c (fun p => { p with units := rest }) d))) ∧
    (∀ c, c < 1024 → (pct d c).units = [] → Ends (.assemblyUnitHandoff c) s d) ∧
    (∀ n eg i b l, isSlice n = true → isQueue n eg i = true → (queueAt d n eg i).inFlight ≠ 0 → (queueAt d n eg i).blocks = b :: l →
      Ends (.prefetchBlockArrive n eg i) s (refillQueue n eg i (updPools n (settleQueue n eg i (count (14 + n) (ctrSlice n 2) 1
        (modQueue n eg i (fun q => { q with
          blocks := l, inFlight := q.inFlight - 1, head := if l.isEmpty then 0 else q.head + b.bytes }) d)))))) ∧
    (∀ n eg i, isSlice n = true → isQueue n eg i = true → (queueAt d n eg i).inFlight = 0 ∨ (queueAt d n eg i).blocks = [] →
      Ends (.prefetchBlockArrive n eg i) s d) ∧
    (∀ f j, f < 262144 → ((pct d (flowCont d f)).jobs.filter fun j => j.wait.contains f) = [j] →
      ∃ x, Ends (.flushBoundary f) s (flushDone (contSlice x (flowCont d f)) (flowCont d f) j x) ∧
        x = modPct (flowCont d f) (fun p => { p with
          cur := if p.cur == some f then none else p.cur
          jobs := p.jobs.filter fun j => !j.wait.contains f }) (flushFlow f d)) ∧
    (∀ f, f < 262144 → (∀ j ∈ (pct d (flowCont d f)).jobs, f ∉ j.wait) → Ends (.flushBoundary f) s d) ∧
    (∀ n i, n < 4 → i < 65536 → mqEgStale (mqRec d n) ≠ 0 → 0 < qBytes (egQ d n i) →
      Ends (.staleTimerExpiry n 2 i) s (evtQm 0x0903 n i [] (modWm n 2 i (fun w => { w with stale := true, staleSticky := true }) d))) ∧
    (∀ n i, n < 4 → i < 65536 → qcStaleMs (qcRec d (i / 8) (i % 8)) ≠ 0 → contSlice d (i / 8) = n → 0 < cqBytes d (i / 8) (i % 8) →
      let e := evtQm 0x0903 n i [] (modWm n 1 i (fun w => { w with stale := true, staleSticky := true }) d)
      Ends (.staleTimerExpiry n 1 i) s
        (if qcStaleAct (qcRec d (i / 8) (i % 8)) then startFlush (i / 8) false (i % 8) e else e)) ∧
    (∀ n i, n < 4 → i < 65536 → qBytes (egQ d n i) = 0 → Ends (.staleTimerExpiry n 2 i) s d) ∧
    (∀ n, n < 4 →
      Ends (.queueSweepDone n true) s (updPools n (modPsl n (fun s => { s with leaked := [] }) d)) ∧
      Ends (.queueSweepDone n false) s (updPools n (modPsl n (fun s => { s with leakCells := 0 }) d)))

/-- MEMC (R21, R72, R317, R335, R338, R339, R342, R347): a grant round shares the bandwidth and shows it, and serves each
slice's requests as far as its grant goes; a burst error is retried and counted, one that exhausts its retries is counted,
marked and posted; training that fails leaves the group failed; retraining returns it to service or faults it. -/
def Obligations.MemoryIsGrantedAndTrained : Prop :=
  ∀ s : State, On s →
    let d := s.dev
    (∀ (l merge : List Nat) (ns : Nat), l.length = 4 → merge.length = 4 → domReady d 22 = true →
      let n := provSlices d.prov.serv
      let full := (if pop16 d then 4800000 else 2400000) * memRate d / 24
      let g := if layout d = 2 then grants full n (fun k => l.getD k 0) else n.map fun k => (k, min (l.getD k 0) (full / 2))
      let e := each [0, 1, 2, 3] (fun k => setReg (.memcGrant k)
        (putBits (putBits 0 31 16 (if n.contains k then l.getD k 0 / 10000 else 0)) 15 0 (tget 0 g k / 10000)))
        (modMemc (fun m => { m with grant := g, demand := n.map fun k => (k, l.getD k 0) }) d)
      Ends (.memcGrantRound ⟨l, ns, merge⟩) s (each n serveSlice (modMemc (fun m => { m with credit := n.map fun k =>
        (k, roundCredit (tget 0 g k) ns (merge.getD k 0) (tget {} m.credit k)) }) e))) ∧
    (∀ (g ns m : Nat) (x : Credit), (roundCredit g ns m x).rd < blockCost + g * ns ∧ (roundCredit g ns m x).wr < blockCost + g * ns) ∧
    (∀ (l merge : List Nat) (ns : Nat), l.length = 4 → merge.length = 4 → domReady d 22 = false →
      Ends (.memcGrantRound ⟨l, ns, merge⟩) s d) ∧
    (∀ (limit : Nat) (l : List Nat) (want : Nat → Nat), total ((grants limit l want).map (·.2)) ≤ limit ∧
      ∀ e ∈ grants limit l want, e.2 ≤ want e.1 ∧ min (want e.1) (limit / max 1 l.length) ≤ e.2) ∧
    (∀ iface failed n eg i, iface < 16 → failed < 3 → isSlice n = true → isQueue n eg i = true → domReady d (18 + iface / 4) = true →
      iface / 4 ∈ memGroups d → Settles (.memcBurstEdcFail iface failed n eg i) s
        (count (18 + iface / 4) (ctrMemc iface 3) 1 (count (18 + iface / 4) (ctrMemc iface 2) (1 + failed) d))) ∧
    (∀ iface n eg i, iface < 16 → isSlice n = true → isQueue n eg i = true → domReady d (18 + iface / 4) = true →
      iface / 4 ∈ memGroups d → (queueAt d n eg i).spilled = 0 → tget [] d.pkt.memc.fails iface = [] →
      let g := iface / 4
      let e := setRb (.memcGstat g) (24 + iface % 4) true (count (18 + g) (ctrMemc iface 5) 1 (count (18 + g) (ctrMemc iface 4) 1
        (count (18 + g) (ctrMemc iface 2) 4 d)))
      Settles (.memcBurstEdcFail iface 3 n eg i) s (postEvt 0x0909 0x000C (g + 1) iface []
        (modMemc (fun m => { m with fails := tset m.fails iface [now d] }) (stepFree e)))) ∧
    (∀ g, g < 4 → rf d (.memcGstat g) 2 0 = 4 →
      Settles (.memcRetrainDone g true) s (each (unitSlices d g) drainReserve (setRf (.memcGstat g) 2 0 2 d)) ∧
      let iface := 4 * g + ((List.range 4).find? fun i => rb d (.memcGstat g) (24 + i)).getD 0
      let e := raiseErr 3 0x000C (g + 1) 0x0032 iface (rf d (.memcGstat g) 23 16) d
      Settles (.memcRetrainDone g false) s (faultDomain (18 + g) (1 + peekFree d 6) (stepFree e))) ∧
    (∀ g ok, g < 4 → rf d (.memcGstat g) 2 0 ≠ 4 → Settles (.memcRetrainDone g ok) s d) ∧
    (∀ g k, g < 4 → k < 15 → (dom d (18 + g)).st = .ramping → (dom d (18 + g)).untrained = true →
      Settles (.memcTrainingDone g k) s (postEvt 0x0908 0x000C (g + 1) g (be 1 k)
        (setRf (.memcGstat g) 7 4 k (setRf (.memcGstat g) 2 0 5 d)))) ∧
    (∀ g, g < 4 → (dom d (18 + g)).st = .ramping → (dom d (18 + g)).untrained = true →
      let e := postEvt 0x0908 0x000C (g + 1) g (be 1 15) (setRf (.memcGstat g) 7 4 15 (setRf (.memcGstat g) 2 0 2 d))
      let f := modMemc (fun m => { m with trims := tset m.trims g (peekFree e (2 ^ 64)) })
        (stepFree (modDom (18 + g) (fun x => { x with untrained := false }) e))
      Settles (.memcTrainingDone g 15) s (calWrite 1 ((List.range 4).flatMap fun g => be 8 (tget 0 f.pkt.memc.trims g)) f))

/-! ### Elastic line capacity -/

/-- The resize handshake on a line port (R358, R361 to R368, R374 to R378): a port in IDLE becomes responder, accepts or
refuses under R371; an ACK of the own proposal schedules the switch, a NAK, an ABORT and a timeout end it with their reason;
SWITCH predicts the receive switch; both switches make DONE; a far map that equals its own ends FRESH. A message acts with its
second identical copy in a multiframe; the first is only noted. One with a wrong CRC, or without an aligned multiframe, is
counted and does nothing more; an ACK, a NAK or an ABORT of another identifier does nothing. That RESIZE_SWITCH tells the
receive direction by switchDir true is a free value of the model (log entry 17). -/
def Obligations.ResizesRunTheirHandshake : Prop :=
  ∀ (s : State) (p : Nat), On s → p < 4 → domReady s.dev (6 + p) = true →
    let d := s.dev
    let z := rz d p
    let valid (kind : Nat) (b : Bytes) : Prop := rmOk b = true ∧ rmMsg b = kind ∧ fstat d p 8 = false ∧ fstat d p 10 = false
    let twice (kind : Nat) (b : Bytes) : Prop := valid kind b ∧ z.heard = some ((ln d p).rxMf, b)
    let mine (kind : Nat) (b : Bytes) : Prop := twice kind b ∧ following d = false
    let Shows (c : Instr) (x : Dev) : Prop := Settles c s (showRz p x)
    (∀ b, rmOk b = false ∨ fstat d p 8 = true ∨ fstat d p 10 = true →
      let e := count (6 + p) (ctrLine p 8) 1 (modRz p (fun z => { z with heard := none }) d)
      Shows (.resizeProposeRx p b) e ∧ Shows (.resizeAckRx p b) e ∧ Shows (.resizeNakRx p b) e ∧ Shows (.resizeAbortRx p b) e ∧
        Shows (.resizeSwitchRx p b) e ∧ Shows (.resizeDoneRx p b) e) ∧
    (∀ b kind c, (kind, c) ∈ [(1, Instr.resizeProposeRx p b), (2, Instr.resizeAckRx p b), (3, Instr.resizeNakRx p b),
        (5, Instr.resizeAbortRx p b), (4, Instr.resizeSwitchRx p b), (0, Instr.resizeDoneRx p b)] →
      valid kind b → z.heard ≠ some ((ln d p).rxMf, b) →
      Shows c (modRz p (fun z => { z with heard := some ((ln d p).rxMf, b) }) d)) ∧
    (∀ b, mine 1 b → z.st = 0 → assisted d 5 p = false →
      let q := modRz p (fun z => { z with
        responder := true, propId := rmId b, newMap := rmMap b, preempt := rmPreempt b, pred := none, txDone := false, rxDone := false
        oldM := slotCount z.txMap, nPre := 0, nRes := 0, left := 0, sched := none, cd := 0 }) d
      let e := evtLine 0x0510 p p (be 4 (rmId b) ++ be 2 (slotCount (rmMap b)) ++ [1]) (modRz p (fun z => { z with st := 2, msg := 0 }) q)
      let v := verdict d p (rmMap b) (rmPreempt b) (rmCrc b)
      (v = 0 → Shows (.resizeProposeRx p b) (acceptProp p e)) ∧
      (v = 1 → Shows (.resizeProposeRx p b) (refuseProp p 1 q)) ∧
      (2 ≤ v → Shows (.resizeProposeRx p b) (refuseProp p v e))) ∧
    (∀ b, mine 2 b → z.st = 1 → rmId b = z.propId → rmCrc b = calCrc d p z.newMap →
      Shows (.resizeAckRx p b) (showRz p (evtLine 0x0511 p p [] (modRz p (fun z => { z with st := 4, sched := some (lrLead (lineRec d p)) }) d)))) ∧
    (∀ b, rmId b ≠ z.propId → (twice 2 b → Shows (.resizeAckRx p b) d) ∧ (twice 3 b → Shows (.resizeNakRx p b) d) ∧
      (twice 5 b → Shows (.resizeAbortRx p b) d)) ∧
    (∀ b, mine 3 b → z.st = 1 → rmId b = z.propId → Shows (.resizeNakRx p b) (fwdRz p
      (modRz p (fun z => { z with st := 0, msg := 0, left := 0 }) (rszRefused p (rmReason b) d)))) ∧
    (∀ b, mine 5 b → (z.st = 2 ∨ z.st = 3) → rmId b = z.propId → Shows (.resizeAbortRx p b) (fwdRz p
      (modRz p (fun z => { z with st := 0, msg := 0, left := 0 }) (rszAborted p (rmReason b) d)))) ∧
    (∀ b, mine 4 b → rmCd b ≠ 0 → z.st = 4 → rmId b = z.propId → z.pred = none → z.rxDone = false →
      let e := modRz p (fun z => { z with pred := some ((ln d p).rxMf + rmCd b, rmMap b) }) d
      Shows (.resizeSwitchRx p b) (fwdRz p (evtLine 0x0513 p p (be 6 (u48 b 12) ++ be 1 (rmCd b) ++ be 1 (switchDir true)) e))) ∧
    (∀ b, mine 0 b → z.fresh = false → rmMap b = z.rxMap → Shows (.resizeDoneRx p b)
      (showRz p (modRz p (fun z => { z with farMap := some (rmMap b), farFresh := rmFresh b }) d))) ∧
    (z.st = 1 → following d = false → Shows (.resizeAckTmo p) (showRz p (rszAborted p 11 (rszEnd p 5 11 d)))) ∧
    (z.st ≠ 1 → Shows (.resizeAckTmo p) d) ∧
    (z.st = 3 → z.pred = none → following d = false → z.farMap ≠ some z.newMap → Shows (.resizeResponderTmo p)
      (fwdRz p (modRz p (fun z => { z with st := 0, msg := 0, left := 0 }) d))) ∧
    (z.st ≠ 3 → Shows (.resizeResponderTmo p) d) ∧
    (z.msg = 4 → z.cd = 1 → z.txDone = false → (ln d p).txMfas = 0 → z.st = 4 → Shows (.resizeTxSwitch p)
      (rszComplete p (followMap p (writeMap p z.newMap (modRz p (fun z => { z with txMap := z.newMap, txDone := true, cd := 0, sched := none }) d))))) ∧
    ((ln d p).txMfas ≠ 0 → Shows (.resizeTxSwitch p) d) ∧
    (∀ r m, z.pred = some (r, m) → r ≤ (ln d p).rxMf → Shows (.resizeRxSwitch p)
      (rszComplete p (modRz p (fun z => { z with rxMap := m, rxDone := true, pred := none }) d))) ∧
    (z.pred = none → Shows (.resizeRxSwitch p) d) ∧
    (z.fresh = true → z.farMap = some z.txMap → z.rxMap = z.txMap → Shows (.freshClear p)
      (showRz p (modRz p (fun z => { z with fresh := false }) d))) ∧
    (z.fresh = false → Shows (.freshClear p) d)

/-! ### Protection and Slalom -/

/-- Linear protection (R415, R417, R418): a change of SF and SD is taken, raised after the hold-off, and the state machine
evaluated; the third identical APS is accepted; WTR ends in NR; a mismatch that has lasted 50 ms sets its FOP. The state
machine sends the higher of the local and the far request; the local one is the highest of the commands kept and the
conditions raised. -/
def Obligations.ProtectionFollowsConditions : Prop :=
  (∀ (r : Bytes) (p : ProtGrp), bidirectional r p = false → apsOutcome r p = ((localReq r p).1, (localReq r p).2.toNat, (localReq r p).2)) ∧
  (∀ (r : Bytes) (p : ProtGrp), bidirectional r p = true → farCode p ≠ 0 → (localReq r p).1 < farCode p →
    (apsOutcome r p).1 = (if farCode p = 1 then 1 else 2) ∧ (apsOutcome r p).2.1 = (if apsRequested p.far = 1 then 1 else 0)) ∧
  (∀ (r : Bytes) (p : ProtGrp), p.cmds.testBit 1 = true → localReq r p = (15, false)) ∧
  (∀ (r : Bytes) (p : ProtGrp), p.cmds.testBit 1 = false → p.raised.testBit 1 = true → localReq r p = (14, false)) ∧
  (∀ (r : Bytes) (p : ProtGrp), p.cmds.testBit 1 = false → p.raised.testBit 1 = false → p.cmds.testBit 2 = true →
    localReq r p = (13, true)) ∧
  (∀ (r : Bytes) (p : ProtGrp), p.cmds.testBit 1 = false → p.raised.testBit 1 = false → p.cmds.testBit 2 = false →
    p.cmds.testBit 3 = false → p.raised.testBit 0 = true → localReq r p = (11, true)) ∧
  ∀ (s : State) (g : Nat), On s → g < 512 → hasPg s.dev g = true →
    let d := s.dev
    let p := pg d g
    let r := pgRec d g
    (pgHoldoff r = 0 → condOf d g = 1 → p.cond = 0 → p.raised = 0 → p.hold = [] →
      Settles (.sfSdChange g) s (evalPg p g 0 (each [0, 1, 2, 3] (fun b => pgLive g b (decide (b = 0)))
        (modPg g (fun _ => { p with cond := 1, reinitSf := false, hold := [], raised := 1 }) d)))) ∧
    (pgHoldoff r ≠ 0 → condOf d g = 1 → p.cond = 0 → p.raised = 0 → p.hold = [] →
      Settles (.sfSdChange g) s (evalPg p g 1 (each [0, 1, 2, 3] (fun b => pgLive g b (decide (b = 0)))
        (modPg g (fun _ => { p with cond := 1, reinitSf := false, hold := [(0, now d)], raised := 0 }) d)))) ∧
    (∀ l, l = (p.hold.filter fun e => decide (e.2 + 100 * pgHoldoff r ≤ now d + 1)).map (·.1) →
      (l ≠ [] → Settles (.apsHoldoffExpiry g) s (evalPg p g 2 (modPg g (fun p => { p with
        raised := l.foldl (fun v b => if p.cond.testBit b then nputBit v b true else v) p.raised
        hold := p.hold.filter fun e => !l.contains e.1 }) d))) ∧
      (l = [] → Settles (.apsHoldoffExpiry g) s d)) ∧
    (p.wtr = true → following d = false → Settles (.apsWtrExpiry g) s (evalPg p g 4
      (modPg g (fun p => { p with wtr := false, wtrDone := true }) d))) ∧
    (p.wtr = false → Settles (.apsWtrExpiry g) s d) ∧
    (∀ b : Bytes, b.length = 4 → (b ≠ p.cand ∨ p.candN < 2) → Settles (.apsRxAccept g b) s (modPg g (fun p => { p with
      cand := b, candN := if b = p.cand ∧ p.candN ≠ 0 then p.candN + 1 else 1 }) d)) ∧
    (∀ b : Bytes, b.length = 4 → b = p.cand → p.candN = 2 → p.farSeen = false →
      Settles (.apsRxAccept g b) s (evalPg p g 0 (judgeFop g (modPg g
        (fun p => { p with far := b, farSeen := true, farOut := false, reinitAps := false })
        (cctrAdd (pgCtr g 2) 1 (modPg g (fun p => { p with cand := b, candN := 3 }) d)))))) ∧
    (∀ due : Option Nat → Bool, (∀ t, due t = t.any fun e => decide (e + 50 ≤ now d)) →
      Settles (.fopTimerExpiry g) s (evalPg p g 0 (setFop g (p.fopPm || due p.pmSince) (p.fopNr || due p.nrSince) d)))

/-- Slalom (R428 to R434): a unit that arrives is kept for its due time, through GDDR6 where its path does not time the group;
at its due time the clean copy is delivered, that of PREF where both are; a first-arrival block is delivered once, the later
copy counted; rejoin makes DUAL; the discard of a restart ends. -/
def Obligations.MergesDeliverEachUnitOnce : Prop :=
  ∀ (s : State) (g : Nat), On s → g < 256 → hasMg s.dev g = true →
    let d := s.dev
    let m := mg d g
    let r := mgRec d g
    (∀ path unit ns intact content, path < 2 → mgMode r = 1 → m.st = 0 → unit < 2 ^ 32 →
      let restart := mgZpc d g && unitRestarts content
      let era := tget 0 m.era path + restart.toNat
      let failed := rxFailed d (pathCont r path)
      let x : UnitCopy := {
        num := unit, at_ := now d * 1000000 + ns, clean := intact && !failed && !m.spoilt.testBit path, content := content
        restart := restart, era := era }
      let e := noteSkew g path x (modMg g (fun m => { m with era := tset m.era path era, spoilt := nputBit m.spoilt path failed }) d)
      delivered m era unit = false → Settles (.slalomUnitArrival g path unit ns intact content) s
        (bufferBursts g 1 path x (modMg g (fun m => { m with copies := tmod [] m.copies path (· ++ [x]) }) e))) ∧
    (∀ u k a b, k = dueEra m u → mgMode r = 1 → m.st ≠ 0 → delivered m k u = false → m.set_ = 3 → m.lag = 0 →
      (tget [] m.copies 0).find? (fun x => x.era == k && x.num == u) = some a →
      (tget [] m.copies 1).find? (fun x => x.era == k && x.num == u) = some b →
      let e := modMg g (fun m => { m with
        last := some u, lastEra := k, gap := false
        copies := tmap m.copies fun _ l => l.filter fun x => decide (k < x.era) || (k == x.era && newer x.num u) }) d
      let out (p : Nat) (x : UnitCopy) (d : Dev) : Dev :=
        bufferBursts g 0 p x (cctrAdd (mgCtr g p) 1 (modMg g (fun m => { m with out := some (p, x) }) d))
      (a.clean = true → b.clean = true → Settles (.slalomDueDelivery g u) s (if mgPref r = 0 then out 0 a e else out 1 b e)) ∧
      (a.clean = true → b.clean = false → Settles (.slalomDueDelivery g u) s (out 0 a (cctrAdd (mgCtr g 2) 1 e))) ∧
      (a.clean = false → b.clean = true → Settles (.slalomDueDelivery g u) s (out 1 b (cctrAdd (mgCtr g 2) 1 e))) ∧
      (a.clean = false → b.clean = false → Settles (.slalomDueDelivery g u) s
        (if m.timing = 0 then out 0 a (cctrAdd (mgCtr g 3) 1 e) else out 1 b (cctrAdd (mgCtr g 3) 1 e)))) ∧
    (∀ u, delivered m (dueEra m u) u = true → Settles (.slalomDueDelivery g u) s d) ∧
    (m.st = 1 → m.rejoin = true → m.qual = 3 → m.lag = 0 → m.cmd = 0 → assisted d 3 g = false → following d = false →
      Settles (.rejoinHoldExpiry g) s (setMg g 2 m.timing 3 m.due false d)) ∧
    (m.rejoin = false → Settles (.rejoinHoldExpiry g) s d) ∧
    (∀ path seq ns content, path < 2 → mgMode r = 0 → seq < 2 ^ 32 → assisted d 3 g = false → m.cmd = 0 → m.discard = none →
      let x : UnitCopy := { num := seq, at_ := now d * 1000000 + ns, clean := true, content := content, restart := false }
      let e := noteSkew g path x d
      (m.last = none → Settles (.firstArrivalBlock g path seq ns false true content) s (cctrAdd (mgCtr g path) 1
        (modMg g (fun m => { m with last := some seq, out := some (path, x) }) e))) ∧
      (m.last = some seq → Settles (.firstArrivalBlock g path seq ns false true content) s (cctrAdd (mgCtr g 6) 1 e))) ∧
    (∀ path seq ns restart content, path < 2 → Settles (.firstArrivalBlock g path seq ns restart false content) s d) ∧
    Ends (.restartDiscardTimeout g) s (modMg g (fun m => { m with discard := none }) d)

namespace Sys2Proof.Spec

open Sys2Proof.Machine

/-- The device after the contents of a valid heartbeat are taken: the misses before it counted, the offset of a standby, and what it
says of the mate (R447 to R449, R472). -/
def heard (b : Bytes) (t1 t4 : Nat) (d : Dev) : Dev :=
  let gap := subMod 65536 (u16 b 2) d.mate.echo
  let t3 : Int := u48 b 4 * 1000000 + u32 b 10
  let off : Int := ((t3 - u32 b 16 - t1) - (t4 - t3)) / 2
  let d := if d.mate.hbOk = true ∧ 1 < gap ∧ gap < 32768 then satCtr .mateCnt 15 0 (gap - 1) d else d
  let d := if d.mate.active then d else setReg .matePhase (BitVec.ofNat 32 (satFreq off)) d
  setMateLive mHbLoss false (modMate (fun m => { m with
    hbOk := true, echo := u16 b 2, mateActive := wbit b 0 1, matePfw := wbit b 0 2, mateFatal := wbit b 0 3, mateSt := u8 b 1 }) d)

/-- The device after heartbeat loss is declared: 8 misses counted where the link was sound (R448, R472). -/
def unheard (d : Dev) : Dev :=
  setMateLive mHbLoss true (modMate (fun m => { m with hbOk := false }) (if d.mate.hbOk then satCtr .mateCnt 15 0 8 d else satCtr .mateCnt 15 0 0 d))

end Sys2Proof.Spec

open Sys2Proof Sys2Proof.Machine Sys2Proof.Spec

/-! ### The mate pair -/

/-- The mate link and its heartbeats (R443 to R449, R452, R463, R466). A heartbeat is sent with the device's role, state,
count and epoch. One received pairs the devices, and resolves two active roles for A; a FATAL mate leaves the active ALONE;
PARTITION ends in JOINING. Its loss makes the active ALONE, a standby that finds ACT_N low PARTITION, and one that finds it
released active. A cell has the 64 bytes of R445 and its CRC, and the cells that wait stay in the priority order of R446; a
heartbeat sends them (log entry 191). A cell error is answered by a NAK; a NAK queues again the cells from the one it names,
or the stream is broken. -/
def Obligations.HeartbeatsPairTheMates : Prop :=
  (∀ c : Cell, c.payload.length ≤ 52 → let b := cellBytes c
    b.length = 64 ∧ u8 b 0 = c.ty % 256 ∧ wbit b 1 0 = c.first ∧ wbit b 1 1 = c.last ∧ u16 b 2 = c.seq % 65536 ∧
    u8 b 4 = c.payload.length ∧ slice b 8 c.payload.length = c.payload ∧ u32 b 60 = (crc32 (b.take 60)).toNat) ∧
  (∀ (c : Cell) (l : List Cell), l.Pairwise (fun x y => cellRank x.ty ≤ cellRank y.ty) →
    (queueCell c l).Pairwise fun x y => cellRank x.ty ≤ cellRank y.ty) ∧
  (∀ (b : Bytes) (d : Dev), d.mate.st = 1 → d.mate.active = false → d.mate.mateActive = true → refusal d b = none →
    (tryPair b d).mate.st = 2) ∧
  (∀ (b : Bytes) (d : Dev), d.mate.st = 6 → d.mate.active = true → d.mate.mateActive = false → d.mate.mateSt = 1 → refusal d b = none →
    (tryPair b d).mate.st = 2) ∧
  (∀ (b : Bytes) (d : Dev) (r : Nat), refusal d b = some r → (tryPair b d).mate.st = d.mate.st ∧
    (tryPair b d).mate.active = d.mate.active) ∧
  (∀ (b : Bytes) (d : Dev), d.mate.st ≠ 1 → d.mate.st ≠ 6 → tryPair b d = d) ∧
  ∀ s : State, On s → domReady s.dev 5 = true → s.dev.mate.st ≠ 0 →
    let d := s.dev
    let m := d.mate
    let end_ (x : Dev) : Dev := showMate (checkPin x)
    Ends .heartbeatTx s (flushCells (sendCell 1 (heartbeat d) (modMate (fun m => { m with
      hbSeq := (m.hbSeq + 1) % 65536, hbOut := heartbeat d }) { d with time := { d.time with stamps := d.time.stamps + 2 } }))) ∧
    wbit (heartbeat d) 0 1 = m.active ∧ u8 (heartbeat d) 1 = m.st % 256 ∧ (heartbeat d).length = 52 ∧
    (∀ (b : Bytes) t1 t4, b.length = 52 →
      let e := tryPair b (heard b t1 t4 d)
      (e.mate.active = true → e.mate.mateActive = true → roleB e = true → Settles (.heartbeatRx b t1 t4) s (end_ (yieldRole e))) ∧
      (e.mate.active = true → e.mate.mateActive = true → roleB e = false → Settles (.heartbeatRx b t1 t4) s (end_ e)) ∧
      (e.mate.active = true → e.mate.mateActive = false → e.mate.mateFatal = true →
        Settles (.heartbeatRx b t1 t4) s (end_ (setMateSt 6 e))) ∧
      (e.mate.active = false → e.mate.st = 5 → Settles (.heartbeatRx b t1 t4) s (end_ (enterJoining e))) ∧
      (e.mate.active = false → e.mate.st ≠ 5 → Settles (.heartbeatRx b t1 t4) s (end_ (checkTakeover (followMate m.mateSt e)))) ∧
      (e.mate.active = true → e.mate.mateActive = false → e.mate.mateFatal = false →
        Settles (.heartbeatRx b t1 t4) s (end_ (checkTakeover (followMate m.mateSt e))))) ∧
    (m.active = true → Settles .heartbeatLoss s (end_ (setMateSt 6 (unheard d)))) ∧
    (m.active = false → 2 ≤ m.st → m.st ≤ 4 → m.actFree = false → Settles .heartbeatLoss s (end_ (setMateSt 5 (unheard d)))) ∧
    (m.active = false → 3 ≤ m.st → m.st ≤ 4 → m.actFree = true → Settles .heartbeatLoss s (end_ (takeover 2 (unheard d)))) ∧
    Ends .mateLinkUp s (setMateLive mLinkUp true d) ∧
    (m.active = true → Settles .mateLinkDown s (end_ (setMateSt 6 (unheard (setMateLive mLinkUp false d))))) ∧
    (m.active = false → 3 ≤ m.st → m.st ≤ 4 → m.actFree = true →
      Settles .mateLinkDown s (end_ (takeover 2 (unheard (setMateLive mLinkUp false d))))) ∧
    (∀ ty seq, ty < 256 → seq < 65536 → reliable ty = true → Ends (.mateCellError ty seq) s (sendControl 3 ty seq 0 d)) ∧
    (∀ ty seq, ty < 256 → seq < 65536 → reliable ty = false → Ends (.mateCellError ty seq) s d ∧ Settles (.mateNakRx ty seq) s d) ∧
    (∀ ty seq k, ty < 256 → seq < 65536 → reliable ty = true → (tget [] m.kept ty).findIdx? (fun c => c.seq == seq) = some k →
      let l := ((tget [] m.kept ty).take (k + 1)).reverse
      Settles (.mateNakRx ty seq) s (satCtr .mateReplay 31 0 (k + 1) (modMate (fun m => { m with
        txq := l.foldl (fun q c => queueCell c q) (m.txq.filter fun c => !l.contains c) }) d))) ∧
    (∀ ty seq, ty < 256 → seq < 65536 → reliable ty = true → (tget [] m.kept ty).findIdx? (fun c => c.seq == seq) = none →
      following d = true → Settles (.mateNakRx ty seq) s (enterJoining (evtMate 0x030A 0 (be 1 ty) d)))

/-- The active role (R449 to R452, R462, R463, R466, R473): a commanded switch hands it over, a standby that receives HANDOVER
in step takes it, a second silence keeps it; ACT_N released by a mate that shows ACTIVE is a fault of the pin alone, and else
makes a standby in step active, or with the heartbeats lost and ACT_N low enters PARTITION; a B that finds A on ACT_N yields;
the claim timer makes a lone standby active. PHASE_ALARM leaves IN_STEP. -/
def Obligations.TheActiveRoleIsHandedOver : Prop :=
  ∀ s : State, On s → domReady s.dev 5 = true → s.dev.mate.st ≠ 0 →
    let d := s.dev
    let m := d.mate
    let free (v : Bool) : Dev := modMate (fun m => { m with actFree := v }) d
    (m.st = 4 → m.active = false → Settles .handoverRx s (sendControl 2 0 0 0 (takeRole 1 d))) ∧
    (m.st ≠ 4 ∨ m.active = true → Settles .handoverRx s d) ∧
    (∀ cause k, m.handover = some (cause, k) → m.active = true → m.thenReset = none →
      SettlesSys .handoverAckRx s { dev := setRole false cause d, mem := s.mem }) ∧
    (m.handover = none → m.thenReset = none → Settles .handoverAckRx s d ∧ Settles .handoverAckTimeout s d) ∧
    (m.st = 4 → m.active = true → m.handover = none →
      Ends .handoverReqRx s (sendControl 1 0 0 0 (modMate (fun m => { m with handover := some (1, 1) }) d))) ∧
    (∀ cause, m.handover = some (cause, 1) → m.thenReset = none →
      Settles .handoverAckTimeout s (sendControl 1 0 0 0 (modMate (fun m => { m with handover := some (cause, 2) }) d))) ∧
    (∀ cause, m.handover = some (cause, 2) → m.thenReset = none →
      Settles .handoverAckTimeout s (evtMate 0x0306 0 [] (modMate (fun m => { m with handover := none }) d))) ∧
    (∀ v, m.active = true → Settles (.actNReleased v) s d) ∧
    (m.active = false → m.hbOk = true → m.mateActive = true → m.mateFatal = false → mateLive d mPinFault = false →
      Settles (.actNReleased true) s (showMate (evtMate 0x0309 0 [] (setMateLive mPinFault true (free true))))) ∧
    (m.active = false → m.hbOk = false → 3 ≤ m.st → m.st ≤ 4 →
      Settles (.actNReleased true) s (showMate (checkPin (takeover 2 (free true))))) ∧
    (m.active = false → m.hbOk = true → m.mateActive = false → 3 ≤ m.st → m.st ≤ 4 →
      Settles (.actNReleased true) s (showMate (checkPin (takeover 3 (free true))))) ∧
    (m.active = false → m.hbOk = false → 2 ≤ m.st → m.st ≤ 4 →
      Settles (.actNReleased false) s (showMate (checkPin (setMateSt 5 (free false))))) ∧
    (m.active = true → roleB d = true → mateLive d mLinkUp = false → Settles (.actNProbe true) s (yieldRole d)) ∧
    (m.active = false ∨ roleB d = false ∨ mateLive d mLinkUp = true → Settles (.actNProbe true) s d) ∧
    Settles (.actNProbe false) s d ∧
    (m.active = false → m.st = 1 ∨ m.st = 2 → rf d .glbBootStat 3 0 = 7 → m.actFree = true → m.hbOk = false ∨ m.mateActive = false →
      Settles .claimTimerExpiry s (setMateSt 6 (takeRole 4 d))) ∧
    (m.active = false → m.st = 1 ∨ m.st = 2 → rf d .glbBootStat 3 0 = 7 → m.hbOk = true → m.mateActive = false →
      mateLive d mLinkUp = true → roleB d = false → Settles .claimTimerExpiry s (setMateSt 6 (takeRole 4 d))) ∧
    (m.active = true ∨ rf d .glbBootStat 3 0 ≠ 7 → Settles .claimTimerExpiry s d) ∧
    (m.active = false → mateLive d mPhase = false → 100 < (s32 (reg d .matePhase).toNat).natAbs →
      (m.st = 4 → Settles .phaseAlarmRaise s (setMateSt 3 (evtMate 0x0307 0 [] (setMateLive mPhase true d)))) ∧
      (m.st ≠ 4 → Settles .phaseAlarmRaise s (evtMate 0x0307 0 [] (setMateLive mPhase true d)))) ∧
    (m.active = false → mateLive d mPhase = true → (s32 (reg d .matePhase).toNat).natAbs ≤ 100 →
      Settles .phaseAlarmClear s (evtMate 0x0307 0 [] (setMateLive mPhase false d))) ∧
    (m.active = true → Settles .phaseAlarmRaise s d ∧ Settles .phaseAlarmClear s d)

/-- Mirrored commands, decision records and the join (R453 to R456, R458 to R460, R469): a standby holds a mirrored command
for its epoch X; the active compares the standby's status with its own, and keeps one that comes first; a decision record is
held until J while joining and applied afterwards; the standby adopts epoch and frame phase at S, installs the image, names J
and enters CATCHUP; digests that differ are posted. -/
def Obligations.TheStandbyFollowsTheActive : Prop :=
  (∀ (kind : Nat) (r : Bytes) (d : Dev), domReady d 5 = true → following d = true → u8 r 0 = kind →
    (d.mate.st = 2 ∨ d.mate.joinAt ≠ none → decisionRx kind r d = modMate (fun m => { m with held := m.held ++ [r] }) d) ∧
    (d.mate.st ≠ 2 → d.mate.joinAt = none → decisionRx kind r d = applyRecord r d)) ∧
  (∀ (kind : Nat) (r : Bytes) (d : Dev), following d = false ∨ u8 r 0 ≠ kind → decisionRx kind r d = d) ∧
  ∀ s : State, On s → domReady s.dev 5 = true →
    let d := s.dev
    let m := d.mate
    (∀ r, Settles (.decisionJust r) s (decisionRx 1 r d) ∧ Settles (.decisionAdmit r) s (decisionRx 2 r d) ∧
      Settles (.decisionStall r) s (decisionRx 3 r d) ∧ Settles (.decisionContext r) s (decisionRx 4 r d) ∧
      Settles (.decisionAlign r) s (decisionRx 5 r d) ∧ Settles (.decisionProt r) s (decisionRx 6 r d) ∧
      Settles (.decisionMerge r) s (decisionRx 7 r d) ∧ Settles (.decisionResize r) s (decisionRx 8 r d) ∧
      Settles (.decisionTiming r) s (decisionRx 9 r d)) ∧
    (∀ msg : Bytes, following d = true → 264 ≤ msg.length →
      let slot := msg.drop 8
      Ends (.commandMsgRx msg) s { d with mbx := { d.mbx with mir := d.mbx.mir ++ [{
        opcode := u16 slot 0
        req := { ch := u8 msg 6, tag := BitVec.ofNat 16 (u16 slot 2), chField := u8 slot 10
                 payload := slice slot 16 (min 240 (u16 slot 4)), ns := 0 }
        x := u48 msg 0, own := false, ahead := decide (now d < u48 msg 0) }] } }) ∧
    (∀ msg : Bytes, following d = false ∨ msg.length < 264 → Ends (.commandMsgRx msg) s d) ∧
    (∀ (cell : Bytes) e, m.active = true → 2 ≤ m.st → m.st ≤ 4 →
      m.statuses.find? (sameResult (u48 cell 0, u8 cell 6, u16 cell 8, u16 cell 12)) = some e →
      let x := modMate (fun m => { m with statuses := m.statuses.erase e }) d
      (e.2.2.2 = u16 cell 12 → Settles (.resultRx cell) s x) ∧
      (e.2.2.2 ≠ u16 cell 12 → Settles (.resultRx cell) s (enterJoining x))) ∧
    (∀ cell : Bytes, m.active = true → 2 ≤ m.st → m.st ≤ 4 →
      m.statuses.find? (sameResult (u48 cell 0, u8 cell 6, u16 cell 8, u16 cell 12)) = none →
      Settles (.resultRx cell) s (modMate (fun m => { m with
        results := m.results ++ [(u48 cell 0, u8 cell 6, u16 cell 8, u16 cell 12)] }) d)) ∧
    (∀ epoch (mfas : List Nat), epoch < 2 ^ 48 → mfas.length = 4 → m.st = 2 → m.joinS = false →
      let x := modMate (fun m => { m with joinS := true }) d
      (m.active = true → Settles (.joinBoundaryS epoch mfas) s x) ∧
      (m.active = false → Settles (.joinBoundaryS epoch mfas) s (showMate { x with
        time := { d.time with epoch := BitVec.ofNat 48 epoch }
        line := tmap d.line fun p l => { l with txMfas := mfas.getD p l.txMfas } }))) ∧
    (∀ im, m.st = 2 → m.active = false → m.joinS = true →
      Settles (.stateImageInstalled im) s (imageInstalled im d) ∧
      (imageInstalled im d).prov.serv = im.serv ∧ (imageInstalled im d).prov.pend = im.pend ∧
      (imageInstalled im d).prot = im.prot ∧ (imageInstalled im d).merge = im.merge ∧
      (imageInstalled im d).mate.mfn = im.mfn ∧ (imageInstalled im d).mate.joinAt = some (now d + 2) ∧
      (imageInstalled im d).mate.st = 3) ∧
    (∀ j, j < 2 ^ 48 → m.active = true → m.st = 2 →
      Settles (.joinAtRx j) s (setMateSt 3 (modMate (fun m => { m with joinAt := some j }) d))) ∧
    (∀ j, m.joinAt = some j → j ≤ now d → m.st = 3 → m.active = true →
      Settles .joinEpochJ s (modMate (fun m => { m with joinAt := none, joinEpoch := j, equal := 0, bad := [] }) (restartIndices d))) ∧
    (∀ j, m.joinAt = some j → j ≤ now d → m.st = 3 → m.active = false → d.mbx.mir.filter (fun i => !i.own && decide (i.x ≤ now d)) = [] →
      Settles .joinEpochJ s (applyHeld
        (modMate (fun m => { m with joinAt := none, joinEpoch := j, equal := 0, bad := [] }) (restartIndices d)))) ∧
    (m.joinAt = none → Settles .joinEpochJ s d) ∧
    (∀ digests conts, digests.length = 12 → m.st < 3 ∨ 4 < m.st → Settles (.digestRx digests conts) s d) ∧
    (∀ digests conts, digests.length = 12 → m.digest = digests → 3 ≤ m.st → m.st ≤ 4 →
      let x := setMateLive mDigest false { modMate (fun m => { m with
          mateDigest := digests, contDigest := conts, bad := (List.range 12).map fun k => (k, 0), equal := m.equal + 1 }) d with
        groom := { d.groom with digestCmp := satAdd (2 ^ 32 - 1) d.groom.digestCmp 1, digestMis := satAdd (2 ^ 32 - 1) d.groom.digestMis 0 } }
      Settles (.digestRx digests conts) s (checkInStep x)) ∧
    (∀ digests conts, digests.length = 12 → (List.range 12).filter (fun k => m.digest.getD k 0 != digests.getD k 0) = [8] →
      3 ≤ m.st → m.st ≤ 4 → m.active = false → tget 0 m.bad 8 = 2 →
      let x := evtMate 0x0305 0 (be 2 (bitmap 12 [8].contains)) (setMateLive mDigest true { modMate (fun m => { m with
          mateDigest := digests, contDigest := conts, equal := 0
          bad := (List.range 12).map fun k => (k, if k = 8 then 3 else 0) }) d with
        groom := { d.groom with
          digestCmp := satAdd (2 ^ 32 - 1) d.groom.digestCmp 1, digestMis := satAdd (2 ^ 32 - 1) d.groom.digestMis 1
          misEpoch := now d, misMap := bitmap 12 [8].contains } })
      Settles (.digestRx digests conts) s (checkInStep (if m.st = 4 then setMateSt 3 x else x)))

/-- Groomer (R335, R468, R470): a pass over the SRAM counts its corrected and uncorrectable words and raises INFO and DEGRADED
records; a pass over spill blocks counts the corrected bursts, whose interface is a free value (log entry 158), and drops the
failed blocks; BIST records its run, and a failure raises a record. -/
def Obligations.GroomerReportsItsPasses : Prop :=
  ∀ s : State, On s →
    let d := s.dev
    (∀ src block ms corr, src < 65536 → block < 256 →
      let g := { d.groom with
        sramPass := true, sramMs := ms, sramCorr := satAdd (2 ^ 32 - 1) d.groom.sramCorr corr
        sramUncorr := satAdd (2 ^ 32 - 1) d.groom.sramUncorr 0 }
      (corr = 0 → Ends (.sramScrubPass src block ms corr [] []) s { d with groom := g }) ∧
      (corr ≠ 0 → Ends (.sramScrubPass src block ms corr [] []) s (raiseErr 1 src block 0x0020 (min 65535 corr) 0 { d with groom := g }))) ∧
    (∀ src block ms a, src < 65536 → block < 256 →
      Ends (.sramScrubPass src block ms 0 [a] []) s (raiseErr 2 src block 0x0021 (a / 65536 % 65536) (a % 65536) { d with
        groom := { d.groom with
          sramPass := true, sramMs := ms, sramCorr := satAdd (2 ^ 32 - 1) d.groom.sramCorr 0
          sramUncorr := satAdd (2 ^ 32 - 1) d.groom.sramUncorr 1 } })) ∧
    (∀ src block ms (e : QueueErr), src < 65536 → block < 256 →
      Ends (.sramScrubPass src block ms 0 [] [e]) s (queueError e { d with groom := { d.groom with
        sramPass := true, sramMs := ms, sramCorr := satAdd (2 ^ 32 - 1) d.groom.sramCorr 0
        sramUncorr := satAdd (2 ^ 32 - 1) d.groom.sramUncorr 0 } })) ∧
    (∀ (e : QueueErr) (x : Dev), e.kind = 0 → queueError e x = raiseErr 1 0x0014 e.slice 0x0030 1 1
      (count (14 + e.slice) (ctrSlice e.slice 5) 1 x)) ∧
    (∀ (e : QueueErr) (x : Dev), e.kind = 2 → queueProt x e ≠ 1 → queueError e x = raiseErr 1 0x0014 e.slice 0x0030 2 1
      (count (14 + e.slice) (ctrSlice e.slice 7) 1 x)) ∧
    (∀ (e : QueueErr) (x : Dev), e.kind = 3 → queueProt x e ≠ 2 →
      queueError e x = raiseErr 2 0x0014 e.slice 0x0031 (if queueProt x e = 0 then 2 else 3) (e.queue % 65536)
        (resetQueue e.slice e.eg e.queue x)) ∧
    (∀ g corr (bad : List QueueErr), g < 4 → domReady d (18 + g) = true →
      let y := spreadBursts 6 corr (ifaces g) d
      Ends (.spillScrubPass g corr bad) s (scrubEnds g (bad.foldl (fun d e => dropBlock e.slice e.eg e.queue e.pos d) { y with
        groom := { y.groom with
          memPass := true, memPasses := satAdd (2 ^ 32 - 1) y.groom.memPasses 1, memCorr := satAdd (2 ^ 32 - 1) y.groom.memCorr corr
          memUncorr := satAdd (2 ^ 32 - 1) y.groom.memUncorr bad.length } }))) ∧
    (∀ g corr bad, g < 4 → domReady d (18 + g) = false → Ends (.spillScrubPass g corr bad) s (scrubEnds g d)) ∧
    (∀ ty block, ty < 65536 → block < 256 →
      let g (f : Nat) : Groomer := { d.groom with
        bistRuns := satAdd (2 ^ 32 - 1) d.groom.bistRuns 1, bistFails := satAdd (2 ^ 32 - 1) d.groom.bistFails f }
      Ends (.bistRun ty block true) s (raiseErr 3 ty block 0x0022 ty block { d with
        groom := { g 1 with bistFail := true, bistType := ty, bistInst := block } }) ∧
      Ends (.bistRun ty block false) s { d with
        groom := { g 0 with bistFail := d.groom.bistFail && !(d.groom.bistType == ty && d.groom.bistInst == block) } })

/-! ### References, DPLLs and outputs -/

/-- References (R483, R485, R487): LOS of a selected reference freezes its DPLLs and starts HOLDOFF_MS, that of another
disqualifies it; the end of HOLDOFF_MS disqualifies; WTR requalifies; each whole second takes the new means. DPLLs (R492,
R495, R496): ACQUIRING with 3 good seconds locks, and a second beyond 100 ppb loses the lock; after 60 s the anchor is valid;
minutes are recorded and fitted, and a stale model is demoted. -/
def Obligations.ReferencesQualifyAndDpllsLock : Prop :=
  ∀ s : State, On s → domReady s.dev 3 = true →
    let d := s.dev
    Ends (.refMeasurement [] []) s (showTiming (each (List.range 4) syncTrust (modTim (fun t => { t with pend := t.pend.map fun p =>
      if p.mode = 1 ∧ !(tr d p.ref).los then { p with edges := min 10 (p.edges + 1) } else p }) d))) ∧
    (∀ r v, r < 24 → selectable r (tr d r).rec_ = true →
      let a := takeMean r v d
      let b := wtrCheck r (driftRef r (firstMeasure r a))
      Ends (.refMeasurement [(r, v)] []) s (showTiming (each (List.range 4) syncTrust (modTim (fun t => { t with pend := t.pend.map fun p =>
        if p.mode = 1 ∧ !(tr b p.ref).los then { p with edges := min 10 (p.edges + 1) } else p }) b))) ∧
      (tr a r).f = v ∧ (tr a r).d = v - expectP d (driftDpll (tr d r).rec_)) ∧
    (∀ m : DpllMeas, m.dpll < 4 → m.dpll ≠ 1 ∨ drFollow (dpRec d 1) = false → following d = false → (dp d m.dpll).st = 2 →
      (dp d m.dpll).frozen = false → 10000 < m.err.natAbs →
      ∃ t, Machine.exec (.refMeasurement [] [m]) s = .next t ∧ (dp t.dev m.dpll).st = 1) ∧
    (∀ r, r < 8 → rrEn (tr d r).rec_ = true → d.tim.pend = none →
      let low := stickRef r 0 (modRef r (fun x => { x with los := true, oor := x.oor, wtr := false }) d)
      let sel := (List.range 4).filter fun i => selBy low i r && !drFollow (dpRec low i)
      ((tr d r).los = false → (tr d r).oor = false → (tr d r).qualified = true → sel = [] →
        Ends (.refLos r none) s (showTiming (disqualify r 2 low))) ∧
      ((tr d r).los = false → (tr d r).oor = false → (tr d r).qualified = true → sel ≠ [] →
        Ends (.refLos r none) s (showTiming (each sel (fun i d => stickDp i 2 (modDp i (fun x => { x with frozen := true }) d))
          (modRef r (fun x => { x with hold := true }) low)))) ∧
      ((tr d r).qualified = false → Ends (.refLos r none) s (showTiming low))) ∧
    (∀ r v, r < 24 → rrEn (tr d r).rec_ = true → v.natAbs ≤ 5000000 → Ends (.refLos r (some v)) s d) ∧
    (∀ r, r < 8 → (tr d r).los = true → Ends (.refLosClear r) s (showTiming (leaveBad r 2 d))) ∧
    (∀ r, r < 24 → (tr d r).los = false → Ends (.refLosClear r) s d) ∧
    (∀ r, r < 24 → (tr d r).hold = true → (tr d r).los = true → Ends (.refHoldoffExpiry r) s (showTiming (disqualify r 2 d))) ∧
    (∀ r, r < 24 → (tr d r).hold = true → (tr d r).los = false → (tr d r).oor = true →
      Ends (.refHoldoffExpiry r) s (showTiming (disqualify r 3 d))) ∧
    (∀ r, r < 24 → (tr d r).hold = false → Ends (.refHoldoffExpiry r) s d) ∧
    (∀ r, r < 24 → (tr d r).wtr = true → mayRestore (tr d r) = true → Ends (.refWtrExpiry r) s
      (showTiming (refQual r 1 (modRef r (fun x => { x with qualified := true, hardDisq := false, wtr := false }) d)))) ∧
    (∀ r, r < 24 → (tr d r).wtr = false → Ends (.refWtrExpiry r) s d) ∧
    (∀ i, i < 4 → following d = false → (i = 1 → drFollow (dpRec d 1) = false) → (dp d i).st = 1 → 3 ≤ (dp d i).lockRun →
      Ends (.dpllLocked i) s (showTiming (timingRecord i (enterState i 2 (dp d i).sel d)))) ∧
    (∀ i, i < 4 → (dp d i).st ≠ 1 ∨ (dp d i).lockRun < 3 → Ends (.dpllLocked i) s d) ∧
    (∀ i, i < 4 → (dp d i).st = 2 → 60000 ≤ now d - (dp d i).since → Ends (.anchorValid i) s
      (showTiming (modDp i (fun x => { x with anchor := true, model := if x.model = 0 then 1 else x.model }) d))) ∧
    (∀ i, i < 4 → (dp d i).st ≠ 2 ∨ now d - (dp d i).since < 60000 → Ends (.anchorValid i) s d) ∧
    (∀ i f t r, i < 4 → following d = false → isFrozen d 7 i = false → (dp d i).st = 2 → (dp d i).sel = some r → (tr d r).softLive = false →
      (tr d r).hardUnconf = false → Ends (.glideMinuteRecord i f t) s (modDp i (fun x => { x with mins := ((f, t) :: x.mins).take 43200 }) d)) ∧
    (∀ i f t, i < 4 → (dp d i).sel = none ∨ (dp d i).st ≠ 2 ∨ isFrozen d 7 i = true → Ends (.glideMinuteRecord i f t) s d) ∧
    (∀ i (m : Bytes) resid, i < 4 → m.length = 36 → following d = false → isFrozen d 7 i = false → 1440 ≤ (dp d i).mins.length →
      let v := fitModel (minuteSpan (dp d i).mins) m
      (assisted d 7 i = false → Ends (.glideFit i m resid) s (adoptFit i v d)) ∧
      (assisted d 7 i = true → Ends (.glideFit i m resid) s (report 7 i 1
        (slice v 12 12 ++ be 2 resid ++ be 2 (minuteSpan (dp d i).mins) ++ be 2 ((dp d i).mins.length / 60))
        (modDp i (fun x => { x with fit := some v }) d)))) ∧
    (∀ i (m : Bytes) resid, i < 4 → m.length = 36 → (dp d i).mins.length < 1440 ∨ isFrozen d 7 i = true → Ends (.glideFit i m resid) s d) ∧
    (∀ i r q, i < 4 → following d = false → isFrozen d 7 i = false → (dp d i).st = 2 → (dp d i).sel = some r → xoTrusted d i = true →
      q < 24 → q ≠ r →
      (tr d q).qualified = true → gap (tr d q).d (tr d r).d ≤ drAgree (dpRec d i) →
      rrSoft (tr d r).rec_ < gap (tr d r).f (expectP d i) → assisted d 7 i = false →
      Ends (.glideStale i) s (demote i (stickDp i 1 d))) ∧
    (∀ i, i < 4 → (dp d i).sel = none ∨ (dp d i).st ≠ 2 ∨ xoTrusted d i = false ∨ isFrozen d 7 i = true → Ends (.glideStale i) s d) ∧
    (∀ i, i < 4 → Ends (.xoWarmupExpiry i) s
      (showTiming (syncTrust i (modTim (fun t => { t with warm := nputBit t.warm i true }) d))))

/-- Outputs (R500, R501): an enabled PPS_OUT and FP_OUT pulse, but for one pulse that an ALIGN leaves out, and a disabled one
does not; a pending ALIGN takes effect at the first PM second at or after its epoch, in MODE 1 after 10 edges, and its result
is posted; lost measurement fails it. -/
def Obligations.PulsesFollowTheirAlignment : Prop :=
  ∀ s : State, On s → domReady s.dev 3 = true →
    let d := s.dev
    let tim (t : TimSt) : Dev := { d with tim := t }
    (pulseOn d tPps = true → d.tim.skipPps = false → Ends .ppsOutPulse s (tim { d.tim with pps := d.tim.pps + 1 })) ∧
    (pulseOn d tPps = true → d.tim.skipPps = true → Ends .ppsOutPulse s (tim { d.tim with skipPps := false })) ∧
    (pulseOn d tPps = false → Ends .ppsOutPulse s d) ∧
    (pulseOn d tFp = true → d.tim.skipFp = false → Ends .fpOutPulse s (tim { d.tim with fp := d.tim.fp + 1 })) ∧
    (pulseOn d tFp = true → d.tim.skipFp = true → Ends .fpOutPulse s (tim { d.tim with skipFp := false })) ∧
    (pulseOn d tFp = false → Ends .fpOutPulse s d) ∧
    (∀ v, d.tim.pend = none → Ends (.alignApply v) s d) ∧
    (∀ v p, d.tim.pend = some p → now d < p.epoch ∨ now d % 1000 ≠ 0 → Ends (.alignApply v) s d) ∧
    (∀ v p, d.tim.pend = some p → p.epoch ≤ now d → now d % 1000 = 0 →
      (p.mode = 1 → following d = true → Ends (.alignApply v) s d) ∧
      (following d = false → p.lost = true → Ends (.alignApply v) s (alignDone p.target 1 0 (tim { d.tim with pend := none }))) ∧
      (p.mode = 1 → following d = false → p.lost = false → p.edges < 10 → Ends (.alignApply v) s d) ∧
      (p.mode = 1 → following d = false → p.lost = false → 10 ≤ p.edges → p.target = tPps →
        let off := foldOffset (v + p.offset)
        let e := tim { d.tim with
          pend := none
          offset := tset d.tim.offset tPps off
          skipPps := tooSoon (10 ^ 9) (tget 0 d.tim.offset tPps) off }
        Ends (.alignApply v) s (alignDone tPps 0 off (setRb .timOutStat 16 true
          (selfCommand 0x0304 (be 1 tPps ++ zeros 3 ++ zeros 4 ++ be 4 (twos 32 off) ++ be 6 (now d) ++ zeros 2) e)))) ∧
      (p.mode = 0 → p.lost = false → p.target = tPps →
        let off := foldOffset p.offset
        Ends (.alignApply v) s (alignDone tPps 0 off (setRb .timOutStat 16 true (tim { d.tim with
          pend := none
          offset := tset d.tim.offset tPps off
          skipPps := tooSoon (10 ^ 9) (tget 0 d.tim.offset tPps) off })))) ∧
      (p.mode = 0 → p.lost = false → p.target = tFp →
        let off := foldOffset p.offset
        Ends (.alignApply v) s (alignDone tFp 0 off (setRb .timOutStat 16 true (tim { d.tim with
          pend := none
          offset := tset d.tim.offset tFp off
          skipFp := tooSoon (outPeriod tFp (outRec d tFp)) (tget 0 d.tim.offset tFp) off }))))) ∧
    (∀ v : Int, -500000000 ≤ v → v < 500000000 → foldOffset v = v)

/-! ### Power estimates, the interrupt line, the memories -/

namespace Sys2Proof.Spec

open Sys2Proof.Machine

/-- The commands that may store to a memory: mailbox and mirrored commands, accesses to registers, and resets. -/
def mayStore : Instr → Bool
  | .bootInfo _ | .recoveryEnter _ | .jtagUnlock _ | .updBegin _ | .updWrite _ | .updCommit _ | .updAbort _
  | .updConfirm _ | .updStatus _ | .objSet _ | .objDel _ | .objGet _ | .commit _ | .commitCancel _ | .shadowRevert _
  | .commitStatus _ | .funcReinit _ | .store _ | .storeSetCommit _ | .sliceLoad _ | .resizePropose _ | .inventory _
  | .health _ | .pmRead _ | .pmClear _ | .lastGaspRead _ | .lastGaspAck _ | .evtLogRead _ | .refCfg _ | .dpllCfg _
  | .dpllClear _ | .dpllForce _ | .dpllManual _ | .dpllLockout _ | .dpllUnlock _ | .dpllHoldover _ | .dpllFreerun _
  | .dpllRelearn _ | .dpllTemp _ | .align _ | .holdoverLoad _ | .timeStatus _ | .apsClear _ | .apsLockout _
  | .apsForcedProtection _ | .apsForcedWorking _ | .apsManualProtection _ | .apsManualWorking _ | .apsExercise _
  | .mergeAutomatic _ | .mergeForcePathA _ | .mergeForcePathB _ | .mergeRestartAlignment _ | .protStatus _ | .mateStatus _
  | .mateSwitch _ | .mateJoinClear _ | .mateJoinSet _ | .mateJoinRejoin _ | .mateDigest _ | .assistDecide _
  | .assistResume _ | .assistList _ | .mirroredExec | .mbxDoorbell _ _ _ | .mbxChannelReset _ _ _ _ | .glbRstWarm _ _
  | .glbRstPwrCycle _ _ _ | .glbCpuRestartGo _ _ | .pwrCapWrite _ _ | .pwrHostHold _ _ | .pwrHostDrop _ _
  | .pwrRailClr _ _ | .domainFaultClear _ _ _ | .wideSelWrite _ _ | .wideRecapture _ | .wideWrite _ _ | .errInjGo _ _ _
  | .evtCtlReset _ _ | .evtEnable _ | .pctrClrGo _ _ _ | .nvmJtagRelock _ | .qmClear _ _ _ _ | .pmonPhaseWrite _ _
  | .registerWrite _ _ _ _ _ | .spiRead _ _ _ | .spiWrite _ _ _ | .i2cWrite _ _ | .i2cRead _ _ _ | .registerRead _ _ _ _
  | .porNFall | .coldStart _ | .warmRstPin | .brownout | .brownoutEnd _ _ | .romBoot | .thinoStart | .bootWdtExpiry
  | .cpuWdtExpiry | .cpuRestartDone | .lastGaspWritten | .errHandle | .domainReady _ | .domainFault _ _ | .pfwLift | .pseqPgFall _
  | .railPgTimeout _ | .joinEpochJ | .handoverAckRx | .handoverAckTimeout => true
  | _ => false

end Sys2Proof.Spec

open Sys2Proof Sys2Proof.Machine Sys2Proof.Spec

/-- Every other command leaves each byte of the memories, and the waiting commands, as they were. -/
def Obligations.OtherCommandsLeaveTheMemories : Prop :=
  ∀ (c : Instr) (s : State), mayStore c = false →
    ∃ d, Machine.exec c s = .next { s with dev := d } ∧ ∀ t, Machine.exec c s = .next t → ∀ a, rd t.mem a = rd s.mem a

/-- MGMT_INT_N is low while a source that GLB_INT_MGMT_EN enables is set in GLB_INT_STAT, or GLB_STAT.FATAL is 1 (R119). -/
def Obligations.TheManagementInterruptIsLow : Prop :=
  ∀ d : Dev, mgmtIntLow d = true ↔
    (∃ i, i < 32 ∧ rb d .glbIntStat i = true ∧ rb d .glbIntMgmtEn i = true) ∨ rb d .glbStat 0 = true

/-- What the balls show (R48, R49, R52, R56): held in reset, every group is idle, low or released, but PWR_CYCLE_REQ_N, which
stays as held; with WARM_RST_N low the SerDes transmitters are idle with their receivers terminated, the OHX outputs low and
ACT_N and MATE_TOKEN released, PCIe, where it is not kept, idle; a domain asleep leaves its SerDes idle; a memory group in
self-refresh, or on its way out of it, deferred or ramping, keeps MEMi_RESET_N high. The TAP answers BYPASS and IDCODE
whatever D23 and the lock are, and the rest only while JTAG is open (R60, R562; log entry 141). -/
def Obligations.BallsTakeTheStatesOfTheirGroups : Prop :=
  ∀ d : Dev,
    (held d = true → (∀ n k, serdesTx d n = .idle ∧ serdesTerm d n = false ∧ memResetN d n = .low ∧ clkOutBall d n = .hiZ ∧
        pulseBall d n = .low ∧ ohxBall d n = .low ∧ tapAnswers d k = false) ∧
      pcieTx d = .idle ∧ actBall d = .hiZ ∧ tokenBall d = .hiZ ∧ mgmtIntBall d = .hiZ ∧ (∀ b, misoBall d b = .hiZ ∧ tdoBall d b = .hiZ) ∧
      busBall d = .hiZ) ∧
    pwrCycleBall d = (if d.pin.pwrCycleReq then .low else .hiZ) ∧
    (held d = false → d.pin.warmRstN = false → (∀ n, serdesTx d n = .idle ∧ serdesTerm d n = true ∧ ohxBall d n = .low) ∧
      actBall d = .hiZ ∧ tokenBall d = .hiZ ∧ busBall d = .live) ∧
    (∀ n, held d = false → domReady d n = false → serdesTx d n = .idle) ∧
    (∀ i, held d = false → memKept d (i / 4) = true → memResetN d i = .high ∧ memCke d i = .selfRefresh) ∧
    (∀ g, memKept d g = true ↔ (dom d (18 + g)).st = .selfRefresh ∨
      ((dom d (18 + g)).untrained = false ∧ ((dom d (18 + g)).st = .deferred ∨ (dom d (18 + g)).st = .ramping))) ∧
    (held d = false → d.pin.warmRstN = false → d.boot.keptPcie = false → pcieTx d = .idle) ∧
    (∀ i, (dom d (18 + i / 4)).st = .off → memResetN d i = .low) ∧
    (held d = false → tapAnswers d .bypass = true ∧ tapAnswers d .idcode = true) ∧
    (d.nvm.jtagLeft = none → tapAnswers d .scan = false ∧ tapAnswers d .debug = false)

/-- The power estimates, in units of 0.01 W (R58, R59): on a ZK6400-IB each estimate but that of D0 is the value of R58 times
1.03, rounded up to 0.01 W; those of all domains sum to 242.06 W, and PWR_CAP resets to that sum. PWR_DOM_STATd.EST and
PWR_LOAD show them, and the admission of a domain compares their sum with PWR_CAP. -/
def Obligations.EstimatesBoundConsumption : Prop :=
  (List.range 24).map (estOf false) = [25, 400, 50, 200, 150, 300, 2100, 2100, 2100, 2100, 1800, 1800, 1800, 1800, 1000, 1000, 1000, 1000,
    500, 500, 500, 500, 600, 175] ∧
  (List.range 24).map (estOf true) = [25, 412, 52, 206, 155, 309, 2163, 2163, 2163, 2163, 1854, 1854, 1854, 1854, 1030, 1030, 1030, 1030,
    515, 515, 515, 515, 618, 181] ∧
  (∀ n, n < 24 → n ≠ 0 → 103 * estOf false n ≤ 100 * estOf true n ∧ 100 * estOf true n < 103 * estOf false n + 100) ∧
  total ((List.range 24).map (estOf false)) = 23500 ∧ total ((List.range 24).map (estOf true)) = 24206 ∧
  regReset false .pwrCap = 23500 ∧ regReset true .pwrCap = 24206 ∧
  (∀ (d : Dev) (n : Nat), n < 24 → bits (readReg d (.pwrDomStat n)) 31 16 = estOf d.fuse.ib n) ∧
  (∀ d : Dev, (readReg d .pwrLoad).toNat = total (((List.range 24).filter (domAwake d)).map (estOf d.fuse.ib))) ∧
  (∀ (d : Dev) (rank n : Nat), n < 24 → (n < 18 ∨ 22 ≤ n) → domAwake d n = false → (requires n).all (domUp d) = true →
    (dom (decide1 false rank n d) n).st = if load d + estOf d.fuse.ib n ≤ rf d .pwrCap 15 0 then .ramping else .deferred)
end

