-- ==== Sys2Proof/Decode.lean ====
section
/-! DEFINITION. Words that spell commands: the table of commands gives no row any bits, so there are none. -/

namespace Sys2Proof

/-- The command that a word spells: none, since no row of the table has bits (log entry 44). -/
def decodeTableWord (_nbits _w : Nat) : Option Instr := none

end Sys2Proof
end

