-- ==== Sys2Proof/Laws/Dispatch.lean ====
section
/-! SUPPORT. What each command does, as an equation: the range of its operands, and its change of the device. A proof about a command
starts by rewriting with it. -/

namespace Sys2Proof.Laws

open Sys2Proof.Machine

theorem exec_bootInfo (q : Req) (s : State) :
    Machine.exec (.bootInfo q) s = runSys (isReq q) (serve 0x0001 anyAction q) s := rfl
theorem exec_recoveryEnter (q : Req) (s : State) :
    Machine.exec (.recoveryEnter q) s = runSys (isReq q) (serve 0x0002 anyAction q) s := rfl
theorem exec_jtagUnlock (q : Req) (s : State) :
    Machine.exec (.jtagUnlock q) s = runSys (isReq q) (serve 0x0003 anyAction q) s := rfl
theorem exec_updBegin (q : Req) (s : State) :
    Machine.exec (.updBegin q) s = runSys (isReq q) (serve 0x0010 anyAction q) s := rfl
theorem exec_updWrite (q : Req) (s : State) :
    Machine.exec (.updWrite q) s = runSys (isReq q) (serve 0x0011 anyAction q) s := rfl
theorem exec_updCommit (q : Req) (s : State) :
    Machine.exec (.updCommit q) s = runSys (isReq q) (serve 0x0012 anyAction q) s := rfl
theorem exec_updAbort (q : Req) (s : State) :
    Machine.exec (.updAbort q) s = runSys (isReq q) (serve 0x0013 anyAction q) s := rfl
theorem exec_updConfirm (q : Req) (s : State) :
    Machine.exec (.updConfirm q) s = runSys (isReq q) (serve 0x0014 anyAction q) s := rfl
theorem exec_updStatus (q : Req) (s : State) :
    Machine.exec (.updStatus q) s = runSys (isReq q) (serve 0x0015 anyAction q) s := rfl
theorem exec_objSet (q : Req) (s : State) :
    Machine.exec (.objSet q) s = runSys (isReq q) (serve 0x0101 anyAction q) s := rfl
theorem exec_objDel (q : Req) (s : State) :
    Machine.exec (.objDel q) s = runSys (isReq q) (serve 0x0102 anyAction q) s := rfl
theorem exec_objGet (q : Req) (s : State) :
    Machine.exec (.objGet q) s = runSys (isReq q) (serve 0x0103 anyAction q) s := rfl
theorem exec_commit (q : Req) (s : State) :
    Machine.exec (.commit q) s = runSys (isReq q) (serve 0x0104 anyAction q) s := rfl
theorem exec_commitCancel (q : Req) (s : State) :
    Machine.exec (.commitCancel q) s = runSys (isReq q) (serve 0x0105 anyAction q) s := rfl
theorem exec_shadowRevert (q : Req) (s : State) :
    Machine.exec (.shadowRevert q) s = runSys (isReq q) (serve 0x0106 anyAction q) s := rfl
theorem exec_commitStatus (q : Req) (s : State) :
    Machine.exec (.commitStatus q) s = runSys (isReq q) (serve 0x0107 anyAction q) s := rfl
theorem exec_funcReinit (q : Req) (s : State) :
    Machine.exec (.funcReinit q) s = runSys (isReq q) (serve 0x0108 anyAction q) s := rfl
theorem exec_sliceReady (n : Nat) (s : State) :
    Machine.exec (.sliceReady n) s = runDev (isSlice n) (fun d => refresh (sliceReady n d)) s := rfl
theorem exec_store (q : Req) (s : State) :
    Machine.exec (.store q) s = runSys (isReq q) (serve 0x0109 anyAction q) s := rfl
theorem exec_storeSetCommit (readback : Bool) (s : State) :
    Machine.exec (.storeSetCommit readback) s = runSys true (storeCommit readback) s := rfl
theorem exec_sliceLoad (q : Req) (s : State) :
    Machine.exec (.sliceLoad q) s = runSys (isReq q) (serve 0x010A anyAction q) s := rfl
theorem exec_resizePropose (q : Req) (s : State) :
    Machine.exec (.resizePropose q) s = runSys (isReq q) (serve 0x010B anyAction q) s := rfl
theorem exec_inventory (q : Req) (s : State) :
    Machine.exec (.inventory q) s = runSys (isReq q) (serve 0x0201 anyAction q) s := rfl
theorem exec_health (q : Req) (s : State) :
    Machine.exec (.health q) s = runSys (isReq q) (serve 0x0202 anyAction q) s := rfl
theorem exec_pmRead (q : Req) (s : State) :
    Machine.exec (.pmRead q) s = runSys (isReq q) (serve 0x0203 anyAction q) s := rfl
theorem exec_pmClear (q : Req) (s : State) :
    Machine.exec (.pmClear q) s = runSys (isReq q) (serve 0x0204 anyAction q) s := rfl
theorem exec_lastGaspRead (q : Req) (s : State) :
    Machine.exec (.lastGaspRead q) s = runSys (isReq q) (serve 0x0205 anyAction q) s := rfl
theorem exec_lastGaspAck (q : Req) (s : State) :
    Machine.exec (.lastGaspAck q) s = runSys (isReq q) (serve 0x0206 anyAction q) s := rfl
theorem exec_evtLogRead (q : Req) (s : State) :
    Machine.exec (.evtLogRead q) s = runSys (isReq q) (serve 0x0207 anyAction q) s := rfl
theorem exec_refCfg (q : Req) (s : State) :
    Machine.exec (.refCfg q) s = runSys (isReq q) (serve 0x0301 anyAction q) s := rfl
theorem exec_dpllCfg (q : Req) (s : State) :
    Machine.exec (.dpllCfg q) s = runSys (isReq q) (serve 0x0302 anyAction q) s := rfl
theorem exec_dpllClear (q : Req) (s : State) :
    Machine.exec (.dpllClear q) s = runSys (isReq q) (serve 0x0303 (action 4 0 8) q) s := rfl
theorem exec_dpllForce (q : Req) (s : State) :
    Machine.exec (.dpllForce q) s = runSys (isReq q) (serve 0x0303 (action 4 1 8) q) s := rfl
theorem exec_dpllManual (q : Req) (s : State) :
    Machine.exec (.dpllManual q) s = runSys (isReq q) (serve 0x0303 (action 4 2 8) q) s := rfl
theorem exec_dpllLockout (q : Req) (s : State) :
    Machine.exec (.dpllLockout q) s = runSys (isReq q) (serve 0x0303 (action 4 3 8) q) s := rfl
theorem exec_dpllUnlock (q : Req) (s : State) :
    Machine.exec (.dpllUnlock q) s = runSys (isReq q) (serve 0x0303 (action 4 4 8) q) s := rfl
theorem exec_dpllHoldover (q : Req) (s : State) :
    Machine.exec (.dpllHoldover q) s = runSys (isReq q) (serve 0x0303 (action 4 5 8) q) s := rfl
theorem exec_dpllFreerun (q : Req) (s : State) :
    Machine.exec (.dpllFreerun q) s = runSys (isReq q) (serve 0x0303 (action 4 6 8) q) s := rfl
theorem exec_dpllRelearn (q : Req) (s : State) :
    Machine.exec (.dpllRelearn q) s = runSys (isReq q) (serve 0x0303 (action 4 7 8) q) s := rfl
theorem exec_dpllTemp (q : Req) (s : State) :
    Machine.exec (.dpllTemp q) s = runSys (isReq q) (serve 0x0303 (action 4 8 8) q) s := rfl
theorem exec_align (q : Req) (s : State) :
    Machine.exec (.align q) s = runSys (isReq q) (serve 0x0304 anyAction q) s := rfl
theorem exec_holdoverLoad (q : Req) (s : State) :
    Machine.exec (.holdoverLoad q) s = runSys (isReq q) (serve 0x0305 anyAction q) s := rfl
theorem exec_timeStatus (q : Req) (s : State) :
    Machine.exec (.timeStatus q) s = runSys (isReq q) (serve 0x0306 anyAction q) s := rfl
theorem exec_apsClear (q : Req) (s : State) :
    Machine.exec (.apsClear q) s = runSys (isReq q) (serve 0x0401 (action 4 0 6) q) s := rfl
theorem exec_apsLockout (q : Req) (s : State) :
    Machine.exec (.apsLockout q) s = runSys (isReq q) (serve 0x0401 (action 4 1 6) q) s := rfl
theorem exec_apsForcedProtection (q : Req) (s : State) :
    Machine.exec (.apsForcedProtection q) s = runSys (isReq q) (serve 0x0401 (action 4 2 6) q) s := rfl
theorem exec_apsForcedWorking (q : Req) (s : State) :
    Machine.exec (.apsForcedWorking q) s = runSys (isReq q) (serve 0x0401 (action 4 3 6) q) s := rfl
theorem exec_apsManualProtection (q : Req) (s : State) :
    Machine.exec (.apsManualProtection q) s = runSys (isReq q) (serve 0x0401 (action 4 4 6) q) s := rfl
theorem exec_apsManualWorking (q : Req) (s : State) :
    Machine.exec (.apsManualWorking q) s = runSys (isReq q) (serve 0x0401 (action 4 5 6) q) s := rfl
theorem exec_apsExercise (q : Req) (s : State) :
    Machine.exec (.apsExercise q) s = runSys (isReq q) (serve 0x0401 (action 4 6 6) q) s := rfl
theorem exec_mergeAutomatic (q : Req) (s : State) :
    Machine.exec (.mergeAutomatic q) s = runSys (isReq q) (serve 0x0402 (action 4 0 3) q) s := rfl
theorem exec_mergeForcePathA (q : Req) (s : State) :
    Machine.exec (.mergeForcePathA q) s = runSys (isReq q) (serve 0x0402 (action 4 1 3) q) s := rfl
theorem exec_mergeForcePathB (q : Req) (s : State) :
    Machine.exec (.mergeForcePathB q) s = runSys (isReq q) (serve 0x0402 (action 4 2 3) q) s := rfl
theorem exec_mergeRestartAlignment (q : Req) (s : State) :
    Machine.exec (.mergeRestartAlignment q) s = runSys (isReq q) (serve 0x0402 (action 4 3 3) q) s := rfl
theorem exec_protStatus (q : Req) (s : State) :
    Machine.exec (.protStatus q) s = runSys (isReq q) (serve 0x0403 anyAction q) s := rfl
theorem exec_mateStatus (q : Req) (s : State) :
    Machine.exec (.mateStatus q) s = runSys (isReq q) (serve 0x0501 anyAction q) s := rfl
theorem exec_mateSwitch (q : Req) (s : State) :
    Machine.exec (.mateSwitch q) s = runSys (isReq q) (serve 0x0502 anyAction q) s := rfl
theorem exec_mateJoinClear (q : Req) (s : State) :
    Machine.exec (.mateJoinClear q) s = runSys (isReq q) (serve 0x0503 (action 2 0 2) q) s := rfl
theorem exec_mateJoinSet (q : Req) (s : State) :
    Machine.exec (.mateJoinSet q) s = runSys (isReq q) (serve 0x0503 (action 2 1 2) q) s := rfl
theorem exec_mateJoinRejoin (q : Req) (s : State) :
    Machine.exec (.mateJoinRejoin q) s = runSys (isReq q) (serve 0x0503 (action 2 2 2) q) s := rfl
theorem exec_mateDigest (q : Req) (s : State) :
    Machine.exec (.mateDigest q) s = runSys (isReq q) (serve 0x0504 anyAction q) s := rfl
theorem exec_assistDecide (q : Req) (s : State) :
    Machine.exec (.assistDecide q) s = runSys (isReq q) (serve 0x0601 anyAction q) s := rfl
theorem exec_assistResume (q : Req) (s : State) :
    Machine.exec (.assistResume q) s = runSys (isReq q) (serve 0x0602 anyAction q) s := rfl
theorem exec_assistList (q : Req) (s : State) :
    Machine.exec (.assistList q) s = runSys (isReq q) (serve 0x0603 anyAction q) s := rfl
theorem exec_mirroredExec (s : State) :
    Machine.exec (.mirroredExec) s = runSys true mirroredExec s := rfl
theorem exec_mbxDoorbell (q : Requester) (c tail : Nat) (s : State) :
    Machine.exec (.mbxDoorbell q c tail) s = runSys (isChannel c && decide (tail < 128)) (writeNamed q (.mbxDb c) (BitVec.ofNat 32 tail)) s := rfl
theorem exec_mbxChannelReset (q : Requester) (c key : Nat) (spi : Bool) (s : State) :
    Machine.exec (.mbxChannelReset q c key spi) s = runSys (isChannel c && isHalf key) (writeNamed q (.mbxCtl c) (keyWord key (spi.toNat * 2 + 1))) s := rfl
theorem exec_glbRstWarm (q : Requester) (key : Nat) (s : State) :
    Machine.exec (.glbRstWarm q key) s = runSys (isHalf key) (writeNamed q .glbRstCmd (keyWord key 1)) s := rfl
theorem exec_glbRstPwrCycle (q : Requester) (key : Nat) (warm : Bool) (s : State) :
    Machine.exec (.glbRstPwrCycle q key warm) s = runSys (isHalf key) (writeNamed q .glbRstCmd (keyWord key (2 + warm.toNat))) s := rfl
theorem exec_glbCpuRestartGo (q : Requester) (key : Nat) (s : State) :
    Machine.exec (.glbCpuRestartGo q key) s = runSys (isHalf key) (writeNamed q .glbCpuRestart (keyWord key 1)) s := rfl
theorem exec_pwrCapWrite (q : Requester) (w : Word) (s : State) :
    Machine.exec (.pwrCapWrite q w) s = runSys true (writeNamed q .pwrCap w) s := rfl
theorem exec_pwrHostHold (q : Requester) (w : Word) (s : State) :
    Machine.exec (.pwrHostHold q w) s = runSys true (writeNamed q .pwrHostHold w) s := rfl
theorem exec_pwrHostDrop (q : Requester) (w : Word) (s : State) :
    Machine.exec (.pwrHostDrop q w) s = runSys true (writeNamed q .pwrHostDrop w) s := rfl
theorem exec_pwrRailClr (q : Requester) (w : Word) (s : State) :
    Machine.exec (.pwrRailClr q w) s = runSys true (writeNamed q .pwrRailClr w) s := rfl
theorem exec_domainFaultClear (q : Requester) (n cnt : Nat) (s : State) :
    Machine.exec (.domainFaultClear q n cnt) s = runSys (isDom n && isByte cnt) (writeNamed q (.pwrDomStat n) (BitVec.ofNat 32 (cnt * 256 + 16))) s := rfl
theorem exec_wideSelWrite (q : Requester) (w : Word) (s : State) :
    Machine.exec (.wideSelWrite q w) s = runSys true (writeNamed q .wideSel w) s := rfl
theorem exec_wideRecapture (q : Requester) (s : State) :
    Machine.exec (.wideRecapture q) s = runSys true (writeNamed q .wideCmd 2) s := rfl
theorem exec_wideWrite (q : Requester) (recapture : Bool) (s : State) :
    Machine.exec (.wideWrite q recapture) s = runSys true (writeNamed q .wideCmd (BitVec.ofNat 32 (1 + recapture.toNat * 2))) s := rfl
theorem exec_wideCaptureDone (q : Requester) (s : State) :
    Machine.exec (.wideCaptureDone q) s = runDev true (wideDone q) s := rfl
theorem exec_errInjGo (q : Requester) (key sev : Nat) (s : State) :
    Machine.exec (.errInjGo q key sev) s = runSys (isHalf key && decide (sev < 8)) (writeNamed q .errInj (keyWord key (256 + sev))) s := rfl
theorem exec_evtCtlReset (q : Requester) (enable : Bool) (s : State) :
    Machine.exec (.evtCtlReset q enable) s = runSys true (writeNamed q .evtCtl (BitVec.ofNat 32 (2 + enable.toNat))) s := rfl
theorem exec_evtEnable (q : Requester) (s : State) :
    Machine.exec (.evtEnable q) s = runSys true (writeNamed q .evtCtl 1) s := rfl
theorem exec_pctrClrGo (q : Requester) (key banks : Nat) (s : State) :
    Machine.exec (.pctrClrGo q key banks) s = runSys (isHalf key && decide (banks < 128)) (writeNamed q .pctrClr (keyWord key (256 + banks))) s := rfl
theorem exec_nvmJtagRelock (q : Requester) (s : State) :
    Machine.exec (.nvmJtagRelock q) s = runSys true (writeNamed q .nvmJtagCtl 1) s := rfl
theorem exec_qmClear (q : Requester) (n space index : Nat) (s : State) :
    Machine.exec (.qmClear q n space index) s = runSys (isSlice n && decide (space < 4) && isHalf index) (writeNamed q (.qmClr n) (BitVec.ofNat 32 (space * 2 ^ 30 + index))) s := rfl
theorem exec_pmonPhaseWrite (q : Requester) (w : Word) (s : State) :
    Machine.exec (.pmonPhaseWrite q w) s = runSys true (writeNamed q .pmonPhase w) s := rfl
theorem exec_msixUnmask (pf1 : Bool) (k : Nat) (s : State) :
    Machine.exec (.msixUnmask pf1 k) s = runDev (decide (k < 16)) (msixUnmask pf1 k) s := rfl
theorem exec_registerWrite (q : Requester) (t : RegTarget) (size : Nat) (lo hi : Word) (s : State) :
    Machine.exec (.registerWrite q t size lo hi) s = runSys true (hostWrite q t size lo hi) s := rfl
theorem exec_spiRead (o n : Nat) (ready : Bool) (s : State) :
    Machine.exec (.spiRead o n ready) s = runSys (isOffset o) (spiRead o n ready) s := rfl
theorem exec_spiWrite (o : Nat) (ws : List Word) (cut : Bool) (s : State) :
    Machine.exec (.spiWrite o ws cut) s = runSys (isOffset o) (spiWrite o ws cut) s := rfl
theorem exec_spiStatus (s : State) :
    Machine.exec (.spiStatus) s = runDev true spiStatus s := rfl
theorem exec_i2cWrite (o : I2cPlace) (ws : List Word) (s : State) :
    Machine.exec (.i2cWrite o ws) s = runSys (isI2cAddr o.addr && isOffset o.off) (i2cWrite o.addr o.off ws) s := rfl
theorem exec_i2cRead (o : I2cPlace) (n : Nat) (answered : Bool) (s : State) :
    Machine.exec (.i2cRead o n answered) s = runSys (isI2cAddr o.addr && isOffset o.off) (i2cRead o.addr o.off n answered) s := rfl
theorem exec_perstNRise (s : State) :
    Machine.exec (.perstNRise) s = rawDev true perstRise s := rfl
theorem exec_pcieLinkTrainingStart (s : State) :
    Machine.exec (.pcieLinkTrainingStart) s = runDev true startLink s := rfl
theorem exec_pf0Flr (s : State) :
    Machine.exec (.pf0Flr) s = runDev true pf0Flr s := rfl
theorem exec_pf1Flr (s : State) :
    Machine.exec (.pf1Flr) s = runDev true pf1Flr s := rfl
theorem exec_pf0D3hotEntry (d3hot : Bool) (s : State) :
    Machine.exec (.pf0D3hotEntry d3hot) s = runDev true (pf0Pause d3hot) s := rfl
theorem exec_pf0DmaResume (s : State) :
    Machine.exec (.pf0DmaResume) s = runDev true pf0Resume s := rfl
theorem exec_evtHoldoffExpiry (s : State) :
    Machine.exec (.evtHoldoffExpiry) s = runDev true holdoffEnd s := rfl
theorem exec_evtPostOnRoom (s : State) :
    Machine.exec (.evtPostOnRoom) s = runDev true postOnRoom s := rfl
theorem exec_registerRead (q : Requester) (t : RegTarget) (size : Nat) (answered : Bool) (s : State) :
    Machine.exec (.registerRead q t size answered) s = runSys true (hostRead q t size answered) s := rfl
theorem exec_perstNFall (s : State) :
    Machine.exec (.perstNFall) s = rawDev true perstFall s := rfl
theorem exec_porNFall (s : State) :
    Machine.exec (.porNFall) s = rawSys true porFall s := rfl
theorem exec_coldStart (straps : Nat) (s : State) :
    Machine.exec (.coldStart straps) s = rawSys (decide (straps < 128)) (coldStart straps) s := rfl
theorem exec_warmRstPin (s : State) :
    Machine.exec (.warmRstPin) s = runSys true (fun s => onDev refresh (warmPin s)) s := rfl
theorem exec_brownout (s : State) :
    Machine.exec (.brownout) s = rawSys true brownout s := rfl
theorem exec_brownoutEnd (porHigh : Bool) (straps : Nat) (s : State) :
    Machine.exec (.brownoutEnd porHigh straps) s = rawSys (decide (straps < 128)) (brownoutEnd porHigh straps) s := rfl
theorem exec_commonRailEnable (s : State) :
    Machine.exec (.commonRailEnable) s = runDev true railNext s := rfl
theorem exec_railPgTimeout (k : Nat) (s : State) :
    Machine.exec (.railPgTimeout k) s = runSys (isEn k) (fun s => afterGasp (onDev (fun d => refresh (railTimeout k d)) s)) s := rfl
theorem exec_romBoot (s : State) :
    Machine.exec (.romBoot) s = runSys true romBoot s := rfl
theorem exec_thinoStart (s : State) :
    Machine.exec (.thinoStart) s = runSys true (fun s => onDev refresh (thinoStart s)) s := rfl
theorem exec_bootReady (s : State) :
    Machine.exec (.bootReady) s = runDev true bootReady s := rfl
theorem exec_bootWdtExpiry (s : State) :
    Machine.exec (.bootWdtExpiry) s = runSys true (fun s => onDev refresh (bootWdtExpiry s)) s := rfl
theorem exec_cpuWdtExpiry (s : State) :
    Machine.exec (.cpuWdtExpiry) s = runSys true (fun s => onDev refresh (cpuWdtExpiry s)) s := rfl
theorem exec_cpuRestartDone (s : State) :
    Machine.exec (.cpuRestartDone) s = runSys true (fun s => onDev refresh (cpuRestartDone s)) s := rfl
theorem exec_pfwNFall (ns : Nat) (s : State) :
    Machine.exec (.pfwNFall ns) s = rawDev (isNs ns) (fun d => gate (powered d) refresh (pfwFall ns d)) s := rfl
theorem exec_lastGaspWritten (s : State) :
    Machine.exec (.lastGaspWritten) s = runSys true (fun s => onDev refresh (gaspDone s)) s := rfl
theorem exec_pfwNRise (s : State) :
    Machine.exec (.pfwNRise) s = rawDev true pfwRise s := rfl
theorem exec_pfwLift (s : State) :
    Machine.exec (.pfwLift) s = runSys true (fun s => afterGasp (onDev pfwLift s)) s := rfl
theorem exec_errHandle (s : State) :
    Machine.exec (.errHandle) s = runSys true (fun s => onDev refresh (errHandle s)) s := rfl
theorem exec_jtagExpiry (s : State) :
    Machine.exec (.jtagExpiry) s = runDev true jtagExpiry s := rfl
theorem exec_warmRstNRise (s : State) :
    Machine.exec (.warmRstNRise) s = rawDev true warmRise s := rfl
theorem exec_romStartTimeout (s : State) :
    Machine.exec (.romStartTimeout) s = runDev true romTimeout s := rfl
theorem exec_railExcursionShort (k : Nat) (s : State) :
    Machine.exec (.railExcursionShort k) s = runDev (isRail k) (railExcursion k) s := rfl
theorem exec_domainFault (n cause : Nat) (s : State) :
    Machine.exec (.domainFault n cause) s = runSys (isDom n && (cause == 1 || cause == 2)) (fun s => afterGasp (onDev (fun d => refresh (domainFault n cause d)) s)) s := rfl
theorem exec_pseqPgFall (k : Nat) (s : State) :
    Machine.exec (.pseqPgFall k) s = rawSys (isEn k) (fun s => if powered s.dev then afterGasp (onDev (fun d => refresh (railDown k d)) s) else onDev (pgLow k) s) s := rfl
theorem exec_pseqPgRise (k : Nat) (s : State) :
    Machine.exec (.pseqPgRise k) s = rawSys (isEn k) (fun s => onDev (if powered s.dev then pgRise k else pgHigh k) s) s := rfl
theorem exec_pmbAlert (k addr statusByte statusWord : Nat) (s : State) :
    Machine.exec (.pmbAlert k addr statusByte statusWord) s = runDev (isRail k && isByte addr && isByte statusByte && isHalf statusWord) (pmbAlert k addr statusByte statusWord) s := rfl
theorem exec_pmbusPoll (readings : List (Nat × Nat × Nat × Int)) (s : State) :
    Machine.exec (.pmbusPoll readings) s = runDev true (pmbusPoll readings) s := rfl
theorem exec_avsStep (k : Nat) (s : State) :
    Machine.exec (.avsStep k) s = runDev (isRegion k) (avsStep k) s := rfl
theorem exec_thermalReading (r : Nat) (celsius : Int) (s : State) :
    Machine.exec (.thermalReading r celsius) s = runDev (isRegion r && isTemp celsius) (fun d => refresh (thermalReading r celsius d)) s := rfl
theorem exec_thermRearm (r : Nat) (s : State) :
    Machine.exec (.thermRearm r) s = runDev (isRegion r) (thermRearm r) s := rfl
theorem exec_sliceThermalRejoin (n : Nat) (s : State) :
    Machine.exec (.sliceThermalRejoin n) s = runDev (isSlice n) (fun d => refresh (thermRejoin n d)) s := rfl
theorem exec_regionSkewAlarm (kind : Nat) (values : List Int) (s : State) :
    Machine.exec (.regionSkewAlarm kind values) s = runDev ((kind == 1 || kind == 2) && values.length == 5) (fun d => refresh (regionSkew kind values d)) s := rfl
theorem exec_regionRejoin (n : Nat) (s : State) :
    Machine.exec (.regionRejoin n) s = runDev (isSlice n) (fun d => refresh (regionRejoin n d)) s := rfl
theorem exec_xoInLoss (s : State) :
    Machine.exec (.xoInLoss) s = runDev true (fun d => refresh (xoLoss d)) s := rfl
theorem exec_wakeRequest (rank n : Nat) (s : State) :
    Machine.exec (.wakeRequest rank n) s = runDev (isRank rank && isDom n) (fun d => refresh (requestWake rank n d)) s := rfl
theorem exec_domainReady (n : Nat) (s : State) :
    Machine.exec (.domainReady n) s = runSys (isDom n) (domainReadySys n) s := rfl
theorem exec_domainSleep (n : Nat) (s : State) :
    Machine.exec (.domainSleep n) s = runDev (isDom n) (fun d => refresh (domainSleep n d)) s := rfl
theorem exec_d2IdleSleep (s : State) :
    Machine.exec (.d2IdleSleep) s = runDev true nvmIdle s := rfl
theorem exec_sliceRailOff (n : Nat) (s : State) :
    Machine.exec (.sliceRailOff n) s = runDev (isSlice n) (sliceRailOff n) s := rfl
theorem exec_memIdleSelfRefresh (g : Nat) (s : State) :
    Machine.exec (.memIdleSelfRefresh g) s = runDev (isMem g) (fun d => refresh (memIdle g d)) s := rfl
theorem exec_memScrubWake (g : Nat) (s : State) :
    Machine.exec (.memScrubWake g) s = runDev (isMem g) (fun d => refresh (memScrubWake g d)) s := rfl
theorem exec_faultRewake (n : Nat) (s : State) :
    Machine.exec (.faultRewake n) s = runDev (isDom n) (fun d => refresh (faultRewake n d)) s := rfl
theorem exec_powerSwitchedOff (n : Nat) (s : State) :
    Machine.exec (.powerSwitchedOff n) s = runDev (isDom n) (fun d => refresh (switchedOff n d)) s := rfl
theorem exec_vddAonWriteGuard (low : Bool) (s : State) :
    Machine.exec (.vddAonWriteGuard low) s = rawDev true (writeGuard low) s := rfl
theorem exec_vddIo18Excursion (k : Nat) (high : Bool) (s : State) :
    Machine.exec (.vddIo18Excursion k high) s = runDev (k == 8 || k == 9) (fun d => refresh (aonExcursion k high d)) s := rfl
theorem exec_epochBoundary (s : State) :
    Machine.exec (.epochBoundary) s = runDev true epochBoundary s := rfl
theorem exec_commitEnterService (s : State) :
    Machine.exec (.commitEnterService) s = runDev true (fun d => refresh (commitEnter d)) s := rfl
theorem exec_calendarChange (p : Nat) (s : State) :
    Machine.exec (.calendarChange p) s = runDev (isPort p) (fun d => refresh (calendarChange p d)) s := rfl
theorem exec_assistTimeout (fn i ns : Nat) (s : State) :
    Machine.exec (.assistTimeout fn i ns) s = runDev (isNs ns) (assistTimeoutCmd fn i ns) s := rfl
theorem exec_pmSecondBoundary (s : State) :
    Machine.exec (.pmSecondBoundary) s = runDev true pmSecond s := rfl
theorem exec_pmBinFinal (day : Bool) (s : State) :
    Machine.exec (.pmBinFinal day) s = runDev true (pmBinFinal day) s := rfl
theorem exec_failureDeclare (i c : Nat) (s : State) :
    Machine.exec (.failureDeclare i c) s = runDev (isPoint i && isClass c) (fun d => refresh (failureDeclare i c d)) s := rfl
theorem exec_failureClear (i c : Nat) (s : State) :
    Machine.exec (.failureClear i c) s = runDev (isPoint i && isClass c) (fun d => refresh (failureClear i c d)) s := rfl
theorem exec_pmFailureReport (i reason : Nat) (s : State) :
    Machine.exec (.pmFailureReport i reason) s = runDev (isPoint i && (reason == 1 || reason == 2)) (failureReport i reason) s := rfl
theorem exec_pctrWindowEnd (s : State) :
    Machine.exec (.pctrWindowEnd) s = runDev true pctrWindowEnd s := rfl
theorem exec_pctrDumpWritten (s : State) :
    Machine.exec (.pctrDumpWritten) s = runDev true pctrDumpWritten s := rfl
theorem exec_laneSignalDetect (line : Bool) (n k : Nat) (present : Bool) (s : State) :
    Machine.exec (.laneSignalDetect line n k present) s = runDev (isSlice n && isLane line k) (fun d => refresh (laneSignal line n k present d)) s := rfl
theorem exec_laneCdrLock (line : Bool) (n k : Nat) (s : State) :
    Machine.exec (.laneCdrLock line n k) s = runDev (isSlice n && isLane line k) (fun d => refresh (laneCdr line n k d)) s := rfl
theorem exec_laneAdapted (line : Bool) (n k : Nat) (s : State) :
    Machine.exec (.laneAdapted line n k) s = runDev (isSlice n && isLane line k) (fun d => refresh (laneAdapted line n k d)) s := rfl
theorem exec_clientLosChange (i : Nat) (live : Bool) (s : State) :
    Machine.exec (.clientLosChange i live) s = runDev (isClient i) (fun d => refresh (clientLos i live d)) s := rfl
theorem exec_clientDefectChange (i b : Nat) (live : Bool) (x : ClientRx) (s : State) :
    Machine.exec (.clientDefectChange i b live x) s = runDev (isClient i && decide (b < 64)) (fun d => refresh (clientDefect i b live x d)) s := rfl
theorem exec_macFrameRx (i : Nat) (frame : Bytes) (ns : Nat) (s : State) :
    Machine.exec (.macFrameRx i frame ns) s = runDev (isClient i && isNs ns) (macFrameRx i frame ns) s := rfl
theorem exec_esmcPduRx (i : Nat) (frame : Bytes) (s : State) :
    Machine.exec (.esmcPduRx i frame) s = runDev (isClient i) (fun d => refresh (esmcRx i frame d)) s := rfl
theorem exec_esmcTimeout (i : Nat) (s : State) :
    Machine.exec (.esmcTimeout i) s = runDev (isClient i) (fun d => refresh (esmcTimeout i d)) s := rfl
theorem exec_esmcInfoPduTx (i : Nat) (s : State) :
    Machine.exec (.esmcInfoPduTx i) s = runDev (isClient i) (esmcInfo i) s := rfl
theorem exec_clientFaultRx (i : Nat) (lf rf : Bool) (s : State) :
    Machine.exec (.clientFaultRx i lf rf) s = runDev (isClient i) (fun d => refresh (clientFault i lf rf d)) s := rfl
theorem exec_prbsCheckerLock (n k : Nat) (locked : Bool) (errs : Nat) (s : State) :
    Machine.exec (.prbsCheckerLock n k locked errs) s = runDev (isSlice n && isLane false k) (prbsLock n k locked errs) s := rfl
theorem exec_egressFrameTx (i : Nat) (s : State) :
    Machine.exec (.egressFrameTx i) s = runDev (isClient i) (egressTx i) s := rfl
theorem exec_flexoMarker (p k pos bad : Nat) (crcOk : Bool) (id gid skew : Nat) (rpf : Bool) (s : State) :
    Machine.exec (.flexoMarker p k pos bad crcOk id gid skew rpf) s = runDev (isPort p && decide (k < 16)) (fun d => refresh (flexoMarker p k pos bad crcOk id gid skew rpf d)) s := rfl
theorem exec_flexoLof (p : Nat) (s : State) :
    Machine.exec (.flexoLof p) s = runDev (isPort p) (fun d => refresh (flexoLof p d)) s := rfl
theorem exec_fecCodeword (line : Bool) (i errs : Nat) (s : State) :
    Machine.exec (.fecCodeword line i errs) s = runDev (if line then isPort i else isClient i) (if line then lineCodeword i errs else clientCodeword i errs) s := rfl
theorem exec_otucFrameRx (p : Nat) (x : OtucRx) (s : State) :
    Machine.exec (.otucFrameRx p x) s = runDev (isPort p) (fun d => refresh (otucFrameRx p x d)) s := rfl
theorem exec_lofChange (p : Nat) (s : State) :
    Machine.exec (.lofChange p) s = runDev (isPort p) (fun d => refresh (lofChange p d)) s := rfl
theorem exec_lomChange (p : Nat) (s : State) :
    Machine.exec (.lomChange p) s = runDev (isPort p) (fun d => refresh (lomChange p d)) s := rfl
theorem exec_lineTxFrame (p ns : Nat) (odu : List OduTx) (s : State) :
    Machine.exec (.lineTxFrame p ns odu) s = runDev (isPort p && isNs ns) (fun d => refresh (lineTxFrame p ns odu d)) s := rfl
theorem exec_beaconRx (p : Nat) (beacon : Bytes) (s : State) :
    Machine.exec (.beaconRx p beacon) s = runDev (isPort p) (fun d => refresh (beaconRx p beacon d)) s := rfl
theorem exec_ohxOutFrame (p : Nat) (s : State) :
    Machine.exec (.ohxOutFrame p) s = runDev (isPort p) (ohxOut p) s := rfl
theorem exec_ohxInFrame (p : Nat) (start : Bool) (frame : Bytes) (s : State) :
    Machine.exec (.ohxInFrame p start frame) s = runDev (isPort p) (ohxIn p start frame) s := rfl
theorem exec_ohxInLos (p : Nat) (s : State) :
    Machine.exec (.ohxInLos p) s = runDev (isPort p) (ohxLos p) s := rfl
theorem exec_zpcMarkerRx (c pos : Nat) (m : Bytes) (s : State) :
    Machine.exec (.zpcMarkerRx c pos m) s = runDev (isCont c) (fun d => refresh (markerCmd c pos m d)) s := rfl
theorem exec_zpcHeaderRx (c pos : Nat) (h : HeaderIn) (s : State) :
    Machine.exec (.zpcHeaderRx c pos h) s = runDev (isCont c) (fun d => refresh (headerRx c pos h.skipped h.bytes d)) s := rfl
theorem exec_gfpCoreHeaderRx (c pos : Nat) (h : HeaderIn) (s : State) :
    Machine.exec (.gfpCoreHeaderRx c pos h) s = runDev (isCont c) (fun d => refresh (gfpHeaderCmd c pos h.skipped h.bytes d)) s := rfl
theorem exec_rxPtChange (c pt : Nat) (s : State) :
    Machine.exec (.rxPtChange c pt) s = runDev (isCont c && isByte pt) (fun d => refresh (rxPtChange c pt d)) s := rfl
theorem exec_gmpJcRx (c cm cnd : Nat) (crc : JcCrc) (amp : Option (List Nat)) (s : State) :
    Machine.exec (.gmpJcRx c cm cnd crc amp) s = runDev (isCont c) (fun d => refresh (gmpJcRx c cm cnd crc amp d)) s := rfl
theorem exec_extfcRecordRx (c : Nat) (record : Bytes) (mfas : Nat) (s : State) :
    Machine.exec (.extfcRecordRx c record mfas) s = runDev (isCont c && isByte mfas) (fun d => refresh (extRecord c record mfas d)) s := rfl
theorem exec_mirrorMiss (c : Nat) (s : State) :
    Machine.exec (.mirrorMiss c) s = runDev (isCont c) (mirrorMiss c) s := rfl
theorem exec_csfMgmtFrameTx (c : Nat) (s : State) :
    Machine.exec (.csfMgmtFrameTx c) s = runDev (isCont c) (csfTxFrame c) s := rfl
theorem exec_csfMgmtFrameRx (c : Nat) (area : Bytes) (s : State) :
    Machine.exec (.csfMgmtFrameRx c area) s = runDev (isCont c) (fun d => refresh (received c (areaFits area) area (fun _ => csfRxFrame c) d)) s := rfl
theorem exec_csfClearTimeout (c : Nat) (s : State) :
    Machine.exec (.csfClearTimeout c) s = runDev (isCont c) (fun d => refresh (csfClear c d)) s := rfl
theorem exec_lcrAckRx (c : Nat) (ok : Bool) (s : State) :
    Machine.exec (.lcrAckRx c ok) s = runDev (isCont c) (fun d => refresh (lcrAck c ok d)) s := rfl
theorem exec_lcrSwitch (c : Nat) (s : State) :
    Machine.exec (.lcrSwitch c) s = runDev (isCont c) (fun d => refresh (lcrSwitch c d)) s := rfl
theorem exec_bwrRampComplete (c : Nat) (s : State) :
    Machine.exec (.bwrRampComplete c) s = runDev (isCont c) (fun d => refresh (bwrDone c d)) s := rfl
theorem exec_lcrTimeout (c : Nat) (s : State) :
    Machine.exec (.lcrTimeout c) s = runDev (isCont c) (fun d => refresh (lcrTimeout c d)) s := rfl
theorem exec_ctxAnnounceRx (c ctx gen : Nat) (body : Bytes) (s : State) :
    Machine.exec (.ctxAnnounceRx c ctx gen body) s = runDev (isCont c && isFlow ctx && isByte gen) (received c (ctlFits ctx gen body) body fun _ => announceRx c ctx gen) s := rfl
theorem exec_ctxAckRx (c ctx gen : Nat) (body : Bytes) (s : State) :
    Machine.exec (.ctxAckRx c ctx gen body) s = runDev (isCont c && isFlow ctx && isByte gen) (received c (ctlFits ctx gen body) body fun _ => ackRx c ctx gen) s := rfl
theorem exec_ctxWithdrawRx (c ctx gen : Nat) (body : Bytes) (s : State) :
    Machine.exec (.ctxWithdrawRx c ctx gen body) s = runDev (isCont c && isFlow ctx && isByte gen) (received c (ctlFits ctx gen body) body fun _ => withdrawRx c ctx gen) s := rfl
theorem exec_ctxResyncReqRx (c ctx gen : Nat) (body : Bytes) (s : State) :
    Machine.exec (.ctxResyncReqRx c ctx gen body) s = runDev (isCont c && isFlow ctx && isByte gen) (received c (ctlFits ctx gen body) body fun _ => resyncRx c ctx gen) s := rfl
theorem exec_clientFaultFrameRx (c : Nat) (body : Bytes) (s : State) :
    Machine.exec (.clientFaultFrameRx c body) s = runDev (isCont c) (fun d => refresh (received c (fun h => headerFits 3 (zhCtx h) body h) body (fun _ => faultRx c) d)) s := rfl
theorem exec_dataCRx (c ctx gen : Nat) (efcs : Bool) (body : Bytes) (s : State) :
    Machine.exec (.dataCRx c ctx gen efcs body) s = runDev (isCont c && isFlow ctx && isByte gen) (received c (dataCFits ctx gen efcs body) body fun _ => dataCRx c ctx gen efcs) s := rfl
theorem exec_dataFRx (c ctx : Nat) (efcs gfp : Bool) (body : Bytes) (s : State) :
    Machine.exec (.dataFRx c ctx efcs gfp body) s = runDev (isCont c && isFlow ctx) (received c (dataFFits ctx efcs gfp body) body fun _ => dataFRx c ctx efcs gfp) s := rfl
theorem exec_annRetryExpiry (t : CtxTimer) (s : State) :
    Machine.exec (.annRetryExpiry t) s = runDev (isFlow t.flow && t.wdr.all isCont) (annRetry t.flow t.wdr) s := rfl
theorem exec_annReattemptExpiry (f : Nat) (s : State) :
    Machine.exec (.annReattemptExpiry f) s = runDev (isFlow f) (annReattempt f) s := rfl
theorem exec_resyncHoldRepeat (c : Nat) (s : State) :
    Machine.exec (.resyncHoldRepeat c) s = runDev (isCont c) (resyncRepeat c) s := rfl
theorem exec_clientFaultRefreshTx (i : Nat) (s : State) :
    Machine.exec (.clientFaultRefreshTx i) s = runDev (isClient i) (refreshFault i) s := rfl
theorem exec_clientFaultRxTimeout (c far : Nat) (s : State) :
    Machine.exec (.clientFaultRxTimeout c far) s = runDev (isCont c && isByte far) (fun d => refresh (applyFault c far 0 d)) s := rfl
theorem exec_zpcEncapFrame (c : Nat) (s : State) :
    Machine.exec (.zpcEncapFrame c) s = runDev (isCont c) (zpcEncapFrame c) s := rfl
theorem exec_lineAssemblyUnit (c n : Nat) (s : State) :
    Machine.exec (.lineAssemblyUnit c n) s = runDev (isCont c) (assembleUnit c n) s := rfl
theorem exec_assemblyUnitHandoff (c : Nat) (s : State) :
    Machine.exec (.assemblyUnitHandoff c) s = runDev (isCont c) (unitHandoff c) s := rfl
theorem exec_prefetchBlockArrive (n : Nat) (egress : Bool) (i : Nat) (s : State) :
    Machine.exec (.prefetchBlockArrive n egress i) s = runDev (isSlice n && isQueue n egress i) (blockArrives n egress i) s := rfl
theorem exec_flushBoundary (f : Nat) (s : State) :
    Machine.exec (.flushBoundary f) s = runDev (isFlow f) (flushBoundary f) s := rfl
theorem exec_staleTimerExpiry (n space i : Nat) (s : State) :
    Machine.exec (.staleTimerExpiry n space i) s = runDev (isSlice n && (space == 1 || space == 2) && isHalf i) (staleExpiry n space i) s := rfl
theorem exec_queueSweepDone (n : Nat) (blocks : Bool) (s : State) :
    Machine.exec (.queueSweepDone n blocks) s = runDev (isSlice n) (sweepDone n blocks) s := rfl
theorem exec_memcGrantRound (r : GrantRound) (s : State) :
    Machine.exec (.memcGrantRound r) s = runDev (r.demands.length == 4 && r.merge.length == 4) (grantRound r.demands r.ns r.merge) s := rfl
theorem exec_memcBurstEdcFail (iface failed n : Nat) (egress : Bool) (i : Nat) (s : State) :
    Machine.exec (.memcBurstEdcFail iface failed n egress i) s = runDev (decide (iface < 16) && decide (failed < 4) && isSlice n && isQueue n egress i) (fun d => refresh (burstEdc iface failed n egress i d)) s := rfl
theorem exec_memcRetrainDone (g : Nat) (ok : Bool) (s : State) :
    Machine.exec (.memcRetrainDone g ok) s = runDev (isMem g) (fun d => refresh (retrainDone g ok d)) s := rfl
theorem exec_memcTrainingDone (g trained : Nat) (s : State) :
    Machine.exec (.memcTrainingDone g trained) s = runDev (isMem g && decide (trained < 16)) (fun d => refresh (trainingDone g trained d)) s := rfl
theorem exec_resizeProposeRx (p : Nat) (msg : Bytes) (s : State) :
    Machine.exec (.resizeProposeRx p msg) s = runDev (isPort p) (fun d => refresh (rszCmd p (rszHear p [1] msg (proposeRx p msg)) d)) s := rfl
theorem exec_resizeAckRx (p : Nat) (msg : Bytes) (s : State) :
    Machine.exec (.resizeAckRx p msg) s = runDev (isPort p) (fun d => refresh (rszCmd p (rszHear p [2] msg (rszAckRx p msg)) d)) s := rfl
theorem exec_resizeNakRx (p : Nat) (msg : Bytes) (s : State) :
    Machine.exec (.resizeNakRx p msg) s = runDev (isPort p) (fun d => refresh (rszCmd p (rszHear p [3] msg (rszNakRx p msg)) d)) s := rfl
theorem exec_resizeAbortRx (p : Nat) (msg : Bytes) (s : State) :
    Machine.exec (.resizeAbortRx p msg) s = runDev (isPort p) (fun d => refresh (rszCmd p (rszHear p [5] msg (rszAbortRx p msg)) d)) s := rfl
theorem exec_resizeSwitchRx (p : Nat) (msg : Bytes) (s : State) :
    Machine.exec (.resizeSwitchRx p msg) s = runDev (isPort p) (fun d => refresh (rszCmd p (rszHear p [4] msg (rszSwitchRx p msg)) d)) s := rfl
theorem exec_resizeDoneRx (p : Nat) (msg : Bytes) (s : State) :
    Machine.exec (.resizeDoneRx p msg) s = runDev (isPort p) (fun d => refresh (rszCmd p (rszHear p [0, 6] msg (rszDoneRx p msg)) d)) s := rfl
theorem exec_resizeAckTmo (p : Nat) (s : State) :
    Machine.exec (.resizeAckTmo p) s = runDev (isPort p) (fun d => refresh (rszCmd p (rszAckTmo p) d)) s := rfl
theorem exec_resizeResponderTmo (p : Nat) (s : State) :
    Machine.exec (.resizeResponderTmo p) s = runDev (isPort p) (fun d => refresh (rszCmd p (rszRespTmo p) d)) s := rfl
theorem exec_resizeTxSwitch (p : Nat) (s : State) :
    Machine.exec (.resizeTxSwitch p) s = runDev (isPort p) (fun d => refresh (rszCmd p (txSwitchCmd p) d)) s := rfl
theorem exec_resizeRxSwitch (p : Nat) (s : State) :
    Machine.exec (.resizeRxSwitch p) s = runDev (isPort p) (fun d => refresh (rszCmd p (rxSwitchCmd p) d)) s := rfl
theorem exec_freshClear (p : Nat) (s : State) :
    Machine.exec (.freshClear p) s = runDev (isPort p) (fun d => refresh (rszCmd p (freshClear p) d)) s := rfl
theorem exec_sfSdChange (g : Nat) (s : State) :
    Machine.exec (.sfSdChange g) s = runDev (isPg g) (fun d => refresh (sfSdChange g d)) s := rfl
theorem exec_apsHoldoffExpiry (g : Nat) (s : State) :
    Machine.exec (.apsHoldoffExpiry g) s = runDev (isPg g) (fun d => refresh (holdoffExpiry g d)) s := rfl
theorem exec_apsWtrExpiry (g : Nat) (s : State) :
    Machine.exec (.apsWtrExpiry g) s = runDev (isPg g) (fun d => refresh (wtrExpiry g d)) s := rfl
theorem exec_apsRxAccept (g : Nat) (aps : Bytes) (s : State) :
    Machine.exec (.apsRxAccept g aps) s = runDev (isPg g && aps.length == 4) (fun d => refresh (apsRx g aps d)) s := rfl
theorem exec_fopTimerExpiry (g : Nat) (s : State) :
    Machine.exec (.fopTimerExpiry g) s = runDev (isPg g) (fun d => refresh (fopExpiry g d)) s := rfl
theorem exec_slalomUnitArrival (g path unit ns : Nat) (intact : Bool) (content : Bytes) (s : State) :
    Machine.exec (.slalomUnitArrival g path unit ns intact content) s = runDev (isMg g && decide (path < 2)) (fun d => refresh (unitArrival g path unit ns intact content d)) s := rfl
theorem exec_slalomDueDelivery (g unit : Nat) (s : State) :
    Machine.exec (.slalomDueDelivery g unit) s = runDev (isMg g) (fun d => refresh (dueDelivery g unit d)) s := rfl
theorem exec_rejoinHoldExpiry (g : Nat) (s : State) :
    Machine.exec (.rejoinHoldExpiry g) s = runDev (isMg g) (fun d => refresh (rejoinExpiry g d)) s := rfl
theorem exec_firstArrivalBlock (g path seq ns : Nat) (restart markerOk : Bool) (content : Bytes) (s : State) :
    Machine.exec (.firstArrivalBlock g path seq ns restart markerOk content) s = runDev (isMg g && decide (path < 2)) (fun d => refresh (firstArrival g path seq ns restart markerOk content d)) s := rfl
theorem exec_restartDiscardTimeout (g : Nat) (s : State) :
    Machine.exec (.restartDiscardTimeout g) s = runDev (isMg g) (restartTimeout g) s := rfl
theorem exec_heartbeatTx (s : State) :
    Machine.exec (.heartbeatTx) s = runDev true heartbeatTx s := rfl
theorem exec_heartbeatRx (payload : Bytes) (sent got : Nat) (s : State) :
    Machine.exec (.heartbeatRx payload sent got) s = runDev (payload.length == 52) (fun d => refresh (heartbeatRx payload sent got d)) s := rfl
theorem exec_heartbeatLoss (s : State) :
    Machine.exec (.heartbeatLoss) s = runDev true (fun d => refresh (heartbeatLoss d)) s := rfl
theorem exec_mateLinkUp (s : State) :
    Machine.exec (.mateLinkUp) s = runDev true mateLinkUp s := rfl
theorem exec_mateLinkDown (s : State) :
    Machine.exec (.mateLinkDown) s = runDev true (fun d => refresh (mateLinkDown d)) s := rfl
theorem exec_mateCellError (ty seq : Nat) (s : State) :
    Machine.exec (.mateCellError ty seq) s = runDev (isByte ty && isHalf seq) (cellError ty seq) s := rfl
theorem exec_mateNakRx (ty seq : Nat) (s : State) :
    Machine.exec (.mateNakRx ty seq) s = runDev (isByte ty && isHalf seq) (fun d => refresh (nakRx ty seq d)) s := rfl
theorem exec_commandMsgRx (msg : Bytes) (s : State) :
    Machine.exec (.commandMsgRx msg) s = runDev true (commandRx msg) s := rfl
theorem exec_resultRx (cell : Bytes) (s : State) :
    Machine.exec (.resultRx cell) s = runDev true (fun d => refresh (resultRx cell d)) s := rfl
theorem exec_decisionJust (record : Bytes) (s : State) :
    Machine.exec (.decisionJust record) s = runDev true (fun d => refresh (decisionRx kJust record d)) s := rfl
theorem exec_decisionAdmit (record : Bytes) (s : State) :
    Machine.exec (.decisionAdmit record) s = runDev true (fun d => refresh (decisionRx kAdmit record d)) s := rfl
theorem exec_decisionStall (record : Bytes) (s : State) :
    Machine.exec (.decisionStall record) s = runDev true (fun d => refresh (decisionRx kStall record d)) s := rfl
theorem exec_decisionContext (record : Bytes) (s : State) :
    Machine.exec (.decisionContext record) s = runDev true (fun d => refresh (decisionRx kContext record d)) s := rfl
theorem exec_decisionAlign (record : Bytes) (s : State) :
    Machine.exec (.decisionAlign record) s = runDev true (fun d => refresh (decisionRx kAlign record d)) s := rfl
theorem exec_decisionProt (record : Bytes) (s : State) :
    Machine.exec (.decisionProt record) s = runDev true (fun d => refresh (decisionRx kProt record d)) s := rfl
theorem exec_decisionMerge (record : Bytes) (s : State) :
    Machine.exec (.decisionMerge record) s = runDev true (fun d => refresh (decisionRx kMerge record d)) s := rfl
theorem exec_decisionResize (record : Bytes) (s : State) :
    Machine.exec (.decisionResize record) s = runDev true (fun d => refresh (decisionRx kResize record d)) s := rfl
theorem exec_decisionTiming (record : Bytes) (s : State) :
    Machine.exec (.decisionTiming record) s = runDev true (fun d => refresh (decisionRx kTiming record d)) s := rfl
theorem exec_digestRx (digests : List Word) (conts : Tbl Word) (s : State) :
    Machine.exec (.digestRx digests conts) s = runDev (digests.length == 12) (fun d => refresh (digestRx digests conts d)) s := rfl
theorem exec_joinBoundaryS (epoch : Nat) (mfas : List Nat) (s : State) :
    Machine.exec (.joinBoundaryS epoch mfas) s = runDev (decide (epoch < 2 ^ 48) && mfas.length == 4) (fun d => refresh (joinBoundary epoch mfas d)) s := rfl
theorem exec_stateImageInstalled (image : Machine.JoinImage) (s : State) :
    Machine.exec (.stateImageInstalled image) s = runDev true (fun d => refresh (imageInstalled image d)) s := rfl
theorem exec_joinAtRx (j : Nat) (s : State) :
    Machine.exec (.joinAtRx j) s = runDev (decide (j < 2 ^ 48)) (fun d => refresh (joinAtRx j d)) s := rfl
theorem exec_joinEpochJ (s : State) :
    Machine.exec (.joinEpochJ) s = runSys true (fun s => onDev refresh (joinJ s)) s := rfl
theorem exec_handoverRx (s : State) :
    Machine.exec (.handoverRx) s = runDev true (fun d => refresh (handoverRx d)) s := rfl
theorem exec_handoverAckRx (s : State) :
    Machine.exec (.handoverAckRx) s = runSys true (fun s => onDev refresh (handoverAckCmd s)) s := rfl
theorem exec_handoverReqRx (s : State) :
    Machine.exec (.handoverReqRx) s = runDev true handoverReqRx s := rfl
theorem exec_handoverAckTimeout (s : State) :
    Machine.exec (.handoverAckTimeout) s = runSys true (fun s => onDev refresh (handoverTimeoutCmd s)) s := rfl
theorem exec_actNReleased (free : Bool) (s : State) :
    Machine.exec (.actNReleased free) s = runDev true (fun d => refresh (actReleased free d)) s := rfl
theorem exec_actNProbe (low : Bool) (s : State) :
    Machine.exec (.actNProbe low) s = runDev true (fun d => refresh (actProbe low d)) s := rfl
theorem exec_claimTimerExpiry (s : State) :
    Machine.exec (.claimTimerExpiry) s = runDev true (fun d => refresh (claimExpiry d)) s := rfl
theorem exec_phaseAlarmRaise (s : State) :
    Machine.exec (.phaseAlarmRaise) s = runDev true (fun d => refresh (phaseAlarm true d)) s := rfl
theorem exec_phaseAlarmClear (s : State) :
    Machine.exec (.phaseAlarmClear) s = runDev true (fun d => refresh (phaseAlarm false d)) s := rfl
theorem exec_sramScrubPass (src block ms corrected : Nat) (bad : List Nat) (queues : List Machine.QueueErr) (s : State) :
    Machine.exec (.sramScrubPass src block ms corrected bad queues) s = runDev (isHalf src && isByte block) (sramPass src block ms corrected bad queues) s := rfl
theorem exec_spillScrubPass (g corrected : Nat) (bad : List Machine.QueueErr) (s : State) :
    Machine.exec (.spillScrubPass g corrected bad) s = runDev (isMem g) (scrubPassCmd g corrected bad) s := rfl
theorem exec_bistRun (ty block : Nat) (fail : Bool) (s : State) :
    Machine.exec (.bistRun ty block fail) s = runDev (isHalf ty && isByte block) (bistRun ty block fail) s := rfl
theorem exec_refMeasurement (means : List (Nat × Int)) (dplls : List DpllMeas) (s : State) :
    Machine.exec (.refMeasurement means dplls) s = runDev true (refMeasured means dplls) s := rfl
theorem exec_refLos (r : Nat) (mean : Option Int) (s : State) :
    Machine.exec (.refLos r mean) s = runDev (isRef r) (refLosEnter r mean) s := rfl
theorem exec_refHoldoffExpiry (r : Nat) (s : State) :
    Machine.exec (.refHoldoffExpiry r) s = runDev (isRef r) (refHoldoff r) s := rfl
theorem exec_refWtrExpiry (r : Nat) (s : State) :
    Machine.exec (.refWtrExpiry r) s = runDev (isRef r) (refWtr r) s := rfl
theorem exec_dpllLocked (i : Nat) (s : State) :
    Machine.exec (.dpllLocked i) s = runDev (isDpll i) (dpllLocked i) s := rfl
theorem exec_anchorValid (i : Nat) (s : State) :
    Machine.exec (.anchorValid i) s = runDev (isDpll i) (anchorValid i) s := rfl
theorem exec_glideMinuteRecord (i : Nat) (freq temp : Int) (s : State) :
    Machine.exec (.glideMinuteRecord i freq temp) s = runDev (isDpll i) (glideMinute i freq temp) s := rfl
theorem exec_glideFit (i : Nat) (model : Bytes) (resid : Nat) (s : State) :
    Machine.exec (.glideFit i model resid) s = runDev (isDpll i && model.length == 36) (glideFit i model resid) s := rfl
theorem exec_glideStale (i : Nat) (s : State) :
    Machine.exec (.glideStale i) s = runDev (isDpll i) (glideStale i) s := rfl
theorem exec_xoWarmupExpiry (i : Nat) (s : State) :
    Machine.exec (.xoWarmupExpiry i) s = runDev (isDpll i) (xoWarm i) s := rfl
theorem exec_ppsOutPulse (s : State) :
    Machine.exec (.ppsOutPulse) s = runDev true ppsPulse s := rfl
theorem exec_fpOutPulse (s : State) :
    Machine.exec (.fpOutPulse) s = runDev true fpPulse s := rfl
theorem exec_alignApply (measured : Int) (s : State) :
    Machine.exec (.alignApply measured) s = runDev true (alignApply measured) s := rfl
theorem exec_refLosClear (r : Nat) (s : State) :
    Machine.exec (.refLosClear r) s = runDev (isRef r) (refLosClear r) s := rfl

end Sys2Proof.Laws
end

