-- ==== Sys2Proof/Laws/Commands.lean ====
section
/-! SUPPORT. What every command has in common: it answers a next state, leaves the queue as it is, and changes device and memories by
one function, or nothing where its operands are out of range or the device is held in reset. -/

namespace Sys2Proof.Laws

open Sys2Proof.Machine

/-- The command is one change of the device and its memories, under a condition. -/
def IsChange (c : Instr) (s : State) : Prop := ∃ ok f, Machine.exec c s = rawSys ok f s

theorem change_raw {c : Instr} {s : State} {ok : Bool} {f : Sys → Sys} (h : Machine.exec c s = rawSys ok f s) : IsChange c s := ⟨ok, f, h⟩
theorem change_rawDev {c : Instr} {s : State} {ok : Bool} {f : Dev → Dev} (h : Machine.exec c s = rawDev ok f s) : IsChange c s := ⟨_, _, h⟩
theorem change_sys {c : Instr} {s : State} {ok : Bool} {f : Sys → Sys} (h : Machine.exec c s = runSys ok f s) : IsChange c s := ⟨_, _, h⟩
theorem change_dev {c : Instr} {s : State} {ok : Bool} {f : Dev → Dev} (h : Machine.exec c s = runDev ok f s) : IsChange c s := ⟨_, _, h⟩

/-- Every command is one change of the device and its memories, under a condition. -/
theorem exec_isChange (c : Instr) (s : State) : IsChange c s := by
  cases c with
  | bootInfo x0 => exact change_sys (exec_bootInfo x0 s)
  | recoveryEnter x0 => exact change_sys (exec_recoveryEnter x0 s)
  | jtagUnlock x0 => exact change_sys (exec_jtagUnlock x0 s)
  | updBegin x0 => exact change_sys (exec_updBegin x0 s)
  | updWrite x0 => exact change_sys (exec_updWrite x0 s)
  | updCommit x0 => exact change_sys (exec_updCommit x0 s)
  | updAbort x0 => exact change_sys (exec_updAbort x0 s)
  | updConfirm x0 => exact change_sys (exec_updConfirm x0 s)
  | updStatus x0 => exact change_sys (exec_updStatus x0 s)
  | objSet x0 => exact change_sys (exec_objSet x0 s)
  | objDel x0 => exact change_sys (exec_objDel x0 s)
  | objGet x0 => exact change_sys (exec_objGet x0 s)
  | commit x0 => exact change_sys (exec_commit x0 s)
  | commitCancel x0 => exact change_sys (exec_commitCancel x0 s)
  | shadowRevert x0 => exact change_sys (exec_shadowRevert x0 s)
  | commitStatus x0 => exact change_sys (exec_commitStatus x0 s)
  | funcReinit x0 => exact change_sys (exec_funcReinit x0 s)
  | sliceReady x0 => exact change_dev (exec_sliceReady x0 s)
  | store x0 => exact change_sys (exec_store x0 s)
  | storeSetCommit x0 => exact change_sys (exec_storeSetCommit x0 s)
  | sliceLoad x0 => exact change_sys (exec_sliceLoad x0 s)
  | resizePropose x0 => exact change_sys (exec_resizePropose x0 s)
  | inventory x0 => exact change_sys (exec_inventory x0 s)
  | health x0 => exact change_sys (exec_health x0 s)
  | pmRead x0 => exact change_sys (exec_pmRead x0 s)
  | pmClear x0 => exact change_sys (exec_pmClear x0 s)
  | lastGaspRead x0 => exact change_sys (exec_lastGaspRead x0 s)
  | lastGaspAck x0 => exact change_sys (exec_lastGaspAck x0 s)
  | evtLogRead x0 => exact change_sys (exec_evtLogRead x0 s)
  | refCfg x0 => exact change_sys (exec_refCfg x0 s)
  | dpllCfg x0 => exact change_sys (exec_dpllCfg x0 s)
  | dpllClear x0 => exact change_sys (exec_dpllClear x0 s)
  | dpllForce x0 => exact change_sys (exec_dpllForce x0 s)
  | dpllManual x0 => exact change_sys (exec_dpllManual x0 s)
  | dpllLockout x0 => exact change_sys (exec_dpllLockout x0 s)
  | dpllUnlock x0 => exact change_sys (exec_dpllUnlock x0 s)
  | dpllHoldover x0 => exact change_sys (exec_dpllHoldover x0 s)
  | dpllFreerun x0 => exact change_sys (exec_dpllFreerun x0 s)
  | dpllRelearn x0 => exact change_sys (exec_dpllRelearn x0 s)
  | dpllTemp x0 => exact change_sys (exec_dpllTemp x0 s)
  | align x0 => exact change_sys (exec_align x0 s)
  | holdoverLoad x0 => exact change_sys (exec_holdoverLoad x0 s)
  | timeStatus x0 => exact change_sys (exec_timeStatus x0 s)
  | apsClear x0 => exact change_sys (exec_apsClear x0 s)
  | apsLockout x0 => exact change_sys (exec_apsLockout x0 s)
  | apsForcedProtection x0 => exact change_sys (exec_apsForcedProtection x0 s)
  | apsForcedWorking x0 => exact change_sys (exec_apsForcedWorking x0 s)
  | apsManualProtection x0 => exact change_sys (exec_apsManualProtection x0 s)
  | apsManualWorking x0 => exact change_sys (exec_apsManualWorking x0 s)
  | apsExercise x0 => exact change_sys (exec_apsExercise x0 s)
  | mergeAutomatic x0 => exact change_sys (exec_mergeAutomatic x0 s)
  | mergeForcePathA x0 => exact change_sys (exec_mergeForcePathA x0 s)
  | mergeForcePathB x0 => exact change_sys (exec_mergeForcePathB x0 s)
  | mergeRestartAlignment x0 => exact change_sys (exec_mergeRestartAlignment x0 s)
  | protStatus x0 => exact change_sys (exec_protStatus x0 s)
  | mateStatus x0 => exact change_sys (exec_mateStatus x0 s)
  | mateSwitch x0 => exact change_sys (exec_mateSwitch x0 s)
  | mateJoinClear x0 => exact change_sys (exec_mateJoinClear x0 s)
  | mateJoinSet x0 => exact change_sys (exec_mateJoinSet x0 s)
  | mateJoinRejoin x0 => exact change_sys (exec_mateJoinRejoin x0 s)
  | mateDigest x0 => exact change_sys (exec_mateDigest x0 s)
  | assistDecide x0 => exact change_sys (exec_assistDecide x0 s)
  | assistResume x0 => exact change_sys (exec_assistResume x0 s)
  | assistList x0 => exact change_sys (exec_assistList x0 s)
  | mirroredExec => exact change_sys (exec_mirroredExec s)
  | mbxDoorbell x0 x1 x2 => exact change_sys (exec_mbxDoorbell x0 x1 x2 s)
  | mbxChannelReset x0 x1 x2 x3 => exact change_sys (exec_mbxChannelReset x0 x1 x2 x3 s)
  | glbRstWarm x0 x1 => exact change_sys (exec_glbRstWarm x0 x1 s)
  | glbRstPwrCycle x0 x1 x2 => exact change_sys (exec_glbRstPwrCycle x0 x1 x2 s)
  | glbCpuRestartGo x0 x1 => exact change_sys (exec_glbCpuRestartGo x0 x1 s)
  | pwrCapWrite x0 x1 => exact change_sys (exec_pwrCapWrite x0 x1 s)
  | pwrHostHold x0 x1 => exact change_sys (exec_pwrHostHold x0 x1 s)
  | pwrHostDrop x0 x1 => exact change_sys (exec_pwrHostDrop x0 x1 s)
  | pwrRailClr x0 x1 => exact change_sys (exec_pwrRailClr x0 x1 s)
  | domainFaultClear x0 x1 x2 => exact change_sys (exec_domainFaultClear x0 x1 x2 s)
  | wideSelWrite x0 x1 => exact change_sys (exec_wideSelWrite x0 x1 s)
  | wideRecapture x0 => exact change_sys (exec_wideRecapture x0 s)
  | wideWrite x0 x1 => exact change_sys (exec_wideWrite x0 x1 s)
  | wideCaptureDone x0 => exact change_dev (exec_wideCaptureDone x0 s)
  | errInjGo x0 x1 x2 => exact change_sys (exec_errInjGo x0 x1 x2 s)
  | evtCtlReset x0 x1 => exact change_sys (exec_evtCtlReset x0 x1 s)
  | evtEnable x0 => exact change_sys (exec_evtEnable x0 s)
  | pctrClrGo x0 x1 x2 => exact change_sys (exec_pctrClrGo x0 x1 x2 s)
  | nvmJtagRelock x0 => exact change_sys (exec_nvmJtagRelock x0 s)
  | qmClear x0 x1 x2 x3 => exact change_sys (exec_qmClear x0 x1 x2 x3 s)
  | pmonPhaseWrite x0 x1 => exact change_sys (exec_pmonPhaseWrite x0 x1 s)
  | msixUnmask x0 x1 => exact change_dev (exec_msixUnmask x0 x1 s)
  | registerWrite x0 x1 x2 x3 x4 => exact change_sys (exec_registerWrite x0 x1 x2 x3 x4 s)
  | spiRead x0 x1 x2 => exact change_sys (exec_spiRead x0 x1 x2 s)
  | spiWrite x0 x1 x2 => exact change_sys (exec_spiWrite x0 x1 x2 s)
  | spiStatus => exact change_dev (exec_spiStatus s)
  | i2cWrite x0 x1 => exact change_sys (exec_i2cWrite x0 x1 s)
  | i2cRead x0 x1 x2 => exact change_sys (exec_i2cRead x0 x1 x2 s)
  | perstNRise => exact change_rawDev (exec_perstNRise s)
  | pcieLinkTrainingStart => exact change_dev (exec_pcieLinkTrainingStart s)
  | pf0Flr => exact change_dev (exec_pf0Flr s)
  | pf1Flr => exact change_dev (exec_pf1Flr s)
  | pf0D3hotEntry x0 => exact change_dev (exec_pf0D3hotEntry x0 s)
  | pf0DmaResume => exact change_dev (exec_pf0DmaResume s)
  | evtHoldoffExpiry => exact change_dev (exec_evtHoldoffExpiry s)
  | evtPostOnRoom => exact change_dev (exec_evtPostOnRoom s)
  | registerRead x0 x1 x2 x3 => exact change_sys (exec_registerRead x0 x1 x2 x3 s)
  | perstNFall => exact change_rawDev (exec_perstNFall s)
  | porNFall => exact change_raw (exec_porNFall s)
  | coldStart x0 => exact change_raw (exec_coldStart x0 s)
  | warmRstPin => exact change_sys (exec_warmRstPin s)
  | brownout => exact change_raw (exec_brownout s)
  | brownoutEnd x0 x1 => exact change_raw (exec_brownoutEnd x0 x1 s)
  | commonRailEnable => exact change_dev (exec_commonRailEnable s)
  | railPgTimeout x0 => exact change_sys (exec_railPgTimeout x0 s)
  | romBoot => exact change_sys (exec_romBoot s)
  | thinoStart => exact change_sys (exec_thinoStart s)
  | bootReady => exact change_dev (exec_bootReady s)
  | bootWdtExpiry => exact change_sys (exec_bootWdtExpiry s)
  | cpuWdtExpiry => exact change_sys (exec_cpuWdtExpiry s)
  | cpuRestartDone => exact change_sys (exec_cpuRestartDone s)
  | pfwNFall x0 => exact change_rawDev (exec_pfwNFall x0 s)
  | lastGaspWritten => exact change_sys (exec_lastGaspWritten s)
  | pfwNRise => exact change_rawDev (exec_pfwNRise s)
  | pfwLift => exact change_sys (exec_pfwLift s)
  | errHandle => exact change_sys (exec_errHandle s)
  | jtagExpiry => exact change_dev (exec_jtagExpiry s)
  | warmRstNRise => exact change_rawDev (exec_warmRstNRise s)
  | romStartTimeout => exact change_dev (exec_romStartTimeout s)
  | railExcursionShort x0 => exact change_dev (exec_railExcursionShort x0 s)
  | domainFault x0 x1 => exact change_sys (exec_domainFault x0 x1 s)
  | pseqPgFall x0 => exact change_raw (exec_pseqPgFall x0 s)
  | pseqPgRise x0 => exact change_raw (exec_pseqPgRise x0 s)
  | pmbAlert x0 x1 x2 x3 => exact change_dev (exec_pmbAlert x0 x1 x2 x3 s)
  | pmbusPoll x0 => exact change_dev (exec_pmbusPoll x0 s)
  | avsStep x0 => exact change_dev (exec_avsStep x0 s)
  | thermalReading x0 x1 => exact change_dev (exec_thermalReading x0 x1 s)
  | thermRearm x0 => exact change_dev (exec_thermRearm x0 s)
  | sliceThermalRejoin x0 => exact change_dev (exec_sliceThermalRejoin x0 s)
  | regionSkewAlarm x0 x1 => exact change_dev (exec_regionSkewAlarm x0 x1 s)
  | regionRejoin x0 => exact change_dev (exec_regionRejoin x0 s)
  | xoInLoss => exact change_dev (exec_xoInLoss s)
  | wakeRequest x0 x1 => exact change_dev (exec_wakeRequest x0 x1 s)
  | domainReady x0 => exact change_sys (exec_domainReady x0 s)
  | domainSleep x0 => exact change_dev (exec_domainSleep x0 s)
  | d2IdleSleep => exact change_dev (exec_d2IdleSleep s)
  | sliceRailOff x0 => exact change_dev (exec_sliceRailOff x0 s)
  | memIdleSelfRefresh x0 => exact change_dev (exec_memIdleSelfRefresh x0 s)
  | memScrubWake x0 => exact change_dev (exec_memScrubWake x0 s)
  | faultRewake x0 => exact change_dev (exec_faultRewake x0 s)
  | powerSwitchedOff x0 => exact change_dev (exec_powerSwitchedOff x0 s)
  | vddAonWriteGuard x0 => exact change_rawDev (exec_vddAonWriteGuard x0 s)
  | vddIo18Excursion x0 x1 => exact change_dev (exec_vddIo18Excursion x0 x1 s)
  | epochBoundary => exact change_dev (exec_epochBoundary s)
  | commitEnterService => exact change_dev (exec_commitEnterService s)
  | calendarChange x0 => exact change_dev (exec_calendarChange x0 s)
  | assistTimeout x0 x1 x2 => exact change_dev (exec_assistTimeout x0 x1 x2 s)
  | pmSecondBoundary => exact change_dev (exec_pmSecondBoundary s)
  | pmBinFinal x0 => exact change_dev (exec_pmBinFinal x0 s)
  | failureDeclare x0 x1 => exact change_dev (exec_failureDeclare x0 x1 s)
  | failureClear x0 x1 => exact change_dev (exec_failureClear x0 x1 s)
  | pmFailureReport x0 x1 => exact change_dev (exec_pmFailureReport x0 x1 s)
  | pctrWindowEnd => exact change_dev (exec_pctrWindowEnd s)
  | pctrDumpWritten => exact change_dev (exec_pctrDumpWritten s)
  | laneSignalDetect x0 x1 x2 x3 => exact change_dev (exec_laneSignalDetect x0 x1 x2 x3 s)
  | laneCdrLock x0 x1 x2 => exact change_dev (exec_laneCdrLock x0 x1 x2 s)
  | laneAdapted x0 x1 x2 => exact change_dev (exec_laneAdapted x0 x1 x2 s)
  | clientLosChange x0 x1 => exact change_dev (exec_clientLosChange x0 x1 s)
  | clientDefectChange x0 x1 x2 x3 => exact change_dev (exec_clientDefectChange x0 x1 x2 x3 s)
  | macFrameRx x0 x1 x2 => exact change_dev (exec_macFrameRx x0 x1 x2 s)
  | esmcPduRx x0 x1 => exact change_dev (exec_esmcPduRx x0 x1 s)
  | esmcTimeout x0 => exact change_dev (exec_esmcTimeout x0 s)
  | esmcInfoPduTx x0 => exact change_dev (exec_esmcInfoPduTx x0 s)
  | clientFaultRx x0 x1 x2 => exact change_dev (exec_clientFaultRx x0 x1 x2 s)
  | prbsCheckerLock x0 x1 x2 x3 => exact change_dev (exec_prbsCheckerLock x0 x1 x2 x3 s)
  | egressFrameTx x0 => exact change_dev (exec_egressFrameTx x0 s)
  | flexoMarker x0 x1 x2 x3 x4 x5 x6 x7 x8 => exact change_dev (exec_flexoMarker x0 x1 x2 x3 x4 x5 x6 x7 x8 s)
  | flexoLof x0 => exact change_dev (exec_flexoLof x0 s)
  | fecCodeword x0 x1 x2 => exact change_dev (exec_fecCodeword x0 x1 x2 s)
  | otucFrameRx x0 x1 => exact change_dev (exec_otucFrameRx x0 x1 s)
  | lofChange x0 => exact change_dev (exec_lofChange x0 s)
  | lomChange x0 => exact change_dev (exec_lomChange x0 s)
  | lineTxFrame x0 x1 x2 => exact change_dev (exec_lineTxFrame x0 x1 x2 s)
  | beaconRx x0 x1 => exact change_dev (exec_beaconRx x0 x1 s)
  | ohxOutFrame x0 => exact change_dev (exec_ohxOutFrame x0 s)
  | ohxInFrame x0 x1 x2 => exact change_dev (exec_ohxInFrame x0 x1 x2 s)
  | ohxInLos x0 => exact change_dev (exec_ohxInLos x0 s)
  | zpcMarkerRx x0 x1 x2 => exact change_dev (exec_zpcMarkerRx x0 x1 x2 s)
  | zpcHeaderRx x0 x1 x2 => exact change_dev (exec_zpcHeaderRx x0 x1 x2 s)
  | gfpCoreHeaderRx x0 x1 x2 => exact change_dev (exec_gfpCoreHeaderRx x0 x1 x2 s)
  | rxPtChange x0 x1 => exact change_dev (exec_rxPtChange x0 x1 s)
  | gmpJcRx x0 x1 x2 x3 x4 => exact change_dev (exec_gmpJcRx x0 x1 x2 x3 x4 s)
  | extfcRecordRx x0 x1 x2 => exact change_dev (exec_extfcRecordRx x0 x1 x2 s)
  | mirrorMiss x0 => exact change_dev (exec_mirrorMiss x0 s)
  | csfMgmtFrameTx x0 => exact change_dev (exec_csfMgmtFrameTx x0 s)
  | csfMgmtFrameRx x0 x1 => exact change_dev (exec_csfMgmtFrameRx x0 x1 s)
  | csfClearTimeout x0 => exact change_dev (exec_csfClearTimeout x0 s)
  | lcrAckRx x0 x1 => exact change_dev (exec_lcrAckRx x0 x1 s)
  | lcrSwitch x0 => exact change_dev (exec_lcrSwitch x0 s)
  | bwrRampComplete x0 => exact change_dev (exec_bwrRampComplete x0 s)
  | lcrTimeout x0 => exact change_dev (exec_lcrTimeout x0 s)
  | ctxAnnounceRx x0 x1 x2 x3 => exact change_dev (exec_ctxAnnounceRx x0 x1 x2 x3 s)
  | ctxAckRx x0 x1 x2 x3 => exact change_dev (exec_ctxAckRx x0 x1 x2 x3 s)
  | ctxWithdrawRx x0 x1 x2 x3 => exact change_dev (exec_ctxWithdrawRx x0 x1 x2 x3 s)
  | ctxResyncReqRx x0 x1 x2 x3 => exact change_dev (exec_ctxResyncReqRx x0 x1 x2 x3 s)
  | clientFaultFrameRx x0 x1 => exact change_dev (exec_clientFaultFrameRx x0 x1 s)
  | dataCRx x0 x1 x2 x3 x4 => exact change_dev (exec_dataCRx x0 x1 x2 x3 x4 s)
  | dataFRx x0 x1 x2 x3 x4 => exact change_dev (exec_dataFRx x0 x1 x2 x3 x4 s)
  | annRetryExpiry x0 => exact change_dev (exec_annRetryExpiry x0 s)
  | annReattemptExpiry x0 => exact change_dev (exec_annReattemptExpiry x0 s)
  | resyncHoldRepeat x0 => exact change_dev (exec_resyncHoldRepeat x0 s)
  | clientFaultRefreshTx x0 => exact change_dev (exec_clientFaultRefreshTx x0 s)
  | clientFaultRxTimeout x0 x1 => exact change_dev (exec_clientFaultRxTimeout x0 x1 s)
  | zpcEncapFrame x0 => exact change_dev (exec_zpcEncapFrame x0 s)
  | lineAssemblyUnit x0 x1 => exact change_dev (exec_lineAssemblyUnit x0 x1 s)
  | assemblyUnitHandoff x0 => exact change_dev (exec_assemblyUnitHandoff x0 s)
  | prefetchBlockArrive x0 x1 x2 => exact change_dev (exec_prefetchBlockArrive x0 x1 x2 s)
  | flushBoundary x0 => exact change_dev (exec_flushBoundary x0 s)
  | staleTimerExpiry x0 x1 x2 => exact change_dev (exec_staleTimerExpiry x0 x1 x2 s)
  | queueSweepDone x0 x1 => exact change_dev (exec_queueSweepDone x0 x1 s)
  | memcGrantRound x0 => exact change_dev (exec_memcGrantRound x0 s)
  | memcBurstEdcFail x0 x1 x2 x3 x4 => exact change_dev (exec_memcBurstEdcFail x0 x1 x2 x3 x4 s)
  | memcRetrainDone x0 x1 => exact change_dev (exec_memcRetrainDone x0 x1 s)
  | memcTrainingDone x0 x1 => exact change_dev (exec_memcTrainingDone x0 x1 s)
  | resizeProposeRx x0 x1 => exact change_dev (exec_resizeProposeRx x0 x1 s)
  | resizeAckRx x0 x1 => exact change_dev (exec_resizeAckRx x0 x1 s)
  | resizeNakRx x0 x1 => exact change_dev (exec_resizeNakRx x0 x1 s)
  | resizeAbortRx x0 x1 => exact change_dev (exec_resizeAbortRx x0 x1 s)
  | resizeSwitchRx x0 x1 => exact change_dev (exec_resizeSwitchRx x0 x1 s)
  | resizeDoneRx x0 x1 => exact change_dev (exec_resizeDoneRx x0 x1 s)
  | resizeAckTmo x0 => exact change_dev (exec_resizeAckTmo x0 s)
  | resizeResponderTmo x0 => exact change_dev (exec_resizeResponderTmo x0 s)
  | resizeTxSwitch x0 => exact change_dev (exec_resizeTxSwitch x0 s)
  | resizeRxSwitch x0 => exact change_dev (exec_resizeRxSwitch x0 s)
  | freshClear x0 => exact change_dev (exec_freshClear x0 s)
  | sfSdChange x0 => exact change_dev (exec_sfSdChange x0 s)
  | apsHoldoffExpiry x0 => exact change_dev (exec_apsHoldoffExpiry x0 s)
  | apsWtrExpiry x0 => exact change_dev (exec_apsWtrExpiry x0 s)
  | apsRxAccept x0 x1 => exact change_dev (exec_apsRxAccept x0 x1 s)
  | fopTimerExpiry x0 => exact change_dev (exec_fopTimerExpiry x0 s)
  | slalomUnitArrival x0 x1 x2 x3 x4 x5 => exact change_dev (exec_slalomUnitArrival x0 x1 x2 x3 x4 x5 s)
  | slalomDueDelivery x0 x1 => exact change_dev (exec_slalomDueDelivery x0 x1 s)
  | rejoinHoldExpiry x0 => exact change_dev (exec_rejoinHoldExpiry x0 s)
  | firstArrivalBlock x0 x1 x2 x3 x4 x5 x6 => exact change_dev (exec_firstArrivalBlock x0 x1 x2 x3 x4 x5 x6 s)
  | restartDiscardTimeout x0 => exact change_dev (exec_restartDiscardTimeout x0 s)
  | heartbeatTx => exact change_dev (exec_heartbeatTx s)
  | heartbeatRx x0 x1 x2 => exact change_dev (exec_heartbeatRx x0 x1 x2 s)
  | heartbeatLoss => exact change_dev (exec_heartbeatLoss s)
  | mateLinkUp => exact change_dev (exec_mateLinkUp s)
  | mateLinkDown => exact change_dev (exec_mateLinkDown s)
  | mateCellError x0 x1 => exact change_dev (exec_mateCellError x0 x1 s)
  | mateNakRx x0 x1 => exact change_dev (exec_mateNakRx x0 x1 s)
  | commandMsgRx x0 => exact change_dev (exec_commandMsgRx x0 s)
  | resultRx x0 => exact change_dev (exec_resultRx x0 s)
  | decisionJust x0 => exact change_dev (exec_decisionJust x0 s)
  | decisionAdmit x0 => exact change_dev (exec_decisionAdmit x0 s)
  | decisionStall x0 => exact change_dev (exec_decisionStall x0 s)
  | decisionContext x0 => exact change_dev (exec_decisionContext x0 s)
  | decisionAlign x0 => exact change_dev (exec_decisionAlign x0 s)
  | decisionProt x0 => exact change_dev (exec_decisionProt x0 s)
  | decisionMerge x0 => exact change_dev (exec_decisionMerge x0 s)
  | decisionResize x0 => exact change_dev (exec_decisionResize x0 s)
  | decisionTiming x0 => exact change_dev (exec_decisionTiming x0 s)
  | digestRx x0 x1 => exact change_dev (exec_digestRx x0 x1 s)
  | joinBoundaryS x0 x1 => exact change_dev (exec_joinBoundaryS x0 x1 s)
  | stateImageInstalled x0 => exact change_dev (exec_stateImageInstalled x0 s)
  | joinAtRx x0 => exact change_dev (exec_joinAtRx x0 s)
  | joinEpochJ => exact change_sys (exec_joinEpochJ s)
  | handoverRx => exact change_dev (exec_handoverRx s)
  | handoverAckRx => exact change_sys (exec_handoverAckRx s)
  | handoverReqRx => exact change_dev (exec_handoverReqRx s)
  | handoverAckTimeout => exact change_sys (exec_handoverAckTimeout s)
  | actNReleased x0 => exact change_dev (exec_actNReleased x0 s)
  | actNProbe x0 => exact change_dev (exec_actNProbe x0 s)
  | claimTimerExpiry => exact change_dev (exec_claimTimerExpiry s)
  | phaseAlarmRaise => exact change_dev (exec_phaseAlarmRaise s)
  | phaseAlarmClear => exact change_dev (exec_phaseAlarmClear s)
  | sramScrubPass x0 x1 x2 x3 x4 x5 => exact change_dev (exec_sramScrubPass x0 x1 x2 x3 x4 x5 s)
  | spillScrubPass x0 x1 x2 => exact change_dev (exec_spillScrubPass x0 x1 x2 s)
  | bistRun x0 x1 x2 => exact change_dev (exec_bistRun x0 x1 x2 s)
  | refMeasurement x0 x1 => exact change_dev (exec_refMeasurement x0 x1 s)
  | refLos x0 x1 => exact change_dev (exec_refLos x0 x1 s)
  | refHoldoffExpiry x0 => exact change_dev (exec_refHoldoffExpiry x0 s)
  | refWtrExpiry x0 => exact change_dev (exec_refWtrExpiry x0 s)
  | dpllLocked x0 => exact change_dev (exec_dpllLocked x0 s)
  | anchorValid x0 => exact change_dev (exec_anchorValid x0 s)
  | glideMinuteRecord x0 x1 x2 => exact change_dev (exec_glideMinuteRecord x0 x1 x2 s)
  | glideFit x0 x1 x2 => exact change_dev (exec_glideFit x0 x1 x2 s)
  | glideStale x0 => exact change_dev (exec_glideStale x0 s)
  | xoWarmupExpiry x0 => exact change_dev (exec_xoWarmupExpiry x0 s)
  | ppsOutPulse => exact change_dev (exec_ppsOutPulse s)
  | fpOutPulse => exact change_dev (exec_fpOutPulse s)
  | alignApply x0 => exact change_dev (exec_alignApply x0 s)
  | refLosClear x0 => exact change_dev (exec_refLosClear x0 s)

/-- A change answers a next state with the same queue. -/
theorem rawSys_next (ok : Bool) (f : Sys → Sys) (s : State) :
    ∃ t, rawSys ok f s = .next t ∧ t.pending = s.pending := by
  refine ⟨_, rfl, ?_⟩; split <;> rfl

/-- A command to a device held in reset changes nothing. -/
theorem runSys_off (ok : Bool) (f : Sys → Sys) (s : State) (h : powered s.dev = false) : runSys ok f s = .next s := by
  simp [runSys, rawSys, h]

/-- A command with operands in range, to a device that runs. -/
theorem runSys_on (f : Sys → Sys) (s : State) (h : powered s.dev = true) : runSys true f s = .next (s.withSys (f s.sys)) := by
  simp [runSys, rawSys, h]

theorem runDev_on (f : Dev → Dev) (s : State) (h : powered s.dev = true) :
    runDev true f s = .next { s with dev := f s.dev } := by
  simp [runDev, runSys, rawSys, h, onDev, State.sys, State.withSys]

end Sys2Proof.Laws
end

