-- ==== Sys2Proof/Laws/Mailbox.lean ====
section
/-! SUPPORT. A request that passes every check before its command's own: what serving it does, step by step. -/

namespace Sys2Proof.Laws

open Sys2Proof.Machine

/-- Taking a request changes registers, the mailbox state and the count of free values. -/
theorem takeReq_eq (c : Nat) (d : Dev) :
    ∃ l m t, takeReq c d = { d with regs := l, mbx := m, time := { d.time with free := t } } := ⟨_, _, _, rfl⟩

/-- The opcode at the head of a ring, where the row's request stands there. -/
theorem head_opcode {op : Nat} {q : Req} {s : Sys} (h : atHead op q s = true) : u16 (headSlot q.ch s) 0 = op := by
  simp only [atHead, Bool.and_eq_true, beq_iff_eq] at h
  exact h.1.1.1.1.2

/-- Serving a request that no check refuses, and that need not wait, accepts it. -/
theorem serve_accepts (op : Nat) (sel : Bytes → Bool) (q : Req) (s : Sys) (h : atHead op q s = true) (hs : sel q.payload = true)
    (hl : listed op q = true) (fresh : logged s.dev q = none) (pass : headerRefusal s.dev op q = none)
    (ready : stalls op { x := now s.dev, mirrored := false } q s = false) :
    serve op sel q s = accept op q (onDev (takeReq q.ch) s) := by
  unfold serve
  simp only [head_opcode h, h, hs, hl, fresh, pass, ready, Bool.not_true, Bool.and_false, Bool.or_self, Bool.false_eq_true, if_false]

/-- A refused request is answered with the status of the refusal. -/
theorem serve_refuses (op : Nat) (sel : Bytes → Bool) (q : Req) (s : Sys) (st : Nat) (h : atHead op q s = true)
    (hs : sel q.payload = true) (hl : listed op q = true) (fresh : logged s.dev q = none)
    (pass : headerRefusal s.dev op q = some st) :
    serve op sel q s = refuse op { x := now s.dev, mirrored := false } true q st (onDev (takeReq q.ch) s) := by
  unfold serve
  simp only [head_opcode h, h, hs, hl, fresh, pass, Bool.not_true, Bool.or_self, Bool.false_eq_true, if_false]

/-- A logged tag is answered from its entry. -/
theorem serve_replays (op : Nat) (sel : Bytes → Bool) (q : Req) (s : Sys) (e : TagEnt) (h : atHead op q s = true)
    (hs : sel q.payload = true) (hl : listed op q = true) (he : logged s.dev q = some e) :
    serve op sel q s = replay op (now s.dev) true false q e (onDev (takeReq q.ch) s) := by
  unfold serve
  simp only [head_opcode h, h, hs, hl, he, Bool.not_true, Bool.or_self, Bool.false_eq_true, if_false]

/-- An opcode that the manual does not list is answered BAD_OPCODE, whatever the row. -/
theorem serve_unlisted (op : Nat) (sel : Bytes → Bool) (q : Req) (s : Sys) (here : Nat) (h : atHead here q s = true)
    (hl : listed here q = false) (fresh : logged (takeReq q.ch s.dev) q = none) :
    serve op sel q s = answer here { x := now (takeReq q.ch s.dev), mirrored := false } true q (status 1) (onDev (takeReq q.ch) s) := by
  unfold serve
  simp only [head_opcode h, hl, Bool.not_false, if_true]
  unfold serveUnknown
  simp only [h, Bool.not_true, Bool.false_eq_true, if_false, onDev, fresh]

/-- Taking a request leaves the mate and the epoch as they are. -/
@[simp] theorem takeReq_mate (c : Nat) (d : Dev) : (takeReq c d).mate = d.mate := rfl
@[simp] theorem takeReq_now (c : Nat) (d : Dev) : now (takeReq c d) = now d := rfl

/-- Without a mate that follows, an accepted command executes at once. -/
theorem accept_alone (op : Nat) (q : Req) (s : Sys)
    (h : opMirrored op = true → s.dev.mate.active = true →
      inStep s.dev = false ∧ s.dev.mate.st ≠ 3 ∧ ¬(s.dev.mate.st = 2 ∧ s.dev.mate.joinS = true)) :
    accept op q s = execute op { x := now s.dev, mirrored := false } true q s := by
  unfold accept waitsForX
  cases hm : opMirrored op
  · simp [gate, onDev]
  · cases ha : s.dev.mate.active
    · simp [gate, onDev, ha]
    · obtain ⟨h1, h2, h3⟩ := h hm ha
      have h4 : (s.dev.mate.st == 2 && s.dev.mate.joinS) = false := by
        cases hj : (s.dev.mate.st == 2 && s.dev.mate.joinS)
        · rfl
        · simp only [Bool.and_eq_true, beq_iff_eq] at hj; exact absurd hj h3
      simp [gate, onDev, ha, h1, h2, h4]

/-- A command that answers at once: its effect, what its opcode makes the ports do, and its response. -/
theorem execute_answers (op : Nat) (c : Ctx) (q : Req) (s t : Sys) (f : Sys → Ans × Sys) (a : Ans) (hf : runOp op c q = some f)
    (hi : q.internal = false) (h : f s = (a, t)) (hl : a.later = false) :
    execute op c true q s = afterAnswer op a (answer op c true q a (beforeAnswer op q.payload a (onDev (gate (opActs op) refresh) t))) := by
  unfold execute
  simp only [hf, hi, h, hl, Bool.false_eq_true, if_false]

/-- A request served without a mate, up to its response. -/
theorem exec_answers (c : Instr) (op : Nat) (sel : Bytes → Bool) (q : Req) (s : State) (t : Sys) (f : Sys → Ans × Sys) (a : Ans)
    (hk : listed op q = true) (hc : Machine.exec c s = runSys (isReq q) (serve op sel q) s) (ok : isReq q = true) (on : powered s.dev = true)
    (head : atHead op q s.sys = true) (hs : sel q.payload = true) (fresh : logged s.dev q = none)
    (pass : headerRefusal s.dev op q = none) (hi : q.internal = false)
    (ready : stalls op { x := now s.dev, mirrored := false } q s.sys = false)
    (alone : opMirrored op = true → s.dev.mate.active = true →
      inStep s.dev = false ∧ s.dev.mate.st ≠ 3 ∧ ¬(s.dev.mate.st = 2 ∧ s.dev.mate.joinS = true))
    (hf : runOp op { x := now s.dev, mirrored := false } q = some f)
    (h : f { dev := takeReq q.ch s.dev, mem := s.mem } = (a, t)) (hl : a.later = false) :
    Machine.exec c s = .next (s.withSys (afterAnswer op a (answer op { x := now s.dev, mirrored := false } true q a
      (beforeAnswer op q.payload a (onDev (gate (opActs op) refresh) t))))) := by
  have alone' : opMirrored op = true → (onDev (takeReq q.ch) s.sys).dev.mate.active = true →
      inStep (onDev (takeReq q.ch) s.sys).dev = false ∧ (onDev (takeReq q.ch) s.sys).dev.mate.st ≠ 3 ∧
        ¬((onDev (takeReq q.ch) s.sys).dev.mate.st = 2 ∧ (onDev (takeReq q.ch) s.sys).dev.mate.joinS = true) := by
    simpa only [onDev, inStep, takeReq_mate, State.sys] using alone
  rw [hc, ok, runSys_on _ _ on, serve_accepts op sel q s.sys head hs hk fresh pass ready, accept_alone op q _ alone']
  have hn : now (onDev (takeReq q.ch) s.sys).dev = now s.dev := takeReq_now q.ch s.dev
  rw [hn]
  exact congrArg (fun x => Host.Outcome.next (s.withSys x)) (execute_answers op _ q _ t f a hf hi h hl)

end Sys2Proof.Laws
end

