-- ==== Sys2Proof/Laws/Mem.lean ====
section
/-! SUPPORT. The byte-addressed memories: every operation keeps the canonical form. -/

namespace Sys2Proof.Laws

open Sys2Proof.Machine

/-- A bound below the first address may be lowered. -/
theorem above_mono {m : Memory} {lo hi : Nat} (h : Memory.above hi m = true) (le : lo ≤ hi) : Memory.above lo m = true := by
  cases m with
  | nil => rfl
  | cons c m =>
    obtain ⟨a, b⟩ := c
    simp only [Memory.above, Bool.and_eq_true, decide_eq_true_eq] at h ⊢
    exact ⟨⟨by omega, h.1.2⟩, h.2⟩

theorem above_wr {m : Memory} {lo a : Nat} {v : Byte} (h : Memory.above lo m = true) (le : lo ≤ a) :
    Memory.above lo (wr m a v) = true := by
  induction m generalizing lo with
  | nil =>
    simp only [wr]
    split
    · rfl
    · rename_i hv
      simp only [Memory.above, Bool.and_true, Bool.and_eq_true, decide_eq_true_eq, bne_iff_ne]
      exact ⟨le, hv⟩
  | cons c m ih =>
    obtain ⟨x, b⟩ := c
    simp only [Memory.above, Bool.and_eq_true, decide_eq_true_eq] at h
    obtain ⟨⟨h1, h2⟩, h3⟩ := h
    simp only [wr]
    split
    · split
      · simp only [Memory.above, Bool.and_eq_true, decide_eq_true_eq]
        exact ⟨⟨h1, h2⟩, h3⟩
      · rename_i hv
        simp only [Memory.above, Bool.and_eq_true, decide_eq_true_eq, bne_iff_ne]
        exact ⟨⟨le, hv⟩, ⟨by omega, by simpa using h2⟩, h3⟩
    · split
      · split
        · exact above_mono h3 (by omega)
        · rename_i hx hv
          simp only [Memory.above, Bool.and_eq_true, decide_eq_true_eq, bne_iff_ne]
          exact ⟨⟨le, hv⟩, by subst hx; exact h3⟩
      · simp only [Memory.above, Bool.and_eq_true, decide_eq_true_eq]
        exact ⟨⟨h1, h2⟩, ih h3 (by omega)⟩

/-- Writing a byte keeps the canonical form. -/
theorem wf_wr {m : Memory} (h : Memory.wf m = true) (a : Nat) (v : Byte) : Memory.wf (wr m a v) = true := above_wr h (Nat.zero_le a)

/-- Writing a run of bytes keeps it. -/
theorem wf_wrBytes {m : Memory} (h : Memory.wf m = true) (a : Nat) (l : Bytes) : Memory.wf (wrBytes m a l) = true := by
  induction l generalizing m a with
  | nil => exact h
  | cons b l ih => exact ih (wf_wr h a b) (a + 1)

theorem above_filter {m : Memory} {lo : Nat} (h : Memory.above lo m = true) (p : Host.Cell → Bool) :
    Memory.above lo (m.filter p) = true := by
  induction m generalizing lo with
  | nil => rfl
  | cons c m ih =>
    obtain ⟨x, b⟩ := c
    simp only [Memory.above, Bool.and_eq_true, decide_eq_true_eq] at h
    rw [List.filter_cons]
    split
    · simp only [Memory.above, Bool.and_eq_true, decide_eq_true_eq]
      exact ⟨h.1, ih h.2⟩
    · exact above_mono (ih h.2) (by omega)

/-- Dropping cells keeps it. -/
theorem wf_filter {m : Memory} (h : Memory.wf m = true) (p : Host.Cell → Bool) : Memory.wf (m.filter p) = true := above_filter h p

/-- Clearing a range keeps it. -/
theorem wf_clearRange {m : Memory} (h : Memory.wf m = true) (lo n : Nat) : Memory.wf (clearRange m lo n) = true := wf_filter h _

/-- The memories after reset have it. -/
theorem wf_reset : Memory.wf State.reset.mem = true := rfl

/-- A byte below the first address listed reads 0. -/
theorem rd_below {m : Memory} {lo a : Nat} (h : Memory.above lo m = true) (lt : a < lo) : rd m a = 0 := by
  cases m with
  | nil => rfl
  | cons c m =>
    obtain ⟨x, b⟩ := c
    simp only [Memory.above, Bool.and_eq_true, decide_eq_true_eq] at h
    simp only [rd]
    rw [if_neg (by omega), if_pos (by omega)]

end Sys2Proof.Laws
end

