-- ==== Sys2Proof/Laws/Tables.lean ====
section
/-! SUPPORT. A sparse table reads what was last set at an index, and every other index as before. -/

namespace Sys2Proof.Laws

variable {α : Type}

theorem tfind_tset (t : Tbl α) (k j : Nat) (v : α) : tfind (tset t k v) j = if j = k then some v else tfind t j := by
  induction t with
  | nil => by_cases h : j = k <;> simp [tset, tfind, h, Ne.symm]
  | cons e t ih =>
    obtain ⟨i, w⟩ := e
    simp only [tset]
    split
    · rename_i h
      simp only [tfind]
      by_cases hj : j = k
      · simp [hj]
      · rw [if_neg (Ne.symm hj)]
        split
        · rw [if_neg (by omega), if_pos (by omega)]
        · rfl
    · split
      · rename_i h1 h
        subst h
        simp only [tfind]
        by_cases hj : j = i
        · simp [hj]
        · simp [hj, Ne.symm hj]
      · simp only [tfind]
        by_cases hj : i = j
        · subst hj; rw [if_pos rfl, if_neg (by assumption)]; simp
        · rw [if_neg hj, if_neg hj]
          by_cases hi : j < i
          · rw [if_pos hi, if_pos hi, if_neg (by omega)]
          · rw [if_neg hi, if_neg hi, ih]

theorem tget_tset (d : α) (t : Tbl α) (k j : Nat) (v : α) : tget d (tset t k v) j = if j = k then v else tget d t j := by
  simp only [tget, tfind_tset]
  split <;> rfl

theorem tget_tmod (d : α) (t : Tbl α) (k j : Nat) (f : α → α) :
    tget d (tmod d t k f) j = if j = k then f (tget d t k) else tget d t j := tget_tset d t k j _

@[simp] theorem gate_true {σ : Type} (f : σ → σ) (s : σ) : gate true f s = f s := rfl
@[simp] theorem gate_false {σ : Type} (f : σ → σ) (s : σ) : gate false f s = s := rfl
@[simp] theorem each_nil {σ : Type} (f : Nat → σ → σ) (s : σ) : each [] f s = s := rfl
@[simp] theorem each_cons {σ : Type} (k : Nat) (l : List Nat) (f : Nat → σ → σ) (s : σ) : each (k :: l) f s = each l f (f k s) := rfl

end Sys2Proof.Laws
end

