-- ==== Sys2Proof/Laws/State.lean ====
section
/-! SUPPORT. What each update of the state and of the device leaves of every part, one lemma per update and part, so that no proof
unfolds a record update. -/

namespace Sys2Proof.Laws

open Sys2Proof.Machine

/-! ### The state -/

@[simp] theorem withSys_dev (s : State) (x : Sys) : (s.withSys x).dev = x.dev := rfl
@[simp] theorem withSys_mem (s : State) (x : Sys) : (s.withSys x).mem = x.mem := rfl
@[simp] theorem withSys_pending (s : State) (x : Sys) : (s.withSys x).pending = s.pending := rfl
@[simp] theorem sys_dev (s : State) : s.sys.dev = s.dev := rfl
@[simp] theorem sys_mem (s : State) : s.sys.mem = s.mem := rfl
@[simp] theorem withSys_sys (s : State) : s.withSys s.sys = s := rfl
@[simp] theorem onDev_dev (f : Dev → Dev) (s : Sys) : (onDev f s).dev = f s.dev := rfl
@[simp] theorem onDev_mem (f : Dev → Dev) (s : Sys) : (onDev f s).mem = s.mem := rfl

/-! ### setReg -/

@[simp] theorem setReg_time (r : Reg) (w : Word) (d : Dev) : (setReg r w d).time = d.time := rfl
@[simp] theorem setReg_fuse (r : Reg) (w : Word) (d : Dev) : (setReg r w d).fuse = d.fuse := rfl
@[simp] theorem setReg_pin (r : Reg) (w : Word) (d : Dev) : (setReg r w d).pin = d.pin := rfl
@[simp] theorem setReg_pwr (r : Reg) (w : Word) (d : Dev) : (setReg r w d).pwr = d.pwr := rfl
@[simp] theorem setReg_err (r : Reg) (w : Word) (d : Dev) : (setReg r w d).err = d.err := rfl
@[simp] theorem setReg_evt (r : Reg) (w : Word) (d : Dev) : (setReg r w d).evt = d.evt := rfl
@[simp] theorem setReg_mbx (r : Reg) (w : Word) (d : Dev) : (setReg r w d).mbx = d.mbx := rfl
@[simp] theorem setReg_host (r : Reg) (w : Word) (d : Dev) : (setReg r w d).host = d.host := rfl
@[simp] theorem setReg_prov (r : Reg) (w : Word) (d : Dev) : (setReg r w d).prov = d.prov := rfl
@[simp] theorem setReg_asst (r : Reg) (w : Word) (d : Dev) : (setReg r w d).asst = d.asst := rfl
@[simp] theorem setReg_boot (r : Reg) (w : Word) (d : Dev) : (setReg r w d).boot = d.boot := rfl
@[simp] theorem setReg_cli (r : Reg) (w : Word) (d : Dev) : (setReg r w d).cli = d.cli := rfl
@[simp] theorem setReg_pctr (r : Reg) (w : Word) (d : Dev) : (setReg r w d).pctr = d.pctr := rfl
@[simp] theorem setReg_line (r : Reg) (w : Word) (d : Dev) : (setReg r w d).line = d.line := rfl
@[simp] theorem setReg_cont (r : Reg) (w : Word) (d : Dev) : (setReg r w d).cont = d.cont := rfl
@[simp] theorem setReg_cctr (r : Reg) (w : Word) (d : Dev) : (setReg r w d).cctr = d.cctr := rfl
@[simp] theorem setReg_pm (r : Reg) (w : Word) (d : Dev) : (setReg r w d).pm = d.pm := rfl
@[simp] theorem setReg_pkt (r : Reg) (w : Word) (d : Dev) : (setReg r w d).pkt = d.pkt := rfl
@[simp] theorem setReg_prot (r : Reg) (w : Word) (d : Dev) : (setReg r w d).prot = d.prot := rfl
@[simp] theorem setReg_merge (r : Reg) (w : Word) (d : Dev) : (setReg r w d).merge = d.merge := rfl
@[simp] theorem setReg_mate (r : Reg) (w : Word) (d : Dev) : (setReg r w d).mate = d.mate := rfl
@[simp] theorem setReg_groom (r : Reg) (w : Word) (d : Dev) : (setReg r w d).groom = d.groom := rfl
@[simp] theorem setReg_tim (r : Reg) (w : Word) (d : Dev) : (setReg r w d).tim = d.tim := rfl
@[simp] theorem setReg_nvm (r : Reg) (w : Word) (d : Dev) : (setReg r w d).nvm = d.nvm := rfl

/-! ### setRf -/

@[simp] theorem setRf_time (r : Reg) (hi lo v : Nat) (d : Dev) : (setRf r hi lo v d).time = d.time := rfl
@[simp] theorem setRf_fuse (r : Reg) (hi lo v : Nat) (d : Dev) : (setRf r hi lo v d).fuse = d.fuse := rfl
@[simp] theorem setRf_pin (r : Reg) (hi lo v : Nat) (d : Dev) : (setRf r hi lo v d).pin = d.pin := rfl
@[simp] theorem setRf_pwr (r : Reg) (hi lo v : Nat) (d : Dev) : (setRf r hi lo v d).pwr = d.pwr := rfl
@[simp] theorem setRf_err (r : Reg) (hi lo v : Nat) (d : Dev) : (setRf r hi lo v d).err = d.err := rfl
@[simp] theorem setRf_evt (r : Reg) (hi lo v : Nat) (d : Dev) : (setRf r hi lo v d).evt = d.evt := rfl
@[simp] theorem setRf_mbx (r : Reg) (hi lo v : Nat) (d : Dev) : (setRf r hi lo v d).mbx = d.mbx := rfl
@[simp] theorem setRf_host (r : Reg) (hi lo v : Nat) (d : Dev) : (setRf r hi lo v d).host = d.host := rfl
@[simp] theorem setRf_prov (r : Reg) (hi lo v : Nat) (d : Dev) : (setRf r hi lo v d).prov = d.prov := rfl
@[simp] theorem setRf_asst (r : Reg) (hi lo v : Nat) (d : Dev) : (setRf r hi lo v d).asst = d.asst := rfl
@[simp] theorem setRf_boot (r : Reg) (hi lo v : Nat) (d : Dev) : (setRf r hi lo v d).boot = d.boot := rfl
@[simp] theorem setRf_cli (r : Reg) (hi lo v : Nat) (d : Dev) : (setRf r hi lo v d).cli = d.cli := rfl
@[simp] theorem setRf_pctr (r : Reg) (hi lo v : Nat) (d : Dev) : (setRf r hi lo v d).pctr = d.pctr := rfl
@[simp] theorem setRf_line (r : Reg) (hi lo v : Nat) (d : Dev) : (setRf r hi lo v d).line = d.line := rfl
@[simp] theorem setRf_cont (r : Reg) (hi lo v : Nat) (d : Dev) : (setRf r hi lo v d).cont = d.cont := rfl
@[simp] theorem setRf_cctr (r : Reg) (hi lo v : Nat) (d : Dev) : (setRf r hi lo v d).cctr = d.cctr := rfl
@[simp] theorem setRf_pm (r : Reg) (hi lo v : Nat) (d : Dev) : (setRf r hi lo v d).pm = d.pm := rfl
@[simp] theorem setRf_pkt (r : Reg) (hi lo v : Nat) (d : Dev) : (setRf r hi lo v d).pkt = d.pkt := rfl
@[simp] theorem setRf_prot (r : Reg) (hi lo v : Nat) (d : Dev) : (setRf r hi lo v d).prot = d.prot := rfl
@[simp] theorem setRf_merge (r : Reg) (hi lo v : Nat) (d : Dev) : (setRf r hi lo v d).merge = d.merge := rfl
@[simp] theorem setRf_mate (r : Reg) (hi lo v : Nat) (d : Dev) : (setRf r hi lo v d).mate = d.mate := rfl
@[simp] theorem setRf_groom (r : Reg) (hi lo v : Nat) (d : Dev) : (setRf r hi lo v d).groom = d.groom := rfl
@[simp] theorem setRf_tim (r : Reg) (hi lo v : Nat) (d : Dev) : (setRf r hi lo v d).tim = d.tim := rfl
@[simp] theorem setRf_nvm (r : Reg) (hi lo v : Nat) (d : Dev) : (setRf r hi lo v d).nvm = d.nvm := rfl

/-! ### setRb -/

@[simp] theorem setRb_time (r : Reg) (i : Nat) (b : Bool) (d : Dev) : (setRb r i b d).time = d.time := rfl
@[simp] theorem setRb_fuse (r : Reg) (i : Nat) (b : Bool) (d : Dev) : (setRb r i b d).fuse = d.fuse := rfl
@[simp] theorem setRb_pin (r : Reg) (i : Nat) (b : Bool) (d : Dev) : (setRb r i b d).pin = d.pin := rfl
@[simp] theorem setRb_pwr (r : Reg) (i : Nat) (b : Bool) (d : Dev) : (setRb r i b d).pwr = d.pwr := rfl
@[simp] theorem setRb_err (r : Reg) (i : Nat) (b : Bool) (d : Dev) : (setRb r i b d).err = d.err := rfl
@[simp] theorem setRb_evt (r : Reg) (i : Nat) (b : Bool) (d : Dev) : (setRb r i b d).evt = d.evt := rfl
@[simp] theorem setRb_mbx (r : Reg) (i : Nat) (b : Bool) (d : Dev) : (setRb r i b d).mbx = d.mbx := rfl
@[simp] theorem setRb_host (r : Reg) (i : Nat) (b : Bool) (d : Dev) : (setRb r i b d).host = d.host := rfl
@[simp] theorem setRb_prov (r : Reg) (i : Nat) (b : Bool) (d : Dev) : (setRb r i b d).prov = d.prov := rfl
@[simp] theorem setRb_asst (r : Reg) (i : Nat) (b : Bool) (d : Dev) : (setRb r i b d).asst = d.asst := rfl
@[simp] theorem setRb_boot (r : Reg) (i : Nat) (b : Bool) (d : Dev) : (setRb r i b d).boot = d.boot := rfl
@[simp] theorem setRb_cli (r : Reg) (i : Nat) (b : Bool) (d : Dev) : (setRb r i b d).cli = d.cli := rfl
@[simp] theorem setRb_pctr (r : Reg) (i : Nat) (b : Bool) (d : Dev) : (setRb r i b d).pctr = d.pctr := rfl
@[simp] theorem setRb_line (r : Reg) (i : Nat) (b : Bool) (d : Dev) : (setRb r i b d).line = d.line := rfl
@[simp] theorem setRb_cont (r : Reg) (i : Nat) (b : Bool) (d : Dev) : (setRb r i b d).cont = d.cont := rfl
@[simp] theorem setRb_cctr (r : Reg) (i : Nat) (b : Bool) (d : Dev) : (setRb r i b d).cctr = d.cctr := rfl
@[simp] theorem setRb_pm (r : Reg) (i : Nat) (b : Bool) (d : Dev) : (setRb r i b d).pm = d.pm := rfl
@[simp] theorem setRb_pkt (r : Reg) (i : Nat) (b : Bool) (d : Dev) : (setRb r i b d).pkt = d.pkt := rfl
@[simp] theorem setRb_prot (r : Reg) (i : Nat) (b : Bool) (d : Dev) : (setRb r i b d).prot = d.prot := rfl
@[simp] theorem setRb_merge (r : Reg) (i : Nat) (b : Bool) (d : Dev) : (setRb r i b d).merge = d.merge := rfl
@[simp] theorem setRb_mate (r : Reg) (i : Nat) (b : Bool) (d : Dev) : (setRb r i b d).mate = d.mate := rfl
@[simp] theorem setRb_groom (r : Reg) (i : Nat) (b : Bool) (d : Dev) : (setRb r i b d).groom = d.groom := rfl
@[simp] theorem setRb_tim (r : Reg) (i : Nat) (b : Bool) (d : Dev) : (setRb r i b d).tim = d.tim := rfl
@[simp] theorem setRb_nvm (r : Reg) (i : Nat) (b : Bool) (d : Dev) : (setRb r i b d).nvm = d.nvm := rfl

/-! ### satCtr -/

@[simp] theorem satCtr_time (r : Reg) (hi lo n : Nat) (d : Dev) : (satCtr r hi lo n d).time = d.time := rfl
@[simp] theorem satCtr_fuse (r : Reg) (hi lo n : Nat) (d : Dev) : (satCtr r hi lo n d).fuse = d.fuse := rfl
@[simp] theorem satCtr_pin (r : Reg) (hi lo n : Nat) (d : Dev) : (satCtr r hi lo n d).pin = d.pin := rfl
@[simp] theorem satCtr_pwr (r : Reg) (hi lo n : Nat) (d : Dev) : (satCtr r hi lo n d).pwr = d.pwr := rfl
@[simp] theorem satCtr_err (r : Reg) (hi lo n : Nat) (d : Dev) : (satCtr r hi lo n d).err = d.err := rfl
@[simp] theorem satCtr_evt (r : Reg) (hi lo n : Nat) (d : Dev) : (satCtr r hi lo n d).evt = d.evt := rfl
@[simp] theorem satCtr_mbx (r : Reg) (hi lo n : Nat) (d : Dev) : (satCtr r hi lo n d).mbx = d.mbx := rfl
@[simp] theorem satCtr_host (r : Reg) (hi lo n : Nat) (d : Dev) : (satCtr r hi lo n d).host = d.host := rfl
@[simp] theorem satCtr_prov (r : Reg) (hi lo n : Nat) (d : Dev) : (satCtr r hi lo n d).prov = d.prov := rfl
@[simp] theorem satCtr_asst (r : Reg) (hi lo n : Nat) (d : Dev) : (satCtr r hi lo n d).asst = d.asst := rfl
@[simp] theorem satCtr_boot (r : Reg) (hi lo n : Nat) (d : Dev) : (satCtr r hi lo n d).boot = d.boot := rfl
@[simp] theorem satCtr_cli (r : Reg) (hi lo n : Nat) (d : Dev) : (satCtr r hi lo n d).cli = d.cli := rfl
@[simp] theorem satCtr_pctr (r : Reg) (hi lo n : Nat) (d : Dev) : (satCtr r hi lo n d).pctr = d.pctr := rfl
@[simp] theorem satCtr_line (r : Reg) (hi lo n : Nat) (d : Dev) : (satCtr r hi lo n d).line = d.line := rfl
@[simp] theorem satCtr_cont (r : Reg) (hi lo n : Nat) (d : Dev) : (satCtr r hi lo n d).cont = d.cont := rfl
@[simp] theorem satCtr_cctr (r : Reg) (hi lo n : Nat) (d : Dev) : (satCtr r hi lo n d).cctr = d.cctr := rfl
@[simp] theorem satCtr_pm (r : Reg) (hi lo n : Nat) (d : Dev) : (satCtr r hi lo n d).pm = d.pm := rfl
@[simp] theorem satCtr_pkt (r : Reg) (hi lo n : Nat) (d : Dev) : (satCtr r hi lo n d).pkt = d.pkt := rfl
@[simp] theorem satCtr_prot (r : Reg) (hi lo n : Nat) (d : Dev) : (satCtr r hi lo n d).prot = d.prot := rfl
@[simp] theorem satCtr_merge (r : Reg) (hi lo n : Nat) (d : Dev) : (satCtr r hi lo n d).merge = d.merge := rfl
@[simp] theorem satCtr_mate (r : Reg) (hi lo n : Nat) (d : Dev) : (satCtr r hi lo n d).mate = d.mate := rfl
@[simp] theorem satCtr_groom (r : Reg) (hi lo n : Nat) (d : Dev) : (satCtr r hi lo n d).groom = d.groom := rfl
@[simp] theorem satCtr_tim (r : Reg) (hi lo n : Nat) (d : Dev) : (satCtr r hi lo n d).tim = d.tim := rfl
@[simp] theorem satCtr_nvm (r : Reg) (hi lo n : Nat) (d : Dev) : (satCtr r hi lo n d).nvm = d.nvm := rfl

/-! ### wrapCtr -/

@[simp] theorem wrapCtr_time (r : Reg) (hi lo n : Nat) (d : Dev) : (wrapCtr r hi lo n d).time = d.time := rfl
@[simp] theorem wrapCtr_fuse (r : Reg) (hi lo n : Nat) (d : Dev) : (wrapCtr r hi lo n d).fuse = d.fuse := rfl
@[simp] theorem wrapCtr_pin (r : Reg) (hi lo n : Nat) (d : Dev) : (wrapCtr r hi lo n d).pin = d.pin := rfl
@[simp] theorem wrapCtr_pwr (r : Reg) (hi lo n : Nat) (d : Dev) : (wrapCtr r hi lo n d).pwr = d.pwr := rfl
@[simp] theorem wrapCtr_err (r : Reg) (hi lo n : Nat) (d : Dev) : (wrapCtr r hi lo n d).err = d.err := rfl
@[simp] theorem wrapCtr_evt (r : Reg) (hi lo n : Nat) (d : Dev) : (wrapCtr r hi lo n d).evt = d.evt := rfl
@[simp] theorem wrapCtr_mbx (r : Reg) (hi lo n : Nat) (d : Dev) : (wrapCtr r hi lo n d).mbx = d.mbx := rfl
@[simp] theorem wrapCtr_host (r : Reg) (hi lo n : Nat) (d : Dev) : (wrapCtr r hi lo n d).host = d.host := rfl
@[simp] theorem wrapCtr_prov (r : Reg) (hi lo n : Nat) (d : Dev) : (wrapCtr r hi lo n d).prov = d.prov := rfl
@[simp] theorem wrapCtr_asst (r : Reg) (hi lo n : Nat) (d : Dev) : (wrapCtr r hi lo n d).asst = d.asst := rfl
@[simp] theorem wrapCtr_boot (r : Reg) (hi lo n : Nat) (d : Dev) : (wrapCtr r hi lo n d).boot = d.boot := rfl
@[simp] theorem wrapCtr_cli (r : Reg) (hi lo n : Nat) (d : Dev) : (wrapCtr r hi lo n d).cli = d.cli := rfl
@[simp] theorem wrapCtr_pctr (r : Reg) (hi lo n : Nat) (d : Dev) : (wrapCtr r hi lo n d).pctr = d.pctr := rfl
@[simp] theorem wrapCtr_line (r : Reg) (hi lo n : Nat) (d : Dev) : (wrapCtr r hi lo n d).line = d.line := rfl
@[simp] theorem wrapCtr_cont (r : Reg) (hi lo n : Nat) (d : Dev) : (wrapCtr r hi lo n d).cont = d.cont := rfl
@[simp] theorem wrapCtr_cctr (r : Reg) (hi lo n : Nat) (d : Dev) : (wrapCtr r hi lo n d).cctr = d.cctr := rfl
@[simp] theorem wrapCtr_pm (r : Reg) (hi lo n : Nat) (d : Dev) : (wrapCtr r hi lo n d).pm = d.pm := rfl
@[simp] theorem wrapCtr_pkt (r : Reg) (hi lo n : Nat) (d : Dev) : (wrapCtr r hi lo n d).pkt = d.pkt := rfl
@[simp] theorem wrapCtr_prot (r : Reg) (hi lo n : Nat) (d : Dev) : (wrapCtr r hi lo n d).prot = d.prot := rfl
@[simp] theorem wrapCtr_merge (r : Reg) (hi lo n : Nat) (d : Dev) : (wrapCtr r hi lo n d).merge = d.merge := rfl
@[simp] theorem wrapCtr_mate (r : Reg) (hi lo n : Nat) (d : Dev) : (wrapCtr r hi lo n d).mate = d.mate := rfl
@[simp] theorem wrapCtr_groom (r : Reg) (hi lo n : Nat) (d : Dev) : (wrapCtr r hi lo n d).groom = d.groom := rfl
@[simp] theorem wrapCtr_tim (r : Reg) (hi lo n : Nat) (d : Dev) : (wrapCtr r hi lo n d).tim = d.tim := rfl
@[simp] theorem wrapCtr_nvm (r : Reg) (hi lo n : Nat) (d : Dev) : (wrapCtr r hi lo n d).nvm = d.nvm := rfl

/-! ### modDom -/

@[simp] theorem modDom_time (n : Nat) (f : Dom → Dom) (d : Dev) : (modDom n f d).time = d.time := rfl
@[simp] theorem modDom_fuse (n : Nat) (f : Dom → Dom) (d : Dev) : (modDom n f d).fuse = d.fuse := rfl
@[simp] theorem modDom_pin (n : Nat) (f : Dom → Dom) (d : Dev) : (modDom n f d).pin = d.pin := rfl
@[simp] theorem modDom_regs (n : Nat) (f : Dom → Dom) (d : Dev) : (modDom n f d).regs = d.regs := rfl
@[simp] theorem modDom_pwr (n : Nat) (f : Dom → Dom) (d : Dev) : (modDom n f d).pwr = { d.pwr with doms := tmod {} d.pwr.doms n f } := rfl
@[simp] theorem modDom_err (n : Nat) (f : Dom → Dom) (d : Dev) : (modDom n f d).err = d.err := rfl
@[simp] theorem modDom_evt (n : Nat) (f : Dom → Dom) (d : Dev) : (modDom n f d).evt = d.evt := rfl
@[simp] theorem modDom_mbx (n : Nat) (f : Dom → Dom) (d : Dev) : (modDom n f d).mbx = d.mbx := rfl
@[simp] theorem modDom_host (n : Nat) (f : Dom → Dom) (d : Dev) : (modDom n f d).host = d.host := rfl
@[simp] theorem modDom_prov (n : Nat) (f : Dom → Dom) (d : Dev) : (modDom n f d).prov = d.prov := rfl
@[simp] theorem modDom_asst (n : Nat) (f : Dom → Dom) (d : Dev) : (modDom n f d).asst = d.asst := rfl
@[simp] theorem modDom_boot (n : Nat) (f : Dom → Dom) (d : Dev) : (modDom n f d).boot = d.boot := rfl
@[simp] theorem modDom_cli (n : Nat) (f : Dom → Dom) (d : Dev) : (modDom n f d).cli = d.cli := rfl
@[simp] theorem modDom_pctr (n : Nat) (f : Dom → Dom) (d : Dev) : (modDom n f d).pctr = d.pctr := rfl
@[simp] theorem modDom_line (n : Nat) (f : Dom → Dom) (d : Dev) : (modDom n f d).line = d.line := rfl
@[simp] theorem modDom_cont (n : Nat) (f : Dom → Dom) (d : Dev) : (modDom n f d).cont = d.cont := rfl
@[simp] theorem modDom_cctr (n : Nat) (f : Dom → Dom) (d : Dev) : (modDom n f d).cctr = d.cctr := rfl
@[simp] theorem modDom_pm (n : Nat) (f : Dom → Dom) (d : Dev) : (modDom n f d).pm = d.pm := rfl
@[simp] theorem modDom_pkt (n : Nat) (f : Dom → Dom) (d : Dev) : (modDom n f d).pkt = d.pkt := rfl
@[simp] theorem modDom_prot (n : Nat) (f : Dom → Dom) (d : Dev) : (modDom n f d).prot = d.prot := rfl
@[simp] theorem modDom_merge (n : Nat) (f : Dom → Dom) (d : Dev) : (modDom n f d).merge = d.merge := rfl
@[simp] theorem modDom_mate (n : Nat) (f : Dom → Dom) (d : Dev) : (modDom n f d).mate = d.mate := rfl
@[simp] theorem modDom_groom (n : Nat) (f : Dom → Dom) (d : Dev) : (modDom n f d).groom = d.groom := rfl
@[simp] theorem modDom_tim (n : Nat) (f : Dom → Dom) (d : Dev) : (modDom n f d).tim = d.tim := rfl
@[simp] theorem modDom_nvm (n : Nat) (f : Dom → Dom) (d : Dev) : (modDom n f d).nvm = d.nvm := rfl

/-! ### modMate -/

@[simp] theorem modMate_time (f : MateSt → MateSt) (d : Dev) : (modMate f d).time = d.time := rfl
@[simp] theorem modMate_fuse (f : MateSt → MateSt) (d : Dev) : (modMate f d).fuse = d.fuse := rfl
@[simp] theorem modMate_pin (f : MateSt → MateSt) (d : Dev) : (modMate f d).pin = d.pin := rfl
@[simp] theorem modMate_regs (f : MateSt → MateSt) (d : Dev) : (modMate f d).regs = d.regs := rfl
@[simp] theorem modMate_pwr (f : MateSt → MateSt) (d : Dev) : (modMate f d).pwr = d.pwr := rfl
@[simp] theorem modMate_err (f : MateSt → MateSt) (d : Dev) : (modMate f d).err = d.err := rfl
@[simp] theorem modMate_evt (f : MateSt → MateSt) (d : Dev) : (modMate f d).evt = d.evt := rfl
@[simp] theorem modMate_mbx (f : MateSt → MateSt) (d : Dev) : (modMate f d).mbx = d.mbx := rfl
@[simp] theorem modMate_host (f : MateSt → MateSt) (d : Dev) : (modMate f d).host = d.host := rfl
@[simp] theorem modMate_prov (f : MateSt → MateSt) (d : Dev) : (modMate f d).prov = d.prov := rfl
@[simp] theorem modMate_asst (f : MateSt → MateSt) (d : Dev) : (modMate f d).asst = d.asst := rfl
@[simp] theorem modMate_boot (f : MateSt → MateSt) (d : Dev) : (modMate f d).boot = d.boot := rfl
@[simp] theorem modMate_cli (f : MateSt → MateSt) (d : Dev) : (modMate f d).cli = d.cli := rfl
@[simp] theorem modMate_pctr (f : MateSt → MateSt) (d : Dev) : (modMate f d).pctr = d.pctr := rfl
@[simp] theorem modMate_line (f : MateSt → MateSt) (d : Dev) : (modMate f d).line = d.line := rfl
@[simp] theorem modMate_cont (f : MateSt → MateSt) (d : Dev) : (modMate f d).cont = d.cont := rfl
@[simp] theorem modMate_cctr (f : MateSt → MateSt) (d : Dev) : (modMate f d).cctr = d.cctr := rfl
@[simp] theorem modMate_pm (f : MateSt → MateSt) (d : Dev) : (modMate f d).pm = d.pm := rfl
@[simp] theorem modMate_pkt (f : MateSt → MateSt) (d : Dev) : (modMate f d).pkt = d.pkt := rfl
@[simp] theorem modMate_prot (f : MateSt → MateSt) (d : Dev) : (modMate f d).prot = d.prot := rfl
@[simp] theorem modMate_merge (f : MateSt → MateSt) (d : Dev) : (modMate f d).merge = d.merge := rfl
@[simp] theorem modMate_mate (f : MateSt → MateSt) (d : Dev) : (modMate f d).mate = f d.mate := rfl
@[simp] theorem modMate_groom (f : MateSt → MateSt) (d : Dev) : (modMate f d).groom = d.groom := rfl
@[simp] theorem modMate_tim (f : MateSt → MateSt) (d : Dev) : (modMate f d).tim = d.tim := rfl
@[simp] theorem modMate_nvm (f : MateSt → MateSt) (d : Dev) : (modMate f d).nvm = d.nvm := rfl

/-! ### modGroom -/

@[simp] theorem modGroom_time (f : Groomer → Groomer) (d : Dev) : (modGroom f d).time = d.time := rfl
@[simp] theorem modGroom_fuse (f : Groomer → Groomer) (d : Dev) : (modGroom f d).fuse = d.fuse := rfl
@[simp] theorem modGroom_pin (f : Groomer → Groomer) (d : Dev) : (modGroom f d).pin = d.pin := rfl
@[simp] theorem modGroom_regs (f : Groomer → Groomer) (d : Dev) : (modGroom f d).regs = d.regs := rfl
@[simp] theorem modGroom_pwr (f : Groomer → Groomer) (d : Dev) : (modGroom f d).pwr = d.pwr := rfl
@[simp] theorem modGroom_err (f : Groomer → Groomer) (d : Dev) : (modGroom f d).err = d.err := rfl
@[simp] theorem modGroom_evt (f : Groomer → Groomer) (d : Dev) : (modGroom f d).evt = d.evt := rfl
@[simp] theorem modGroom_mbx (f : Groomer → Groomer) (d : Dev) : (modGroom f d).mbx = d.mbx := rfl
@[simp] theorem modGroom_host (f : Groomer → Groomer) (d : Dev) : (modGroom f d).host = d.host := rfl
@[simp] theorem modGroom_prov (f : Groomer → Groomer) (d : Dev) : (modGroom f d).prov = d.prov := rfl
@[simp] theorem modGroom_asst (f : Groomer → Groomer) (d : Dev) : (modGroom f d).asst = d.asst := rfl
@[simp] theorem modGroom_boot (f : Groomer → Groomer) (d : Dev) : (modGroom f d).boot = d.boot := rfl
@[simp] theorem modGroom_cli (f : Groomer → Groomer) (d : Dev) : (modGroom f d).cli = d.cli := rfl
@[simp] theorem modGroom_pctr (f : Groomer → Groomer) (d : Dev) : (modGroom f d).pctr = d.pctr := rfl
@[simp] theorem modGroom_line (f : Groomer → Groomer) (d : Dev) : (modGroom f d).line = d.line := rfl
@[simp] theorem modGroom_cont (f : Groomer → Groomer) (d : Dev) : (modGroom f d).cont = d.cont := rfl
@[simp] theorem modGroom_cctr (f : Groomer → Groomer) (d : Dev) : (modGroom f d).cctr = d.cctr := rfl
@[simp] theorem modGroom_pm (f : Groomer → Groomer) (d : Dev) : (modGroom f d).pm = d.pm := rfl
@[simp] theorem modGroom_pkt (f : Groomer → Groomer) (d : Dev) : (modGroom f d).pkt = d.pkt := rfl
@[simp] theorem modGroom_prot (f : Groomer → Groomer) (d : Dev) : (modGroom f d).prot = d.prot := rfl
@[simp] theorem modGroom_merge (f : Groomer → Groomer) (d : Dev) : (modGroom f d).merge = d.merge := rfl
@[simp] theorem modGroom_mate (f : Groomer → Groomer) (d : Dev) : (modGroom f d).mate = d.mate := rfl
@[simp] theorem modGroom_groom (f : Groomer → Groomer) (d : Dev) : (modGroom f d).groom = f d.groom := rfl
@[simp] theorem modGroom_tim (f : Groomer → Groomer) (d : Dev) : (modGroom f d).tim = d.tim := rfl
@[simp] theorem modGroom_nvm (f : Groomer → Groomer) (d : Dev) : (modGroom f d).nvm = d.nvm := rfl

/-! ### modTim -/

@[simp] theorem modTim_time (f : TimSt → TimSt) (d : Dev) : (modTim f d).time = d.time := rfl
@[simp] theorem modTim_fuse (f : TimSt → TimSt) (d : Dev) : (modTim f d).fuse = d.fuse := rfl
@[simp] theorem modTim_pin (f : TimSt → TimSt) (d : Dev) : (modTim f d).pin = d.pin := rfl
@[simp] theorem modTim_regs (f : TimSt → TimSt) (d : Dev) : (modTim f d).regs = d.regs := rfl
@[simp] theorem modTim_pwr (f : TimSt → TimSt) (d : Dev) : (modTim f d).pwr = d.pwr := rfl
@[simp] theorem modTim_err (f : TimSt → TimSt) (d : Dev) : (modTim f d).err = d.err := rfl
@[simp] theorem modTim_evt (f : TimSt → TimSt) (d : Dev) : (modTim f d).evt = d.evt := rfl
@[simp] theorem modTim_mbx (f : TimSt → TimSt) (d : Dev) : (modTim f d).mbx = d.mbx := rfl
@[simp] theorem modTim_host (f : TimSt → TimSt) (d : Dev) : (modTim f d).host = d.host := rfl
@[simp] theorem modTim_prov (f : TimSt → TimSt) (d : Dev) : (modTim f d).prov = d.prov := rfl
@[simp] theorem modTim_asst (f : TimSt → TimSt) (d : Dev) : (modTim f d).asst = d.asst := rfl
@[simp] theorem modTim_boot (f : TimSt → TimSt) (d : Dev) : (modTim f d).boot = d.boot := rfl
@[simp] theorem modTim_cli (f : TimSt → TimSt) (d : Dev) : (modTim f d).cli = d.cli := rfl
@[simp] theorem modTim_pctr (f : TimSt → TimSt) (d : Dev) : (modTim f d).pctr = d.pctr := rfl
@[simp] theorem modTim_line (f : TimSt → TimSt) (d : Dev) : (modTim f d).line = d.line := rfl
@[simp] theorem modTim_cont (f : TimSt → TimSt) (d : Dev) : (modTim f d).cont = d.cont := rfl
@[simp] theorem modTim_cctr (f : TimSt → TimSt) (d : Dev) : (modTim f d).cctr = d.cctr := rfl
@[simp] theorem modTim_pm (f : TimSt → TimSt) (d : Dev) : (modTim f d).pm = d.pm := rfl
@[simp] theorem modTim_pkt (f : TimSt → TimSt) (d : Dev) : (modTim f d).pkt = d.pkt := rfl
@[simp] theorem modTim_prot (f : TimSt → TimSt) (d : Dev) : (modTim f d).prot = d.prot := rfl
@[simp] theorem modTim_merge (f : TimSt → TimSt) (d : Dev) : (modTim f d).merge = d.merge := rfl
@[simp] theorem modTim_mate (f : TimSt → TimSt) (d : Dev) : (modTim f d).mate = d.mate := rfl
@[simp] theorem modTim_groom (f : TimSt → TimSt) (d : Dev) : (modTim f d).groom = d.groom := rfl
@[simp] theorem modTim_tim (f : TimSt → TimSt) (d : Dev) : (modTim f d).tim = f d.tim := rfl
@[simp] theorem modTim_nvm (f : TimSt → TimSt) (d : Dev) : (modTim f d).nvm = d.nvm := rfl

/-! ### modRef -/

@[simp] theorem modRef_time (r : Nat) (f : TimRef → TimRef) (d : Dev) : (modRef r f d).time = d.time := rfl
@[simp] theorem modRef_fuse (r : Nat) (f : TimRef → TimRef) (d : Dev) : (modRef r f d).fuse = d.fuse := rfl
@[simp] theorem modRef_pin (r : Nat) (f : TimRef → TimRef) (d : Dev) : (modRef r f d).pin = d.pin := rfl
@[simp] theorem modRef_regs (r : Nat) (f : TimRef → TimRef) (d : Dev) : (modRef r f d).regs = d.regs := rfl
@[simp] theorem modRef_pwr (r : Nat) (f : TimRef → TimRef) (d : Dev) : (modRef r f d).pwr = d.pwr := rfl
@[simp] theorem modRef_err (r : Nat) (f : TimRef → TimRef) (d : Dev) : (modRef r f d).err = d.err := rfl
@[simp] theorem modRef_evt (r : Nat) (f : TimRef → TimRef) (d : Dev) : (modRef r f d).evt = d.evt := rfl
@[simp] theorem modRef_mbx (r : Nat) (f : TimRef → TimRef) (d : Dev) : (modRef r f d).mbx = d.mbx := rfl
@[simp] theorem modRef_host (r : Nat) (f : TimRef → TimRef) (d : Dev) : (modRef r f d).host = d.host := rfl
@[simp] theorem modRef_prov (r : Nat) (f : TimRef → TimRef) (d : Dev) : (modRef r f d).prov = d.prov := rfl
@[simp] theorem modRef_asst (r : Nat) (f : TimRef → TimRef) (d : Dev) : (modRef r f d).asst = d.asst := rfl
@[simp] theorem modRef_boot (r : Nat) (f : TimRef → TimRef) (d : Dev) : (modRef r f d).boot = d.boot := rfl
@[simp] theorem modRef_cli (r : Nat) (f : TimRef → TimRef) (d : Dev) : (modRef r f d).cli = d.cli := rfl
@[simp] theorem modRef_pctr (r : Nat) (f : TimRef → TimRef) (d : Dev) : (modRef r f d).pctr = d.pctr := rfl
@[simp] theorem modRef_line (r : Nat) (f : TimRef → TimRef) (d : Dev) : (modRef r f d).line = d.line := rfl
@[simp] theorem modRef_cont (r : Nat) (f : TimRef → TimRef) (d : Dev) : (modRef r f d).cont = d.cont := rfl
@[simp] theorem modRef_cctr (r : Nat) (f : TimRef → TimRef) (d : Dev) : (modRef r f d).cctr = d.cctr := rfl
@[simp] theorem modRef_pm (r : Nat) (f : TimRef → TimRef) (d : Dev) : (modRef r f d).pm = d.pm := rfl
@[simp] theorem modRef_pkt (r : Nat) (f : TimRef → TimRef) (d : Dev) : (modRef r f d).pkt = d.pkt := rfl
@[simp] theorem modRef_prot (r : Nat) (f : TimRef → TimRef) (d : Dev) : (modRef r f d).prot = d.prot := rfl
@[simp] theorem modRef_merge (r : Nat) (f : TimRef → TimRef) (d : Dev) : (modRef r f d).merge = d.merge := rfl
@[simp] theorem modRef_mate (r : Nat) (f : TimRef → TimRef) (d : Dev) : (modRef r f d).mate = d.mate := rfl
@[simp] theorem modRef_groom (r : Nat) (f : TimRef → TimRef) (d : Dev) : (modRef r f d).groom = d.groom := rfl
@[simp] theorem modRef_tim (r : Nat) (f : TimRef → TimRef) (d : Dev) : (modRef r f d).tim = { d.tim with ref := tmod {} d.tim.ref r f } := rfl
@[simp] theorem modRef_nvm (r : Nat) (f : TimRef → TimRef) (d : Dev) : (modRef r f d).nvm = d.nvm := rfl

/-! ### modDp -/

@[simp] theorem modDp_time (i : Nat) (f : Dpll → Dpll) (d : Dev) : (modDp i f d).time = d.time := rfl
@[simp] theorem modDp_fuse (i : Nat) (f : Dpll → Dpll) (d : Dev) : (modDp i f d).fuse = d.fuse := rfl
@[simp] theorem modDp_pin (i : Nat) (f : Dpll → Dpll) (d : Dev) : (modDp i f d).pin = d.pin := rfl
@[simp] theorem modDp_regs (i : Nat) (f : Dpll → Dpll) (d : Dev) : (modDp i f d).regs = d.regs := rfl
@[simp] theorem modDp_pwr (i : Nat) (f : Dpll → Dpll) (d : Dev) : (modDp i f d).pwr = d.pwr := rfl
@[simp] theorem modDp_err (i : Nat) (f : Dpll → Dpll) (d : Dev) : (modDp i f d).err = d.err := rfl
@[simp] theorem modDp_evt (i : Nat) (f : Dpll → Dpll) (d : Dev) : (modDp i f d).evt = d.evt := rfl
@[simp] theorem modDp_mbx (i : Nat) (f : Dpll → Dpll) (d : Dev) : (modDp i f d).mbx = d.mbx := rfl
@[simp] theorem modDp_host (i : Nat) (f : Dpll → Dpll) (d : Dev) : (modDp i f d).host = d.host := rfl
@[simp] theorem modDp_prov (i : Nat) (f : Dpll → Dpll) (d : Dev) : (modDp i f d).prov = d.prov := rfl
@[simp] theorem modDp_asst (i : Nat) (f : Dpll → Dpll) (d : Dev) : (modDp i f d).asst = d.asst := rfl
@[simp] theorem modDp_boot (i : Nat) (f : Dpll → Dpll) (d : Dev) : (modDp i f d).boot = d.boot := rfl
@[simp] theorem modDp_cli (i : Nat) (f : Dpll → Dpll) (d : Dev) : (modDp i f d).cli = d.cli := rfl
@[simp] theorem modDp_pctr (i : Nat) (f : Dpll → Dpll) (d : Dev) : (modDp i f d).pctr = d.pctr := rfl
@[simp] theorem modDp_line (i : Nat) (f : Dpll → Dpll) (d : Dev) : (modDp i f d).line = d.line := rfl
@[simp] theorem modDp_cont (i : Nat) (f : Dpll → Dpll) (d : Dev) : (modDp i f d).cont = d.cont := rfl
@[simp] theorem modDp_cctr (i : Nat) (f : Dpll → Dpll) (d : Dev) : (modDp i f d).cctr = d.cctr := rfl
@[simp] theorem modDp_pm (i : Nat) (f : Dpll → Dpll) (d : Dev) : (modDp i f d).pm = d.pm := rfl
@[simp] theorem modDp_pkt (i : Nat) (f : Dpll → Dpll) (d : Dev) : (modDp i f d).pkt = d.pkt := rfl
@[simp] theorem modDp_prot (i : Nat) (f : Dpll → Dpll) (d : Dev) : (modDp i f d).prot = d.prot := rfl
@[simp] theorem modDp_merge (i : Nat) (f : Dpll → Dpll) (d : Dev) : (modDp i f d).merge = d.merge := rfl
@[simp] theorem modDp_mate (i : Nat) (f : Dpll → Dpll) (d : Dev) : (modDp i f d).mate = d.mate := rfl
@[simp] theorem modDp_groom (i : Nat) (f : Dpll → Dpll) (d : Dev) : (modDp i f d).groom = d.groom := rfl
@[simp] theorem modDp_tim (i : Nat) (f : Dpll → Dpll) (d : Dev) : (modDp i f d).tim = { d.tim with dpll := tmod {} d.tim.dpll i f } := rfl
@[simp] theorem modDp_nvm (i : Nat) (f : Dpll → Dpll) (d : Dev) : (modDp i f d).nvm = d.nvm := rfl

/-! ### modNvm -/

@[simp] theorem modNvm_time (f : NvmSt → NvmSt) (d : Dev) : (modNvm f d).time = d.time := rfl
@[simp] theorem modNvm_fuse (f : NvmSt → NvmSt) (d : Dev) : (modNvm f d).fuse = d.fuse := rfl
@[simp] theorem modNvm_pin (f : NvmSt → NvmSt) (d : Dev) : (modNvm f d).pin = d.pin := rfl
@[simp] theorem modNvm_regs (f : NvmSt → NvmSt) (d : Dev) : (modNvm f d).regs = d.regs := rfl
@[simp] theorem modNvm_pwr (f : NvmSt → NvmSt) (d : Dev) : (modNvm f d).pwr = d.pwr := rfl
@[simp] theorem modNvm_err (f : NvmSt → NvmSt) (d : Dev) : (modNvm f d).err = d.err := rfl
@[simp] theorem modNvm_evt (f : NvmSt → NvmSt) (d : Dev) : (modNvm f d).evt = d.evt := rfl
@[simp] theorem modNvm_mbx (f : NvmSt → NvmSt) (d : Dev) : (modNvm f d).mbx = d.mbx := rfl
@[simp] theorem modNvm_host (f : NvmSt → NvmSt) (d : Dev) : (modNvm f d).host = d.host := rfl
@[simp] theorem modNvm_prov (f : NvmSt → NvmSt) (d : Dev) : (modNvm f d).prov = d.prov := rfl
@[simp] theorem modNvm_asst (f : NvmSt → NvmSt) (d : Dev) : (modNvm f d).asst = d.asst := rfl
@[simp] theorem modNvm_boot (f : NvmSt → NvmSt) (d : Dev) : (modNvm f d).boot = d.boot := rfl
@[simp] theorem modNvm_cli (f : NvmSt → NvmSt) (d : Dev) : (modNvm f d).cli = d.cli := rfl
@[simp] theorem modNvm_pctr (f : NvmSt → NvmSt) (d : Dev) : (modNvm f d).pctr = d.pctr := rfl
@[simp] theorem modNvm_line (f : NvmSt → NvmSt) (d : Dev) : (modNvm f d).line = d.line := rfl
@[simp] theorem modNvm_cont (f : NvmSt → NvmSt) (d : Dev) : (modNvm f d).cont = d.cont := rfl
@[simp] theorem modNvm_cctr (f : NvmSt → NvmSt) (d : Dev) : (modNvm f d).cctr = d.cctr := rfl
@[simp] theorem modNvm_pm (f : NvmSt → NvmSt) (d : Dev) : (modNvm f d).pm = d.pm := rfl
@[simp] theorem modNvm_pkt (f : NvmSt → NvmSt) (d : Dev) : (modNvm f d).pkt = d.pkt := rfl
@[simp] theorem modNvm_prot (f : NvmSt → NvmSt) (d : Dev) : (modNvm f d).prot = d.prot := rfl
@[simp] theorem modNvm_merge (f : NvmSt → NvmSt) (d : Dev) : (modNvm f d).merge = d.merge := rfl
@[simp] theorem modNvm_mate (f : NvmSt → NvmSt) (d : Dev) : (modNvm f d).mate = d.mate := rfl
@[simp] theorem modNvm_groom (f : NvmSt → NvmSt) (d : Dev) : (modNvm f d).groom = d.groom := rfl
@[simp] theorem modNvm_tim (f : NvmSt → NvmSt) (d : Dev) : (modNvm f d).tim = d.tim := rfl
@[simp] theorem modNvm_nvm (f : NvmSt → NvmSt) (d : Dev) : (modNvm f d).nvm = f d.nvm := rfl

/-! ### modPm -/

@[simp] theorem modPm_time (f : PmSt → PmSt) (d : Dev) : (modPm f d).time = d.time := rfl
@[simp] theorem modPm_fuse (f : PmSt → PmSt) (d : Dev) : (modPm f d).fuse = d.fuse := rfl
@[simp] theorem modPm_pin (f : PmSt → PmSt) (d : Dev) : (modPm f d).pin = d.pin := rfl
@[simp] theorem modPm_regs (f : PmSt → PmSt) (d : Dev) : (modPm f d).regs = d.regs := rfl
@[simp] theorem modPm_pwr (f : PmSt → PmSt) (d : Dev) : (modPm f d).pwr = d.pwr := rfl
@[simp] theorem modPm_err (f : PmSt → PmSt) (d : Dev) : (modPm f d).err = d.err := rfl
@[simp] theorem modPm_evt (f : PmSt → PmSt) (d : Dev) : (modPm f d).evt = d.evt := rfl
@[simp] theorem modPm_mbx (f : PmSt → PmSt) (d : Dev) : (modPm f d).mbx = d.mbx := rfl
@[simp] theorem modPm_host (f : PmSt → PmSt) (d : Dev) : (modPm f d).host = d.host := rfl
@[simp] theorem modPm_prov (f : PmSt → PmSt) (d : Dev) : (modPm f d).prov = d.prov := rfl
@[simp] theorem modPm_asst (f : PmSt → PmSt) (d : Dev) : (modPm f d).asst = d.asst := rfl
@[simp] theorem modPm_boot (f : PmSt → PmSt) (d : Dev) : (modPm f d).boot = d.boot := rfl
@[simp] theorem modPm_cli (f : PmSt → PmSt) (d : Dev) : (modPm f d).cli = d.cli := rfl
@[simp] theorem modPm_pctr (f : PmSt → PmSt) (d : Dev) : (modPm f d).pctr = d.pctr := rfl
@[simp] theorem modPm_line (f : PmSt → PmSt) (d : Dev) : (modPm f d).line = d.line := rfl
@[simp] theorem modPm_cont (f : PmSt → PmSt) (d : Dev) : (modPm f d).cont = d.cont := rfl
@[simp] theorem modPm_cctr (f : PmSt → PmSt) (d : Dev) : (modPm f d).cctr = d.cctr := rfl
@[simp] theorem modPm_pm (f : PmSt → PmSt) (d : Dev) : (modPm f d).pm = f d.pm := rfl
@[simp] theorem modPm_pkt (f : PmSt → PmSt) (d : Dev) : (modPm f d).pkt = d.pkt := rfl
@[simp] theorem modPm_prot (f : PmSt → PmSt) (d : Dev) : (modPm f d).prot = d.prot := rfl
@[simp] theorem modPm_merge (f : PmSt → PmSt) (d : Dev) : (modPm f d).merge = d.merge := rfl
@[simp] theorem modPm_mate (f : PmSt → PmSt) (d : Dev) : (modPm f d).mate = d.mate := rfl
@[simp] theorem modPm_groom (f : PmSt → PmSt) (d : Dev) : (modPm f d).groom = d.groom := rfl
@[simp] theorem modPm_tim (f : PmSt → PmSt) (d : Dev) : (modPm f d).tim = d.tim := rfl
@[simp] theorem modPm_nvm (f : PmSt → PmSt) (d : Dev) : (modPm f d).nvm = d.nvm := rfl

/-! ### modPoint -/

@[simp] theorem modPoint_time (i : Nat) (f : Point → Point) (d : Dev) : (modPoint i f d).time = d.time := rfl
@[simp] theorem modPoint_fuse (i : Nat) (f : Point → Point) (d : Dev) : (modPoint i f d).fuse = d.fuse := rfl
@[simp] theorem modPoint_pin (i : Nat) (f : Point → Point) (d : Dev) : (modPoint i f d).pin = d.pin := rfl
@[simp] theorem modPoint_regs (i : Nat) (f : Point → Point) (d : Dev) : (modPoint i f d).regs = d.regs := rfl
@[simp] theorem modPoint_pwr (i : Nat) (f : Point → Point) (d : Dev) : (modPoint i f d).pwr = d.pwr := rfl
@[simp] theorem modPoint_err (i : Nat) (f : Point → Point) (d : Dev) : (modPoint i f d).err = d.err := rfl
@[simp] theorem modPoint_evt (i : Nat) (f : Point → Point) (d : Dev) : (modPoint i f d).evt = d.evt := rfl
@[simp] theorem modPoint_mbx (i : Nat) (f : Point → Point) (d : Dev) : (modPoint i f d).mbx = d.mbx := rfl
@[simp] theorem modPoint_host (i : Nat) (f : Point → Point) (d : Dev) : (modPoint i f d).host = d.host := rfl
@[simp] theorem modPoint_prov (i : Nat) (f : Point → Point) (d : Dev) : (modPoint i f d).prov = d.prov := rfl
@[simp] theorem modPoint_asst (i : Nat) (f : Point → Point) (d : Dev) : (modPoint i f d).asst = d.asst := rfl
@[simp] theorem modPoint_boot (i : Nat) (f : Point → Point) (d : Dev) : (modPoint i f d).boot = d.boot := rfl
@[simp] theorem modPoint_cli (i : Nat) (f : Point → Point) (d : Dev) : (modPoint i f d).cli = d.cli := rfl
@[simp] theorem modPoint_pctr (i : Nat) (f : Point → Point) (d : Dev) : (modPoint i f d).pctr = d.pctr := rfl
@[simp] theorem modPoint_line (i : Nat) (f : Point → Point) (d : Dev) : (modPoint i f d).line = d.line := rfl
@[simp] theorem modPoint_cont (i : Nat) (f : Point → Point) (d : Dev) : (modPoint i f d).cont = d.cont := rfl
@[simp] theorem modPoint_cctr (i : Nat) (f : Point → Point) (d : Dev) : (modPoint i f d).cctr = d.cctr := rfl
@[simp] theorem modPoint_pm (i : Nat) (f : Point → Point) (d : Dev) : (modPoint i f d).pm = { d.pm with pts := tmod {} d.pm.pts i f } := rfl
@[simp] theorem modPoint_pkt (i : Nat) (f : Point → Point) (d : Dev) : (modPoint i f d).pkt = d.pkt := rfl
@[simp] theorem modPoint_prot (i : Nat) (f : Point → Point) (d : Dev) : (modPoint i f d).prot = d.prot := rfl
@[simp] theorem modPoint_merge (i : Nat) (f : Point → Point) (d : Dev) : (modPoint i f d).merge = d.merge := rfl
@[simp] theorem modPoint_mate (i : Nat) (f : Point → Point) (d : Dev) : (modPoint i f d).mate = d.mate := rfl
@[simp] theorem modPoint_groom (i : Nat) (f : Point → Point) (d : Dev) : (modPoint i f d).groom = d.groom := rfl
@[simp] theorem modPoint_tim (i : Nat) (f : Point → Point) (d : Dev) : (modPoint i f d).tim = d.tim := rfl
@[simp] theorem modPoint_nvm (i : Nat) (f : Point → Point) (d : Dev) : (modPoint i f d).nvm = d.nvm := rfl

/-! ### modLn -/

@[simp] theorem modLn_time (p : Nat) (f : LinePort → LinePort) (d : Dev) : (modLn p f d).time = d.time := rfl
@[simp] theorem modLn_fuse (p : Nat) (f : LinePort → LinePort) (d : Dev) : (modLn p f d).fuse = d.fuse := rfl
@[simp] theorem modLn_pin (p : Nat) (f : LinePort → LinePort) (d : Dev) : (modLn p f d).pin = d.pin := rfl
@[simp] theorem modLn_regs (p : Nat) (f : LinePort → LinePort) (d : Dev) : (modLn p f d).regs = d.regs := rfl
@[simp] theorem modLn_pwr (p : Nat) (f : LinePort → LinePort) (d : Dev) : (modLn p f d).pwr = d.pwr := rfl
@[simp] theorem modLn_err (p : Nat) (f : LinePort → LinePort) (d : Dev) : (modLn p f d).err = d.err := rfl
@[simp] theorem modLn_evt (p : Nat) (f : LinePort → LinePort) (d : Dev) : (modLn p f d).evt = d.evt := rfl
@[simp] theorem modLn_mbx (p : Nat) (f : LinePort → LinePort) (d : Dev) : (modLn p f d).mbx = d.mbx := rfl
@[simp] theorem modLn_host (p : Nat) (f : LinePort → LinePort) (d : Dev) : (modLn p f d).host = d.host := rfl
@[simp] theorem modLn_prov (p : Nat) (f : LinePort → LinePort) (d : Dev) : (modLn p f d).prov = d.prov := rfl
@[simp] theorem modLn_asst (p : Nat) (f : LinePort → LinePort) (d : Dev) : (modLn p f d).asst = d.asst := rfl
@[simp] theorem modLn_boot (p : Nat) (f : LinePort → LinePort) (d : Dev) : (modLn p f d).boot = d.boot := rfl
@[simp] theorem modLn_cli (p : Nat) (f : LinePort → LinePort) (d : Dev) : (modLn p f d).cli = d.cli := rfl
@[simp] theorem modLn_pctr (p : Nat) (f : LinePort → LinePort) (d : Dev) : (modLn p f d).pctr = d.pctr := rfl
@[simp] theorem modLn_line (p : Nat) (f : LinePort → LinePort) (d : Dev) : (modLn p f d).line = tmod {} d.line p f := rfl
@[simp] theorem modLn_cont (p : Nat) (f : LinePort → LinePort) (d : Dev) : (modLn p f d).cont = d.cont := rfl
@[simp] theorem modLn_cctr (p : Nat) (f : LinePort → LinePort) (d : Dev) : (modLn p f d).cctr = d.cctr := rfl
@[simp] theorem modLn_pm (p : Nat) (f : LinePort → LinePort) (d : Dev) : (modLn p f d).pm = d.pm := rfl
@[simp] theorem modLn_pkt (p : Nat) (f : LinePort → LinePort) (d : Dev) : (modLn p f d).pkt = d.pkt := rfl
@[simp] theorem modLn_prot (p : Nat) (f : LinePort → LinePort) (d : Dev) : (modLn p f d).prot = d.prot := rfl
@[simp] theorem modLn_merge (p : Nat) (f : LinePort → LinePort) (d : Dev) : (modLn p f d).merge = d.merge := rfl
@[simp] theorem modLn_mate (p : Nat) (f : LinePort → LinePort) (d : Dev) : (modLn p f d).mate = d.mate := rfl
@[simp] theorem modLn_groom (p : Nat) (f : LinePort → LinePort) (d : Dev) : (modLn p f d).groom = d.groom := rfl
@[simp] theorem modLn_tim (p : Nat) (f : LinePort → LinePort) (d : Dev) : (modLn p f d).tim = d.tim := rfl
@[simp] theorem modLn_nvm (p : Nat) (f : LinePort → LinePort) (d : Dev) : (modLn p f d).nvm = d.nvm := rfl

/-! ### modCont -/

@[simp] theorem modCont_time (c : Nat) (f : Cont → Cont) (d : Dev) : (modCont c f d).time = d.time := rfl
@[simp] theorem modCont_fuse (c : Nat) (f : Cont → Cont) (d : Dev) : (modCont c f d).fuse = d.fuse := rfl
@[simp] theorem modCont_pin (c : Nat) (f : Cont → Cont) (d : Dev) : (modCont c f d).pin = d.pin := rfl
@[simp] theorem modCont_regs (c : Nat) (f : Cont → Cont) (d : Dev) : (modCont c f d).regs = d.regs := rfl
@[simp] theorem modCont_pwr (c : Nat) (f : Cont → Cont) (d : Dev) : (modCont c f d).pwr = d.pwr := rfl
@[simp] theorem modCont_err (c : Nat) (f : Cont → Cont) (d : Dev) : (modCont c f d).err = d.err := rfl
@[simp] theorem modCont_evt (c : Nat) (f : Cont → Cont) (d : Dev) : (modCont c f d).evt = d.evt := rfl
@[simp] theorem modCont_mbx (c : Nat) (f : Cont → Cont) (d : Dev) : (modCont c f d).mbx = d.mbx := rfl
@[simp] theorem modCont_host (c : Nat) (f : Cont → Cont) (d : Dev) : (modCont c f d).host = d.host := rfl
@[simp] theorem modCont_prov (c : Nat) (f : Cont → Cont) (d : Dev) : (modCont c f d).prov = d.prov := rfl
@[simp] theorem modCont_asst (c : Nat) (f : Cont → Cont) (d : Dev) : (modCont c f d).asst = d.asst := rfl
@[simp] theorem modCont_boot (c : Nat) (f : Cont → Cont) (d : Dev) : (modCont c f d).boot = d.boot := rfl
@[simp] theorem modCont_cli (c : Nat) (f : Cont → Cont) (d : Dev) : (modCont c f d).cli = d.cli := rfl
@[simp] theorem modCont_pctr (c : Nat) (f : Cont → Cont) (d : Dev) : (modCont c f d).pctr = d.pctr := rfl
@[simp] theorem modCont_line (c : Nat) (f : Cont → Cont) (d : Dev) : (modCont c f d).line = d.line := rfl
@[simp] theorem modCont_cont (c : Nat) (f : Cont → Cont) (d : Dev) : (modCont c f d).cont = tmod {} d.cont c f := rfl
@[simp] theorem modCont_cctr (c : Nat) (f : Cont → Cont) (d : Dev) : (modCont c f d).cctr = d.cctr := rfl
@[simp] theorem modCont_pm (c : Nat) (f : Cont → Cont) (d : Dev) : (modCont c f d).pm = d.pm := rfl
@[simp] theorem modCont_pkt (c : Nat) (f : Cont → Cont) (d : Dev) : (modCont c f d).pkt = d.pkt := rfl
@[simp] theorem modCont_prot (c : Nat) (f : Cont → Cont) (d : Dev) : (modCont c f d).prot = d.prot := rfl
@[simp] theorem modCont_merge (c : Nat) (f : Cont → Cont) (d : Dev) : (modCont c f d).merge = d.merge := rfl
@[simp] theorem modCont_mate (c : Nat) (f : Cont → Cont) (d : Dev) : (modCont c f d).mate = d.mate := rfl
@[simp] theorem modCont_groom (c : Nat) (f : Cont → Cont) (d : Dev) : (modCont c f d).groom = d.groom := rfl
@[simp] theorem modCont_tim (c : Nat) (f : Cont → Cont) (d : Dev) : (modCont c f d).tim = d.tim := rfl
@[simp] theorem modCont_nvm (c : Nat) (f : Cont → Cont) (d : Dev) : (modCont c f d).nvm = d.nvm := rfl

/-! ### modCli -/

@[simp] theorem modCli_time (i : Nat) (f : CliPort → CliPort) (d : Dev) : (modCli i f d).time = d.time := rfl
@[simp] theorem modCli_fuse (i : Nat) (f : CliPort → CliPort) (d : Dev) : (modCli i f d).fuse = d.fuse := rfl
@[simp] theorem modCli_pin (i : Nat) (f : CliPort → CliPort) (d : Dev) : (modCli i f d).pin = d.pin := rfl
@[simp] theorem modCli_regs (i : Nat) (f : CliPort → CliPort) (d : Dev) : (modCli i f d).regs = d.regs := rfl
@[simp] theorem modCli_pwr (i : Nat) (f : CliPort → CliPort) (d : Dev) : (modCli i f d).pwr = d.pwr := rfl
@[simp] theorem modCli_err (i : Nat) (f : CliPort → CliPort) (d : Dev) : (modCli i f d).err = d.err := rfl
@[simp] theorem modCli_evt (i : Nat) (f : CliPort → CliPort) (d : Dev) : (modCli i f d).evt = d.evt := rfl
@[simp] theorem modCli_mbx (i : Nat) (f : CliPort → CliPort) (d : Dev) : (modCli i f d).mbx = d.mbx := rfl
@[simp] theorem modCli_host (i : Nat) (f : CliPort → CliPort) (d : Dev) : (modCli i f d).host = d.host := rfl
@[simp] theorem modCli_prov (i : Nat) (f : CliPort → CliPort) (d : Dev) : (modCli i f d).prov = d.prov := rfl
@[simp] theorem modCli_asst (i : Nat) (f : CliPort → CliPort) (d : Dev) : (modCli i f d).asst = d.asst := rfl
@[simp] theorem modCli_boot (i : Nat) (f : CliPort → CliPort) (d : Dev) : (modCli i f d).boot = d.boot := rfl
@[simp] theorem modCli_cli (i : Nat) (f : CliPort → CliPort) (d : Dev) : (modCli i f d).cli = tmod {} d.cli i f := rfl
@[simp] theorem modCli_pctr (i : Nat) (f : CliPort → CliPort) (d : Dev) : (modCli i f d).pctr = d.pctr := rfl
@[simp] theorem modCli_line (i : Nat) (f : CliPort → CliPort) (d : Dev) : (modCli i f d).line = d.line := rfl
@[simp] theorem modCli_cont (i : Nat) (f : CliPort → CliPort) (d : Dev) : (modCli i f d).cont = d.cont := rfl
@[simp] theorem modCli_cctr (i : Nat) (f : CliPort → CliPort) (d : Dev) : (modCli i f d).cctr = d.cctr := rfl
@[simp] theorem modCli_pm (i : Nat) (f : CliPort → CliPort) (d : Dev) : (modCli i f d).pm = d.pm := rfl
@[simp] theorem modCli_pkt (i : Nat) (f : CliPort → CliPort) (d : Dev) : (modCli i f d).pkt = d.pkt := rfl
@[simp] theorem modCli_prot (i : Nat) (f : CliPort → CliPort) (d : Dev) : (modCli i f d).prot = d.prot := rfl
@[simp] theorem modCli_merge (i : Nat) (f : CliPort → CliPort) (d : Dev) : (modCli i f d).merge = d.merge := rfl
@[simp] theorem modCli_mate (i : Nat) (f : CliPort → CliPort) (d : Dev) : (modCli i f d).mate = d.mate := rfl
@[simp] theorem modCli_groom (i : Nat) (f : CliPort → CliPort) (d : Dev) : (modCli i f d).groom = d.groom := rfl
@[simp] theorem modCli_tim (i : Nat) (f : CliPort → CliPort) (d : Dev) : (modCli i f d).tim = d.tim := rfl
@[simp] theorem modCli_nvm (i : Nat) (f : CliPort → CliPort) (d : Dev) : (modCli i f d).nvm = d.nvm := rfl

/-! ### modPg -/

@[simp] theorem modPg_time (g : Nat) (f : ProtGrp → ProtGrp) (d : Dev) : (modPg g f d).time = d.time := rfl
@[simp] theorem modPg_fuse (g : Nat) (f : ProtGrp → ProtGrp) (d : Dev) : (modPg g f d).fuse = d.fuse := rfl
@[simp] theorem modPg_pin (g : Nat) (f : ProtGrp → ProtGrp) (d : Dev) : (modPg g f d).pin = d.pin := rfl
@[simp] theorem modPg_regs (g : Nat) (f : ProtGrp → ProtGrp) (d : Dev) : (modPg g f d).regs = d.regs := rfl
@[simp] theorem modPg_pwr (g : Nat) (f : ProtGrp → ProtGrp) (d : Dev) : (modPg g f d).pwr = d.pwr := rfl
@[simp] theorem modPg_err (g : Nat) (f : ProtGrp → ProtGrp) (d : Dev) : (modPg g f d).err = d.err := rfl
@[simp] theorem modPg_evt (g : Nat) (f : ProtGrp → ProtGrp) (d : Dev) : (modPg g f d).evt = d.evt := rfl
@[simp] theorem modPg_mbx (g : Nat) (f : ProtGrp → ProtGrp) (d : Dev) : (modPg g f d).mbx = d.mbx := rfl
@[simp] theorem modPg_host (g : Nat) (f : ProtGrp → ProtGrp) (d : Dev) : (modPg g f d).host = d.host := rfl
@[simp] theorem modPg_prov (g : Nat) (f : ProtGrp → ProtGrp) (d : Dev) : (modPg g f d).prov = d.prov := rfl
@[simp] theorem modPg_asst (g : Nat) (f : ProtGrp → ProtGrp) (d : Dev) : (modPg g f d).asst = d.asst := rfl
@[simp] theorem modPg_boot (g : Nat) (f : ProtGrp → ProtGrp) (d : Dev) : (modPg g f d).boot = d.boot := rfl
@[simp] theorem modPg_cli (g : Nat) (f : ProtGrp → ProtGrp) (d : Dev) : (modPg g f d).cli = d.cli := rfl
@[simp] theorem modPg_pctr (g : Nat) (f : ProtGrp → ProtGrp) (d : Dev) : (modPg g f d).pctr = d.pctr := rfl
@[simp] theorem modPg_line (g : Nat) (f : ProtGrp → ProtGrp) (d : Dev) : (modPg g f d).line = d.line := rfl
@[simp] theorem modPg_cont (g : Nat) (f : ProtGrp → ProtGrp) (d : Dev) : (modPg g f d).cont = d.cont := rfl
@[simp] theorem modPg_cctr (g : Nat) (f : ProtGrp → ProtGrp) (d : Dev) : (modPg g f d).cctr = d.cctr := rfl
@[simp] theorem modPg_pm (g : Nat) (f : ProtGrp → ProtGrp) (d : Dev) : (modPg g f d).pm = d.pm := rfl
@[simp] theorem modPg_pkt (g : Nat) (f : ProtGrp → ProtGrp) (d : Dev) : (modPg g f d).pkt = d.pkt := rfl
@[simp] theorem modPg_prot (g : Nat) (f : ProtGrp → ProtGrp) (d : Dev) : (modPg g f d).prot = tmod {} d.prot g f := rfl
@[simp] theorem modPg_merge (g : Nat) (f : ProtGrp → ProtGrp) (d : Dev) : (modPg g f d).merge = d.merge := rfl
@[simp] theorem modPg_mate (g : Nat) (f : ProtGrp → ProtGrp) (d : Dev) : (modPg g f d).mate = d.mate := rfl
@[simp] theorem modPg_groom (g : Nat) (f : ProtGrp → ProtGrp) (d : Dev) : (modPg g f d).groom = d.groom := rfl
@[simp] theorem modPg_tim (g : Nat) (f : ProtGrp → ProtGrp) (d : Dev) : (modPg g f d).tim = d.tim := rfl
@[simp] theorem modPg_nvm (g : Nat) (f : ProtGrp → ProtGrp) (d : Dev) : (modPg g f d).nvm = d.nvm := rfl

/-! ### modMg -/

@[simp] theorem modMg_time (g : Nat) (f : MergeGrp → MergeGrp) (d : Dev) : (modMg g f d).time = d.time := rfl
@[simp] theorem modMg_fuse (g : Nat) (f : MergeGrp → MergeGrp) (d : Dev) : (modMg g f d).fuse = d.fuse := rfl
@[simp] theorem modMg_pin (g : Nat) (f : MergeGrp → MergeGrp) (d : Dev) : (modMg g f d).pin = d.pin := rfl
@[simp] theorem modMg_regs (g : Nat) (f : MergeGrp → MergeGrp) (d : Dev) : (modMg g f d).regs = d.regs := rfl
@[simp] theorem modMg_pwr (g : Nat) (f : MergeGrp → MergeGrp) (d : Dev) : (modMg g f d).pwr = d.pwr := rfl
@[simp] theorem modMg_err (g : Nat) (f : MergeGrp → MergeGrp) (d : Dev) : (modMg g f d).err = d.err := rfl
@[simp] theorem modMg_evt (g : Nat) (f : MergeGrp → MergeGrp) (d : Dev) : (modMg g f d).evt = d.evt := rfl
@[simp] theorem modMg_mbx (g : Nat) (f : MergeGrp → MergeGrp) (d : Dev) : (modMg g f d).mbx = d.mbx := rfl
@[simp] theorem modMg_host (g : Nat) (f : MergeGrp → MergeGrp) (d : Dev) : (modMg g f d).host = d.host := rfl
@[simp] theorem modMg_prov (g : Nat) (f : MergeGrp → MergeGrp) (d : Dev) : (modMg g f d).prov = d.prov := rfl
@[simp] theorem modMg_asst (g : Nat) (f : MergeGrp → MergeGrp) (d : Dev) : (modMg g f d).asst = d.asst := rfl
@[simp] theorem modMg_boot (g : Nat) (f : MergeGrp → MergeGrp) (d : Dev) : (modMg g f d).boot = d.boot := rfl
@[simp] theorem modMg_cli (g : Nat) (f : MergeGrp → MergeGrp) (d : Dev) : (modMg g f d).cli = d.cli := rfl
@[simp] theorem modMg_pctr (g : Nat) (f : MergeGrp → MergeGrp) (d : Dev) : (modMg g f d).pctr = d.pctr := rfl
@[simp] theorem modMg_line (g : Nat) (f : MergeGrp → MergeGrp) (d : Dev) : (modMg g f d).line = d.line := rfl
@[simp] theorem modMg_cont (g : Nat) (f : MergeGrp → MergeGrp) (d : Dev) : (modMg g f d).cont = d.cont := rfl
@[simp] theorem modMg_cctr (g : Nat) (f : MergeGrp → MergeGrp) (d : Dev) : (modMg g f d).cctr = d.cctr := rfl
@[simp] theorem modMg_pm (g : Nat) (f : MergeGrp → MergeGrp) (d : Dev) : (modMg g f d).pm = d.pm := rfl
@[simp] theorem modMg_pkt (g : Nat) (f : MergeGrp → MergeGrp) (d : Dev) : (modMg g f d).pkt = d.pkt := rfl
@[simp] theorem modMg_prot (g : Nat) (f : MergeGrp → MergeGrp) (d : Dev) : (modMg g f d).prot = d.prot := rfl
@[simp] theorem modMg_merge (g : Nat) (f : MergeGrp → MergeGrp) (d : Dev) : (modMg g f d).merge = tmod {} d.merge g f := rfl
@[simp] theorem modMg_mate (g : Nat) (f : MergeGrp → MergeGrp) (d : Dev) : (modMg g f d).mate = d.mate := rfl
@[simp] theorem modMg_groom (g : Nat) (f : MergeGrp → MergeGrp) (d : Dev) : (modMg g f d).groom = d.groom := rfl
@[simp] theorem modMg_tim (g : Nat) (f : MergeGrp → MergeGrp) (d : Dev) : (modMg g f d).tim = d.tim := rfl
@[simp] theorem modMg_nvm (g : Nat) (f : MergeGrp → MergeGrp) (d : Dev) : (modMg g f d).nvm = d.nvm := rfl

/-! ### modPsl -/

@[simp] theorem modPsl_time (n : Nat) (f : PktSlice → PktSlice) (d : Dev) : (modPsl n f d).time = d.time := rfl
@[simp] theorem modPsl_fuse (n : Nat) (f : PktSlice → PktSlice) (d : Dev) : (modPsl n f d).fuse = d.fuse := rfl
@[simp] theorem modPsl_pin (n : Nat) (f : PktSlice → PktSlice) (d : Dev) : (modPsl n f d).pin = d.pin := rfl
@[simp] theorem modPsl_regs (n : Nat) (f : PktSlice → PktSlice) (d : Dev) : (modPsl n f d).regs = d.regs := rfl
@[simp] theorem modPsl_pwr (n : Nat) (f : PktSlice → PktSlice) (d : Dev) : (modPsl n f d).pwr = d.pwr := rfl
@[simp] theorem modPsl_err (n : Nat) (f : PktSlice → PktSlice) (d : Dev) : (modPsl n f d).err = d.err := rfl
@[simp] theorem modPsl_evt (n : Nat) (f : PktSlice → PktSlice) (d : Dev) : (modPsl n f d).evt = d.evt := rfl
@[simp] theorem modPsl_mbx (n : Nat) (f : PktSlice → PktSlice) (d : Dev) : (modPsl n f d).mbx = d.mbx := rfl
@[simp] theorem modPsl_host (n : Nat) (f : PktSlice → PktSlice) (d : Dev) : (modPsl n f d).host = d.host := rfl
@[simp] theorem modPsl_prov (n : Nat) (f : PktSlice → PktSlice) (d : Dev) : (modPsl n f d).prov = d.prov := rfl
@[simp] theorem modPsl_asst (n : Nat) (f : PktSlice → PktSlice) (d : Dev) : (modPsl n f d).asst = d.asst := rfl
@[simp] theorem modPsl_boot (n : Nat) (f : PktSlice → PktSlice) (d : Dev) : (modPsl n f d).boot = d.boot := rfl
@[simp] theorem modPsl_cli (n : Nat) (f : PktSlice → PktSlice) (d : Dev) : (modPsl n f d).cli = d.cli := rfl
@[simp] theorem modPsl_pctr (n : Nat) (f : PktSlice → PktSlice) (d : Dev) : (modPsl n f d).pctr = d.pctr := rfl
@[simp] theorem modPsl_line (n : Nat) (f : PktSlice → PktSlice) (d : Dev) : (modPsl n f d).line = d.line := rfl
@[simp] theorem modPsl_cont (n : Nat) (f : PktSlice → PktSlice) (d : Dev) : (modPsl n f d).cont = d.cont := rfl
@[simp] theorem modPsl_cctr (n : Nat) (f : PktSlice → PktSlice) (d : Dev) : (modPsl n f d).cctr = d.cctr := rfl
@[simp] theorem modPsl_pm (n : Nat) (f : PktSlice → PktSlice) (d : Dev) : (modPsl n f d).pm = d.pm := rfl
@[simp] theorem modPsl_pkt (n : Nat) (f : PktSlice → PktSlice) (d : Dev) : (modPsl n f d).pkt = { d.pkt with slice := tmod {} d.pkt.slice n f } := rfl
@[simp] theorem modPsl_prot (n : Nat) (f : PktSlice → PktSlice) (d : Dev) : (modPsl n f d).prot = d.prot := rfl
@[simp] theorem modPsl_merge (n : Nat) (f : PktSlice → PktSlice) (d : Dev) : (modPsl n f d).merge = d.merge := rfl
@[simp] theorem modPsl_mate (n : Nat) (f : PktSlice → PktSlice) (d : Dev) : (modPsl n f d).mate = d.mate := rfl
@[simp] theorem modPsl_groom (n : Nat) (f : PktSlice → PktSlice) (d : Dev) : (modPsl n f d).groom = d.groom := rfl
@[simp] theorem modPsl_tim (n : Nat) (f : PktSlice → PktSlice) (d : Dev) : (modPsl n f d).tim = d.tim := rfl
@[simp] theorem modPsl_nvm (n : Nat) (f : PktSlice → PktSlice) (d : Dev) : (modPsl n f d).nvm = d.nvm := rfl

/-! ### modPct -/

@[simp] theorem modPct_time (c : Nat) (f : PktCont → PktCont) (d : Dev) : (modPct c f d).time = d.time := rfl
@[simp] theorem modPct_fuse (c : Nat) (f : PktCont → PktCont) (d : Dev) : (modPct c f d).fuse = d.fuse := rfl
@[simp] theorem modPct_pin (c : Nat) (f : PktCont → PktCont) (d : Dev) : (modPct c f d).pin = d.pin := rfl
@[simp] theorem modPct_regs (c : Nat) (f : PktCont → PktCont) (d : Dev) : (modPct c f d).regs = d.regs := rfl
@[simp] theorem modPct_pwr (c : Nat) (f : PktCont → PktCont) (d : Dev) : (modPct c f d).pwr = d.pwr := rfl
@[simp] theorem modPct_err (c : Nat) (f : PktCont → PktCont) (d : Dev) : (modPct c f d).err = d.err := rfl
@[simp] theorem modPct_evt (c : Nat) (f : PktCont → PktCont) (d : Dev) : (modPct c f d).evt = d.evt := rfl
@[simp] theorem modPct_mbx (c : Nat) (f : PktCont → PktCont) (d : Dev) : (modPct c f d).mbx = d.mbx := rfl
@[simp] theorem modPct_host (c : Nat) (f : PktCont → PktCont) (d : Dev) : (modPct c f d).host = d.host := rfl
@[simp] theorem modPct_prov (c : Nat) (f : PktCont → PktCont) (d : Dev) : (modPct c f d).prov = d.prov := rfl
@[simp] theorem modPct_asst (c : Nat) (f : PktCont → PktCont) (d : Dev) : (modPct c f d).asst = d.asst := rfl
@[simp] theorem modPct_boot (c : Nat) (f : PktCont → PktCont) (d : Dev) : (modPct c f d).boot = d.boot := rfl
@[simp] theorem modPct_cli (c : Nat) (f : PktCont → PktCont) (d : Dev) : (modPct c f d).cli = d.cli := rfl
@[simp] theorem modPct_pctr (c : Nat) (f : PktCont → PktCont) (d : Dev) : (modPct c f d).pctr = d.pctr := rfl
@[simp] theorem modPct_line (c : Nat) (f : PktCont → PktCont) (d : Dev) : (modPct c f d).line = d.line := rfl
@[simp] theorem modPct_cont (c : Nat) (f : PktCont → PktCont) (d : Dev) : (modPct c f d).cont = d.cont := rfl
@[simp] theorem modPct_cctr (c : Nat) (f : PktCont → PktCont) (d : Dev) : (modPct c f d).cctr = d.cctr := rfl
@[simp] theorem modPct_pm (c : Nat) (f : PktCont → PktCont) (d : Dev) : (modPct c f d).pm = d.pm := rfl
@[simp] theorem modPct_pkt (c : Nat) (f : PktCont → PktCont) (d : Dev) : (modPct c f d).pkt = { d.pkt with cont := tmod {} d.pkt.cont c f } := rfl
@[simp] theorem modPct_prot (c : Nat) (f : PktCont → PktCont) (d : Dev) : (modPct c f d).prot = d.prot := rfl
@[simp] theorem modPct_merge (c : Nat) (f : PktCont → PktCont) (d : Dev) : (modPct c f d).merge = d.merge := rfl
@[simp] theorem modPct_mate (c : Nat) (f : PktCont → PktCont) (d : Dev) : (modPct c f d).mate = d.mate := rfl
@[simp] theorem modPct_groom (c : Nat) (f : PktCont → PktCont) (d : Dev) : (modPct c f d).groom = d.groom := rfl
@[simp] theorem modPct_tim (c : Nat) (f : PktCont → PktCont) (d : Dev) : (modPct c f d).tim = d.tim := rfl
@[simp] theorem modPct_nvm (c : Nat) (f : PktCont → PktCont) (d : Dev) : (modPct c f d).nvm = d.nvm := rfl

/-! ### modMemc -/

@[simp] theorem modMemc_time (f : MemcSt → MemcSt) (d : Dev) : (modMemc f d).time = d.time := rfl
@[simp] theorem modMemc_fuse (f : MemcSt → MemcSt) (d : Dev) : (modMemc f d).fuse = d.fuse := rfl
@[simp] theorem modMemc_pin (f : MemcSt → MemcSt) (d : Dev) : (modMemc f d).pin = d.pin := rfl
@[simp] theorem modMemc_regs (f : MemcSt → MemcSt) (d : Dev) : (modMemc f d).regs = d.regs := rfl
@[simp] theorem modMemc_pwr (f : MemcSt → MemcSt) (d : Dev) : (modMemc f d).pwr = d.pwr := rfl
@[simp] theorem modMemc_err (f : MemcSt → MemcSt) (d : Dev) : (modMemc f d).err = d.err := rfl
@[simp] theorem modMemc_evt (f : MemcSt → MemcSt) (d : Dev) : (modMemc f d).evt = d.evt := rfl
@[simp] theorem modMemc_mbx (f : MemcSt → MemcSt) (d : Dev) : (modMemc f d).mbx = d.mbx := rfl
@[simp] theorem modMemc_host (f : MemcSt → MemcSt) (d : Dev) : (modMemc f d).host = d.host := rfl
@[simp] theorem modMemc_prov (f : MemcSt → MemcSt) (d : Dev) : (modMemc f d).prov = d.prov := rfl
@[simp] theorem modMemc_asst (f : MemcSt → MemcSt) (d : Dev) : (modMemc f d).asst = d.asst := rfl
@[simp] theorem modMemc_boot (f : MemcSt → MemcSt) (d : Dev) : (modMemc f d).boot = d.boot := rfl
@[simp] theorem modMemc_cli (f : MemcSt → MemcSt) (d : Dev) : (modMemc f d).cli = d.cli := rfl
@[simp] theorem modMemc_pctr (f : MemcSt → MemcSt) (d : Dev) : (modMemc f d).pctr = d.pctr := rfl
@[simp] theorem modMemc_line (f : MemcSt → MemcSt) (d : Dev) : (modMemc f d).line = d.line := rfl
@[simp] theorem modMemc_cont (f : MemcSt → MemcSt) (d : Dev) : (modMemc f d).cont = d.cont := rfl
@[simp] theorem modMemc_cctr (f : MemcSt → MemcSt) (d : Dev) : (modMemc f d).cctr = d.cctr := rfl
@[simp] theorem modMemc_pm (f : MemcSt → MemcSt) (d : Dev) : (modMemc f d).pm = d.pm := rfl
@[simp] theorem modMemc_pkt (f : MemcSt → MemcSt) (d : Dev) : (modMemc f d).pkt = { d.pkt with memc := f d.pkt.memc } := rfl
@[simp] theorem modMemc_prot (f : MemcSt → MemcSt) (d : Dev) : (modMemc f d).prot = d.prot := rfl
@[simp] theorem modMemc_merge (f : MemcSt → MemcSt) (d : Dev) : (modMemc f d).merge = d.merge := rfl
@[simp] theorem modMemc_mate (f : MemcSt → MemcSt) (d : Dev) : (modMemc f d).mate = d.mate := rfl
@[simp] theorem modMemc_groom (f : MemcSt → MemcSt) (d : Dev) : (modMemc f d).groom = d.groom := rfl
@[simp] theorem modMemc_tim (f : MemcSt → MemcSt) (d : Dev) : (modMemc f d).tim = d.tim := rfl
@[simp] theorem modMemc_nvm (f : MemcSt → MemcSt) (d : Dev) : (modMemc f d).nvm = d.nvm := rfl

/-! ### Reading what was written -/

@[simp] theorem tr_modRef (r k : Nat) (f : TimRef → TimRef) (d : Dev) : tr (modRef r f d) k = if k = r then f (tr d r) else tr d k :=
  tget_tmod _ _ _ _ _
@[simp] theorem dp_modDp (i k : Nat) (f : Dpll → Dpll) (d : Dev) : dp (modDp i f d) k = if k = i then f (dp d i) else dp d k :=
  tget_tmod _ _ _ _ _
@[simp] theorem ln_modLn (p k : Nat) (f : LinePort → LinePort) (d : Dev) : ln (modLn p f d) k = if k = p then f (ln d p) else ln d k :=
  tget_tmod _ _ _ _ _
@[simp] theorem pg_modPg (g k : Nat) (f : ProtGrp → ProtGrp) (d : Dev) : pg (modPg g f d) k = if k = g then f (pg d g) else pg d k :=
  tget_tmod _ _ _ _ _
@[simp] theorem mg_modMg (g k : Nat) (f : MergeGrp → MergeGrp) (d : Dev) : mg (modMg g f d) k = if k = g then f (mg d g) else mg d k :=
  tget_tmod _ _ _ _ _
@[simp] theorem psl_modPsl (n k : Nat) (f : PktSlice → PktSlice) (d : Dev) : psl (modPsl n f d) k = if k = n then f (psl d n) else psl d k :=
  tget_tmod _ _ _ _ _
@[simp] theorem pct_modPct (c k : Nat) (f : PktCont → PktCont) (d : Dev) : pct (modPct c f d) k = if k = c then f (pct d c) else pct d k :=
  tget_tmod _ _ _ _ _
@[simp] theorem point_modPoint (i k : Nat) (f : Point → Point) (d : Dev) :
    point (modPoint i f d) k = if k = i then f (point d i) else point d k := tget_tmod _ _ _ _ _

/-- A register reads as it was last set, and every other as before. -/
theorem lookupReg_storeReg (ib : Bool) (l : List (Reg × Word)) (r q : Reg) (w : Word) :
    lookupReg ib (storeReg ib l r w) q = if q = r then w else lookupReg ib l q := by
  have rest : lookupReg ib (l.filter fun e => e.1 != r) q = if q = r then regReset ib r else lookupReg ib l q := by
    induction l with
    | nil => by_cases h : q = r <;> simp [lookupReg, h]
    | cons e t ih =>
      by_cases he : e.1 = r
      · have : (e :: t).filter (fun e => e.1 != r) = t.filter fun e => e.1 != r := by simp [he]
        rw [this, ih]
        by_cases h : q = r
        · simp [h]
        · simp [h, lookupReg, he, Ne.symm h]
      · have : (e :: t).filter (fun e => e.1 != r) = e :: t.filter fun e => e.1 != r := by simp [he]
        rw [this]
        simp only [lookupReg]
        rw [ih]
        by_cases h : q = r
        · subst h; simp [he]
        · simp [h]
  unfold storeReg
  by_cases hw : w = regReset ib r
  · simp [hw, rest]
  · by_cases h : q = r
    · simp [hw, h, lookupReg]
    · simp [hw, h, lookupReg, rest, Ne.symm h]

@[simp] theorem reg_setReg (r q : Reg) (w : Word) (d : Dev) : reg (setReg r w d) q = if q = r then w else reg d q :=
  lookupReg_storeReg d.fuse.ib d.regs r q w

theorem reg_setRf (r q : Reg) (hi lo v : Nat) (d : Dev) :
    reg (setRf r hi lo v d) q = if q = r then putBits (reg d r) hi lo v else reg d q := reg_setReg _ _ _ _
theorem reg_setRb (r q : Reg) (i : Nat) (b : Bool) (d : Dev) :
    reg (setRb r i b d) q = if q = r then putBit (reg d r) i b else reg d q := reg_setReg _ _ _ _

end Sys2Proof.Laws
end

