-- ==== Sys2Proof/Laws/Ops.lean ====
section
/-! SUPPORT. What the shared operations can change: setting registers, interrupts, events, error records, reports, cells to the mate. -/

namespace Sys2Proof.Laws

open Sys2Proof.Machine

/-- `e` is `d` after something was recorded: registers, time stamps taken, interrupt messages, events, error records, reports. The
epoch and every other part of the device are those of `d`. -/
structure Records (d e : Dev) : Prop where
  epoch : e.time.epoch = d.time.epoch
  rtc : e.time.rtc = d.time.rtc
  fuse : e.fuse = d.fuse
  pin : e.pin = d.pin
  pwr : e.pwr = d.pwr
  mbx : e.mbx = d.mbx
  prov : e.prov = d.prov
  boot : e.boot = d.boot
  cli : e.cli = d.cli
  pctr : e.pctr = d.pctr
  line : e.line = d.line
  cont : e.cont = d.cont
  cctr : e.cctr = d.cctr
  pm : e.pm = d.pm
  pkt : e.pkt = d.pkt
  prot : e.prot = d.prot
  merge : e.merge = d.merge
  mate : e.mate = d.mate
  groom : e.groom = d.groom
  tim : e.tim = d.tim
  nvm : e.nvm = d.nvm

theorem records_refl (d : Dev) : Records d d := by constructor <;> rfl

theorem records_trans {a b c : Dev} (h : Records a b) (k : Records b c) : Records a c := by
  constructor
  · exact k.epoch.trans h.epoch
  · exact k.rtc.trans h.rtc
  · exact k.fuse.trans h.fuse
  · exact k.pin.trans h.pin
  · exact k.pwr.trans h.pwr
  · exact k.mbx.trans h.mbx
  · exact k.prov.trans h.prov
  · exact k.boot.trans h.boot
  · exact k.cli.trans h.cli
  · exact k.pctr.trans h.pctr
  · exact k.line.trans h.line
  · exact k.cont.trans h.cont
  · exact k.cctr.trans h.cctr
  · exact k.pm.trans h.pm
  · exact k.pkt.trans h.pkt
  · exact k.prot.trans h.prot
  · exact k.merge.trans h.merge
  · exact k.mate.trans h.mate
  · exact k.groom.trans h.groom
  · exact k.tim.trans h.tim
  · exact k.nvm.trans h.nvm

/-- A gated step records where the step does. -/
theorem records_gate {f : Dev → Dev} (h : ∀ d, Records d (f d)) (c : Bool) (d : Dev) : Records d (gate c f d) := by
  cases c
  · exact records_refl d
  · exact h d

theorem setReg_records (r : Reg) (w : Word) (d : Dev) : Records d (setReg r w d) := by constructor <;> rfl
theorem setRf_records (r : Reg) (hi lo v : Nat) (d : Dev) : Records d (setRf r hi lo v d) := by constructor <;> rfl
theorem setRb_records (r : Reg) (i : Nat) (b : Bool) (d : Dev) : Records d (setRb r i b d) := by constructor <;> rfl
theorem satCtr_records (r : Reg) (hi lo n : Nat) (d : Dev) : Records d (satCtr r hi lo n d) := by constructor <;> rfl
theorem wrapCtr_records (r : Reg) (hi lo n : Nat) (d : Dev) : Records d (wrapCtr r hi lo n d) := by constructor <;> rfl
theorem setLive_records (r : Reg) (off b : Nat) (v : Bool) (d : Dev) : Records d (setLive r off b v d) :=
  records_trans (setRb_records r b v d) (records_gate (setRb_records r (b + off) true) _ _)
theorem msixPf0_records (k : Nat) (d : Dev) : Records d (msixPf0 k d) := by constructor <;> rfl
theorem msixPf1_records (k : Nat) (d : Dev) : Records d (msixPf1 k d) := by constructor <;> rfl

/-- An interrupt source only records. -/
theorem raiseInt_records (k : Nat) (d : Dev) : Records d (raiseInt k d) := by
  unfold raiseInt
  exact records_trans (records_trans (records_trans (setRb_records _ _ _ _) (records_gate (msixPf0_records k) _ _))
    (records_gate (msixPf1_records 0) _ _)) (records_gate (msixPf1_records 1) _ _)

/-- A change of the event state only records. -/
theorem evt_records (d : Dev) (v : EvtSt) : Records d { d with evt := v } := by constructor <;> rfl

theorem postEvents_records (d : Dev) : Records d (postEvents d) := by
  unfold postEvents
  split
  · exact evt_records d _
  · split
    · exact records_trans (records_trans (evt_records d _) (setRf_records _ _ _ _ _)) (raiseInt_records 0 _)
    · exact evt_records d _

theorem stageEvt_records (e : EvtRec) (d : Dev) : Records d (stageEvt e d) := by
  unfold stageEvt
  split
  · exact evt_records d _
  · split
    · exact records_trans (records_trans (evt_records d _) (setRb_records _ _ _ _)) (satCtr_records _ _ _ _ _)
    · exact records_trans (evt_records d _) (records_gate postEvents_records _ _)

/-- An event only records. -/
theorem postEvtAs_records (engine urgent : Bool) (ty src inst obj : Nat) (detail : Bytes) (d : Dev) :
    Records d (postEvtAs engine urgent ty src inst obj detail d) := by
  refine records_trans (b := { d with
    time := { d.time with stamps := d.time.stamps + 1 }
    evt := (postEvtAs engine urgent ty src inst obj detail d).evt }) (by constructor <;> rfl) ?_
  have h := stageEvt_records ({
    ty := ty, seq := d.evt.seq, urgent := urgent, engine := engine, epoch := d.time.epoch,
    ns := Config.freeNs d.time.stamps % 1000000, src := src, inst := inst, obj := obj, detail := fit 40 detail } : EvtRec)
    { d with
      time := { d.time with stamps := d.time.stamps + 1 }
      evt := { d.evt with seq := d.evt.seq + 1, log := (({
        ty := ty, seq := d.evt.seq, urgent := urgent, engine := engine, epoch := d.time.epoch,
        ns := Config.freeNs d.time.stamps % 1000000, src := src, inst := inst, obj := obj, detail := fit 40 detail } : EvtRec)
        :: d.evt.log).take 384 } }
  exact ⟨h.epoch, h.rtc, h.fuse, h.pin, h.pwr, h.mbx, h.prov, h.boot, h.cli, h.pctr, h.line, h.cont, h.cctr, h.pm, h.pkt, h.prot,
    h.merge, h.mate, h.groom, h.tim, h.nvm⟩

theorem postEvt_records (ty src inst obj : Nat) (detail : Bytes) (d : Dev) : Records d (postEvt ty src inst obj detail d) :=
  postEvtAs_records _ _ _ _ _ _ _ _
theorem postThino_records (ty src inst obj : Nat) (detail : Bytes) (d : Dev) : Records d (postThino ty src inst obj detail d) :=
  postEvtAs_records _ _ _ _ _ _ _ _
theorem evtMate_records (ty obj : Nat) (detail : Bytes) (d : Dev) : Records d (evtMate ty obj detail d) :=
  records_trans (postEvt_records _ _ _ _ _ _) (raiseInt_records 13 _)
theorem evtTim_records (ty obj : Nat) (detail : Bytes) (d : Dev) : Records d (evtTim ty obj detail d) :=
  records_trans (postEvt_records _ _ _ _ _ _) (raiseInt_records 12 _)

theorem err_records (d : Dev) (v : ErrSt) : Records d { d with err := v } := by constructor <;> rfl

theorem loseErr_records (sev : Nat) (d : Dev) : Records d (loseErr sev d) :=
  records_trans (records_trans (setRb_records _ _ _ _) (satCtr_records _ _ _ _ _)) (setRb_records _ _ _ _)

theorem arriveErr_records (e : ErrRec) (d : Dev) : Records d (arriveErr e d) := by
  unfold arriveErr
  refine records_trans (b := wrapCtr (.errCnt e.sev) 31 0 1 d) (wrapCtr_records _ _ _ _ d) ?_
  generalize wrapCtr (.errCnt e.sev) 31 0 1 d = d
  dsimp only
  split
  · exact loseErr_records _ _
  · have h : Records d (gate (decide (d.err.queue.length ≥ 64)) (fun d => loseErr (minSev d.err.queue)
        { d with err := { d.err with queue := dropNewest (minSev d.err.queue) d.err.queue } }) d) :=
      records_gate (fun d => records_trans (err_records d _) (loseErr_records _ _)) _ _
    split
    · exact records_trans h (postEvtAs_records _ _ _ _ _ _ _ _)
    · exact records_trans (records_trans h (err_records _ _)) (records_gate (raiseInt_records 9) _ _)

/-- An error record only records. -/
theorem raiseErr_records (sev src inst code d0 d1 : Nat) (d : Dev) : Records d (raiseErr sev src inst code d0 d1 d) :=
  arriveErr_records _ d

/-- An access error only records. -/
theorem accErr_records (b : Nat) (q : Requester) (write : Bool) (off : Nat) (d : Dev) : Records d (accErr b q write off d) := by
  unfold accErr
  refine records_trans (records_trans (setRb_records .glbAccerr b true d) (setReg_records .glbAccerrAddr
    (BitVec.ofNat 32 (write.toNat * 2 ^ 28 + reqNo q * 2 ^ 26 + off % 2 ^ 26)) _)) ?_
  dsimp only
  split
  · exact satCtr_records _ _ _ _ _
  · exact records_trans (err_records _ _) (raiseErr_records _ _ _ _ _ _ _)

/-- A report of a host-assisted function only records. -/
theorem report_records (fn i reason : Nat) (content : Bytes) (d : Dev) : Records d (report fn i reason content d) := by
  unfold report
  split
  · exact records_refl d
  · exact records_trans (by constructor <;> rfl) (postEvtAs_records _ _ _ _ _ _ _ _)

/-! ### The cells to the mate -/

/-- Sending a cell changes the mate engine's SEQ and resend store and nothing else. -/
theorem sendCell_eq (ty : Nat) (p : Bytes) (d : Dev) : ∃ m, sendCell ty p d = { d with mate := m } := ⟨_, rfl⟩

theorem sendParts_eq (ty : Nat) (first : Bool) (k : Nat) (b : Bytes) (d : Dev) :
    ∃ m, sendParts ty first k b d = { d with mate := m } := by
  induction k generalizing first b d with
  | zero => exact ⟨d.mate, rfl⟩
  | succ k ih =>
    unfold sendParts
    split
    · exact ⟨d.mate, rfl⟩
    · obtain ⟨m, h⟩ := ih false (b.drop 52) (sendPart ty first (decide (b.length ≤ 52)) (b.take 52) d)
      exact ⟨m, by rw [h]; rfl⟩

theorem sendMsg_eq (ty k : Nat) (b : Bytes) (d : Dev) : ∃ m, sendMsg ty k b d = { d with mate := m } := sendParts_eq ty true k b d

theorem sendControl_eq (code ty seq epoch : Nat) (d : Dev) : ∃ m, sendControl code ty seq epoch d = { d with mate := m } := ⟨_, rfl⟩

/-- A forwarded record changes the mate engine alone. -/
theorem fwd_eq (kind obj atv : Nat) (b : Bytes) (d : Dev) : ∃ m, fwd kind obj atv b d = { d with mate := m } := by
  unfold fwd
  split
  · exact ⟨d.mate, rfl⟩
  · obtain ⟨m, h⟩ := sendMsg_eq 4 ((be 1 kind ++ be 1 (if kind = kAlign then 0 else 14 + b.length) ++ be 4 ((d.mate.dsent + 1) % 2 ^ 32)
      ++ be 4 obj ++ be 4 atv ++ b).length / 52 + 1) (be 1 kind ++ be 1 (if kind = kAlign then 0 else 14 + b.length)
      ++ be 4 ((d.mate.dsent + 1) % 2 ^ 32) ++ be 4 obj ++ be 4 atv ++ b)
      (modMate (fun m => { m with dsent := (d.mate.dsent + 1) % 2 ^ 32 }) d)
    exact ⟨m, by rw [h]; rfl⟩

end Sys2Proof.Laws
end

