-- ==== Sys2Proof/WellFormed.lean ====
section
/-! DEFINITION. Which commands are well formed: each operand is in the range that the manual gives it. -/

namespace Sys2Proof

open Sys2Proof.Machine

/-- The operands of a command are in range. A command that is not well formed names nothing of the device. -/
def Instr.wellFormed : Instr → Bool
  | .bootInfo q => isReq q
  | .recoveryEnter q => isReq q
  | .jtagUnlock q => isReq q
  | .updBegin q => isReq q
  | .updWrite q => isReq q
  | .updCommit q => isReq q
  | .updAbort q => isReq q
  | .updConfirm q => isReq q
  | .updStatus q => isReq q
  | .objSet q => isReq q
  | .objDel q => isReq q
  | .objGet q => isReq q
  | .commit q => isReq q
  | .commitCancel q => isReq q
  | .shadowRevert q => isReq q
  | .commitStatus q => isReq q
  | .funcReinit q => isReq q
  | .sliceReady n => isSlice n
  | .store q => isReq q
  | .storeSetCommit _ => true
  | .sliceLoad q => isReq q
  | .resizePropose q => isReq q
  | .inventory q => isReq q
  | .health q => isReq q
  | .pmRead q => isReq q
  | .pmClear q => isReq q
  | .lastGaspRead q => isReq q
  | .lastGaspAck q => isReq q
  | .evtLogRead q => isReq q
  | .refCfg q => isReq q
  | .dpllCfg q => isReq q
  | .dpllClear q => isReq q
  | .dpllForce q => isReq q
  | .dpllManual q => isReq q
  | .dpllLockout q => isReq q
  | .dpllUnlock q => isReq q
  | .dpllHoldover q => isReq q
  | .dpllFreerun q => isReq q
  | .dpllRelearn q => isReq q
  | .dpllTemp q => isReq q
  | .align q => isReq q
  | .holdoverLoad q => isReq q
  | .timeStatus q => isReq q
  | .apsClear q => isReq q
  | .apsLockout q => isReq q
  | .apsForcedProtection q => isReq q
  | .apsForcedWorking q => isReq q
  | .apsManualProtection q => isReq q
  | .apsManualWorking q => isReq q
  | .apsExercise q => isReq q
  | .mergeAutomatic q => isReq q
  | .mergeForcePathA q => isReq q
  | .mergeForcePathB q => isReq q
  | .mergeRestartAlignment q => isReq q
  | .protStatus q => isReq q
  | .mateStatus q => isReq q
  | .mateSwitch q => isReq q
  | .mateJoinClear q => isReq q
  | .mateJoinSet q => isReq q
  | .mateJoinRejoin q => isReq q
  | .mateDigest q => isReq q
  | .assistDecide q => isReq q
  | .assistResume q => isReq q
  | .assistList q => isReq q
  | .mirroredExec => true
  | .mbxDoorbell _ c tail => isChannel c && decide (tail < 128)
  | .mbxChannelReset _ c key _ => isChannel c && isHalf key
  | .glbRstWarm _ key => isHalf key
  | .glbRstPwrCycle _ key _ => isHalf key
  | .glbCpuRestartGo _ key => isHalf key
  | .pwrCapWrite _ _ => true
  | .pwrHostHold _ _ => true
  | .pwrHostDrop _ _ => true
  | .pwrRailClr _ _ => true
  | .domainFaultClear _ n cnt => isDom n && isByte cnt
  | .wideSelWrite _ _ => true
  | .wideRecapture _ => true
  | .wideWrite _ _ => true
  | .wideCaptureDone _ => true
  | .errInjGo _ key sev => isHalf key && decide (sev < 8)
  | .evtCtlReset _ _ => true
  | .evtEnable _ => true
  | .pctrClrGo _ key banks => isHalf key && decide (banks < 128)
  | .nvmJtagRelock _ => true
  | .qmClear _ n space index => isSlice n && decide (space < 4) && isHalf index
  | .pmonPhaseWrite _ _ => true
  | .msixUnmask _ k => decide (k < 16)
  | .registerWrite _ _ _ _ _ => true
  | .spiRead o _ _ => isOffset o
  | .spiWrite o _ _ => isOffset o
  | .spiStatus => true
  | .i2cWrite o _ => isI2cAddr o.addr && isOffset o.off
  | .i2cRead o _ _ => isI2cAddr o.addr && isOffset o.off
  | .perstNRise => true
  | .pcieLinkTrainingStart => true
  | .pf0Flr => true
  | .pf1Flr => true
  | .pf0D3hotEntry _ => true
  | .pf0DmaResume => true
  | .evtHoldoffExpiry => true
  | .evtPostOnRoom => true
  | .registerRead _ _ _ _ => true
  | .perstNFall => true
  | .porNFall => true
  | .coldStart straps => decide (straps < 128)
  | .warmRstPin => true
  | .brownout => true
  | .brownoutEnd _ straps => decide (straps < 128)
  | .commonRailEnable => true
  | .railPgTimeout k => isEn k
  | .romBoot => true
  | .thinoStart => true
  | .bootReady => true
  | .bootWdtExpiry => true
  | .cpuWdtExpiry => true
  | .cpuRestartDone => true
  | .pfwNFall ns => isNs ns
  | .lastGaspWritten => true
  | .pfwNRise => true
  | .pfwLift => true
  | .errHandle => true
  | .jtagExpiry => true
  | .warmRstNRise => true
  | .romStartTimeout => true
  | .railExcursionShort k => isRail k
  | .domainFault n cause => isDom n && (cause == 1 || cause == 2)
  | .pseqPgFall k => isEn k
  | .pseqPgRise k => isEn k
  | .pmbAlert k addr statusByte statusWord => isRail k && isByte addr && isByte statusByte && isHalf statusWord
  | .pmbusPoll _ => true
  | .avsStep k => isRegion k
  | .thermalReading r celsius => isRegion r && isTemp celsius
  | .thermRearm r => isRegion r
  | .sliceThermalRejoin n => isSlice n
  | .regionSkewAlarm kind values => (kind == 1 || kind == 2) && values.length == 5
  | .regionRejoin n => isSlice n
  | .xoInLoss => true
  | .wakeRequest rank n => isRank rank && isDom n
  | .domainReady n => isDom n
  | .domainSleep n => isDom n
  | .d2IdleSleep => true
  | .sliceRailOff n => isSlice n
  | .memIdleSelfRefresh g => isMem g
  | .memScrubWake g => isMem g
  | .faultRewake n => isDom n
  | .powerSwitchedOff n => isDom n
  | .vddAonWriteGuard _ => true
  | .vddIo18Excursion k _ => k == 8 || k == 9
  | .epochBoundary => true
  | .commitEnterService => true
  | .calendarChange p => isPort p
  | .assistTimeout _ _ ns => isNs ns
  | .pmSecondBoundary => true
  | .pmBinFinal _ => true
  | .failureDeclare i c => isPoint i && isClass c
  | .failureClear i c => isPoint i && isClass c
  | .pmFailureReport i reason => isPoint i && (reason == 1 || reason == 2)
  | .pctrWindowEnd => true
  | .pctrDumpWritten => true
  | .laneSignalDetect line n k _ => isSlice n && isLane line k
  | .laneCdrLock line n k => isSlice n && isLane line k
  | .laneAdapted line n k => isSlice n && isLane line k
  | .clientLosChange i _ => isClient i
  | .clientDefectChange i b _ _ => isClient i && decide (b < 64)
  | .macFrameRx i _ ns => isClient i && isNs ns
  | .esmcPduRx i _ => isClient i
  | .esmcTimeout i => isClient i
  | .esmcInfoPduTx i => isClient i
  | .clientFaultRx i _ _ => isClient i
  | .prbsCheckerLock n k _ _ => isSlice n && isLane false k
  | .egressFrameTx i => isClient i
  | .flexoMarker p k _ _ _ _ _ _ _ => isPort p && decide (k < 16)
  | .flexoLof p => isPort p
  | .fecCodeword line i _ => if line then isPort i else isClient i
  | .otucFrameRx p _ => isPort p
  | .lofChange p => isPort p
  | .lomChange p => isPort p
  | .lineTxFrame p ns _ => isPort p && isNs ns
  | .beaconRx p _ => isPort p
  | .ohxOutFrame p => isPort p
  | .ohxInFrame p _ _ => isPort p
  | .ohxInLos p => isPort p
  | .zpcMarkerRx c _ _ => isCont c
  | .zpcHeaderRx c _ _ => isCont c
  | .gfpCoreHeaderRx c _ _ => isCont c
  | .rxPtChange c pt => isCont c && isByte pt
  | .gmpJcRx c _ _ j _ => isCont c && decide (j.stage < 2)
  | .extfcRecordRx c _ mfas => isCont c && isByte mfas
  | .mirrorMiss c => isCont c
  | .csfMgmtFrameTx c => isCont c
  | .csfMgmtFrameRx c _ => isCont c
  | .csfClearTimeout c => isCont c
  | .lcrAckRx c _ => isCont c
  | .lcrSwitch c => isCont c
  | .bwrRampComplete c => isCont c
  | .lcrTimeout c => isCont c
  | .ctxAnnounceRx c ctx gen _ => isCont c && isFlow ctx && isByte gen
  | .ctxAckRx c ctx gen _ => isCont c && isFlow ctx && isByte gen
  | .ctxWithdrawRx c ctx gen _ => isCont c && isFlow ctx && isByte gen
  | .ctxResyncReqRx c ctx gen _ => isCont c && isFlow ctx && isByte gen
  | .clientFaultFrameRx c _ => isCont c
  | .dataCRx c ctx gen _ _ => isCont c && isFlow ctx && isByte gen
  | .dataFRx c ctx _ _ _ => isCont c && isFlow ctx
  | .annRetryExpiry t => isFlow t.flow && t.wdr.all isCont
  | .annReattemptExpiry f => isFlow f
  | .resyncHoldRepeat c => isCont c
  | .clientFaultRefreshTx i => isClient i
  | .clientFaultRxTimeout c far => isCont c && isByte far
  | .zpcEncapFrame c => isCont c
  | .lineAssemblyUnit c _ => isCont c
  | .assemblyUnitHandoff c => isCont c
  | .prefetchBlockArrive n egress i => isSlice n && isQueue n egress i
  | .flushBoundary f => isFlow f
  | .staleTimerExpiry n space i => isSlice n && (space == 1 || space == 2) && isHalf i
  | .queueSweepDone n _ => isSlice n
  | .memcGrantRound r => r.demands.length == 4 && r.merge.length == 4
  | .memcBurstEdcFail iface failed n egress i => decide (iface < 16) && decide (failed < 4) && isSlice n && isQueue n egress i
  | .memcRetrainDone g _ => isMem g
  | .memcTrainingDone g trained => isMem g && decide (trained < 16)
  | .resizeProposeRx p _ => isPort p
  | .resizeAckRx p _ => isPort p
  | .resizeNakRx p _ => isPort p
  | .resizeAbortRx p _ => isPort p
  | .resizeSwitchRx p _ => isPort p
  | .resizeDoneRx p _ => isPort p
  | .resizeAckTmo p => isPort p
  | .resizeResponderTmo p => isPort p
  | .resizeTxSwitch p => isPort p
  | .resizeRxSwitch p => isPort p
  | .freshClear p => isPort p
  | .sfSdChange g => isPg g
  | .apsHoldoffExpiry g => isPg g
  | .apsWtrExpiry g => isPg g
  | .apsRxAccept g aps => isPg g && aps.length == 4
  | .fopTimerExpiry g => isPg g
  | .slalomUnitArrival g path _ _ _ _ => isMg g && decide (path < 2)
  | .slalomDueDelivery g _ => isMg g
  | .rejoinHoldExpiry g => isMg g
  | .firstArrivalBlock g path _ _ _ _ _ => isMg g && decide (path < 2)
  | .restartDiscardTimeout g => isMg g
  | .heartbeatTx => true
  | .heartbeatRx payload _ _ => payload.length == 52
  | .heartbeatLoss => true
  | .mateLinkUp => true
  | .mateLinkDown => true
  | .mateCellError ty seq => isByte ty && isHalf seq
  | .mateNakRx ty seq => isByte ty && isHalf seq
  | .commandMsgRx _ => true
  | .resultRx _ => true
  | .decisionJust _ => true
  | .decisionAdmit _ => true
  | .decisionStall _ => true
  | .decisionContext _ => true
  | .decisionAlign _ => true
  | .decisionProt _ => true
  | .decisionMerge _ => true
  | .decisionResize _ => true
  | .decisionTiming _ => true
  | .digestRx digests _ => digests.length == 12
  | .joinBoundaryS epoch mfas => decide (epoch < 2 ^ 48) && mfas.length == 4
  | .stateImageInstalled _ => true
  | .joinAtRx j => decide (j < 2 ^ 48)
  | .joinEpochJ => true
  | .handoverRx => true
  | .handoverAckRx => true
  | .handoverReqRx => true
  | .handoverAckTimeout => true
  | .actNReleased _ => true
  | .actNProbe _ => true
  | .claimTimerExpiry => true
  | .phaseAlarmRaise => true
  | .phaseAlarmClear => true
  | .sramScrubPass src block _ _ _ _ => isHalf src && isByte block
  | .spillScrubPass g _ _ => isMem g
  | .bistRun ty block _ => isHalf ty && isByte block
  | .refMeasurement _ _ => true
  | .refLos r _ => isRef r
  | .refHoldoffExpiry r => isRef r
  | .refWtrExpiry r => isRef r
  | .dpllLocked i => isDpll i
  | .anchorValid i => isDpll i
  | .glideMinuteRecord i _ _ => isDpll i
  | .glideFit i model _ => isDpll i && model.length == 36
  | .glideStale i => isDpll i
  | .xoWarmupExpiry i => isDpll i
  | .ppsOutPulse => true
  | .fpOutPulse => true
  | .alignApply _ => true
  | .refLosClear r => isRef r

end Sys2Proof
end

