-- ==== Sys2Proof/Tests/Slice0.lean ====
section
/-! SUPPORT. Tests: ill-formed commands, single steps on small states, and for each statement with hypotheses states and operands that
meet them. Hypotheses on values that the manual leaves open (hashes, signatures, validity of a microcode part) have no witness: nothing
proves a value of them. -/

namespace Sys2Proof.Tests

set_option Elab.async false

open Sys2Proof.Machine Sys2Proof.Spec

/-! ### States for the tests -/

/-- A device that runs with every domain READY and Thino started. -/
def live : Dev where
  pin := { porN := true, perstN := true, pseqEn := 0xFF, pseqPg := 0xFF }
  pwr := { doms := (List.range 24).map fun n => (n, { st := .ready }) }
  boot := { thino := true, exposed := true }
  host := { training := true }

/-- A device as a state. -/
def at_ (d : Dev) : State := { dev := d }

/-- A device with records in service. -/
def withServ (l : Tbl Bytes) (d : Dev) : Dev := { d with prov := { d.prov with serv := l } }

/-- The same at epoch e. -/
def atEpoch (e : Nat) (d : Dev) : Dev := { d with time := { d.time with epoch := BitVec.ofNat 48 e } }

/-- A request with TAG 7 on the channel of its opcode, its payload filled with zeros to the least LENGTH. -/
def rq (op : Nat) (b : Bytes) : Req :=
  { ch := opcodeChannel op, tag := 7, chField := opcodeChannel op, payload := b ++ zeros ((opLength op).1 - b.length), ns := 0 }

/-- A device with a request at the head of its ring: header, payload and MBX_DB. -/
def asked (op : Nat) (q : Req) (d : Dev) : State where
  dev := setRf (.mbxDb q.ch) 6 0 1 d
  mem := wrBytes [] (reqSlot q.ch 0) (be 2 op ++ be 2 q.tag.toNat ++ be 2 q.payload.length ++ zeros 4 ++ be 1 q.chField ++ zeros 5 ++ q.payload)
def ask (op : Nat) (b : Bytes) (d : Dev) : State := asked op (rq op b) d

/-- A request that is served, as a Bool, on a device without an active mate: all but its readiness, and the whole. -/
def reachedB (op : Nat) (q : Req) (s : State) : Bool :=
  isReq q && powered s.dev && atHead op q s.sys && (logged s.dev q).isNone && (headerRefusal s.dev op q).isNone
    && !q.internal && !s.dev.mate.active
def servedB (op : Nat) (q : Req) (s : State) : Bool :=
  reachedB op q s && !stalls op { x := now s.dev, mirrored := false } q s.sys
def reach (op : Nat) (b : Bytes) (d : Dev) : Bool := reachedB op (rq op b) (ask op b d)
def srv (op : Nat) (b : Bytes) (d : Dev) : Bool := servedB op (rq op b) (ask op b d)

theorem served_of {op : Nat} {q : Req} {s : State} (h : servedB op q s = true) : Served op q s := by
  simp only [servedB, reachedB, Bool.and_eq_true, Option.isNone_iff_eq_none, Bool.not_eq_true'] at h
  obtain ⟨⟨⟨⟨⟨⟨⟨h1, h2⟩, h3⟩, h4⟩, h5⟩, h6⟩, h8⟩, h7⟩ := h
  exact ⟨h1, h2, h3, h4, h5, h6, h7, fun _ ha => absurd ha (by simp [h8])⟩

/-- TIME_STATUS and SLICE_LOAD, whose answers rest on values that the manual leaves open, never wait. -/
theorem timeStatus_never_stalls (c : Ctx) (q : Req) (x : Sys) : stalls 0x0306 c q x = false := by
  simp only [stalls, runOp, Machine.ask, timeStatusCmd, success, badParam]
  (repeat' split) <;> simp
theorem sliceLoad_never_stalls (c : Ctx) (q : Req) (x : Sys) : stalls 0x010A c q x = false := by
  simp only [stalls, runOp, sliceLoad, success, badParam, status]
  (repeat' split) <;> simp

/-! ### Commands that are not well formed -/

/-! Each operand out of its range is refused by the check of well-formedness. -/

theorem test_ill_formed_1 : ([
    .bootInfo { rq 1 [] with ch := 8 }, .recoveryEnter { rq 1 [] with ch := 8 }, .jtagUnlock { rq 1 [] with ch := 8 },
    .updBegin { rq 1 [] with ch := 8 }, .updWrite { rq 1 [] with ch := 8 }, .updCommit { rq 1 [] with ch := 8 },
    .updAbort { rq 1 [] with ch := 8 }, .updConfirm { rq 1 [] with ch := 8 }, .updStatus { rq 1 [] with ch := 8 },
    .objSet { rq 1 [] with ch := 8 }, .objDel { rq 1 [] with ch := 8 }, .objGet { rq 1 [] with ch := 8 },
    .commit { rq 1 [] with ch := 8 }, .commitCancel { rq 1 [] with ch := 8 }, .shadowRevert { rq 1 [] with ch := 8 },
    .commitStatus { rq 1 [] with ch := 8 }, .funcReinit { rq 1 [] with ch := 8 }, .sliceReady 4,
    .store { rq 1 [] with ch := 8 }, .sliceLoad { rq 1 [] with ch := 8 }, .resizePropose { rq 1 [] with ch := 8 },
    .inventory { rq 1 [] with ch := 8 }, .health { rq 1 [] with ch := 8 }, .pmRead { rq 1 [] with ch := 8 },
    .pmClear { rq 1 [] with ch := 8 }, .lastGaspRead { rq 1 [] with ch := 8 }, .lastGaspAck { rq 1 [] with ch := 8 },
    .evtLogRead { rq 1 [] with ch := 8 }, .refCfg { rq 1 [] with ch := 8 }, .dpllCfg { rq 1 [] with ch := 8 },
    .dpllClear { rq 1 [] with ch := 8 }, .dpllForce { rq 1 [] with ch := 8 }, .dpllManual { rq 1 [] with ch := 8 },
    .dpllLockout { rq 1 [] with ch := 8 }, .dpllUnlock { rq 1 [] with ch := 8 }, .dpllHoldover { rq 1 [] with ch := 8 },
    .dpllFreerun { rq 1 [] with ch := 8 }, .dpllRelearn { rq 1 [] with ch := 8 }, .dpllTemp { rq 1 [] with ch := 8 },
    .align { rq 1 [] with ch := 8 }, .holdoverLoad { rq 1 [] with ch := 8 }, .timeStatus { rq 1 [] with ch := 8 },
    .apsClear { rq 1 [] with ch := 8 }, .apsLockout { rq 1 [] with ch := 8 }, .apsForcedProtection { rq 1 [] with ch := 8 },
    .apsForcedWorking { rq 1 [] with ch := 8 }, .apsManualProtection { rq 1 [] with ch := 8 },
    .apsManualWorking { rq 1 [] with ch := 8 }, .apsExercise { rq 1 [] with ch := 8 }, .mergeAutomatic { rq 1 [] with ch := 8 },
    .mergeForcePathA { rq 1 [] with ch := 8 }, .mergeForcePathB { rq 1 [] with ch := 8 },
    .mergeRestartAlignment { rq 1 [] with ch := 8 }, .protStatus { rq 1 [] with ch := 8 }, .mateStatus { rq 1 [] with ch := 8 },
    .mateSwitch { rq 1 [] with ch := 8 }, .mateJoinClear { rq 1 [] with ch := 8 }, .mateJoinSet { rq 1 [] with ch := 8 },
    .mateJoinRejoin { rq 1 [] with ch := 8 }, .mateDigest { rq 1 [] with ch := 8 }] : List Instr).all (fun c => !c.wellFormed) = true := by decide
theorem test_ill_formed_2 : ([
    .assistDecide { rq 1 [] with ch := 8 }, .assistResume { rq 1 [] with ch := 8 }, .assistList { rq 1 [] with ch := 8 },
    .mbxDoorbell .pf0 8 0, .mbxDoorbell .pf0 0 128, .mbxChannelReset .pf0 8 0 false, .mbxChannelReset .pf0 0 65536 false,
    .glbRstWarm .pf0 65536, .glbRstPwrCycle .pf0 65536 false, .glbCpuRestartGo .pf0 65536, .domainFaultClear .pf0 24 0,
    .domainFaultClear .pf0 0 256, .errInjGo .pf0 65536 0, .errInjGo .pf0 0 8, .pctrClrGo .pf0 65536 0, .pctrClrGo .pf0 0 128,
    .qmClear .pf0 4 0 0, .qmClear .pf0 0 4 0, .qmClear .pf0 0 0 65536, .msixUnmask false 16, .spiRead (2 ^ 32) 0 false,
    .spiWrite (2 ^ 32) [] false, .i2cWrite ⟨0x5C, 2 ^ 32⟩ [], .i2cWrite ⟨128, 0⟩ [], .i2cRead ⟨128, 0⟩ 0 false, .i2cRead ⟨0x5C, 2 ^ 32⟩ 0 false, .coldStart 128, .brownoutEnd false 128,
    .railPgTimeout 8, .pfwNFall 1000000, .railExcursionShort 10, .domainFault 24 1, .domainFault 0 3, .pseqPgFall 8,
    .pseqPgRise 8, .pmbAlert 10 0 0 0, .pmbAlert 0 256 0 0, .pmbAlert 0 0 256 0, .pmbAlert 0 0 0 65536, .avsStep 5,
    .thermalReading 5 0, .thermalReading 0 128, .thermRearm 5, .sliceThermalRejoin 4, .regionSkewAlarm 3 (List.replicate 5 0),
    .regionSkewAlarm 1 [], .regionRejoin 4, .wakeRequest 4 0, .wakeRequest 0 24, .domainReady 24, .domainSleep 24,
    .sliceRailOff 4, .memIdleSelfRefresh 4, .memScrubWake 4, .faultRewake 24, .powerSwitchedOff 24, .vddIo18Excursion 7 false,
    .calendarChange 4, .assistTimeout 0 0 1000000, .failureDeclare 16384 0, .failureDeclare 0 8, .failureClear 16384 0] : List Instr).all (fun c => !c.wellFormed) = true := by decide
theorem test_ill_formed_3 : ([
    .failureClear 0 8, .pmFailureReport 16384 1, .pmFailureReport 0 3, .laneSignalDetect false 4 0 false,
    .laneSignalDetect false 0 16 false, .laneSignalDetect true 0 8 false, .laneCdrLock false 4 0, .laneCdrLock false 0 16,
    .laneCdrLock true 0 8, .laneAdapted false 4 0, .laneAdapted false 0 16, .laneAdapted true 0 8, .clientLosChange 64 false,
    .clientDefectChange 64 0 false {}, .clientDefectChange 0 64 false {}, .macFrameRx 64 [] 0, .macFrameRx 0 [] 1000000,
    .esmcPduRx 64 [], .esmcTimeout 64, .esmcInfoPduTx 64, .clientFaultRx 64 false false, .prbsCheckerLock 4 0 false 0,
    .prbsCheckerLock 0 16 false 0, .egressFrameTx 64, .flexoMarker 4 0 0 0 false 0 0 0 false,
    .flexoMarker 0 16 0 0 false 0 0 0 false, .flexoLof 4, .fecCodeword true 4 0, .fecCodeword false 64 0,
    .otucFrameRx 4 default, .lofChange 4, .lomChange 4, .lineTxFrame 4 0 [], .lineTxFrame 0 1000000 [], .beaconRx 4 [],
    .ohxOutFrame 4, .ohxInFrame 4 false [], .ohxInLos 4, .zpcMarkerRx 1024 0 [], .zpcHeaderRx 1024 0 ⟨[], []⟩,
    .gfpCoreHeaderRx 1024 0 ⟨[], []⟩, .rxPtChange 1024 0, .rxPtChange 0 256, .gmpJcRx 1024 0 0 ⟨false, false, 1⟩ none, .gmpJcRx 0 0 0 ⟨true, true, 2⟩ none, .extfcRecordRx 1024 [] 0,
    .extfcRecordRx 0 [] 256, .mirrorMiss 1024, .csfMgmtFrameTx 1024, .csfMgmtFrameRx 1024 [],
    .csfClearTimeout 1024, .lcrAckRx 1024 false, .lcrSwitch 1024, .bwrRampComplete 1024, .lcrTimeout 1024,
    .ctxAnnounceRx 1024 0 0 [], .ctxAnnounceRx 0 (2 ^ 18) 0 [], .ctxAnnounceRx 0 0 256 [], .ctxAckRx 1024 0 0 [],
    .ctxAckRx 0 (2 ^ 18) 0 []] : List Instr).all (fun c => !c.wellFormed) = true := by decide
theorem test_ill_formed_4 : ([
    .ctxAckRx 0 0 256 [], .ctxWithdrawRx 1024 0 0 [], .ctxWithdrawRx 0 (2 ^ 18) 0 [], .ctxWithdrawRx 0 0 256 [],
    .ctxResyncReqRx 1024 0 0 [], .ctxResyncReqRx 0 (2 ^ 18) 0 [], .ctxResyncReqRx 0 0 256 [], .clientFaultFrameRx 1024 [],
    .dataCRx 1024 0 0 false [], .dataCRx 0 (2 ^ 18) 0 false [], .dataCRx 0 0 256 false [], .dataFRx 1024 0 false false [],
    .dataFRx 0 (2 ^ 18) false false [], .annRetryExpiry ⟨2 ^ 18, none⟩, .annRetryExpiry ⟨0, some 1024⟩, .annReattemptExpiry (2 ^ 18), .resyncHoldRepeat 1024,
    .clientFaultRefreshTx 64, .clientFaultRxTimeout 1024 0, .clientFaultRxTimeout 0 256, .zpcEncapFrame 1024,
    .lineAssemblyUnit 1024 0, .assemblyUnitHandoff 1024, .prefetchBlockArrive 4 false 0, .prefetchBlockArrive 0 false (2 ^ 18),
    .prefetchBlockArrive 0 true 128, .flushBoundary (2 ^ 18), .staleTimerExpiry 4 1 0, .staleTimerExpiry 0 3 0,
    .staleTimerExpiry 0 1 65536, .queueSweepDone 4 false, .memcGrantRound ⟨[], 0, List.replicate 4 0⟩, .memcGrantRound ⟨List.replicate 4 0, 0, []⟩, .memcBurstEdcFail 16 0 0 false 0,
    .memcBurstEdcFail 0 4 0 false 0, .memcBurstEdcFail 0 0 4 false 0, .memcBurstEdcFail 0 0 0 false (2 ^ 18),
    .memcBurstEdcFail 0 0 0 true 128, .memcRetrainDone 4 false, .memcTrainingDone 4 0, .memcTrainingDone 0 16,
    .resizeProposeRx 4 [], .resizeAckRx 4 [], .resizeNakRx 4 [], .resizeAbortRx 4 [], .resizeSwitchRx 4 [], .resizeDoneRx 4 [],
    .resizeAckTmo 4, .resizeResponderTmo 4, .resizeTxSwitch 4, .resizeRxSwitch 4, .freshClear 4, .sfSdChange 512,
    .apsHoldoffExpiry 512, .apsWtrExpiry 512, .apsRxAccept 512 (List.replicate 4 0), .apsRxAccept 0 [], .fopTimerExpiry 512,
    .slalomUnitArrival 256 0 0 0 false [], .slalomUnitArrival 0 2 0 0 false [], .slalomDueDelivery 256 0, .rejoinHoldExpiry 256] : List Instr).all (fun c => !c.wellFormed) = true := by decide
theorem test_ill_formed_5 : ([
    .firstArrivalBlock 256 0 0 0 false false [], .firstArrivalBlock 0 2 0 0 false false [], .restartDiscardTimeout 256,
    .heartbeatRx [] 0 0, .mateCellError 256 0, .mateCellError 0 65536, .mateNakRx 256 0, .mateNakRx 0 65536, .digestRx [] [],
    .joinBoundaryS (2 ^ 48) (List.replicate 4 0), .joinBoundaryS 0 [], .joinAtRx (2 ^ 48), .sramScrubPass 65536 0 0 0 [] [],
    .sramScrubPass 0 256 0 0 [] [], .spillScrubPass 4 0 [], .bistRun 65536 0 false, .bistRun 0 256 false, .refLos 24 none,
    .refHoldoffExpiry 24, .refWtrExpiry 24, .dpllLocked 4, .anchorValid 4, .glideMinuteRecord 4 0 0,
    .glideFit 4 (List.replicate 36 0) 0, .glideFit 0 [] 0, .glideStale 4, .xoWarmupExpiry 4, .refLosClear 24] : List Instr).all (fun c => !c.wellFormed) = true := by decide
/-- The limits themselves are in range. -/
theorem test_well_formed : ([
    .bootInfo (rq 1 []), .sliceReady 3, .mbxDoorbell .pf0 7 127, .domainFaultClear .pf0 23 255, .errInjGo .pf0 65535 7,
    .coldStart 127, .railPgTimeout 7, .railExcursionShort 9, .domainFault 23 2, .avsStep 4, .wakeRequest 3 23, .calendarChange 3,
    .failureDeclare 16383 7, .laneCdrLock false 3 15, .laneCdrLock true 3 7, .flexoMarker 3 15 0 0 true 0 0 0 false, .rxPtChange 1023 255,
    .ctxAckRx 1023 (2 ^ 18 - 1) 255 [], .sfSdChange 511, .slalomDueDelivery 255 0, .joinAtRx (2 ^ 48 - 1), .refLos 23 none,
    .dpllLocked 3] : List Instr).all Instr.wellFormed = true := by decide

/-! ### Steps -/

/-- A command that is not well formed changes nothing. -/
theorem test_ill_formed_step : Machine.exec (.domainReady 24) (at_ live) = .next (at_ live) := rfl
/-- A step takes the command at the front of the queue. -/
theorem test_step : step { dev := live, pending := [.mateLinkUp, .epochBoundary] } = .next { dev := live, pending := [.epochBoundary] } := rfl
/-- COLD_START from the state after reset latches the straps and lets D0 run. -/
theorem test_cold_start : (match Machine.exec (.coldStart 5) State.reset with
    | .next t => some (powered t.dev, rf t.dev .glbStrap 6 0, rb t.dev .glbRstCause 0)
    | _ => none) = some (true, 5, true) := by decide

/-! ### Witnesses: the queue, reset, memories -/

theorem witness_HeldInResetNothingHappens : powered State.reset.dev = false ∧ reachesReset .epochBoundary = false := by decide +kernel
theorem witness_EveryStepKeepsTheMemoryForm :
    Memory.wf (ask 0x0001 [] live).mem = true ∧ ∃ t, step (ask 0x0001 [] live) = .next t := ⟨by decide +kernel, _, rfl⟩
theorem witness_MemoryReadsWhatWasWritten : Memory.wf (ask 0x0001 [] live).mem = true ∧ (0 < 1 ∨ 1 + [(3 : Byte)].length ≤ 0) := by decide +kernel

/-! ### Witnesses: mailbox commands -/

theorem witness_QueriesAnswerWithTheirFields :
    ([0x0001, 0x0015, 0x0107, 0x0201, 0x0202, 0x0501].all fun op => srv op [] live) = true ∧
    ([4, 0xF, 0, 3, 0x10, 0x17, 0x18, 0x19].all fun t => reach 0x0306 [t] live) = true ∧
    (let d := withServ [(okey 7 511, zeros 32), (okey 8 255, zeros 32)] live
     srv 0x0403 ([0, 0, 0, 0] ++ be 4 511) d = true ∧ hasPg d 511 = true ∧
     srv 0x0403 ([1, 0, 0, 0] ++ be 4 255) d = true ∧ hasMg d 255 = true) := by decide +kernel

theorem witness_ReadsAnswerWhatTheDeviceHolds :
    (srv 0x0103 ([0x0A, 0, 1, 0] ++ be 4 3) live = true ∧ recLen 0x0A 3 ≠ 0 ∧ 0 < parts (recLen 0x0A 3) ∧ indexOk 0x0A 3 = true) ∧
    (srv 0x0203 (be 4 16383 ++ be 2 0x160) live = true ∧ binSel 0x160 = some 99) ∧
    (let d (st : Nat) : Dev := { live with nvm := { live.nvm with gasp := some { bytes := [1], state := st } } }
     let w (d : Dev) : Dev := wakeNvm (taken (rq 0x0205 (be 4 0 ++ be 2 236)) (ask 0x0205 (be 4 0 ++ be 2 236) d).dev)
     srv 0x0205 (be 4 0 ++ be 2 236) (d 1) = true ∧ domReady (w (d 1)) 2 = true ∧ (w (d 1)).nvm.gasp.map (·.state) = some 1 ∧
     srv 0x0205 (be 4 0 ++ be 2 236) (d 2) = true ∧ domReady (w (d 2)) 2 = true ∧ (w (d 2)).nvm.gasp.map (·.state) = some 2) ∧
    srv 0x0205 (be 4 0 ++ be 2 236) live = true ∧ srv 0x0207 [0, 0, 3] live = true ∧ srv 0x0207 [0, 0, 1] live = true ∧
    srv 0x0504 [1] live = true ∧ srv 0x0603 [9] live = true ∧ srv 0x0603 [1] live = true := by decide +kernel

/-- A client record part in range, and one whose MODE of a function-mode record is out of range. -/
theorem witness_ShadowTablesAreEdited :
    (srv 0x0101 ([0x0B, 0] ++ be 2 8 ++ be 4 (2 ^ 24) ++ [1, 1, 0, 10, 0, 0, 0, 0]) live = true ∧ recLen 0x0B (2 ^ 24) = 8 ∧
      indexOk 0x0B (2 ^ 24) = true ∧ checkPart 0x0B (2 ^ 24) 0 [1, 1, 0, 10, 0, 0, 0, 0] = none) ∧
    (srv 0x0101 ([0x0B, 0] ++ be 2 8 ++ be 4 (2 ^ 24) ++ [1, 2, 0, 10, 0, 0, 0, 0]) live = true ∧
      checkPart 0x0B (2 ^ 24) 0 [1, 2, 0, 10, 0, 0, 0, 0] = some 1) ∧
    (srv 0x0102 ([0x0B, 0] ++ be 2 8 ++ be 4 (2 ^ 24)) live = true ∧ srv 0x0106 [] live = true) ∧
    (1 < parts (recLen 4 0x100000) ∧ (zeros 32).length = min 232 (recLen 4 0x100000 - 232 * 1)) := by decide +kernel

/-- The least epoch two ahead; a commit at the limit of cancelling, and one past it; four pending. -/
theorem witness_CommitsAreAcceptedOrRefused :
    let p (l : List (Nat × Nat)) (d : Dev) : Dev :=
      { d with prov := { d.prov with pend := l.map fun e => { id := e.1, epoch := e.2, tables := [] } } }
    (srv 0x0104 (be 6 7) (atEpoch 5 live) = true ∧ now (atEpoch 5 live) + 2 ≤ 7) ∧
    srv 0x0104 (be 6 0) (atEpoch 5 live) = true ∧
    (srv 0x0104 (be 6 0) (p [(1, 9)] (atEpoch 5 live)) = true ∧ srv 0x0104 (be 6 9) (p [(1, 9)] (atEpoch 5 live)) = true) ∧
    (srv 0x0105 (be 2 1) (p [(1, 7)] (atEpoch 5 live)) = true ∧ srv 0x0105 (be 2 1) (p [(1, 6)] (atEpoch 5 live)) = true ∧
      srv 0x0105 (be 2 2) (p [(1, 6)] (atEpoch 5 live)) = true) ∧
    (srv 0x0104 (be 6 99) (p [(1, 7), (2, 8), (3, 9), (4, 10)] (atEpoch 5 live)) = true ∧ srv 0x0104 (be 6 6) (atEpoch 5 live) = true) := by
  decide +kernel
theorem witness_CommitOfEmptyTables : (commitRefusal (taken (rq 0x0104 (be 6 7)) (ask 0x0104 (be 6 7) (atEpoch 5 live)).dev)).isNone = true := by
  decide +kernel

theorem witness_ReinitialisationRepairsWhatItNames :
    (srv 0x0108 (be 2 0x11 ++ [3, 0] ++ be 4 15) live = true ∧ reinitLimit 0x11 = some (3, 15) ∧ typePart 0x11 = 3 ∧
      live.nvm.upd = 0) ∧
    reloadFails live 3 = false ∧
    (srv 0x0108 (be 2 0x04 ++ [0, 0] ++ be 4 0) live = true ∧ reinitLimit 0x04 = some (0, 0) ∧ typePart 0x04 = 0) ∧
    (srv 0x0108 (be 2 0 ++ [3, 0x80] ++ be 4 0) live = true ∧ wbit (rq 0x0108 (be 2 0 ++ [3, 0x80])).payload 3 0 = true ∧
      layout live ≠ 2 ∧ sliceNamed live.prov.serv 3 = false) ∧
    (let d : Dev := { live with boot := { live.boot with sliceOut := 8 } }
     reach 0x010A ([3, 0, 0, 0] ++ be 4 (bulkSize - 16) ++ be 4 16) d = true ∧ d.boot.sliceOut.testBit 3 = true ∧
     (sliceDoms d 3).all (fun k => (dom d k).st != .ramping) = true) := by decide +kernel

/-- A container of line slice 3, and three containers of three client slices. -/
theorem witness_ReinitialisationIsRefused :
    (let d := withServ [(okey 2 0, [2, 4, 0, 0] ++ zeros 28), (okey 2 1, [2, 4, 1, 0] ++ zeros 28), (okey 2 2, [2, 4, 2, 0] ++ zeros 28)] live
     layout d = 2 ∧ srv 0x0108 (be 2 0 ++ [3, 0x80] ++ be 4 0) d = true) ∧
    (let d := withServ [(okey 2 768, [2, 0] ++ zeros 30)] live
     layout d ≠ 2 ∧ sliceNamed d.prov.serv 3 = true ∧ srv 0x0108 (be 2 0 ++ [3, 0x80] ++ be 4 0) d = true) := by decide +kernel

theorem witness_StoresRunAndResizesAreProposed :
    (srv 0x0109 [] live = true ∧ live.nvm.storeAt = none ∧ live.nvm.store = none ∧ unconfirmed live = false ∧
      nvmWritable (wakeNvm (taken (rq 0x0109 []) (ask 0x0109 [] live).dev)) = true) ∧
    (let d : Dev := { atEpoch 1999 live with nvm := { live.nvm with storeAt := some 1000 } }
     srv 0x0109 [] d = true ∧ now d < 1000 + 1000) ∧
    (let d : Dev := { live with nvm := { live.nvm with store := some { area := 0, format := 1, ch := 1, tag := 7, x := 0 } } }
     srv 0x0109 [] d = true ∧ d.nvm.store.map (·.fail) = some 0 ∧ powered d = true ∧ nvmWritable d = true ∧
     imageLength (imageEntries (modNvm (fun m => { m with store := none }) d)) ≤ 1048576) := by decide +kernel

theorem witness_UpdatesAreStagedAndConfirmed :
    (let s := ask 0x0010 (be 4 936 ++ be 4 4096) live
     srv 0x0010 (be 4 936 ++ be 4 4096) live = true ∧ srv 0x0010 (be 4 936 ++ be 4 8388608) live = true ∧
     (wakeNvm s.dev).nvm.active = none ∧ (wakeNvm s.dev).nvm.upd ≠ 1 ∧ nvmWritable (wakeNvm s.dev) = true) ∧
    (let d : Dev := { live with nvm := { live.nvm with upd := 1, totalLen := 4096 } }
     let b := be 4 64 ++ be 4 0 ++ be 4 4 ++ be 4 (crc32 [0, 0, 0, 0]).toNat
     srv 0x0011 b d = true ∧ (crc32 (rdBytes (ask 0x0011 b d).mem bulkBase 4)).toNat = (crc32 [0, 0, 0, 0]).toNat ∧
     srv 0x0012 (be 4 0 ++ be 4 936) d = true ∧ srv 0x0013 [] d = true ∧
     srv 0x0013 [] { live with nvm := { live.nvm with upd := 2 } } = true) ∧
    (srv 0x0014 [] live = true ∧ unconfirmed live = false) := by decide +kernel

theorem witness_KeysAndAcknowledgementsAreChecked :
    srv 0x0002 (be 2 0xA55A) live = true ∧ srv 0x0002 (be 2 0xA55B) live = true ∧ srv 0x0003 (zeros 232) live = true ∧
    (let d : Dev := { live with nvm := { live.nvm with gasp := some { bytes := [1], state := 1 } } }
     srv 0x0206 [] d = true ∧ nvmWritable (wakeNvm (taken (rq 0x0206 []) (ask 0x0206 [] d).dev)) = true) ∧
    srv 0x0206 [] live = true ∧
    (let d := withServ [(okey 9 16383, zeros 144)] live
     srv 0x0204 (be 4 16383 ++ be 2 0xFFFF) d = true ∧ (points d.prov.serv).map (·.1) = [16383]) ∧
    srv 0x0204 (be 4 0xFFFFFFFF ++ be 2 2) live = true := by decide +kernel

/-- A reference record that passes its checks, disabled and enabled; a DPLL record and an output record; commands of a DPLL. -/
def refOn : Bytes := [0x80, 2, 0xFF, 0xFF, 6, 0] ++ be 2 0x1000 ++ be 2 1 ++ be 2 300 ++ be 4 1000 ++ be 4 5000 ++ be 4 100 ++ be 4 1000 ++ zeros 4
theorem witness_TimingCommandsTakeEffect :
    (srv 0x0301 ([23, 0, 0, 0] ++ refOn) live = true ∧ checkRef 7 refOn = none ∧ rrEn refOn = true ∧ rrEn (tr live 7).rec_ = false) ∧
    (let d := modRef 7 (fun x => { x with rec_ := refOn }) live
     let b := clearReserved refReserved refOn
     srv 0x0301 ([7, 0, 0, 0] ++ refOn) d = true ∧ rrEn (tr d 7).rec_ = true ∧ rrEn b = true ∧ rrFreq b = rrFreq (tr d 7).rec_ ∧
     rrSource b = rrSource (tr d 7).rec_) ∧
    (srv 0x0301 ([0, 0, 0, 0] ++ refOn.set 1 9) live = true ∧ checkRef 0 (refOn.set 1 9) = some 1) ∧
    (srv 0x0302 ([3, 0, 0, 0] ++ defaultDpll 3) live = true ∧ checkDpll 3 (defaultDpll 3) = none) ∧
    (srv 0x0302 ([0x10, 0, 0, 0] ++ defaultOut 0x10) live = true ∧ checkOut 0x10 (defaultOut 0x10) = none) ∧
    (srv 0x0302 ([0x19, 0, 0, 0] ++ defaultOut 0x19) live = true ∧ checkOut 0x19 (defaultOut 0x19) = none) ∧
    ([[0, 0], [1, 23], [2, 24], [3, 23], [4, 23], [5, 0], [6, 0], [7, 0], [8, 0, 0x04, 0xE2], [8, 0, 0xFE, 0x70]].all fun l =>
      srv 0x0303 ([3, 0, 0, 0] ++ l) live) = true := by decide +kernel
theorem witness_ManualSelection :
    let d := modRef 7 (fun x => { x with rec_ := refOn, qualified := true, fresh := false }) live
    srv 0x0303 [0, 0, 0, 0, 2, 7] d = true ∧ 7 ∈ bestRefs d 0 ∧ 23 ∉ bestRefs d 0 := by decide +kernel
theorem witness_AlignAndHoldover :
    (srv 0x0304 ([0x18, 0, 0, 0] ++ zeros 16) live = true ∧ srv 0x0304 ([0x1A, 0, 0, 0] ++ zeros 16) live = true ∧
      checkAlign live (zeros 16) = none ∧ live.tim.pend = none) ∧
    (let a : AlignPend := { target := 0x18, mode := 1, ref := 0, offset := 0, epoch := 0 }
     let d := modTim (fun t => { t with pend := some a }) live
     srv 0x0304 ([0x18, 0, 0, 0] ++ zeros 16) d = true ∧ checkAlign d (zeros 16) = none ∧ following d = false ∧
     following (modMate (fun m => { m with st := 4 }) d) = true ∧ a.mode = 1 ∧ u8 (zeros 16) 0 = 0) ∧
    (srv 0x0305 ([3, 0, 0, 0] ++ zeros 24 ++ be 4 86400 ++ zeros 8) live = true ∧ checkHoldover (zeros 24 ++ be 4 86400 ++ zeros 8) = none) := by
  decide +kernel

theorem witness_ApsAndMergeCommandsAreTaken :
    let d := withServ [(okey 7 511, zeros 32), (okey 8 255, zeros 32)] live
    let e := modMg 255 (fun m => { m with qual := 3 }) d
    ([0, 1, 2, 3, 4, 5, 6].all fun k => srv 0x0401 (be 4 511 ++ [k]) d) = true ∧ srv 0x0401 (be 4 0) d = true ∧
    hasPg d 511 = true ∧ hasPg d 0 = false ∧ ([0, 1, 2, 3].all fun k => srv 0x0402 (be 4 255 ++ [k]) e) = true ∧ hasMg e 255 = true ∧
    srv 0x0402 (be 4 255 ++ [1]) d = true ∧ (mg d 255).qual = 0 ∧ laterPath (mg e 255) = some 1 ∧ assisted e 3 255 = false ∧
    (let h := modMg 255 (fun m => { m with qual := 3, st := 2 }) (withServ [(okey 8 255, zeros 32), (okey 0x0B (akey 3 255), [3, 1] ++ zeros 6)] live)
     assisted h 3 255 = true ∧ (mg h 255).st = 2 ∧ ([0, 1, 2, 3].all fun k => srv 0x0402 (be 4 255 ++ [k]) h) = true) := by decide +kernel

theorem witness_MateCommandsAndDecisionsTakeEffect :
    let standby : Dev := modMate (fun m => { m with st := 4 }) live
    (srv 0x0502 (be 2 0xA55A) standby = true ∧ inStep standby = true ∧ srv 0x0502 (be 2 0xA55A) live = true) ∧
    (([0, 1, 2].all fun k => srv 0x0503 (be 2 0xA55A ++ [k]) standby) = true ∧ following standby = true ∧
      nvmWritable (wakeNvm live) = true ∧ (jappend jPairing 0 (be 1 1) (wakeNvm live)).mate.st = 0) ∧
    (let d : Dev := { withServ [(okey 0x0B (akey 2 511), [2, 1] ++ zeros 6)] live with
       asst := { live.asst with newest := [(akey 2 511, { id := 5, reason := 1, content := [] })] } }
     srv 0x0601 (be 4 5 ++ [2, 0, 0, 0] ++ be 4 511 ++ zeros 4) d = true ∧ assisted d 2 511 = true ∧ isFrozen d 2 511 = false ∧
     (decisionBad d 2 511 (zeros 4)).isNone = true ∧ srv 0x0601 (be 4 6 ++ [2, 0, 0, 0] ++ be 4 511) d = true ∧
     srv 0x0601 (be 4 5 ++ [2, 0, 0, 0] ++ be 4 511) (withServ [] d) = true ∧ assisted (withServ [] d) 2 511 = false) ∧
    srv 0x0602 ([9, 0, 0, 0] ++ be 4 63) live = true ∧ srv 0x0602 ([0, 0, 0, 0] ++ be 4 0xFFFFFFFF) live = true := by decide +kernel
theorem witness_SwitchOfTheActive : -- the pair IN_STEP on the active: MATE_SWITCH is not mirrored
    let d : Dev := modMate (fun m => { m with st := 4, active := true }) live
    let q := rq 0x0502 (be 2 0xA55A)
    atHead 0x0502 q (ask 0x0502 (be 2 0xA55A) d).sys = true ∧ opMirrored 0x0502 = false ∧
    (headerRefusal (taken q (ask 0x0502 (be 2 0xA55A) d).dev) 0x0502 q).isNone = true := by decide +kernel

/-! ### Witnesses: rings, refusals, the mate -/

/-- A response of 240 bytes, the longest; and a wrong channel, a LENGTH that is short, a standby, the freezes. -/
theorem witness_ResponsesAndRefusals :
    (let q := rq 0x0100 []
     atHead 0x0199 q (asked 0x0199 q live).sys = true ∧ listed 0x0199 q = false ∧ logged (asked 0x0199 q live).dev q = none) ∧
    (Memory.wf [] = true ∧ (rq 0x0701 []).ch < 8 ∧ (zeros 240).length ≤ 240) ∧
    (let r : Nat × Nat × Nat × Nat := (0, 1, 7, 3)
     let m := (modMate (fun m => { m with st := 4, active := true, results := [r] }) live).mate
     opMirrored 0x0106 = true ∧ m.active = true ∧ 3 ≤ m.st ∧ m.st ≤ 4 ∧ m.results.find? (sameResult (0, 1, 7, 0)) = some r ∧ r.2.2.2 ≠ 0 ∧
     m.results.find? (sameResult (0, 1, 8, 0)) = none) ∧
    (let q : Req := { rq 0x0107 [] with chField := 2 }
     let s := asked 0x0107 q live
     isReq q = true ∧ powered s.dev = true ∧ atHead 0x0107 q s.sys = true ∧ logged s.dev q = none ∧ onItsChannel 0x0107 q = false) ∧
    (let q := rq 0x0107 []
     let s := asked 0x0107 q { live with boot := { live.boot with thino := false, rom := true } }
     onItsChannel 0x0107 q = true ∧ romServes (taken q s.dev) 0x0107 = false) ∧
    (let q : Req := { rq 0x0105 [] with payload := [0] }
     let s := asked 0x0105 q live
     atHead 0x0105 q s.sys = true ∧ q.payload.length < (opLength 0x0105).1) ∧
    (let d := modMate (fun m => { m with st := 1 }) live
     let s := ask 0x0106 [] d
     atHead 0x0106 (rq 0x0106 []) s.sys = true ∧ s.dev.mate.st ≠ 0 ∧ s.dev.mate.active = false ∧ opMirrored 0x0106 = true) ∧
    (let s := ask 0x0109 [] (setRb .glbStat 0 true live)
     atHead 0x0109 (rq 0x0109 []) s.sys = true ∧ isFatal (taken (rq 0x0109 []) s.dev) = true ∧ (rq 0x0109 []).ch ≠ 2) ∧
    (let s := ask 0x0109 [] (setRb .pwrPfwStat 2 true live)
     atHead 0x0109 (rq 0x0109 []) s.sys = true ∧ isFatal (taken (rq 0x0109 []) s.dev) = false ∧
     isPfwFrozen (taken (rq 0x0109 []) s.dev) = true) := by decide +kernel
theorem witness_RingOfTheRom : -- on channel 0 the ROM serves; UPD_COMMIT only in recovery mode
    let q := rq 0x0012 []
    let s := asked 0x0012 q { live with boot := { live.boot with thino := false, rom := true } }
    atHead 0x0012 q s.sys = true ∧ logged s.dev q = none ∧ onItsChannel 0x0012 q = true ∧ romServes (taken q s.dev) 0x0012 = false := by
  decide +kernel

/-- A retry, a TAG used again, TAG 0, an entry that is logged and one that is not, a command that waits for X and one whose X has come. -/
theorem witness_TagsAreLoggedAndMirroredCommandsWait :
    let e : TagEnt := { tag := 7, opcode := 0x0001, crc := crc32 [], status := 0, payload := [], mirrored := false, epoch := 0 }
    let d : Dev := { live with mbx := { live.mbx with logs := [(0, [e])] } }
    (atHead 0x0001 (rq 0x0001 []) (ask 0x0001 [] d).sys = true ∧ logged (ask 0x0001 [] d).dev (rq 0x0001 []) = some e) ∧
    (atHead 0x0015 (rq 0x0015 []) (ask 0x0015 [] d).sys = true ∧ logged (ask 0x0015 [] d).dev (rq 0x0015 []) = some e ∧ e.opcode ≠ 0x0015) ∧
    ({ rq 0x0001 [] with tag := 0 } : Req).tag = 0 ∧ (e.tag ≠ 0 ∧ e.status ∉ [6, 9, 0xA, 0xB, 0xC, 0xD, 0x12]) ∧
    ({ e with status := 0x12 }).status ∈ [6, 9, 0xA, 0xB, 0xC, 0xD, 0x12] ∧
    (let d : Dev := modMate (fun m => { m with st := 4, active := true }) live
     let s := ask 0x0106 [] d
     atHead 0x0106 (rq 0x0106 []) s.sys = true ∧ logged s.dev (rq 0x0106 []) = none ∧
     (headerRefusal (taken (rq 0x0106 []) s.dev) 0x0106 (rq 0x0106 [])).isNone = true ∧ inStep s.dev = true ∧
     mailbox (.shadowRevert (rq 0x0106 [])) ≠ none) ∧
    (let i : MirItem := { opcode := 0x0106, req := rq 0x0106 [], x := 5 }
     let d : Dev := { atEpoch 5 live with mbx := { live.mbx with mir := [i] } }
     (d.mbx.mir.find? fun m => decide (m.x ≤ now d)) = some i ∧ i.own = true ∧ logged d i.req = none ∧ d.boot.thino = true ∧
     freezeRefusal d 0x0106 i.req = none ∧ stalls 0x0106 { x := 5, mirrored := i.ahead } i.req { dev := d, mem := [] } = false) ∧
    (let i : MirItem := { opcode := 0x0106, req := rq 0x0106 [], x := 5 }
     let d : Dev := { atEpoch 4 live with mbx := { live.mbx with mir := [i] } }
     d.mbx.mir.all (fun m => decide (now d < m.x)) = true) := by
  refine ⟨⟨by decide +kernel, by decide +kernel⟩, ⟨by decide +kernel, by decide +kernel, by decide +kernel⟩, by decide +kernel,
    by decide +kernel, by decide +kernel, ⟨by decide +kernel, by decide +kernel, by decide +kernel, by decide +kernel, ?_⟩,
    by decide +kernel, by decide +kernel⟩
  exact fun h => by cases h

/-! ### Witnesses: registers -/

/-- A dword write that is granted, as a Bool. -/
def grantsB (q : Requester) (r : Reg) (d : Dev) : Bool :=
  powered d && pathUp d q && regValid r && (refusalOf d q (.named r) 4 true true).isNone
theorem grants_of {q : Requester} {r : Reg} {d : Dev} (h : grantsB q r d = true) : Grants q r (at_ d) := by
  simp only [grantsB, Bool.and_eq_true, Option.isNone_iff_eq_none] at h
  exact ⟨h.1.1.1, h.1.1.2, h.1.2, h.2⟩

theorem witness_RegistersHoldWhatIsWritten :
    (refusalOf live .spi (.offset 0x48) 2 true true = some (accNarrow, 0) ∧ pathUp live .spi = true) ∧
    (refusalOf live .spi (.named (.pwrDomStat 24)) 4 true true).isSome = true ∧
    (live.err.accSeen.testBit 1 = false ∧ (2 : Nat).testBit 1 = true) := by decide +kernel

theorem witness_RegisterAccessesTakePlace :
    ([Reg.glbScratch, .glbRstCause, .glbIntStat, .glbIntEn, .glbIntMgmtEn, .glbErrCtl, .pwrRailoff, .errLost,
      .mbxRspHead 0, .mbxServed 7, .evtCons, .evtLost, .nvmErr, .nvmCorrCnt, .pctrMask, .pctrCons, .pctrWrapSum,
      .cliPstat 0 0, .lineStat 3, .lineOhxSlip 1, .xcCstat 1023, .timRefStat 23].all fun r => grantsB .pf0 r live) = true ∧
    ([0x2200000, 0x223FFFC, 0x2400000, 0x243FFFC, 0x48, 0x7C].all fun o => (refusalOf live .pf0 (.offset o) 4 true true).isNone) = true ∧
    (refusalOf live .spi (.named .glbId) 4 false true).isNone = true := by decide +kernel
theorem witness_SerialAccesses :
    ((match resolve live (.offset 0) with
      | some p => !drawsFree p.site
      | none => false) = true ∧ refusalOf live .spi (.offset 0) 4 true true = none ∧ refusalOf live .spi (.offset 0) 4 false true = none ∧
      refusalOf live .i2c (.offset 0) 4 false true = none) ∧
    (regOffset .wideSel % 4 = 0 ∧ (match resolve live (.offset (regOffset .wideSel)) with
      | some p => !drawsFree p.site
      | none => false) = true ∧ refusalOf live .i2c (.offset (regOffset .wideSel)) 4 true true = none) := by decide +kernel

/-- Doorbells that lead by 65, by 0 with one request waiting, and by 64; the keys. -/
theorem witness_DoorbellsResetsAndTheirKeys :
    (grantsB .pf0 (.mbxDb 7) live = true ∧ (65 + 128 - rf live (.mbxReqHead 7) 6 0) % 128 = 65) ∧
    (reqUsed (ask 0x0001 [] live).dev 0 = 1 ∧ grantsB .pf0 (.mbxDb 0) (ask 0x0001 [] live).dev = true) ∧
    grantsB .pf0 (.mbxCtl 7) live = true ∧
    (grantsB .spi .glbRstCmd live = true ∧ warmWaits live = false ∧ inStep live = false) ∧
    (let d : Dev := modMate (fun m => { m with st := 4, active := true }) live
     grantsB .spi .glbRstCmd d = true ∧ warmWaits d = false ∧ inStep d = true ∧ d.mate.handover = none) ∧
    (grantsB .spi .glbCpuRestart live = true ∧ live.boot.cpuRestart = none ∧ domReady live 1 = true) := by decide +kernel

theorem witness_HostPowerTestAndCounterWrites :
    (grantsB .spi .pwrCap live = true ∧ bits 2000 15 0 = 2000 ∧ bits 1999 15 0 = 1999) ∧
    (grantsB .spi .pwrHostHold live = true ∧ grantsB .spi .pwrHostDrop live = true) ∧
    (let d : Dev := { live with pwr := { live.pwr with ovOff := 8 } }
     grantsB .spi .pwrRailClr d = true ∧ d.pwr.ovOff.testBit 3 = true) ∧
    grantsB .spi (.pwrDomStat 23) live = true ∧ grantsB .spi .errInj live = true ∧ grantsB .spi .evtCtl live = true ∧
    (grantsB .spi .pctrClr live = true ∧ live.pctr.clr = 0 ∧ live.pctr.clrGo = false ∧ domReady live 4 = true ∧
      grantsB .spi .pctrClr { live with pctr := { live.pctr with clrGo := true } } = true) ∧
    (let d : Dev := { live with nvm := { live.nvm with jtagLeft := some 0 } }
     grantsB .spi .nvmJtagCtl d = true ∧ d.nvm.jtagLeft.isSome = true ∧ d.nvm.jtagDebug = false) := by decide +kernel

/-- The device with a domain off. -/
def domAt' (n : Nat) (d : Dev) : Dev := modDom n (fun x => { x with st := .off }) d
theorem witness_WideQueuePhaseAndVectorControls :
    (grantsB .spi .wideSel live = true ∧ grantsB .spi .wideCmd live = true) ∧
    (let d := modBank .spi (fun b => { b with sel := 0x03000000 }) live
     grantsB .spi .wideCmd d = true ∧ (bankOf d .spi).busy = false ∧ wideSpace (bankOf d .spi) = 3 ∧
     (ctrBank (wideIndex (bankOf d .spi))).isSome = true) ∧
    (let d := modBank .spi (fun b => { b with sel := 0x03000000, busy := true }) live
     (bankOf d .spi).busy = true ∧ (match wideValue d .spi 3 0 with
       | .data _ => true
       | _ => false) = true ∧
     wideValue (modDom 4 (fun x => { x with st := .off }) d) .spi 3 0 = .notReady ∧ wideValue d .pf1 3 0 = .denied ∧
     wideValue d .spi 2 0 = .noRecord ∧ wideValue d .spi 3 0x180 = .noValue ∧ wideValue d .i2c 8 0 = .noValue ∧
     (bankOf d .pf0).busy = false ∧ (ctrBank 0x180).isNone = true ∧
     (let e := domAt' 4 (modBank .spi (fun b => { b with sel := 0x03000000 }) live)
      grantsB .spi .wideCmd e = true ∧ (bankOf e .spi).busy = false ∧ wideSpace (bankOf e .spi) = 3 ∧ domReady e 4 = false)) ∧
    (grantsB .spi (.qmClr 3) live = true ∧ grantsB .spi .pmonPhase live = true ∧ bits 86399000 26 0 = 86399000 ∧
      bits 86399000 26 0 % 1000 = 0 ∧ bits 86398999 26 0 % 1000 ≠ 0) ∧
    (let d : Dev := setRb .glbIntStat 15 true
       { live with host := { live.host with pf0 := { live.host.pf0 with pend := 0x8000 }, training := true, busMaster := true } }
     d.host.pf0.pend.getLsbD 15 = true ∧ pf0Dma d = true ∧ rb d .glbIntStat 15 = true) ∧
    bits 86399001 26 0 = 86399001 ∧ (86399000 : Nat) < 86399001 ∧
    (let d : Dev := setRb .glbIntStat 10 true
       { live with host := { live.host with pf1 := { live.host.pf1 with pend := 3 }, training := true } }
     1 < (if true then 2 else 16) ∧ (msixOf d true).pend.getLsbD 1 = true ∧ msixRuns d true = true ∧ rb d .glbIntStat (vectorSrc true 0) = true ∧
     rb d .glbIntStat (vectorSrc true 1) = false ∧ msixRuns { d with host := { d.host with training := false } } true = false ∧ 2 ≤ 15) ∧
    live.host.pf0.pend.getLsbD 15 = false := by decide +kernel

theorem witness_ThePcieEndpointAndItsEvents :
    (powered live = true ∧ live.pin.perstN = true ∧ domReady live 4 = true ∧ live.pin.warmRstN = true ∧ live.boot.keptPcie = false ∧
      ({ live with pin := { live.pin with warmRstN := false } } : Dev).pin.warmRstN = false) ∧
    (let e : EvtRec := { ty := 1, seq := 0, urgent := false, engine := false, epoch := 0, ns := 0, src := 0, inst := 0, obj := 0, detail := [] }
     let d : Dev := { live with evt := { live.evt with staged := [e], holdoff := true, due := true } }
     let x : Dev := setRb .evtCtl 0 true { d with host := { d.host with training := true, busMaster := true } }
     d.evt.staged = [e] ∧ rf d .evtSize 4 0 ≤ 16 ∧ evtDma d = false ∧ evtDma x = true ∧ 0 < evtRoom x ∧ rf x .evtSize 4 0 ≤ 16) := by
  decide +kernel

/-! ### Witnesses: resets, start-up, power fail -/

/-- The device with domain n in a state. -/
def domAt (n : Nat) (st : DomState) (d : Dev) : Dev := modDom n (fun x => { x with st := st }) d

theorem witness_ResetsAndWatchdogs :
    (State.reset.dev.pin.porN = false ∧ State.reset.dev.pin.brownout = false ∧ 127 < 128 ∧
      ({ live with pin := { live.pin with brownout := true } } : Dev).pin.brownout = true) ∧
    ({ live with pwr := { live.pwr with gaspBusy := true } } : Dev).pwr.gaspBusy = true ∧
    (powered live = true ∧ live.pwr.gaspBusy = false ∧ live.boot.thino = true ∧ domReady live 1 = true ∧ live.boot.wdtAt = [] ∧
      rb live .glbRstCtl 2 = true) ∧
    (let d : Dev := { live with boot := { live.boot with bootWdt := true, waitRom := true, noRom := 1, wdtAt := [40, 3] } }
     d.boot.bootWdt = true ∧ d.boot.waitRom = true ∧ d.boot.warmHeld = false ∧ d.boot.noRom < 2 ∧
     2 ≤ ({ d with boot := { d.boot with noRom := 2 } } : Dev).boot.noRom ∧
     ((now (atEpoch 60001 d) :: (d.boot.wdtAt.filter fun e => now (atEpoch 60001 d) < e + 60000)).take 3).length = 3 ∧
     ((now (atEpoch 60003 d) :: (d.boot.wdtAt.filter fun e => now (atEpoch 60003 d) < e + 60000)).take 3).length = 2) := by decide +kernel
theorem witness_AWarmResetKeepsItsState : ((List.range 24).all fun n => !rb live .pwrHostHold n) = true ∧ 8 < 9 ∧
    regDomain .glbScratch = 0 ∧ regDomain (.timRefStat 0) = 3 ∧ regDomain (.lineStat 0) = 6 ∧ domReady live 3 = true ∧ rb (setRb .glbRstCtl 0 true live) .glbRstCtl 0 = true := by decide +kernel

theorem witness_TheDeviceBoots :
    (let d : Dev := { live with boot := { live.boot with rail := 5, rom := false } }
     4 < d.boot.rail ∧ d.boot.rail < 8 ∧ d.pin.pseqPg.getLsbD 4 = true ∧ railOn d 4 = true) ∧
    (let d : Dev := { live with pin := { live.pin with pseqPg := 0 } }
     railOn d 4 = true ∧ railOn d 0 = true ∧ d.pin.pseqPg.getLsbD 0 = false) ∧
    2 < rf (setStage 3 live) .glbBootStat 3 0 ∧
    (let d : Dev := { live with pin := { live.pin with pseqEn := 0x10 } }
     rf d .glbBootStat 3 0 ≤ 2 ∧ railOn d 5 = false) ∧
    (let d : Dev := setStage 2 { live with boot := { live.boot with rom := true, thino := false } }
     let n := setRf .glbBootStat 9 8 (attempts (wakeNvm d)) (setStage 3 (wakeNvm d))
     railsUp d = true ∧ rf d .glbBootStat 3 0 ≤ 2 ∧ d.boot.cpuRestart = none ∧ domReady d 1 = true ∧ (wakeNvm d).boot.recover = false ∧
     (wakeNvm { d with boot := { d.boot with recover := true } }).boot.recover = true ∧ attempts (wakeNvm d) ≠ 3 ∧
     activationOpen n = false ∧ n.nvm.staged = none ∧ domReady (wakeNvm d) 2 = true ∧ rb (wakeNvm d) .glbStrap 5 = false ∧
     rb (wakeNvm (setRb .glbStrap 5 true d)) .glbStrap 5 = true) ∧
    (let d : Dev := setStage 3 { live with boot := { live.boot with rom := true, thino := false } }
     d.boot.rom = true ∧ d.boot.cpuRestart = none ∧ domReady d 1 = true ∧ rf d .glbBootStat 3 0 = 3) ∧
    (let d : Dev := { live with boot := { live.boot with bootWdt := true }, prov := { live.prov with doneId := 1 } }
     d.boot.thino = true ∧ d.prov.doneId ≠ 0 ∧ d.prov.pend = []) ∧
    (let d : Dev := { live with boot := { live.boot with cpuRestart := some 7 } }
     domReady d 1 = true ∧ reloadFails d 1 = false ∧ d.nvm.staged = none ∧ d.mbx.mir = [] ∧ d.asst.frozen = [] ∧ d.prov.parts = []) := by decide +kernel

theorem witness_PowerFailErrorsAndJtagExpiry :
    (live.pin.pfwN = true ∧ isPfwFrozen live = false ∧ live.prov.pend = [] ∧ live.nvm.store = none ∧ live.mate.st = 0 ∧
      (dom live 2).st = .ready ∧ ((List.range 4).all fun p => (rz live p).st == 0) = true) ∧
    (let d : Dev := { live with nvm := { live.nvm with gaspNext := some [1] } }
     d.nvm.gaspNext = some [1] ∧ d.pwr.warmDeferred = none ∧ nvmWritable d = true) ∧
    (let d : Dev := setRb .pwrPfwStat 2 true { live with pwr := { live.pwr with liftRun := true } }
     d.pin.pfwN = true ∧ isPfwFrozen d = true ∧ d.pwr.liftRun = true ∧ d.pwr.gaspBusy = false ∧ ((List.range 8).all fun k => d.pin.pseqPg.getLsbD k) = true) ∧
    (let e : ErrRec := { sev := 2, inst := 0, src := 0x0007, code := 0x0021, epoch := 0, d0 := 0, d1 := 0 }
     let d : Dev := { live with err := { live.err with queue := [e] } }
     let put (l : List ErrRec) : Dev := { live with err := { live.err with queue := l } }
     (∀ x ∈ d.err.queue, x.st ≠ 1) ∧ d.boot.thino = true ∧
     ((put [{ e with st := 1 }]).err.queue.find? fun e => e.st == 1) = some { e with st := 1 } ∧
     maxSev (put [{ e with st := 1 }]).err.queue ≤ 2 ∧ (autoReinit { e with st := 1 } (put [{ e with st := 1 }])).isNone = true ∧
     2 < maxSev (put [{ e with st := 1 }, { e with sev := 3 }]).err.queue ∧ (1 : Nat) ≠ 0 ∧ 1023 < 1024 ∧ 65535 < 65536 ∧ 255 < 256 ∧
     ({ live with boot := { live.boot with thino := false } } : Dev).boot.thino = false) ∧
    (let d : Dev := { atEpoch 9 live with nvm := { live.nvm with jtagLeft := some 9 } }
     d.nvm.jtagLeft = some 9 ∧ 9 ≤ now d ∧ d.nvm.jtagDebug = false) := by decide +kernel

/-! ### Witnesses: supplies, domains, temperature -/

theorem witness_RailsAndFaultsArePolicedByDomain :
    (domAwake live 17 = true ∧ 3 = (if 6 ≤ 17 ∧ 17 < 18 then (17 - 6) % 4 else 4)) ∧
    (domAwake live 23 = true ∧ 4 = (if 6 ≤ 23 ∧ 23 < 18 then (23 - 6) % 4 else 4)) ∧ domAwake (domAt 23 .off live) 23 = false ∧
    railOn live 3 = true ∧ live.pin.pseqPg.getLsbD 4 = true ∧ domAwake live 6 = true ∧ domAwake live 3 = true := by decide +kernel

/-- Admission at the cap and 0.01 W above it; D23 waits, becomes READY, sleeps and goes off. -/
theorem witness_DomainsWakeAndSleep :
    (let d := setRf .pwrCap 15 0 (load (domAt 23 .off live) + 175) (domAt 23 .off live)
     requires 23 = [] ∧ (dom d 23).st = .off ∧ load d + est d 23 = cap d) ∧
    (let d := setRf .pwrCap 15 0 (load (domAt 23 .off live) + 174) (domAt 23 .off live)
     (dom d 23).st = .off ∧ cap d < load d + est d 23) ∧
    (let d := domAt 23 .ramping live
     (dom d 23).st = .ramping ∧ (dom d 23).waitRail = false ∧ reloadFails d (domainPart 23) = false ∧ d.pwr.gaspBusy = false) ∧
    (dom live 23).st ≠ .ramping ∧
    (let d := modDom 17 (fun x => { x with leaving := true }) live
     (dom d 17).st = .ready ∧ (dom d 17).leaving = true ∧ domUsed d 17 = false ∧ queuesEmpty d 3 = true) ∧
    ((dom (domAt 23 .isolating live) 23).st = .isolating ∧ (dom (domAt 23 .isolating live) 23).heldWake = 0) ∧
    (domReady live 2 = true ∧ rb live .pwrHostHold 2 = false ∧ live.nvm.store = none) ∧
    (let d := setRf .pwrRailoff 3 0 0xF (domAt 9 .off (domAt 13 .off (domAt 17 .off live)))
     (dom d 9).st = .off ∧ (dom d 13).st = .off ∧ (dom d 17).st = .off ∧ (rf d .pwrRailoff 3 0).testBit 3 = true ∧ railOn d 3 = true) ∧
    (let d := setRf (.memcGstat 1) 2 0 2 live
     unitOf d 1 = [1] ∧ domReady d 19 = true ∧ (dom d 19).scrub = false ∧ rb d .pwrHostHold 19 = false ∧ rf d (.memcGstat 1) 2 0 = 2 ∧
     rf d .pwrMemIdle 13 0 ≠ 0 ∧ unitMerging d 1 = false) ∧
    (unitOf (domAt 19 .selfRefresh live) 1 = [1] ∧ (dom (domAt 19 .selfRefresh live) 19).st = .selfRefresh) ∧
    ((dom (domAt 17 .faulted live) 17).st = .faulted ∧ railGood (domAt 17 .faulted live) 17 = true ∧
      (dom (domAt 17 .faulted live) 17).latched = false ∧ live.boot.warm = false) ∧
    ((dom (domAt 13 .off live) 13).st = .off ∧ (board (domAt 13 .off live)).isNone = true ∧ (dom live 3).leaving = false ∧ (dom live 3).heldWake = 0) := by decide +kernel

/-- Readings at −128 °C, at the warning threshold, at 110, 124, 125 and 127 °C; rejoining at 100 °C; a difference of 0.251 V. -/
theorem witness_RegionsAreIsolatedAndRejoin :
    (80 ≤ rf live .pwrThermCtl 15 8 ∧ rf live .pwrThermCtl 15 8 < 110 ∧ live.pwr.warnUp = 0) ∧
    (let d : Dev := { live with pwr := { live.pwr with warnUp := 0x1F } }
     d.pwr.warnUp.testBit 4 = true ∧ d.pwr.critUp.testBit 4 = false) ∧
    (let d : Dev := { live with pwr := { live.pwr with warnUp := 0x1F, critUp := 0x1F } }
     d.pwr.warnUp.testBit 0 = true ∧ d.pwr.critUp.testBit 0 = true) ∧
    regionTemp live 4 + 2 ≤ (rf live .pwrThermCtl 15 8 : Nat) ∧
    (let d : Dev := { live with pwr := { live.pwr with thermIso := 8 } }
     let e := setRf (.pwrRegion 3) 23 16 100 d
     e.pwr.thermIso.testBit 3 = true ∧ e.pwr.skewIso.testBit 3 = false ∧ regionTemp e 3 = 100) ∧
    (let d : Dev := { live with pwr := { live.pwr with thermIso := 4, skewIso := 12 } }
     d.pwr.skewIso.testBit 3 = true ∧ d.pwr.thermIso.testBit 3 = false ∧ d.pwr.skewIso.testBit 2 = true ∧ d.pwr.thermIso.testBit 2 = true) ∧
    (let d := [6, 7, 8, 10, 11, 12, 14, 15, 16].foldl (fun d n => domAt n .off d) live
     awakeRegions d = [3, 4] ∧ (0 : Int) + 250 < 251) := by decide +kernel

/-! ### Witnesses: epochs, performance monitoring, counters -/

theorem witness_EpochsCommitsCalendarsAndTimeouts :
    (let e : Pend := { id := 1, epoch := 5, tables := [(okey 1 0, zeros 32)] }
     let d : Dev := { atEpoch 5 live with prov := { live.prov with pend := [e] } }
     d.prov.pend = [e] ∧ e.epoch ≤ now d ∧ isFatal d = false ∧ isPfwFrozen d = false ∧ e.restore = false ∧
     ({ e with restore := true } : Pend).restore = true ∧ missing e (pmSecond d) = 0 ∧ missing e (pmSecond (domAt 10 .off d)) ≠ 0 ∧
     isPfwFrozen (setRb .pwrPfwStat 2 true d) = true ∧ isFatal (setRb .pwrPfwStat 2 true d) = false ∧ now (atEpoch 4 d) < e.epoch) ∧
    (lineOn live 3 = true ∧ tkeys live.cont = [] ∧ conts live.prov.serv = []) ∧
    (let d : Dev := { withServ [(okey 0x0B (akey 2 511), [2, 1, 0, 10, 0, 0, 0, 0])] live with
       asst := { live.asst with newest := [(akey 2 511, { id := 5, reason := 1, content := [] })] } }
     (tfind d.asst.newest (akey 2 511)).isSome = true ∧
     (match tfind d.asst.newest (akey 2 511) with
       | some r => r.opened && r.changeAt.isNone
       | none => false) = true ∧
     assisted d 2 511 = true ∧ isFrozen d 2 511 = false ∧ assistTimeout d 2 511 ≠ 0 ∧ following d = false ∧ inStep d = false ∧
     inStep (modMate (fun m => { m with st := 4, active := true }) d) = true) ∧
    tfind live.asst.newest (akey 2 511) = none := by decide +kernel

/-- The greatest exponent and mantissa, and the ends of the exact range. -/
theorem witness_TheCompactFormRoundsDown :
    pmDecode (pmEncode 4095) = some 4095 ∧ pmEncode 2047 = 2047 ∧ 1 ≤ 31 ∧ 2046 < 2047 ∧ pmDecode (31 * 2048 + 2046) = some (4094 * 2 ^ 30) ∧
    pmEncode (4095 * 2 ^ 30) = 0xFFFF ∧ pmEncode (4095 * 2 ^ 30 - 1) = 0xFFFE ∧ 2 ^ (1 + 10) ≤ 2048 ∧ 2048 < 2 ^ (1 + 11) := by decide +kernel

theorem witness_PerformanceIsMonitored :
    let r : Bytes := zeros 144
    let d := withServ [(okey 9 16383, r)] live
    let h := withServ [(okey 9 16383, r), (okey 0x0B (akey 1 16383), [1, 1, 0, 10, 0, 0, 0, 0])] live
    (domReady d 4 = true ∧ hasPoint d 16383 = true ∧ assisted d 1 16383 = false ∧ isFrozen d 1 16383 = false ∧
      (point d 16383).decl.testBit 7 = false ∧ tget 0 (point d 16383).runSet 7 < max 1 (mpIntSet (mpRec d 16383) 7 * 100)) ∧
    (let e := modPoint 16383 (fun p => { p with runSet := [(7, 1)] }) d
     max 1 (mpIntSet (mpRec e 16383) 7 * 100) ≤ tget 0 (point e 16383).runSet 7) ∧
    (let e := modPoint 16383 (fun p => { p with decl := 128, runClr := [(7, 1)] }) d
     (point e 16383).decl.testBit 7 = true ∧ max 1 (mpIntClr (mpRec e 16383) 7 * 100) ≤ tget 0 (point e 16383).runClr 7) ∧
    (let e := modPoint 16383 (fun p => { p with decl := 128 }) d
     (point e 16383).decl.testBit 7 = true ∧ tget 0 (point e 16383).runClr 7 < max 1 (mpIntClr (mpRec e 16383) 7 * 100)) ∧
    (let e := modPoint 16383 (fun p => { p with epochLast := 1 }) h
     assisted e 1 16383 = true ∧ (point e 16383).epochLast ≠ (point e 16383).repSet ∧ (point e 16383).epochLast ≠ (point e 16383).decl) ∧
    (let e := modPm (fun m => { m with secAt := 1 }) (modPoint 16383 (fun p => { p with fresh := false }) (atEpoch 1000 d))
     now e % 1000 = 0 ∧ e.pm.secAt ≠ now e ∧ e.pm.secAt ≠ 0 ∧ assisted e 8 0 = false ∧ points e.prov.serv = [(16383, r)] ∧ (point e 16383).fresh = false ∧ (point e 16383).clr = 0) ∧
    now (atEpoch 999 d) % 1000 ≠ 0 ∧ live.pm.secAt = now live ∧
    (let b : PendBin := { end_ := 0, start := 0 }
     let e : Dev := modPm (fun m => { m with fin15 := [b], fin24 := [b, { b with end_ := 900 }] }) (atEpoch 10000 d)
     e.pm.fin15 = [b] ∧ e.pm.fin24 = [b, { b with end_ := 900 }] ∧ b.end_ + 10000 ≤ now e ∧ points e.prov.serv ≠ []) := by decide +kernel

theorem witness_CountersWindowsAndDumps :
    (domReady live 10 = true ∧ domReady live 4 = true ∧ (ctrVal live 0).v < 2 ^ 48 ∧ domReady (domAt 10 .off live) 10 = false) ∧
    (let d := atEpoch 1000 live
     now d % d.pctr.win = 0 ∧ rb d .pctrCtl 0 = false ∧ d.pctr.clr = 0) ∧
    (let d : Dev := setRf .pctrRingSize 12 8 20 (setRb .pctrCtl 0 true { atEpoch 1000 live with host := { live.host with busMaster := true } })
     rb d .pctrCtl 0 = true ∧ dumpUsed d < dumpSlots d ∧ d.pctr.writing = none ∧ pf0Dma d = true ∧
     64 + dumpEntries (rf d .pctrMask 6 0) * 8 ≤ 2 ^ rf d .pctrRingSize 12 8) ∧
    (let d : Dev := { atEpoch 1000 live with pctr := { live.pctr with clr := 127, writing := some {
       seq := 1, epoch := 0, winMs := 1000, winUs := 0, banks := 1, phase := true, restart := false, partWin := false, skipped := 0, snap := [] } } }
     d.pctr.clr ≠ 0 ∧ rb d .pctrCtl 0 = false ∧ d.pctr.writing.isSome = true) := by decide +kernel

/-! ### Witnesses: client and line ports -/

/-- A PACKET port with ESMC and MAX_FRAME 1,518, a port of TEST mode with a checker, and OTN ports with the two FEC codes. -/
def ethPort : Bytes := [1, 1, 0, 0, 0xFF, 0xFF] ++ be 2 1518 ++ [0x80] ++ zeros 23
def prbsPort : Bytes := [1, 1, 0, 0, 0xFF, 0xFF] ++ be 2 1518 ++ [0, 0, 0, 0, 1] ++ zeros 19
def otnPort (fec : Nat) : Bytes := [0x10, 2, 0, BitVec.ofNat 8 fec] ++ zeros 28

theorem witness_LanesAndCodewords :
    lineOn live 3 = true ∧ rb (setRb (.lineLstat 3 7) 0 true live) (.lineLstat 3 7) 0 = true ∧ rb live (.lineLstat 3 7) 0 = false ∧
    rb (setRb (.lineLstat 3 7) 1 true live) (.lineLstat 3 7) 1 = true ∧ rb live (.lineLstat 3 7) 1 = false ∧
    (let d := setRb (.cliLstat 3 0) 1 true (setRb (.cliLstat 3 0) 0 true (withServ [(okey 1 48, ethPort)] live))
     clientOn d 3 = true ∧ laneOwner d 3 0 = some 48 ∧ rb d (.cliLstat 3 0) 0 = true ∧ rb d (.cliLstat 3 0) 1 = true) ∧
    lrDetectOnly (rxFlexRec live 3) = false ∧
    (let d := withServ [(okey 1 63, otnPort 2)] live
     portOn d 63 = true ∧ cpEth (cpOf d 63) = false ∧ cpFec (cpOf d 63) = 2) ∧
    (let d := withServ [(okey 1 63, otnPort 1)] live
     portOn d 63 = true ∧ cpEth (cpOf d 63) = false ∧ cpFec (cpOf d 63) = 1) := by decide +kernel

/-- A frame of n bytes with a correct FCS; an ESMC PDU of QL-PRC. -/
def frame (n : Nat) : Bytes := let p := List.replicate (n - 4) 1; p ++ fcsOf p
def esmc : Bytes :=
  let p := be 6 0x0180C2000002 ++ zeros 6 ++ be 2 0x8809 ++ [0x0A, 0] ++ be 2 0x19A7 ++ be 2 1 ++ zeros 4 ++ [1, 0, 4, 2] ++ zeros 32
  p ++ fcsOf p
theorem witness_ClientPortsReceiveAndSend :
    let d := setRb (.cliPstat 0 0) 15 true (withServ [(okey 1 0, ethPort)] live)
    (portOn d 0 = true ∧ pstat d 0 0 = false ∧ pstat d 0 2 = false ∧ pstat d 0 13 = false ∧ cpMode (cpOf d 0) = 1 ∧ cpMode (otnPort 0) = 2 ∧
      ([[]] : List (List FasObs)) ≠ []) ∧
    (cpLoop (cpOf d 0) ≠ 2 ∧ cpLoop (cpOf (withServ [(okey 1 0, ethPort.set 10 2)] live) 0) = 2 ∧
      pstat (setPort 0 0 true d) 0 0 = true ∧ clientFailed d 0 = false ∧ (frame 63).length < 64 ∧ 64 ≤ (frame 64).length ∧ cpMaxFrame (cpOf d 0) < (frame 1519).length) ∧
    (fcsGood (frame 64) = true ∧ isEsmc (frame 64) = false ∧ domReady d 14 = true) ∧
    (cpEsmc (cpOf d 0) = true ∧ isEsmc esmc = true ∧ fcsGood esmc = true ∧ (esmcQl esmc).isSome = true ∧ assisted d 9 0 = false ∧
      isFrozen d 9 0 = false) ∧
    (domReady d 3 = true ∧ (cliOf d 0).txSig = 0 ∧ (cliOf d 0).eventDue = false) ∧
    (let e := setRb (.cliLstat 0 0) 3 true (withServ [(okey 1 0, prbsPort)] live)
     portOn e 0 = true ∧ laneOwner e 0 0 = some 0 ∧ cpPatRx (cpOf e 0) ≠ 0 ∧ rb e (.cliLstat 0 0) 3 = true) ∧
    (let e := modQueue 0 true 7 (fun q => { q with unread := [{ bytes := frame 64 }] }) d
     (qReadable (egQ e 0 7)).isSome = true) := by decide +kernel
/-- A flow that classifies a frame: port 0, every frame. -/
theorem witness_AFlowIsFound :
    let d := setRb (.cliPstat 0 0) 15 true (withServ [(okey 1 0, ethPort), (okey 4 5, zeros 56)] live)
    classify (count 14 (ctrSlice 0 0) 1 (count 10 (ctrClient 0 0) 1 (count 10 (ctrClient 0 1) 64 d))) 0 0 (frame 64) = some 5 := by
  decide +kernel

/-! ### Witnesses: line framing, beacons, containers -/

/-- Instance 15 of line port 3 in LOCK and in HUNT; the framer in frame with 4 bad frames, and out of frame. -/
theorem witness_LinesFrameAndAlign :
    let d := setRb (.lineLstat 3 7) 1 true (setRb (.lineLstat 3 7) 0 true live)
    let l := modFlexO 3 15 (fun x => { x with st := .lock, pos := 0, miss := 4 }) d
    let f := modFramer 3 (fun f => { f with inFrame := true, bad := 4 }) d
    (domReady d 9 = true ∧ laneGood d 3 (15 / 2) = true ∧ amStep (flexO l 3 15) 696319 true = flexO l 3 15 ∧
      amStep (flexO l 3 15) 696320 true ≠ flexO l 3 15 ∧ amStep (flexO l 3 15) 696320 (decide (5 ≤ 4)) ≠ flexO l 3 15 ∧
      amStep (flexO d 3 15) 0 (decide (4 ≤ 4)) ≠ flexO d 3 15) ∧
    (laneLost d 3 = false ∧ flexHeld d 3 = false ∧ (framer f 3).inFrame = true ∧ 4 ≤ (framer f 3).bad ∧ (framer d 3).inFrame = false ∧
      (obsAt [] (framer f 3).pos).ok = false ∧
      (obsAt [⟨0, List.replicate 16 (fasBytes ++ [9])⟩] (framer f 3).pos).ok = true) ∧
    fstat d 3 9 ≠ (!(framer d 3).inFrame) ∧ fstat f 3 9 = (!(framer f 3).inFrame) ∧
    fstat (setLine 3 10 true d) 3 11 ≠ fstat (setLine 3 10 true d) 3 10 ∧ fstat d 3 11 = fstat d 3 10 ∧
    999999 < 1000000 ∧ (ln (modLn 3 (fun l => { l with txMfas := 255 }) d) 3).txMfas % 32 ≠ 0 ∧ lrOhxEn (lineRec d 3) = false := by decide +kernel

/-- A beacon with a correct CRC; a line record with OHX_EN; an OHX frame. -/
def goodBeacon : Bytes := let b := be 2 0x5A4B ++ zeros 28; b ++ be 2 (crcCcitt b)
def ohxLine : Bytes := [0x0A, 0x40] ++ zeros 222
def ohxIn : Bytes := let b := zeros 38; b ++ be 2 (crcCcitt b)
theorem witness_BeaconsAndOverheadExchange :
    let d := withServ [(okey 0x0A 3, ohxLine)] live
    let b (n bad : Nat) : Dev := modLn 3 (fun l => { l with beacon := { cand := goodBeacon, n := n, bad := bad } }) d
    (domReady d 9 = true ∧ beaconOk goodBeacon = true ∧ beaconOk (zeros 32) = false) ∧
    (fstat d 3 8 = false ∧ fstat d 3 10 = false ∧ fstat d 3 14 = false ∧ (ln (b 2 0) 3).beacon.n = 2 ∧
      beaconKey goodBeacon = beaconKey (ln (b 2 0) 3).beacon.cand ∧ (ln (b 0 7) 3).beacon.n = 0) ∧
    ((ln (b 0 6) 3).beacon.bad < 7 ∧ 7 ≤ (ln (b 0 7) 3).beacon.bad ∧ fstat (setLine 3 14 true (b 0 7)) 3 14 = true) ∧
    lrOhxEn (lineRec d 3) = true ∧ lrOhxEn (lineRec live 3) = false ∧
    (ohxIn.length = 40 ∧ u16 ohxIn 38 = crcCcitt (ohxIn.take 38) ∧ (zeros 40).length = 40 ∧ u16 (zeros 40) 38 ≠ crcCcitt ((zeros 40).take 38) ∧
      (ln d 3).ohx.inq.length < 2 ∧ fstat d 3 13 = false ∧ (ln d 3).ohx.idle < 16) ∧
    (let e := modLn 3 (fun l => { l with ohx := { l.ohx with idle := 16, rx := [default] } }) d
     (ln e 3).ohx.rx = [default] ∧ 16 ≤ (ln e 3).ohx.idle ∧ fstat e 3 13 = false) ∧
    (let e := modLn 3 (fun l => { l with ohx := { l.ohx with last := some default, inq := [some ohxIn, none] } }) d
     (ln e 3).ohx.rx = [] ∧ (ln e 3).ohx.last = some default ∧ (ln e 3).ohx.inq = [some ohxIn, none]) ∧
    (ln (modLn 3 (fun l => { l with ohx := { l.ohx with inq := [none] } }) d) 3).ohx.inq = [none] := by decide +kernel

/-- Container 1023 of line port 3 and client slice 3, with its payload; the framer of port 3 in frame. -/
def box (payload ext : Nat) : Bytes := [2, BitVec.ofNat 8 payload, 3, 0] ++ be 2 1 ++ be 2 0xFFFF ++ zeros 8 ++ be 1 ext ++ zeros 47
def boxed (payload ext : Nat) : Dev := modFramer 3 (fun f => { f with inFrame := true }) (withServ [(okey 2 1023, box payload ext)] live)
def marker (seq next : Nat) : Bytes := let b := be 4 seq ++ be 2 (next * 32); b ++ be 2 (markCrc b)
def header : Bytes := let b := zeros 6; b ++ be 2 (zpcHec b)
def core : Bytes := gfpCore (be 2 4 ++ be 2 (crc16 0x1021 0 (be 2 4)).toNat)
theorem witness_DelineatorsHuntAndSynchronise :
    let z := modPct 1023 (fun p => { p with rxPt := 0x8A }) (boxed 4 0)
    let w (x : Delin) : Dev := modPct 1023 (fun p => { p with delin := x }) z
    (domReady z (14 + contSlice z 1023) = true ∧ zpcDelin z 1023 = true ∧ delinHeld z 1023 = false ∧
      (marker 0 5).length = 8 ∧ zmOk (marker 0 5) = true ∧ (pct (w { resume := 9 }) 1023).delin.resume ≤ 9 ∧ (pct z 1023).delin.st = 0) ∧
    delinHeld (modFramer 3 (fun f => { f with inFrame := false }) z) 1023 = true ∧
    (let x := (pct (w { st := 2, seq := 2 ^ 32 - 1, grid := 100, next := some 113 }) 1023).delin
     x.st = 2 ∧ zmSeq (marker 0 5) = (x.seq + 1) % 2 ^ 32 ∧ markAgrees x.grid (marker 0 5) x.next = true ∧ x.next ≠ none) ∧
    (let x := (pct (w { st := 1, next := some 0 }) 1023).delin
     let y := (pct (w { st := 2, err := 2, next := some 0 }) 1023).delin
     y.st = 2 ∧ y.next = some 0 ∧ x.st = 1 ∧ x.next = some 0 ∧ header.length = 8 ∧ zhOk header = true ∧ (zeros 8).length = 8 ∧ zhOk (zeros 8) = false) ∧
    (gfpDelin (boxed 3 0) 1023 = true ∧ delinHeld (boxed 3 0) 1023 = false ∧ core.length = 4 ∧ gfpOk (gfpCore core) = true ∧
      gfpOk (gfpCore (zeros 4)) = false ∧
      (let x (st : Nat) := (pct (modPct 1023 (fun p => { p with delin := { st := st, next := some 0 } }) (boxed 3 0)) 1023).delin
       (x 0).st = 0 ∧ (x 0).resume ≤ 0 ∧ (x 1).st = 1 ∧ (x 1).next = some 0 ∧ (x 2).st = 2 ∧ (x 2).next = some 0)) ∧
    isZpc (ctRec z 1023) = true ∧ (pct z 1023).rxPt ≠ 255 ∧ (pct z 1023).rxPt = 0x8A := by decide +kernel

def extRecord (fc : Nat) : Bytes := let b := be 4 fc ++ zeros 2; b ++ be 2 (crcCcitt b)
theorem witness_ContainersJustifyAndResize :
    let d := modCont 1023 (fun x => { x with up := true }) (boxed 3 0x88)
    let w (f : Cont → Cont) : Dev := modCont 1023 f d
    (contOn d 1023 = true ∧ domReady d (6 + lineOf 1023) = true ∧ (tget {} (contOf d 1023).jc 1).cm < 1 ∧
      (let x := tget {} (contOf (w fun x => { x with jc := [(1, { bad := 2 })] }) 1023).jc 1
       2 ≤ x.bad) ∧ ctPayload (ctRec (boxed 0 0x88) 1023) = 0 ∧
      (let g := withServ [(okey 2 1023, [5, 0, 0, 0, 0, 0, 0xFF, 0xFF] ++ zeros 24)] d
       contOn g 1023 = true ∧ ctPayload (ctRec g 1023) = 0 ∧ ctType (ctRec g 1023) = 5) ∧
      byAmp d 1023 = false ∧
      (let e := withServ [(okey 2 1022, [4, 2, 3, 0, 0, 0, 0xFF, 0xFF] ++ zeros 24), (okey 2 1023, [1, 0, 3, 0, 0, 0, 3, 0xFE] ++ zeros 24)] d
       byAmp e 1023 = true ∧ contOn e 1023 = true) ∧
      ampVote [1, 1, 2] = some 1 ∧ ampVote [2, 2, 1] = some 2 ∧ ampVote [3, 3] = some 3 ∧ ampVote [1, 2] = none) ∧
    (rxFailed d 1023 = false ∧ extLock d 1023 = false ∧ (extRecord 3).length = 8 ∧
      u16 (extRecord 3) 6 = crcCcitt ((extRecord 3).take 6) ∧ u32 (extRecord 3) 0 % 256 = 3 ∧ (contOf d 1023).ext.good = 0 ∧
      (let x := (contOf (w fun x => { x with ext := { good := 1, rxFc := 2 ^ 32 - 1 } }) 1023).ext
       x.good = 1 ∧ u32 (extRecord 3) 0 = (x.rxFc + 4) % 2 ^ 32)) ∧
    (let e := withServ [(okey 2 1023, box 3 0x88), (okey 4 (3 * 65536), [15, 0, 0, 0] ++ be 2 1023 ++ zeros 50)] d
     ctPayload (ctRec e 1023) = 3 ∧ ctCsfEn (ctRec e 1023) = true ∧ domReady e (14 + contSlice e 1023) = true ∧
     ∃ x ∈ flowsOf e 1023, clientFailed e (ctxSlice x.1 * 16 + flPort x.2) = true) ∧
    (let area := (scramble 0 (gfpMgmt 1)).1
     let e := modPct 1023 (fun p => { p with delin := { st := 2, due := some (be 2 4 ++ [0, 0]) } }) d
     let b := (descramble (pct e 1023).des area).1
     frameDue e 1023 = some (1023, be 2 4 ++ [0, 0]) ∧ areaFits area (be 2 4 ++ [0, 0]) = true ∧ ctPayload (ctRec e 1023) = 3 ∧
     gfpTypeOk b = true ∧ gfpPti b = 4 ∧ gfpUpi b = 1) ∧
    ((contOf (w fun x => { x with flex := .lcrInc }) 1023).flex = .lcrInc ∧ (contOf (w fun x => { x with flex := .lcrDec }) 1023).flex = .lcrDec ∧
      (contOf (w fun x => { x with flex := .bwrUp }) 1023).flex = .bwrUp ∧ (contOf (w fun x => { x with flex := .bwrDown }) 1023).flex = .bwrDown ∧
      (contOf (w fun x => { x with flex := .lcrInc, acked := true }) 1023).acked = true ∧ (contOf d 1023).acked = false) ∧
    (let e := modMate (fun m => { m with st := 4 }) (w fun x => { x with missSeen := true })
     following e = true ∧ inStep e = true ∧ (contOf e 1023).missSeen = true ∧
     ∃ g ∈ justStages e 1023, justRec e 1023 g.1 = none) := by decide +kernel

/-! ### Witnesses: packet containers, queues, MEMC -/

/-- ZPC container 1023 in SYNC, its far end ZPC, the last context, and a range of all contexts to client port 15 of far port 255. -/
def range (drop : Nat) : Bytes := [4, 1] ++ zeros 6 ++ be 3 0 ++ be 3 (2 ^ 18 - 1) ++ be 1 (0xF0 + drop) ++ be 1 255 ++ zeros 40
def zpcHdr (len ty gen : Nat) (efcs : Bool) : Bytes :=
  let b := be 6 (len * 2 ^ 34 + ty * 2 ^ 31 + efcs.toNat * 2 ^ 30 + (2 ^ 18 - 1) * 2 ^ 12 + gen * 2 ^ 10)
  b ++ be 2 (zpcHec b)
def mixed (b : Bytes) : Bytes := (scramble 0 b).1
def zpc (drop : Nat) : Dev :=
  modPct 1023 (fun p => { p with rxPt := 0x8A, zpcOk := true, delin := { st := 2, due := some (zpcHdr 36 3 3 false) } })
    (modFramer 3 (fun f => { f with inFrame := true }) (withServ [(okey 2 1023, box 4 0), (okey 4 0x1003FF, range drop)] live))
def ctx : Nat := 2 ^ 18 - 1
def snd (st : SndState) (f : Snd → Snd) (d : Dev) : Dev := modSnd ctx (fun s => f { s with st := st, gen := 3, cont := 1023 }) d
theorem witness_ControlFramesActOnContexts :
    let d := zpc 0
    let h := zpcHdr 36 3 3 false
    let rxd := setRx 1023 ctx 3 (zeros 26) d
    let opened (b : Bytes) : Bytes := (descramble (pct d 1023).des (mixed b)).1
    let ctl (b : Bytes) : Bool := ctlFits ctx 3 (mixed b) h && decide (opened b = b)
    (frameDue d 1023 = some (1023, h) ∧ 3 < 256 ∧ following d = false) ∧
    (ctl (zeros 36) = true ∧ cbOk ccAnnounce (zeros 36) = false ∧ cbOk ccAck (zeros 36) = false ∧ cbOk ccWithdraw (zeros 36) = false ∧
      cbOk ccResync (zeros 36) = false ∧ cbOk ccFault (zeros 36) = false) ∧
    (let b (n : Nat) := ctlBody ccAnnounce false 0 (zeros n) 0 0
     ([13, 14, 26, 27].all fun n => ctl (b n) && cbOk ccAnnounce (b n)) = true ∧ 14 ≤ cbTlen (b 14) ∧ cbTlen (b 26) ≤ 26 ∧
     (rxOf rxd 1023 ctx).isSome = true ∧ frameDue rxd 1023 = some (1023, h) ∧ cbTlen (b 13) < 14 ∧ 26 < cbTlen (b 27)) ∧
    (let b (st : Nat) := ctlBody ccAck false st [] 0 0
     let x := sndOf (snd .announcing id d) ctx
     ([0, 1, 2, 3].all fun n => ctl (b n) && cbOk ccAck (b n) && cbStatus (b n) == n) = true ∧ x.st = .announcing ∧ x.gen = 3 ∧ x.cont = 1023 ∧
     learnHost d (contSlice d 1023) = false ∧ (sndOf (snd .active id d) ctx).st = .active ∧ wdrOf d 1023 ctx = none ∧
     wdrOf (setWdr 1023 ctx { gen := 3 } d) 1023 ctx = some { gen := 3 }) ∧
    (let b := ctlBody ccWithdraw false 0 [] 0 0
     ctl b = true ∧ cbOk ccWithdraw b = true ∧ cbAll b = false ∧ rxOf d 1023 ctx = none ∧ rxOf rxd 1023 ctx = some { gen := 3, tpl := zeros 26 }) ∧
    (let b := ctlBody ccResync false 0 [] 0 0
     let x := sndOf (snd .active id d) ctx
     ctl b = true ∧ cbOk ccResync b = true ∧ cbAll b = false ∧ x.st = .active ∧ x.gen = 3 ∧ x.cont = 1023 ∧ (sndOf d ctx).st = .full) ∧
    ctl (ctlBody ccFault false 0 [] 1 255) = true ∧ cbOk ccFault (ctlBody ccFault false 0 [] 1 255) = true ∧ (pct d 1023).zpcOk = true := by
  decide +kernel

/-- The same container with another frame due, and a GFP-F container with one; a client frame in GFP-F. -/
def dueZ (h : Bytes) (d : Dev) : Dev := modPct 1023 (fun p => { p with delin := { st := 2, due := some h } }) d
def gfpBox : Dev := withServ [(okey 2 1023, box 3 0), (okey 4 0x1003FF, range 0)] (zpc 0)
theorem witness_DataFramesAndContextTimers :
    let d := zpc 0
    let t := (frame 64).take 14
    let b := (frame 64).drop 14
    let opened (b : Bytes) : Bytes := (descramble 0 (mixed b)).1
    (let h (e : Bool) := zpcHdr 64 2 0 e
     let x (drop : Nat) (e : Bool) := dueZ (h e) (zpc drop)
     let w := (frame 64).set 63 0
     ([false, true].all fun e => decide (frameDue (x 0 e) 1023 = some (1023, h e)) && dataFFits ctx e false (mixed (frame 64)) (h e)) = true ∧
     (h false).length = 8 ∧ opened (frame 64) = frame 64 ∧ rangeOf (x 0 false) 1023 ctx = some 0 ∧ rgDrop (pcRec (x 0 false) 1023) 0 = false ∧
     rgDrop (pcRec (x 1 false) 1023) 0 = true ∧ rangeOf (x 1 false) 1023 ctx = some 0 ∧ fcsGood (frame 64) = true ∧
     dataFFits ctx false false (mixed w) (h false) = true ∧ opened w = w ∧ fcsGood w = false ∧
     rangeOf (withServ [(okey 2 1023, box 4 0)] (x 0 false)) 1023 ctx = none) ∧
    (let a := gfpHec (be 2 1) ++ frame 64
     let h := be 2 68 ++ [0, 0]
     let x := dueZ h gfpBox
     frameDue x 1023 = some (1023, h) ∧ dataFFits 0 false true (mixed a) h = true ∧ h.length = 4 ∧ opened a = a ∧ gfpTypeOk a = true ∧ gfpPti a = 0 ∧
     gfpUpi a = 1 ∧ rangeOf x 1023 0 = some 0 ∧ rgDrop (pcRec x 1023) 0 = false ∧ (gfpClient a).2 = false ∧ fcsGood (gfpClient a).1 = true ∧
     gfpTypeOk (opened (zeros 68 |>.set 0 1)) = false ∧ dataFFits 0 false true (mixed (zeros 68 |>.set 0 1)) h = true) ∧
    (let h (e : Bool) := zpcHdr 50 1 3 e
     let x (e : Bool) := setRx 1023 ctx 3 t (dueZ (h e) d)
     ([false, true].all fun e => decide (frameDue (x e) 1023 = some (1023, h e)) && dataCFits ctx 3 e (mixed b) (h e)) = true ∧
     rxOf (x false) 1023 ctx = some { gen := 3, tpl := t } ∧ opened b = b ∧ fcsGood (t ++ b) = true ∧
     (let y := dueZ (h false) d
      rxOf y 1023 ctx = none ∧ (tfind (pct y 1023).resyncCtx ctx).isNone = true ∧ following y = false ∧
      tfind (pct (modPct 1023 (fun p => { p with resyncCtx := [(ctx, 0)] }) y) 1023).resyncCtx ctx = some 0 ∧
      now y ≤ 0 + pcHold (pcRec y 1023))) ∧
    (frameDue live 1023).isNone = true := by decide +kernel
theorem witness_ContextTimers :
    let d := zpc 0
    (let x (n : Nat) := sndOf (snd .announcing (fun s => { s with sends := n }) d) ctx
     (x 7).st = .announcing ∧ learnFrozen d (ctxSlice ctx) = false ∧ (x 7).sends < 8 ∧ 8 ≤ (x 8).sends ∧ learnHost d (ctxSlice ctx) = false ∧
     (sndOf (snd .active id d) ctx).st = .active) ∧
    (let w (n : Nat) := wdrOf (setWdr 1023 ctx { gen := 3, sends := n } d) 1023 ctx
     (w 7).map (·.sends) = some 7 ∧ (w 8).map (·.sends) = some 8) ∧
    ((sndOf (snd .full (fun s => { s with delay := true }) d) ctx).delay = true ∧ (sndOf d ctx).delay = false) ∧
    (let p (m : Bool) := pct (modPct 1023 (fun p => { p with resync := true, missed := m }) d) 1023
     (pct d 1023).resync = false ∧ (p true).resync = true ∧ (p true).missed = true ∧ (p false).missed = false) ∧
    (let e := setRb (.cliPstat 3 15) 6 true (modCli 63 (fun c => c)
       (withServ [(okey 1 63, ethPort), (okey 2 1023, box 4 0), (okey 4 (3 * 65536), [15, 0, 0, 0] ++ be 2 1023 ++ zeros 50)] d))
     cpMode (servRec e 1 63) = 1 ∧ faultOf e 63 ≠ 0 ∧ contsOfPort e 63 = [1023] ∧ contsOfPort e 62 = []) ∧
    (let e := withServ [(okey 2 1023, box 4 0), (okey 4 0x1003FF, (range 0).set 15 7)] d
     portsOfFar e 1023 7 = [63] ∧ portsOfFar e 1023 255 = []) ∧ tget 0 (pct (modPct 1023 (fun p => { p with faultRx := [(63, 2)] }) d) 1023).faultRx 63 ≠ 0 := by decide +kernel


theorem witness_QueuesAndUnitsMove :
    let d := zpc 0
    let w (f : PktCont → PktCont) : PktCont := pct (modPct 1023 f d) 1023
    (isPkt (ctRec d 1023) = true ∧ (serv d 2 1023).isSome = true ∧ domReady d (14 + contSlice d 1023) = true ∧
      (pct (encapFrame 1023 0 d).2 1023).cur = none ∧
      (pct (encapFrame 1023 0 (modPct 1023 (fun p => { p with cur := some ctx }) d)).2 1023).cur = some ctx ∧ (serv live 2 1023).isSome = false) ∧
    ((w fun p => { p with units := [{}] }).units.length < 2 ∧ partnerOf d.prov.serv 1023 = none ∧ 5 ≤ (w fun p => { p with rest := 5 }).rest ∧
      2 ≤ (w fun p => { p with units := [{}, {}] }).units.length) ∧
    ((w fun p => { p with units := [{ marks := [(ctx, 1)] }, {}] }).units = [{ marks := [(ctx, 1)] }, {}] ∧
      tfind ({} : AsmUnit).marks ctx = none ∧ (pct d 1023).units = []) ∧
    (let b : SpillBlk := { bytes := 2048 }
     let e := modQueue 3 true 127 (fun q => { q with inFlight := 1, blocks := [b] }) d
     isSlice 3 = true ∧ isQueue 3 true 127 = true ∧ isQueue 3 false ctx = true ∧ (queueAt e 3 true 127).inFlight ≠ 0 ∧
     (queueAt e 3 true 127).blocks = [b] ∧ (queueAt d 3 true 127).inFlight = 0) ∧
    (let j : FlushJob := { whole := true, k := 1, wait := [ctx] }
     let e := modPct 1023 (fun p => { p with jobs := [j] }) (withServ [(okey 4 ctx, [15, 0, 0, 0] ++ be 2 1023 ++ zeros 50)] d)
     ((pct e (flowCont e ctx)).jobs.filter fun j => j.wait.contains ctx) = [j] ∧ ∀ j ∈ (pct e (flowCont e ctx)).jobs, ctx - 1 ∉ j.wait) ∧
    (let e := modQueue 3 true 65535 (fun q => { q with unread := [{ bytes := [1] }] }) (withServ [(okey 0x0C 3, zeros 14 ++ be 2 1 ++ zeros 16)] d)
     mqEgStale (mqRec e 3) ≠ 0 ∧ 0 < qBytes (egQ e 3 65535) ∧ qBytes (egQ e 3 65534) = 0) ∧
    (let e := modQueue 3 false ctx (fun q => { q with unread := [{ bytes := [1] }] }) (withServ [(okey 2 1023, box 4 0),
       (okey 4 ctx, [15, 0, 7, 0] ++ be 2 1023 ++ zeros 50), (okey 6 8191, List.replicate 32 1)] d)
     qcStaleMs (qcRec e 1023 7) ≠ 0 ∧ contSlice e 1023 = 3 ∧ 0 < cqBytes e 1023 7) := by decide +kernel

theorem witness_MemoryIsGrantedAndTrained :
    let d := setRf (.memcGstat 3) 2 0 4 (setRb .glbStrap 1 true live)
    let t := modDom 21 (fun x => { x with st := .ramping, untrained := true }) d
    ([1, 2, 3, 2 ^ 40].length = 4 ∧ domReady d 22 = true ∧ domReady (domAt 22 .off d) 22 = false) ∧
    (isSlice 3 = true ∧ isQueue 3 false ctx = true ∧ domReady d (18 + 15 / 4) = true ∧ 15 / 4 ∈ memGroups d ∧
      (queueAt d 3 false ctx).spilled = 0 ∧ tget [] d.pkt.memc.fails 15 = []) ∧
    rf d (.memcGstat 3) 2 0 = 4 ∧ rf live (.memcGstat 3) 2 0 ≠ 4 ∧ (dom t (18 + 3)).st = .ramping ∧ (dom t (18 + 3)).untrained = true := by decide +kernel

/-! ### Witnesses: elastic capacity, protection, merge groups -/

/-- A resize message of line port 3 with a correct CRC. -/
def rmsg (kind flags id map cd reason crc : Nat) : Bytes :=
  let b := [0x5A, 0x52] ++ be 1 kind ++ be 1 flags ++ be 4 id ++ be 2 (slotCount map) ++ be 1 cd ++ be 1 reason ++ zeros 6 ++ be 4 crc ++ mapBytes map
  b ++ be 2 (crcCcitt b)
/-- Line port 3 with RESIZE_EN, its far end a ZK6400 whose beacon shows the function. -/
def elastic : Dev :=
  setRb (.lineStat 3) 14 true (modLn 3 (fun l => { l with beacon := { acc := some (goodBeacon.take 2 ++ List.replicate 28 0xFF ++ zeros 2) } })
    (withServ [(okey 0x0A 3, zeros 160 ++ List.replicate 40 0xFF ++ [0xE0, 8, 0, 1] ++ be 2 319 ++ be 2 200 ++ be 2 1000 ++ zeros 14), (okey 0x0B (akey 5 3), [5, 0, 0, 10, 0, 0, 0, 0])] live))
/-- The CRC-32 of 64 more bytes of zeros, ten times: the calendar CRC of a port without containers. -/
def crcOn (c : BitVec 32) (b : Bytes) : BitVec 32 := b.foldl (fun c x => crcByteRefl 0xEDB88320 8 (c ^^^ (x.setWidth 32))) c
theorem crc_zeros :
    crcOn 0xffffffff (zeros 64) = 0x8a729cc9 ∧
    crcOn 0x8a729cc9 (zeros 64) = 0x3d570562 ∧
    crcOn 0x3d570562 (zeros 64) = 0x7400f70d ∧
    crcOn 0x7400f70d (zeros 64) = 0xf2697aa7 ∧
    crcOn 0xf2697aa7 (zeros 64) = 0x5238a8b2 ∧
    crcOn 0x5238a8b2 (zeros 64) = 0x77452eb8 ∧
    crcOn 0x77452eb8 (zeros 64) = 0xb975e9bc ∧
    crcOn 0xb975e9bc (zeros 64) = 0x4d558a87 ∧
    crcOn 0x4d558a87 (zeros 64) = 0xbc13e70c ∧
    crcOn 0xbc13e70c (zeros 64) = 0xb488e925 := by decide +kernel
theorem crc_no_calendar (d : Dev) (p m : Nat) (h : (ln d p).cal = []) : calCrc d p m = 1266095834 := by
  have hz : ((List.range 320).flatMap fun _ => be 2 0) = zeros 64 ++ (zeros 64 ++ (zeros 64 ++ (zeros 64 ++ (zeros 64 ++ (zeros 64 ++
      (zeros 64 ++ (zeros 64 ++ (zeros 64 ++ zeros 64)))))))) := by decide +kernel
  have ha : ∀ (c : BitVec 32) (a b : Bytes), crcOn c (a ++ b) = crcOn (crcOn c a) b := fun c a b => List.foldl_append
  obtain ⟨h1, h2, h3, h4, h5, h6, h7, h8, h9, h10⟩ := crc_zeros
  have hc : crcOn 0xFFFFFFFF ((List.range 320).flatMap fun _ => be 2 0) = 0xb488e925 := by
    rw [hz]; simp only [ha, h1, h2, h3, h4, h5, h6, h7, h8, h9, h10]
  have hb : calCrc d p m = (~~~ crcOn 0xFFFFFFFF ((List.range 320).flatMap fun _ => be 2 0)).toNat := by
    simp only [calCrc, crc32, crcOn, h, tfind, ite_self]
  rw [hb, hc]; rfl
def full320 : Nat := 2 ^ 320 - 1
theorem witness_ResizesRunTheirHandshake :
    let d := elastic
    let w (f : Rsz → Rsz) : Dev := modRz 3 f d
    let crc := 1266095834
    let q (k : Nat) : Bytes := rmsg k 0 7 full320 1 9 crc
    (domReady d 9 = true ∧ rmOk (zeros 64) = false ∧ fstat d 3 8 = false ∧ fstat d 3 10 = false ∧ following d = false ∧ assisted d 5 3 = false) ∧
    ([0, 1, 2, 3, 4, 5].all fun k => rmOk (q k) && rmMsg (q k) == k
      && (rz (w fun z => { z with heard := some (0, q k) }) 3).heard == some ((ln d 3).rxMf, q k)
      && (rz d 3).heard != some ((ln d 3).rxMf, q k)) = true ∧ rmId (q 1) = 7 ∧ rmId (q 1) ≠ 8 ∧
    (rz d 3).st = 0 ∧ rmMap (q 1) = full320 ∧ rmPreempt (q 1) = false ∧ rmCrc (q 1) = crc ∧
    verdict (withServ [(okey 0x0A 3, zeros 224)] d) 3 (rmMap (q 1)) (rmPreempt (q 1)) (rmCrc (q 1)) = 1 ∧
    2 ≤ verdict d 3 (rmMap (rmsg 1 0 7 0 0 0 crc)) false (rmCrc (q 1)) ∧
    (let z := rz (w fun z => { z with st := 1, propId := 7, newMap := full320 }) 3
     z.st = 1 ∧ rmId (q 2) = z.propId ∧ rmCrc (q 2) = crc ∧ (ln (w fun z => { z with st := 1, propId := 7, newMap := full320 }) 3).cal = []) ∧
    (let z := rz (w fun z => { z with st := 3, propId := 7, newMap := 1 }) 3
     z.st = 3 ∧ rmId (q 5) = z.propId ∧ z.pred = none ∧ z.farMap ≠ some z.newMap) ∧
    (rz (w fun z => { z with st := 2 }) 3).st = 2 ∧
    (let z := rz (w fun z => { z with st := 4, propId := 7 }) 3
     rmCd (q 4) ≠ 0 ∧ z.st = 4 ∧ rmId (q 4) = z.propId ∧ z.pred = none ∧ z.rxDone = false) ∧
    (rz d 3).fresh = false ∧ rmMap (q 0) = (rz d 3).rxMap ∧
    (let e := w fun z => { z with st := 4, msg := 4, cd := 1 }
     (rz e 3).msg = 4 ∧ (rz e 3).cd = 1 ∧ (rz e 3).txDone = false ∧ (ln e 3).txMfas = 0 ∧ (rz e 3).st = 4 ∧
     (ln (modLn 3 (fun l => { l with txMfas := 255 }) e) 3).txMfas ≠ 0) ∧
    (let e := w fun z => { z with pred := some (0, 5) }
     (rz e 3).pred = some (0, 5) ∧ 0 ≤ (ln e 3).rxMf) ∧
    (let z := rz (w fun z => { z with fresh := true, farMap := some full320 }) 3
     z.fresh = true ∧ z.farMap = some z.txMap ∧ z.rxMap = z.txMap) := by decide +kernel

/-- A proposal that is accepted. -/
theorem witness_AProposalIsAccepted : verdict elastic 3 full320 false 1266095834 = 0 := by
  have h : calCrc elastic 3 full320 = 1266095834 := crc_no_calendar _ _ _ (by decide +kernel)
  simp only [verdict, h]
  decide +kernel

/-- Protection group 511 over containers 1022 and 1023, unidirectional and bidirectional, with and without a hold-off. -/
def prot (arch hold : Nat) : Bytes := [BitVec.ofNat 8 arch, 0, 0, 0] ++ be 2 1022 ++ be 2 1023 ++ be 1 hold ++ zeros 23
theorem witness_ProtectionFollowsConditions :
    let d := withServ [(okey 7 511, prot 0 0), (okey 2 1022, box 3 0), (okey 2 1023, box 3 0)] live
    let h := withServ [(okey 7 511, prot 0 1), (okey 2 1022, box 3 0), (okey 2 1023, box 3 0)] live
    let fail (d : Dev) : Dev := modCont 1022 (fun x => { x with pre := true }) d
    let w (f : ProtGrp → ProtGrp) : ProtGrp := pg (modPg 511 f d) 511
    (bidirectional (prot 0 0) {} = false ∧ bidirectional (prot 1 0) {} = true) ∧
    (let p : ProtGrp := { far := [BitVec.ofNat 8 0xB0, 1, 0, 0] }
     bidirectional (prot 1 0) p = true ∧ farCode p ≠ 0 ∧ (localReq (prot 1 0) p).1 < farCode p) ∧
    (let p : ProtGrp := { raised := 2 }
     p.cmds.testBit 1 = false ∧ p.raised.testBit 1 = true) ∧
    (let p : ProtGrp := { raised := 1 }
     p.cmds.testBit 1 = false ∧ p.cmds.testBit 2 = false ∧ p.cmds.testBit 3 = false ∧ p.raised.testBit 1 = false ∧ p.raised.testBit 0 = true) ∧
    (let p : ProtGrp := { cmds := addCmd 4 (addCmd 1 0) } -- MS-W after LO: LO stays in force
     p.cmds.testBit 1 = true ∧ localReq (prot 0 0) p = (15, false)) ∧
    (let p : ProtGrp := { cmds := addCmd 2 0 }
     p.cmds.testBit 1 = false ∧ p.raised.testBit 1 = false ∧ p.cmds.testBit 2 = true) ∧
    (hasPg d 511 = true ∧ pgHoldoff (pgRec d 511) = 0 ∧ condOf (fail d) 511 = 1 ∧ (pg d 511).cond = 0 ∧ (pg d 511).raised = 0 ∧
      (pg d 511).hold = [] ∧ hasPg h 511 = true ∧ pgHoldoff (pgRec h 511) ≠ 0 ∧ condOf (fail h) 511 = 1) ∧
    ((let h := pg (modPg 511 (fun p => { p with hold := [(0, 0)] }) (atEpoch 99 h)) 511
      ((h.hold.filter fun e => decide (e.2 + 100 * pgHoldoff (prot 0 1) ≤ now (atEpoch 99 d) + 1)).map (·.1)) = [0]) ∧
      ((w fun p => { p with hold := [(0, 0)] }).hold.filter fun e => decide (e.2 + 100 * pgHoldoff (prot 0 1) ≤ now (atEpoch 98 d) + 1)) = [] ∧ (w fun p => { p with wtr := true }).wtr = true ∧ following d = false ∧ (pg d 511).wtr = false) ∧
    ((zeros 4).length = 4 ∧ (w fun p => { p with cand := zeros 4, candN := 1 }).candN < 2 ∧ zeros 4 ≠ (pg d 511).cand) ∧
    (let p := w fun p => { p with cand := zeros 4, candN := 2 }
     zeros 4 = p.cand ∧ p.candN = 2 ∧ p.farSeen = false) := by decide +kernel

/-- Merge group 255 over containers 1022 and 1023 in MODE and with PREF. -/
def merge (mode pref : Nat) : Dev :=
  withServ [(okey 8 255, [BitVec.ofNat 8 mode, 0, BitVec.ofNat 8 pref, 0] ++ be 2 1022 ++ be 2 1023 ++ zeros 24)] live
theorem witness_MergesDeliverEachUnitOnce :
    let d := merge 1 0
    let w (f : MergeGrp → MergeGrp) : MergeGrp := mg (modMg 255 f d) 255
    let a : UnitCopy := { num := 9, at_ := 0, clean := true, content := [1] }
    (hasMg d 255 = true ∧ mgMode (mgRec d 255) = 1 ∧ (mg d 255).st = 0 ∧ 2 ^ 32 - 1 < 2 ^ 32 ∧ delivered (mg d 255) 0 (2 ^ 32 - 1) = false) ∧
    (let m := w fun m => { m with st := 2, set_ := 3, copies := [(0, [a]), (1, [{ a with clean := false }])] }
     dueEra m 9 = 0 ∧ m.st ≠ 0 ∧ delivered m 0 9 = false ∧ m.set_ = 3 ∧ m.lag = 0 ∧ (tget [] m.copies 0).find? (fun x => x.era == 0 && x.num == 9) = some a ∧
     (tget [] m.copies 1).find? (fun x => x.era == 0 && x.num == 9) = some { a with clean := false }) ∧
    (let m := w fun m => { m with last := some 9 }
     delivered m (dueEra m 9) 9 = true) ∧
    (let m := w fun m => { m with st := 1, rejoin := true, qual := 3 }
     m.st = 1 ∧ m.rejoin = true ∧ m.qual = 3 ∧ m.lag = 0 ∧ m.cmd = 0 ∧ assisted d 3 255 = false ∧ following d = false ∧ (mg d 255).rejoin = false) ∧
    (let e := merge 0 0
     hasMg e 255 = true ∧ mgMode (mgRec e 255) = 0 ∧ assisted e 3 255 = false ∧ (mg e 255).cmd = 0 ∧ (mg e 255).discard = none ∧
     (mg e 255).last = none ∧ (mg (modMg 255 (fun m => { m with last := some (2 ^ 32 - 1) }) e) 255).last = some (2 ^ 32 - 1)) := by decide +kernel

/-! ### Witnesses: the mate pair -/

/-- A device with its mate in STATE and role; a heartbeat of the mate with its flags and STATE. -/
def mated (st : Nat) (active : Bool) (d : Dev) : Dev := modMate (fun m => { m with st := st, active := active }) d
def hb (flags st : Nat) : Bytes :=
  be 1 flags ++ be 1 st ++ zeros 26 ++ be 4 (fwId live) ++ be 1 (memPop live) ++ be 1 (siRev live) ++ zeros 18
theorem witness_HeartbeatsPairTheMates :
    let get (b : Bytes) (d : Dev) : Dev := tryPair b (heard b 0 0 d)
    (let d := modMate (fun m => { m with mateActive := true }) (mated 1 false live)
     d.mate.st = 1 ∧ d.mate.active = false ∧ d.mate.mateActive = true ∧ refusal d (hb 0xC4 6) = none ∧ refusal d (zeros 52) = some 1 ∧
     refusal d (hb 0xC0 6) = some 4) ∧
    (let d := modMate (fun m => { m with mateSt := 1 }) (mated 6 true live)
     d.mate.st = 6 ∧ d.mate.active = true ∧ d.mate.mateActive = false ∧ d.mate.mateSt = 1 ∧ refusal d (hb 0x84 1) = none) ∧
    ((mated 4 false live).mate.st ≠ 1 ∧ (mated 4 false live).mate.st ≠ 6 ∧ domReady live 5 = true ∧ (mated 4 false live).mate.st ≠ 0) ∧
    ((hb 0xC4 6).length = 52 ∧
      (let e := get (hb 0x44 6) (mated 6 true (setRb .glbStrap 0 true live)); e.mate.active = true ∧ e.mate.mateActive = true ∧ roleB e = true) ∧
      (let e := get (hb 0xC4 6) (mated 6 true live); e.mate.active = true ∧ e.mate.mateActive = true ∧ roleB e = false) ∧
      (let e := get (hb 0x94 6) (mated 4 true live); e.mate.active = true ∧ e.mate.mateActive = false ∧ e.mate.mateFatal = true) ∧
      (let e := get (hb 0xC4 6) (mated 5 false live); e.mate.active = false ∧ e.mate.st = 5) ∧
      (let e := get (hb 0xC4 6) (mated 4 false live); e.mate.active = false ∧ e.mate.st ≠ 5) ∧
      (let e := get (hb 0x84 4) (mated 4 true live); e.mate.active = true ∧ e.mate.mateActive = false ∧ e.mate.mateFatal = false)) ∧
    ((mated 4 false live).mate.actFree = false ∧ (mated 4 false live).mate.hbOk = false ∧ (zeros 52).length ≤ 52 ∧ (modMate (fun m => { m with actFree := true }) (mated 3 false live)).mate.actFree = true) ∧
    (reliable 7 = true ∧ reliable 255 = false ∧ following (mated 4 false live) = true ∧
      (tget [] (mated 4 false live).mate.kept 7).findIdx? (fun c => c.seq == 65535) = none ∧
      (let d := modMate (fun m => { m with kept := [(7, [{ ty := 7, seq := 0, payload := [] }, { ty := 7, seq := 65535, payload := [] }])] }) (mated 4 true live)
       (tget [] d.mate.kept 7).findIdx? (fun c => c.seq == 65535) = some 1)) := by decide +kernel

theorem witness_TheActiveRoleIsHandedOver :
    let w (st : Nat) (a : Bool) (f : MateSt → MateSt) : MateSt := (modMate f (mated st a live)).mate
    (domReady live 5 = true ∧ (w 4 false id).st = 4 ∧ (w 4 false id).active = false ∧ (w 4 true id).active = true) ∧
    ((w 4 true fun m => { m with handover := some (1, 1) }).handover = some (1, 1) ∧
      (w 4 true fun m => { m with handover := some (1, 2) }).handover = some (1, 2) ∧
      (w 4 true id).thenReset = none ∧ (w 4 true id).handover = none) ∧
    (let m := w 4 false fun m => { m with hbOk := true, mateActive := true }
     m.active = false ∧ m.hbOk = true ∧ m.mateActive = true ∧ m.mateFatal = false ∧ mateLive live mPinFault = false) ∧
    ((w 3 false id).hbOk = false ∧ (w 3 false fun m => { m with hbOk := true }).mateActive = false) ∧
    (roleB (setRb .glbStrap 0 true live) = true ∧ mateLive (setRb .glbStrap 0 true live) mLinkUp = false ∧ roleB live = false) ∧
    (rf (setStage 7 live) .glbBootStat 3 0 = 7 ∧ rf (setStage 6 live) .glbBootStat 3 0 ≠ 7 ∧ (w 2 false id).st = 2 ∧ (w 1 false id).st = 1 ∧
      (w 2 false fun m => { m with actFree := true }).actFree = true ∧
      (let d := setStage 7 (setMateLive mLinkUp true (modMate (fun m => { m with hbOk := true }) (mated 2 false live)))
       rf d .glbBootStat 3 0 = 7 ∧ d.mate.hbOk = true ∧ d.mate.mateActive = false ∧ mateLive d mLinkUp = true ∧ roleB d = false)) ∧
    (let d (n : Int) : Dev := setReg .matePhase (BitVec.ofInt 32 n) (mated 4 false live)
     mateLive (d 101) mPhase = false ∧ 100 < (s32 (reg (d (-101)) .matePhase).toNat).natAbs ∧
     mateLive (setMateLive mPhase true (d (-100))) mPhase = true ∧ (s32 (reg (setMateLive mPhase true (d (-100))) .matePhase).toNat).natAbs ≤ 100) := by
  decide +kernel

theorem witness_TheStandbyFollowsTheActive :
    let d := mated 3 false live
    let w (st : Nat) (a : Bool) (f : MateSt → MateSt) : Dev := modMate f (mated st a live)
    (domReady d 5 = true ∧ following d = true ∧ u8 ([9] : Bytes) 0 = 9 ∧ d.mate.st ≠ 2 ∧ d.mate.joinAt = none ∧ following (mated 3 true live) = false ∧
      (w 3 false fun m => { m with joinAt := some (2 ^ 48 - 1) }).mate.joinAt ≠ none) ∧
    (264 ≤ (zeros 264).length ∧ (zeros 263).length < 264) ∧
    (let e : Nat × Nat × Nat × Nat := (0, 0, 0, 0)
     let m := (w 4 true fun m => { m with statuses := [e] }).mate
     m.active = true ∧ m.statuses.find? (sameResult (u48 (zeros 16) 0, u8 (zeros 16) 6, u16 (zeros 16) 8, u16 (zeros 16) 12)) = some e ∧
     (mated 2 true live).mate.statuses.find? (sameResult (u48 (zeros 16) 0, u8 (zeros 16) 6, u16 (zeros 16) 8, u16 (zeros 16) 12)) = none ∧
     e.2.2.2 = u16 (zeros 16) 12 ∧ e.2.2.2 ≠ u16 (zeros 12 ++ [0, 1]) 12) ∧
    ((mated 2 false live).mate.st = 2 ∧ (mated 2 false live).mate.joinS = false ∧ [0, 0, 0, 255].length = 4 ∧
      (w 2 false fun m => { m with joinS := true }).mate.joinS = true) ∧
    (let e := atEpoch 9 (w 3 false fun m => { m with joinAt := some 9 })
     e.mate.joinAt = some 9 ∧ 9 ≤ now e ∧ e.mate.st = 3 ∧ e.mate.active = false ∧ e.mbx.mir.filter (fun i => !i.own && decide (i.x ≤ now e)) = []) ∧
    (w 5 false id).mate.st = 5 ∧ d.mate.digest.length = 12 ∧
    (let m := (w 4 false fun m => { m with bad := [(8, 2)] }).mate
     (List.range 12).filter (fun k => m.digest.getD k 0 != ((List.replicate 12 0).set 8 1).getD k 0) = [8] ∧ m.active = false ∧ tget 0 m.bad 8 = 2 ∧
     ((List.replicate 12 (0 : Word)).set 8 1).length = 12) := by decide +kernel

theorem witness_GroomerReportsItsPasses :
    65535 < 65536 ∧ 255 < 256 ∧ 3 < 4 ∧ domReady live (18 + 3) = true ∧ domReady (domAt 21 .off live) (18 + 3) = false ∧
    (let e (k : Nat) : QueueErr := { slice := 3, eg := true, queue := 127, kind := k }
     (e 0).kind = 0 ∧ queueProt live (e 2) ≠ 1 ∧ queueProt (withServ [(okey 0x0C 3, zeros 64)] live) (e 3) ≠ 2) := by decide +kernel

/-! ### Witnesses: timing, the memories, the estimates -/

/-- Reference r enabled, qualified and measured. -/
def refWith (r : Nat) (f : TimRef → TimRef) (d : Dev) : Dev :=
  modRef r (fun x => f { x with rec_ := [0x80, 1, 0, 1] ++ zeros 28, qualified := true, fresh := false }) d
theorem witness_ReferencesQualifyAndDpllsLock :
    let w (f : Dpll → Dpll) : Dev := modDp 3 f live
    (domReady live 3 = true ∧ selectable 23 (tr (refWith 23 id live) 23).rec_ = true) ∧
    (let d := refWith 7 id live
     rrEn (tr d 7).rec_ = true ∧ d.tim.pend = none ∧ (tr d 7).los = false ∧ (tr d 7).oor = false ∧ (tr d 7).qualified = true ∧
     ((List.range 4).filter fun i => selBy d i 7 && !drFollow (dpRec d i)) = [] ∧
     (let e := modDp 3 (fun x => { x with sel := some 7 }) d
      ((List.range 4).filter fun i => selBy e i 7 && !drFollow (dpRec e i)) = [3]) ∧ (tr live 7).qualified = false) ∧
    ((-5000000 : Int).natAbs ≤ 5000000 ∧ (tr (refWith 7 (fun x => { x with los := true }) live) 7).los = true ∧
      (let x := tr (refWith 23 (fun x => { x with hold := true, los := true }) live) 23
       x.hold = true ∧ x.los = true) ∧
      (let x := tr (refWith 23 (fun x => { x with hold := true, oor := true }) live) 23
       x.hold = true ∧ x.los = false ∧ x.oor = true) ∧ (tr live 23).hold = false) ∧
    (let x := tr (refWith 23 (fun x => { x with wtr := true, qualified := false }) live) 23
     x.wtr = true ∧ mayRestore x = true) ∧ (tr live 23).wtr = false ∧
    (following live = false ∧ drFollow (dpRec (modDp 1 (fun x => { x with rec_ := [1, 0x80, 2, 2] }) live) 1) = false ∧
      (dp (w fun x => { x with st := 1, lockRun := 3 }) 3).st = 1 ∧ 3 ≤ (dp (w fun x => { x with st := 1, lockRun := 3 }) 3).lockRun ∧
      (dp (w fun x => { x with st := 1, lockRun := 2 }) 3).lockRun < 3) ∧
    (let d := atEpoch 60000 (w fun x => { x with st := 2 })
     (dp d 3).st = 2 ∧ 60000 ≤ now d - (dp d 3).since ∧ now (atEpoch 59999 d) - (dp d 3).since < 60000) ∧
    (let d := refWith 23 id (w fun x => { x with st := 2, sel := some 23 })
     (dp d 3).st = 2 ∧ (dp d 3).sel = some 23 ∧ isFrozen d 7 3 = false ∧
     isFrozen { d with asst := { d.asst with frozen := [akey 7 3] } } 7 3 = true ∧ (tr d 23).softLive = false ∧ (tr d 23).hardUnconf = false ∧ (dp live 3).sel = none) ∧
    ((zeros 36).length = 36 ∧ 1440 ≤ (dp (w fun x => { x with mins := List.replicate 1440 (0, 0) }) 3).mins.length ∧ (dp live 3).mins.length < 1440 ∧
      assisted live 7 3 = false ∧ assisted (withServ [(okey 0x0B (akey 7 3), [7, 1, 0, 10, 0, 0, 0, 0])] live) 7 3 = true) := by decide +kernel
/-- A model in force, a reference that agrees with the one selected, and a frequency 1 above SOFT_PPB away from the model's. -/
def stale (f : Int) : Dev := modTim (fun t => { t with warm := 8 })
  (refWith 22 id (refWith 23 (fun x => { x with f := f }) (modDp 3 (fun x => { x with st := 2, sel := some 23, model := 2 }) live)))
theorem witness_AModelGoesStale :
    (dp (stale 5) 3).st = 2 ∧ (dp (stale 5) 3).sel = some 23 ∧ xoTrusted (stale 5) 3 = true ∧ (tr (stale 5) 22).qualified = true ∧
    gap (tr (stale 5) 22).d (tr (stale 5) 23).d ≤ drAgree (dpRec (stale 5) 3) ∧ rrSoft (tr (stale 5) 23).rec_ = 0 ∧
    assisted (stale 5) 7 3 = false ∧ xoTrusted live 3 = false := by decide +kernel
theorem witness_AModelGoesStale_gap : let f := expectP (stale 5) 3 + 1
    (tr (stale f) 23).f = f ∧ 0 < gap f (expectP (stale f) 3) := by
  refine ⟨rfl, ?_⟩
  have h : expectP (stale (expectP (stale 5) 3 + 1)) 3 = expectP (stale 5) 3 := rfl
  rw [h]
  simp only [gap]
  omega

theorem witness_PulsesFollowTheirAlignment :
    let d := modTim (fun t => { t with out := [(tPps, zeros 4 ++ 0x80 :: zeros 11), (tFp, zeros 4 ++ 0x80 :: zeros 11)] }) live
    let w (p : AlignPend) : Dev := atEpoch 2000 (modTim (fun t => { t with pend := some p }) d)
    let p : AlignPend := { target := tPps, mode := 1, ref := 0, offset := 499999999, epoch := 2000 }
    (domReady d 3 = true ∧ pulseOn d tPps = true ∧ pulseOn d tFp = true ∧ d.tim.skipPps = false ∧ d.tim.skipFp = false ∧
      (modTim (fun t => { t with skipPps := true, skipFp := true }) d).tim.skipPps = true ∧
      pulseOn (modTim (fun t => { t with out := [(tPps, zeros 16), (tFp, zeros 16)] }) d) tPps = false ∧
      pulseOn (modTim (fun t => { t with out := [(tPps, zeros 16), (tFp, zeros 16)] }) d) tFp = false ∧ d.tim.pend = none) ∧
    ((w p).tim.pend = some p ∧ now (atEpoch 1999 (w p)) < p.epoch ∧ now (atEpoch 2001 (w p)) % 1000 ≠ 0 ∧ p.epoch ≤ now (w p) ∧
      now (w p) % 1000 = 0 ∧ p.mode = 1 ∧ following (mated 4 false (w p)) = true ∧ following (w p) = false ∧ p.lost = false ∧
      ({ p with edges := 9 } : AlignPend).edges < 10 ∧ ({ p with lost := true } : AlignPend).lost = true) ∧
    ({ p with mode := 0 } : AlignPend).mode = 0 ∧ p.target = tPps ∧ ({ p with target := tFp } : AlignPend).target = tFp ∧
    (-500000000 : Int) ≤ -500000000 ∧ (499999999 : Int) < 500000000 := by decide +kernel

theorem witness_OtherCommandsLeaveTheMemories : mayStore .epochBoundary = false ∧ mayStore (.dpllLocked 3) = false ∧
    (∃ t, Machine.exec (.domainReady 24) (at_ live) = .next t) := ⟨rfl, rfl, _, rfl⟩

/-- A domain at the cap, and 0.01 W above it, that needs no other. -/
theorem witness_EstimatesBoundConsumption :
    let d := domAt 23 .off live
    domAwake d 23 = false ∧ (requires 23).all (domAwake d) = true ∧ 22 ≤ 23 ∧
    (let e := setRf .pwrCap 15 0 (load d + 175) d
     load e + estOf e.fuse.ib 23 ≤ rf e .pwrCap 15 0) ∧
    (let e := setRf .pwrCap 15 0 (load d + 174) d
     rf e .pwrCap 15 0 < load e + estOf e.fuse.ib 23) := by decide +kernel

/-- Devices whose balls each clause names: held in reset, in a warm reset, and running with memory groups in self-refresh and off. -/
theorem witness_BallsTakeTheStatesOfTheirGroups :
    let warm : Dev := { live with pin := { live.pin with warmRstN := false } }
    held State.reset.dev = true ∧ (held warm = false ∧ warm.pin.warmRstN = false) ∧
    (held live = false ∧ domReady (domAt 17 .isolating live) 17 = false) ∧
    (let d := domAt 18 .selfRefresh (domAt 21 .off live)
     held d = false ∧ memKept d (0 / 4) = true ∧ (dom d (18 + 15 / 4)).st = .off ∧ memKept (modDom 19 (fun x => { x with st := .deferred, untrained := false }) live) 1 = true ∧
     memKept (modDom 19 (fun x => { x with st := .ramping, untrained := false }) live) 1 = true ∧ memKept live 1 = false) ∧ warm.boot.keptPcie = false ∧ live.nvm.jtagLeft = none := by
  decide +kernel

/-- A DPLL in LOCK whose error passes the loss threshold by one. -/
theorem witness_ALockIsLost :
    let d := modDp 3 (fun x => { x with st := 2 }) live
    (3 ≠ 1 ∨ drFollow (dpRec d 1) = false) ∧ following d = false ∧ (dp d 3).st = 2 ∧ (dp d 3).frozen = false ∧ 10000 < (10001 : Int).natAbs := by
  decide +kernel

end Sys2Proof.Tests
end

section
/-! SUPPORT. MGMT_INT_N (R119): the conjunction of two registers is non-zero where they share a set bit, and the interrupt is low
for such a bit of GLB_INT_STAT and GLB_INT_MGMT_EN, or for FATAL. -/

namespace Sys2Proof.Proofs

open Sys2Proof.Machine

/-- Two words have a non-zero conjunction exactly where one bit is set in both. -/
theorem and_ne_zero_iff_exists_bit (x y : Word) :
    x &&& y ≠ 0 ↔ ∃ i, i < 32 ∧ bit x i = true ∧ bit y i = true := by
  rw [Ne, BitVec.eq_of_getLsbD_eq_iff]
  simp [bit]

/-- A source of R118 that GLB_INT_MGMT_EN enables is set: R119's test of the two registers, bit by bit. -/
theorem intStat_and_mgmtEn_ne_zero_iff (d : Dev) :
    reg d .glbIntStat &&& reg d .glbIntMgmtEn ≠ 0 ↔
      ∃ i, i < 32 ∧ rb d .glbIntStat i = true ∧ rb d .glbIntMgmtEn i = true :=
  and_ne_zero_iff_exists_bit _ _

/-- The two conditions of R119, as the model tests them. -/
theorem mgmtIntLow_iff (d : Dev) :
    mgmtIntLow d = true ↔ reg d .glbIntStat &&& reg d .glbIntMgmtEn ≠ 0 ∨ isFatal d = true := by
  rw [mgmtIntLow, Bool.or_eq_true, bne_iff_ne]

/-- Settles O58: R119's two conditions, the first read bit by bit and the second as bit 0 of GLB_STAT. -/
theorem theManagementInterruptIsLow : Obligations.TheManagementInterruptIsLow := by
  intro d
  rw [mgmtIntLow_iff, intStat_and_mgmtEn_ne_zero_iff, isFatal]

end Sys2Proof.Proofs
end

section
/-! SUPPORT. The compact form (R405). A count of 2,048 or more below 2^42 lies in one band 2^(j+11) ≤ v < 2^(j+12), where it is
v = (2048 + m) × 2^j + low with m < 2048 and low < 2^j. Halving it j times leaves 2048 + m, so its code is (j + 1) × 2048 + m, and what
the code decodes to is v without low. Only the top of band 30 and the counts of 2^42 or more saturate. -/

namespace Sys2Proof.Proofs

open Sys2Proof.Machine

/-! ### Halving -/

theorem halve_of_lt {v : Nat} (hv : v < 4096) (k e : Nat) : halve k v e = (v, e) := by
  cases k with
  | zero => rfl
  | succ k => rw [halve, if_neg (by omega)]

/-- As long as the quotient keeps 12 significant bits, j halvings drop the j low bits and count in the exponent. -/
theorem halve_mul_pow_add {a : Nat} (ha : 2048 ≤ a) (k j : Nat) :
    ∀ low e, low < 2 ^ j → halve (k + j) (a * 2 ^ j + low) e = halve k a (e + j) := by
  induction j with
  | zero => intro low e hlow; simp [Nat.lt_one_iff.mp hlow]
  | succ j ih =>
    intro low e hlow
    rw [pow_succ] at hlow
    have hbig : 4096 ≤ a * 2 ^ (j + 1) + low := by
      have := Nat.mul_le_mul ha (Nat.pow_le_pow_right (n := 2) two_pos (Nat.le_add_left 1 j))
      omega
    have hhalf : (a * 2 ^ (j + 1) + low) / 2 = a * 2 ^ j + low / 2 := by
      rw [pow_succ, ← mul_assoc]; omega
    rw [← Nat.add_assoc, halve, if_pos hbig, hhalf, ih _ _ (by omega), Nat.add_right_comm, Nat.add_assoc]

theorem le_halve_snd (k : Nat) : ∀ v e, e ≤ (halve k v e).2 := by
  induction k with
  | zero => intro v e; exact le_rfl
  | succ k ih =>
    intro v e
    rw [halve]
    split
    · exact (Nat.le_succ e).trans (ih _ _)
    · exact le_rfl

/-! ### The bands -/

/-- A count between two powers of two is its 12 leading bits and j low ones. -/
theorem exists_band_form {v j : Nat} (hlo : 2 ^ (j + 11) ≤ v) (hhi : v < 2 ^ (j + 12)) :
    ∃ m low, m < 2048 ∧ low < 2 ^ j ∧ v = (2048 + m) * 2 ^ j + low := by
  have hpos : 0 < 2 ^ j := Nat.two_pow_pos j
  have hge : 2048 ≤ v / 2 ^ j := by
    rw [Nat.le_div_iff_mul_le hpos]; simpa [pow_add, mul_comm] using hlo
  have hlt : v / 2 ^ j < 4096 := by
    rw [Nat.div_lt_iff_lt_mul hpos]; simpa [pow_add, mul_comm] using hhi
  refine ⟨v / 2 ^ j - 2048, v % 2 ^ j, by omega, Nat.mod_lt _ hpos, ?_⟩
  rw [Nat.add_sub_cancel' hge, Nat.div_add_mod']

/-- The counts that are neither below 2,048 nor of 2^42 or more have a band. -/
theorem exists_band {v : Nat} (hlo : 2048 ≤ v) (hhi : v < 2 ^ 42) : ∃ j ≤ 30, 2 ^ (j + 11) ≤ v ∧ v < 2 ^ (j + 12) := by
  have hlog : 11 ≤ Nat.log 2 v := Nat.le_log_of_pow_le one_lt_two hlo
  have hlog' : Nat.log 2 v < 42 := Nat.log_lt_of_lt_pow (by omega) hhi
  refine ⟨Nat.log 2 v - 11, by omega, ?_, ?_⟩
  · rw [Nat.sub_add_cancel hlog]; exact Nat.pow_log_le_self 2 (by omega)
  · rw [show Nat.log 2 v - 11 + 12 = (Nat.log 2 v).succ by omega]; exact Nat.lt_pow_succ_log_self one_lt_two v

/-- Below the saturated code, no exponent and mantissa stand for more than 4,094 × 2^30. -/
theorem band_le_top {j m : Nat} (hj : j ≤ 30) (hm : m < 2048) (htop : j = 30 → m < 2047) : (2048 + m) * 2 ^ j ≤ 4094 * 2 ^ 30 := by
  rcases Nat.lt_or_eq_of_le hj with h | rfl
  · calc (2048 + m) * 2 ^ j ≤ 4095 * 2 ^ 29 := Nat.mul_le_mul (by omega) (Nat.pow_le_pow_right two_pos (by omega))
      _ ≤ 4094 * 2 ^ 30 := by omega
  · exact Nat.mul_le_mul_right _ (by have := htop rfl; omega)

/-! ### The code of a count and the value of a code -/

theorem pmEncode_of_le {v : Nat} (hv : v ≤ 2047) : pmEncode v = v := if_pos hv

theorem pmEncode_of_halve {v : Nat} {p : Nat × Nat} (hv : 2048 ≤ v) (h : halve 64 v 1 = p) :
    pmEncode v = if p.2 > 31 then 0xFFFF else if p.2 = 31 ∧ p.1 = 4095 then 0xFFFF else p.2 * 2048 + (p.1 - 2048) := by
  rw [pmEncode, if_neg (by omega), h]

theorem halve_band_form {j m low : Nat} (hj : j ≤ 30) (hm : m < 2048) (hlow : low < 2 ^ j) :
    halve 64 ((2048 + m) * 2 ^ j + low) 1 = (2048 + m, 1 + j) := by
  have h := halve_mul_pow_add (Nat.le_add_right 2048 m) (64 - j) j low 1 hlow
  rwa [Nat.sub_add_cancel (by omega), halve_of_lt (show 2048 + m < 4096 by omega)] at h

theorem le_band_form (j m low : Nat) : 2048 ≤ (2048 + m) * 2 ^ j + low :=
  calc 2048 ≤ 2048 + m := Nat.le_add_right _ _
    _ ≤ (2048 + m) * 2 ^ j := Nat.le_mul_of_pos_right _ (Nat.two_pow_pos j)
    _ ≤ _ := Nat.le_add_right _ _

theorem pmEncode_band_form {j m low : Nat} (hj : j ≤ 30) (hm : m < 2048) (htop : j = 30 → m < 2047) (hlow : low < 2 ^ j) :
    pmEncode ((2048 + m) * 2 ^ j + low) = (j + 1) * 2048 + m := by
  rw [pmEncode_of_halve (le_band_form j m low) (halve_band_form hj hm hlow), if_neg (by omega), if_neg (by omega)]
  omega

/-- The saturated code: the exponent passes 31, or the exponent is 31 and the mantissa is full. -/
theorem pmEncode_of_top_le {v : Nat} (hv : 4095 * 2 ^ 30 ≤ v) : pmEncode v = 0xFFFF := by
  rcases Nat.lt_or_ge v (2 ^ 42) with h | h
  · have hform : v = (2048 + 2047) * 2 ^ 30 + (v - 4095 * 2 ^ 30) := by omega
    have hhalve := halve_band_form (j := 30) (m := 2047) (low := v - 4095 * 2 ^ 30) le_rfl (by omega) (by omega)
    rw [← hform] at hhalve
    rw [pmEncode_of_halve (by omega) hhalve]
    rfl
  · have hhalve : halve 64 v 1 = halve 33 (v / 2 ^ 31) 32 := by
      have := halve_mul_pow_add (a := v / 2 ^ 31) (by omega) 33 31 (v % 2 ^ 31) 1 (by omega)
      rwa [Nat.div_add_mod'] at this
    rw [pmEncode_of_halve (by omega) hhalve, if_pos (Nat.lt_of_succ_le (le_halve_snd 33 (v / 2 ^ 31) 32))]

/-- Every count is its own code, saturated, or in a band and coded by its exponent and mantissa. -/
theorem pmEncode_cases (v : Nat) :
    (v ≤ 2047 ∧ pmEncode v = v) ∨ (4095 * 2 ^ 30 ≤ v ∧ pmEncode v = 0xFFFF) ∨
      (v < 4095 * 2 ^ 30 ∧ ∃ j m, j ≤ 30 ∧ m < 2048 ∧ (j = 30 → m < 2047) ∧ pmEncode v = (j + 1) * 2048 + m) := by
  rcases Nat.lt_or_ge v 2048 with hlo | hlo
  · exact .inl ⟨by omega, pmEncode_of_le (by omega)⟩
  rcases Nat.lt_or_ge v (4095 * 2 ^ 30) with hhi | hhi
  · obtain ⟨j, hj, hge, hlt⟩ := exists_band hlo (by omega)
    obtain ⟨m, low, hm, hlow, rfl⟩ := exists_band_form hge hlt
    have htop : j = 30 → m < 2047 := by rintro rfl; omega
    exact .inr (.inr ⟨hhi, j, m, hj, hm, htop, pmEncode_band_form hj hm htop hlow⟩)
  · exact .inr (.inl ⟨hhi, pmEncode_of_top_le hhi⟩)

theorem pmEncode_lt (v : Nat) : pmEncode v < 65536 := by
  rcases pmEncode_cases v with ⟨hv, h⟩ | ⟨-, h⟩ | ⟨-, j, m, hj, hm, -, h⟩ <;> omega

theorem pmEncode_eq_saturated_iff (v : Nat) : pmEncode v = 0xFFFF ↔ 4095 * 2 ^ 30 ≤ v := by
  rcases pmEncode_cases v with ⟨hv, h⟩ | ⟨hv, h⟩ | ⟨hv, j, m, hj, hm, htop, h⟩ <;> omega

theorem pmDecode_of_lt {m : Nat} (hm : m < 2048) : pmDecode m = some m := by
  rw [pmDecode, if_neg (by omega)]
  simp [Nat.div_eq_of_lt hm, Nat.mod_eq_of_lt hm]

theorem pmDecode_code {j m : Nat} (hm : m < 2048) (hsat : (j + 1) * 2048 + m ≠ 0xFFFF) :
    pmDecode ((j + 1) * 2048 + m) = some ((2048 + m) * 2 ^ j) := by
  have hdiv : ((j + 1) * 2048 + m) / 2048 = j + 1 := by omega
  have hmod : ((j + 1) * 2048 + m) % 2048 = m := by omega
  simp [pmDecode, hsat, hdiv, hmod]

/-- Decoding the code of a count in a band rounds it down to its 12 leading bits. -/
theorem pmDecode_pmEncode_band_form {j m low : Nat} (hj : j ≤ 30) (hm : m < 2048) (htop : j = 30 → m < 2047) (hlow : low < 2 ^ j) :
    pmDecode (pmEncode ((2048 + m) * 2 ^ j + low)) = some ((2048 + m) * 2 ^ j) := by
  rw [pmEncode_band_form hj hm htop hlow, pmDecode_code hm (by omega)]

theorem pmDecode_pmEncode_of_le {v : Nat} (hv : v ≤ 4095) : pmDecode (pmEncode v) = some v := by
  rcases Nat.lt_or_ge v 2048 with h | h
  · rw [pmEncode_of_le (by omega), pmDecode_of_lt h]
  · have := pmDecode_pmEncode_band_form (j := 0) (m := v - 2048) (low := 0) (by omega) (by omega) (by omega) one_pos
    simpa [Nat.add_sub_cancel' h] using this

/-- The relative error of R405: a decoded count is at most 2^j - 1 low. -/
theorem exists_pmDecode_pmEncode {v j : Nat} (hlo : 2 ^ (j + 11) ≤ v) (hhi : v < 2 ^ (j + 12)) (hv : v < 4095 * 2 ^ 30) :
    ∃ d, pmDecode (pmEncode v) = some d ∧ v < d + 2 ^ j ∧ d ≤ v := by
  have hj : j ≤ 30 := by
    have hpow : 2 ^ (j + 11) < 2 ^ 42 := by omega
    have := (Nat.pow_lt_pow_iff_right one_lt_two).mp hpow
    omega
  obtain ⟨m, low, hm, hlow, rfl⟩ := exists_band_form hlo hhi
  have htop : j = 30 → m < 2047 := by rintro rfl; omega
  exact ⟨_, pmDecode_pmEncode_band_form hj hm htop hlow, by omega, by omega⟩

/-- No code decodes to more than 0xFFFE does. -/
theorem le_of_pmDecode_eq_some {c d : Nat} (hc : c < 65536) (h : pmDecode c = some d) : d ≤ 4094 * 2 ^ 30 := by
  have hsat : c ≠ 0xFFFF := by rintro rfl; cases h
  rcases Nat.lt_or_ge c 2048 with hlt | hge
  · rw [pmDecode_of_lt hlt, Option.some.injEq] at h
    omega
  · have hcode : c = (c / 2048 - 1 + 1) * 2048 + c % 2048 := by omega
    rw [hcode, pmDecode_code (Nat.mod_lt _ (by omega)) (by omega), Option.some.injEq] at h
    exact h ▸ band_le_top (by omega) (by omega) (by omega)

/-- Settles O35: the bands of R405, whose exponent e is j + 1, and its printed bounds and example. -/
theorem theCompactFormRoundsDown : Obligations.TheCompactFormRoundsDown := by
  refine ⟨fun v => pmDecode_pmEncode_of_le, fun v => pmEncode_of_le, ?encode, ?decode, fun m => pmDecode_of_lt, rfl,
    fun v => ⟨pmEncode_lt v, pmEncode_eq_saturated_iff v⟩, ?error, fun c d => le_of_pmDecode_eq_some, rfl, rfl, by omega, rfl, rfl⟩
  case encode =>
    rintro (_ | j) m he he' hm htop low hlow
    · omega
    · exact pmEncode_band_form (by omega) hm (by omega) hlow
  case decode =>
    rintro (_ | j) m he - hm hsat
    · omega
    · exact pmDecode_code hm hsat
  case error =>
    rintro v (_ | j) he hlo hhi hv
    · omega
    · exact exists_pmDecode_pmEncode hlo hhi hv

end Sys2Proof.Proofs
end

section
/-! SUPPORT. Every command keeps the canonical form of the memories: each function that stores, resets or serves keeps it, and so
does every command, since it is one of them or a change of the device alone. -/

namespace Sys2Proof.Proofs

open Sys2Proof.Machine Sys2Proof.Laws Sys2Proof.Spec

/-- A change of the device and its memories that keeps the canonical form of the memories. -/
def KeepsForm (f : Sys → Sys) : Prop := ∀ x : Sys, Memory.wf x.mem = true → Memory.wf (f x).mem = true

theorem onDev_keepsForm (f : Dev → Dev) : KeepsForm (onDev f) := fun _ h => h

/-- A change that leaves the memories keeps their form. -/
theorem keepsForm_of_mem {f : Sys → Sys} (h : ∀ x, (f x).mem = x.mem) : KeepsForm f := fun x hx => by rw [h x]; exact hx

/-- What a change of the device adds keeps it too. -/
theorem onDev_after_keepsForm {f : Sys → Sys} (h : KeepsForm f) (g : Dev → Dev) : KeepsForm fun x => onDev g (f x) := h

theorem gate_keepsForm {f : Sys → Sys} (h : KeepsForm f) (c : Bool) : KeepsForm (gate c f) := by
  cases c
  · exact fun _ hx => hx
  · exact h

theorem foldl_keepsForm {α : Type} {f : Sys → α → Sys} (h : ∀ a, KeepsForm fun x => f x a) (l : List α) :
    KeepsForm fun x => l.foldl f x := by
  induction l with
  | nil => exact fun _ hx => hx
  | cons a l ih => exact fun x hx => ih _ (h a x hx)

/-! ### Resets and boot -/

theorem coldReset_keepsForm : KeepsForm coldReset := fun _ h => wf_filter h _

theorem coldStart_keepsForm (straps : Nat) : KeepsForm (coldStart straps) := by
  intro x h
  unfold coldStart
  split
  · exact h
  · exact coldReset_keepsForm _ h

theorem brownout_keepsForm : KeepsForm brownout := fun _ h => coldReset_keepsForm _ h

theorem brownoutEnd_mem (porHigh : Bool) (straps : Nat) (x : Sys) : (brownoutEnd porHigh straps x).mem = x.mem := by
  simp only [brownoutEnd, apply_ite Sys.mem, onDev_mem, ite_self]

theorem warmReset_keepsForm (cause : Option Nat) : KeepsForm (warmReset cause) := fun _ h => wf_filter h _

theorem askWarm_keepsForm (cause : Option Nat) : KeepsForm (askWarm cause) := by
  intro x h
  unfold askWarm
  split
  · exact h
  · exact warmReset_keepsForm cause x h

theorem warmPin_keepsForm : KeepsForm warmPin := by
  intro x h
  unfold warmPin
  split
  · exact h
  · exact askWarm_keepsForm _ _ h

theorem afterGasp_keepsForm : KeepsForm afterGasp := by
  intro x h
  unfold afterGasp
  split
  · split
    · exact h
    · exact warmReset_keepsForm _ x h
  · exact h

theorem afterGasp_onDev_keepsForm (g : Dev → Dev) : KeepsForm fun x => afterGasp (onDev g x) :=
  fun x h => afterGasp_keepsForm (onDev g x) h

theorem gaspDone_keepsForm : KeepsForm gaspDone := fun _ h => afterGasp_keepsForm _ h

theorem rstWarm_keepsForm : KeepsForm rstWarm := by
  intro x h
  unfold rstWarm
  split
  · exact h
  · exact askWarm_keepsForm _ x h

theorem afterHandover_keepsForm : KeepsForm afterHandover := by
  intro x h
  unfold afterHandover
  split
  · split
    · exact askWarm_keepsForm _ _ h
    · exact h
  · exact h

theorem handoverAckCmd_keepsForm : KeepsForm handoverAckCmd := fun _ h => afterHandover_keepsForm _ h
theorem handoverTimeoutCmd_keepsForm : KeepsForm handoverTimeoutCmd := fun _ h => afterHandover_keepsForm _ h

theorem restartCpu_keepsForm (cause : Nat) : KeepsForm (restartCpu cause) := by
  intro x h
  unfold restartCpu
  split
  · exact h
  · exact wf_clearRange h _ _

theorem bootWdtExpiry_keepsForm : KeepsForm bootWdtExpiry := by
  intro x h
  unfold bootWdtExpiry
  split
  · exact askWarm_keepsForm _ x h
  · exact h

theorem cpuWdtExpiry_keepsForm : KeepsForm cpuWdtExpiry := by
  intro x h
  unfold cpuWdtExpiry
  split
  · exact h
  · dsimp only
    split
    · exact askWarm_keepsForm _ _ h
    · exact restartCpu_keepsForm _ _ h

theorem domainReadySys_keepsForm (n : Nat) : KeepsForm (domainReadySys n) := by
  intro x h
  unfold domainReadySys
  dsimp only
  split
  · exact wf_clearRange h _ _
  · exact h

/-! The ROM and Thino's start read the memories and store nothing. -/

theorem bootActivate_mem (x : Sys) : (bootActivate x).mem = x.mem := by
  unfold bootActivate
  cases x.dev.nvm.staged with
  | none => simp only [apply_ite Sys.mem, onDev_mem, ite_self]
  | some e => simp only [apply_ite Sys.mem, onDev_mem, ite_self]

theorem bootVerify_mem (x : Sys) : (bootVerify x).mem = x.mem := by
  unfold bootVerify
  cases x.dev.nvm.active with
  | none => rfl
  | some e => simp only [apply_ite Sys.mem, onDev_mem, ite_self]

theorem bootSteps_mem (x : Sys) : (bootSteps x).mem = x.mem := by
  simp only [bootSteps, apply_ite Sys.mem, onDev_mem, bootVerify_mem, bootActivate_mem, ite_self]

theorem romBoot_mem (x : Sys) : (romBoot x).mem = x.mem := by
  simp only [romBoot, apply_ite Sys.mem, onDev_mem, bootSteps_mem, ite_self]

theorem thinoStart_mem (x : Sys) : (thinoStart x).mem = x.mem := by
  simp only [thinoStart, apply_ite Sys.mem, ite_self]

theorem restartActivate_mem (x : Sys) : (restartActivate x).mem = x.mem := by
  unfold restartActivate
  rw [show x.mem = (onDev wakeNvm x).mem from rfl]
  generalize onDev wakeNvm x = y
  dsimp only
  cases y.dev.nvm.staged with
  | none => rfl
  | some e => simp only [apply_ite Sys.mem, onDev_mem, ite_self]

theorem cpuRestartDone_mem (x : Sys) : (cpuRestartDone x).mem = x.mem := by
  unfold cpuRestartDone
  cases x.dev.boot.cpuRestart with
  | none => rfl
  | some e => simp only [apply_ite Sys.mem, onDev_mem, restartActivate_mem, ite_self]

/-! ### Mailbox commands -/

theorem devCmd_keepsForm (f : Dev → Ans × Dev) : KeepsForm fun x => (devCmd f x).2 := fun _ h => h
theorem ask_keepsForm (f : Dev → Ans) : KeepsForm fun x => (ask f x).2 := fun _ h => h

theorem updBegin_mem (p : Bytes) (x : Sys) : (updBegin p x).2.mem = x.mem := by
  simp only [updBegin, apply_ite Prod.snd, apply_ite Sys.mem, ite_self]

theorem updCommit_mem (p : Bytes) (x : Sys) : (updCommit p x).2.mem = x.mem := by
  simp only [updCommit, apply_ite Prod.snd, apply_ite Sys.mem, ite_self]

theorem updAbort_mem (x : Sys) : (updAbort x).2.mem = x.mem := by
  simp only [updAbort, apply_ite Prod.snd, apply_ite Sys.mem, ite_self]

theorem sliceLoad_mem (p : Bytes) (x : Sys) : (sliceLoad p x).2.mem = x.mem := by
  simp only [sliceLoad, apply_ite Prod.snd, apply_ite Sys.mem, onDev_mem, ite_self]

theorem updWrite_keepsForm (p : Bytes) : KeepsForm fun x => (updWrite p x).2 := by
  intro x h
  simp only [updWrite, apply_ite Prod.snd, apply_ite Sys.mem, apply_ite Memory.wf, h, wf_wrBytes, ite_self]

/-- Of the mailbox commands only UPD_WRITE stores anything but its response. -/
theorem runOp_keepsForm {op : Nat} {c : Ctx} {q : Req} {f : Sys → Ans × Sys} (hf : runOp op c q = some f) :
    KeepsForm fun x => (f x).2 := by
  unfold runOp at hf
  dsimp only at hf
  split at hf <;> cases hf
  case h_5 => exact keepsForm_of_mem (updBegin_mem _)
  case h_6 => exact updWrite_keepsForm _
  case h_7 => exact keepsForm_of_mem (updCommit_mem _)
  case h_8 => exact keepsForm_of_mem updAbort_mem
  case h_20 => exact keepsForm_of_mem (sliceLoad_mem _)
  case h_2 | h_10 | h_13 | h_17 | h_22 | h_23 | h_24 | h_28 | h_34 | h_37 | h_38 | h_41 | h_44 => exact ask_keepsForm _
  all_goals exact devCmd_keepsForm _

theorem writeRsp_keepsForm (h : Slot) (pay : Bytes) : KeepsForm (writeRsp h pay) := by
  intro x hx
  simp only [writeRsp, apply_ite Sys.mem, apply_ite Memory.wf, hx, wf_wrBytes, ite_self]

theorem answer_keepsForm (op : Nat) (c : Ctx) (own : Bool) (q : Req) (a : Ans) : KeepsForm (answer op c own q a) := by
  intro x h
  unfold answer
  cases own
  · exact h
  · exact writeRsp_keepsForm _ _ _ h

theorem replay_keepsForm (op x : Nat) (own fwd : Bool) (q : Req) (e : TagEnt) : KeepsForm (replay op x own fwd q e) := by
  intro s h
  unfold replay
  cases own
  · exact h
  · exact writeRsp_keepsForm _ _ _ h

theorem refuse_keepsForm (op : Nat) (c : Ctx) (own : Bool) (q : Req) (st : Nat) : KeepsForm (refuse op c own q st) :=
  fun _ h => answer_keepsForm op c own q _ _ h

theorem abortCmds_keepsForm (whole : Bool) (t : Nat × Nat × Nat) : KeepsForm (abortCmds whole t) := by
  intro x h
  unfold abortCmds
  refine foldl_keepsForm (fun m s hs => ?_) _ _ h
  dsimp only
  split
  · exact answer_keepsForm _ _ _ _ _ s hs
  · exact hs

theorem beforeAnswer_keepsForm (op : Nat) (p : Bytes) (a : Ans) : KeepsForm (beforeAnswer op p a) :=
  gate_keepsForm (abortCmds_keepsForm _ _) _

theorem afterAnswer_keepsForm (op : Nat) (a : Ans) : KeepsForm (afterAnswer op a) := gate_keepsForm (askWarm_keepsForm _) _

theorem execute_keepsForm (op : Nat) (c : Ctx) (own : Bool) (q : Req) : KeepsForm (execute op c own q) := by
  intro x h
  unfold execute
  split
  next => exact h
  next f hf =>
    have hr : Memory.wf (f x).2.mem = true := runOp_keepsForm hf x h
    dsimp only
    split
    · exact answer_keepsForm _ _ _ _ _ _ h
    split
    · exact hr
    · exact afterAnswer_keepsForm _ _ _ (answer_keepsForm _ _ _ _ _ _ (beforeAnswer_keepsForm _ _ _ _ hr))

theorem accept_keepsForm (op : Nat) (q : Req) : KeepsForm (accept op q) := by
  intro x h
  unfold accept
  dsimp only
  split
  · exact h
  · exact execute_keepsForm _ _ _ _ _ h

theorem serveUnknown_keepsForm (op : Nat) (q : Req) : KeepsForm (serveUnknown op q) := by
  intro x h
  unfold serveUnknown
  split
  · exact h
  · dsimp only
    split
    · exact replay_keepsForm _ _ _ _ _ _ _ h
    · exact answer_keepsForm _ _ _ _ _ _ h

theorem serve_keepsForm (op : Nat) (sel : Bytes → Bool) (q : Req) : KeepsForm (serve op sel q) := by
  intro x h
  unfold serve
  dsimp only
  split
  · exact serveUnknown_keepsForm _ _ _ h
  split
  · exact h
  split
  · exact replay_keepsForm _ _ _ _ _ _ _ h
  split
  · exact refuse_keepsForm _ _ _ _ _ _ h
  split
  · split
    · exact refuse_keepsForm _ _ _ _ _ _ h
    · exact h
  · exact accept_keepsForm _ _ _ h

theorem runHeld_keepsForm (m : MirItem) : KeepsForm (runHeld m) := by
  intro x h
  unfold runHeld
  dsimp only
  split
  · exact replay_keepsForm _ _ _ _ _ _ _ h
  split
  · exact refuse_keepsForm _ _ _ _ _ _ h
  split
  · exact execute_keepsForm _ _ _ _ _ h
  split
  · exact refuse_keepsForm _ _ _ _ _ _ h
  · exact h

theorem mirroredExec_keepsForm : KeepsForm mirroredExec := by
  intro x h
  unfold mirroredExec
  split
  · exact h
  split
  · exact h
  split
  · exact h
  · exact runHeld_keepsForm _ x h

theorem joinJ_keepsForm : KeepsForm joinJ := by
  intro x h
  unfold joinJ
  split
  · exact h
  split
  · exact h
  · refine onDev_keepsForm _ _ ?_
    split
    · exact h
    · exact foldl_keepsForm runHeld_keepsForm _ x h

theorem storeCommit_keepsForm (readback : Bool) : KeepsForm (storeCommit readback) := by
  intro x h
  unfold storeCommit
  dsimp only
  split
  · exact h
  · exact answer_keepsForm _ _ _ _ _ _ h

/-! ### Error records -/

theorem finishErr_keepsForm (e : ErrRec) : KeepsForm (finishErr e) := by
  intro x h
  unfold finishErr
  refine onDev_keepsForm _ _ ?_
  split
  · split
    · exact h
    · exact abortCmds_keepsForm _ _ x h
  · exact h

theorem handleNext_keepsForm : KeepsForm handleNext := by
  intro x h
  unfold handleNext
  dsimp only
  split
  · split
    · exact finishErr_keepsForm _ x h
    · exact h
  · exact h

theorem errHandle_keepsForm : KeepsForm errHandle := by
  intro x h
  refine onDev_keepsForm _ _ ?_
  split
  · exact handleNext_keepsForm x h
  · exact h

/-! ### Register accesses -/

theorem writeReg_keepsForm (q : Requester) (o : Nat) (r : Reg) (w : Word) : KeepsForm (writeReg q o r w) := by
  intro x h
  unfold writeReg
  split
  · unfold writeRstCmd
    repeat' split
    case isFalse.isFalse.isTrue => exact rstWarm_keepsForm x h
    all_goals exact h
  · unfold writeCpuRestart
    repeat' split
    case isFalse.isTrue => exact restartCpu_keepsForm 6 x h
    all_goals exact h
  · exact h

theorem writeSite_keepsForm (q : Requester) (o : Nat) (p : Place) (w : Word) : KeepsForm (writeSite q o p w) := by
  intro x h
  unfold writeSite
  split
  · exact writeReg_keepsForm _ _ _ _ x h
  · exact wf_wrBytes h _ _
  all_goals exact h

theorem writeOne_keepsForm (q : Requester) (t : RegTarget) (size : Nat) (w : Word) : KeepsForm (writeOne q t size w) := by
  intro x h
  unfold writeOne
  split
  · exact h
  split
  · exact writeSite_keepsForm _ _ _ _ x h
  · exact h

theorem writeNamed_keepsForm (q : Requester) (r : Reg) (w : Word) : KeepsForm (writeNamed q r w) := by
  intro x h
  unfold writeNamed
  split
  · exact writeOne_keepsForm _ _ _ _ x h
  · exact h

theorem hostWrite_keepsForm (q : Requester) (t : RegTarget) (size : Nat) (w hi : Word) : KeepsForm (hostWrite q t size w hi) := by
  intro x h
  unfold hostWrite
  split
  · exact h
  split
  · exact writeOne_keepsForm _ _ _ _ _ (writeOne_keepsForm _ _ _ _ x h)
  · exact writeOne_keepsForm _ _ _ _ x h

theorem writeRun_keepsForm (q : Requester) (l : List Word) (o : Nat) : KeepsForm fun x => (writeRun q l o x).2 := by
  induction l generalizing o with
  | nil => exact fun _ h => h
  | cons w l ih => exact fun x h => ih _ _ (writeOne_keepsForm _ _ _ _ x h)

theorem spiWrite_keepsForm (o : Nat) (ws : List Word) (cut : Bool) : KeepsForm (spiWrite o ws cut) := by
  intro x h
  unfold spiWrite
  split
  · exact h
  · exact writeRun_keepsForm .spi ws o x h

theorem i2cWrite_keepsForm (a o : Nat) (ws : List Word) : KeepsForm (i2cWrite a o ws) := by
  intro x h
  unfold i2cWrite
  split
  · exact h
  · exact writeRun_keepsForm .i2c ws o x h

theorem readRun_mem (q : Requester) (answered : Bool) (k o : Nat) (x : Sys) : (readRun q answered k o x).2.2.mem = x.mem := by
  induction k generalizing o x with
  | zero => rfl
  | succ k ih => exact ih _ _

theorem hostRead_mem (q : Requester) (t : RegTarget) (size : Nat) (answered : Bool) (x : Sys) :
    (hostRead q t size answered x).mem = x.mem := by
  simp only [hostRead, apply_ite Sys.mem, onDev_mem, readRun_mem, ite_self]

theorem spiRead_mem (o n : Nat) (ready : Bool) (x : Sys) : (spiRead o n ready x).mem = x.mem := by
  simp only [spiRead, apply_ite Sys.mem, onDev_mem, readRun_mem, ite_self]

theorem i2cRead_mem (a o n : Nat) (answered : Bool) (x : Sys) : (i2cRead a o n answered x).mem = x.mem := by
  simp only [i2cRead, apply_ite Sys.mem, onDev_mem, readRun_mem, ite_self]

/-! ### Every command -/

/-- A command that stores to no memory is a change of the device alone. -/
theorem exec_eq_rawDev (c : Instr) (s : State) (h : mayStore c = false) : ∃ ok f, Machine.exec c s = rawDev ok f s := by
  cases c
  all_goals first
    | exact Bool.noConfusion h
    | exact ⟨_, _, rfl⟩

/-- The command is one change of the device and its memories, under a condition, that keeps the form of the memories. -/
def CommandKeepsForm (c : Instr) (s : State) : Prop := ∃ ok f, Machine.exec c s = rawSys ok f s ∧ KeepsForm f

theorem commandKeepsForm_raw {c : Instr} {s : State} {ok : Bool} {f : Sys → Sys} (h : Machine.exec c s = rawSys ok f s)
    (k : KeepsForm f) : CommandKeepsForm c s := ⟨ok, f, h, k⟩

theorem commandKeepsForm_sys {c : Instr} {s : State} {ok : Bool} {f : Sys → Sys} (h : Machine.exec c s = runSys ok f s)
    (k : KeepsForm f) : CommandKeepsForm c s := ⟨_, f, h, k⟩

theorem commandKeepsForm_dev {c : Instr} {s : State} (h : ∃ ok f, Machine.exec c s = rawDev ok f s) : CommandKeepsForm c s := by
  obtain ⟨ok, f, h⟩ := h
  exact ⟨ok, _, h, onDev_keepsForm f⟩

theorem exec_keepsForm (c : Instr) (s : State) : CommandKeepsForm c s := by
  cases c
  case porNFall => exact commandKeepsForm_raw (exec_porNFall s) (coldReset_keepsForm)
  case coldStart straps => exact commandKeepsForm_raw (exec_coldStart straps s) (coldStart_keepsForm straps)
  case warmRstPin => exact commandKeepsForm_sys (exec_warmRstPin s) (onDev_after_keepsForm warmPin_keepsForm refresh)
  case brownout => exact commandKeepsForm_raw (exec_brownout s) (brownout_keepsForm)
  case brownoutEnd porHigh straps => exact commandKeepsForm_raw (exec_brownoutEnd porHigh straps s) (keepsForm_of_mem (brownoutEnd_mem porHigh straps))
  case romBoot => exact commandKeepsForm_sys (exec_romBoot s) (keepsForm_of_mem romBoot_mem)
  case thinoStart => exact commandKeepsForm_sys (exec_thinoStart s) (onDev_after_keepsForm (keepsForm_of_mem thinoStart_mem) refresh)
  case bootWdtExpiry => exact commandKeepsForm_sys (exec_bootWdtExpiry s) (onDev_after_keepsForm bootWdtExpiry_keepsForm refresh)
  case cpuWdtExpiry => exact commandKeepsForm_sys (exec_cpuWdtExpiry s) (onDev_after_keepsForm cpuWdtExpiry_keepsForm refresh)
  case cpuRestartDone => exact commandKeepsForm_sys (exec_cpuRestartDone s) (onDev_after_keepsForm (keepsForm_of_mem cpuRestartDone_mem) refresh)
  case lastGaspWritten => exact commandKeepsForm_sys (exec_lastGaspWritten s) (onDev_after_keepsForm gaspDone_keepsForm refresh)
  case pfwLift => exact commandKeepsForm_sys (exec_pfwLift s) (afterGasp_onDev_keepsForm _)
  case railPgTimeout k => exact commandKeepsForm_sys (exec_railPgTimeout k s) (afterGasp_onDev_keepsForm _)
  case domainFault n cause => exact commandKeepsForm_sys (exec_domainFault n cause s) (afterGasp_onDev_keepsForm _)
  case pseqPgFall k =>
    refine commandKeepsForm_raw (exec_pseqPgFall k s) fun x h => ?_
    split
    · exact afterGasp_onDev_keepsForm (fun d => refresh (railDown k d)) x h
    · exact h
  case domainReady n => exact commandKeepsForm_sys (exec_domainReady n s) (domainReadySys_keepsForm n)
  case handoverAckRx => exact commandKeepsForm_sys (exec_handoverAckRx s) (onDev_after_keepsForm handoverAckCmd_keepsForm refresh)
  case handoverAckTimeout => exact commandKeepsForm_sys (exec_handoverAckTimeout s) (onDev_after_keepsForm handoverTimeoutCmd_keepsForm refresh)
  case errHandle => exact commandKeepsForm_sys (exec_errHandle s) (onDev_after_keepsForm errHandle_keepsForm refresh)
  case joinEpochJ => exact commandKeepsForm_sys (exec_joinEpochJ s) (onDev_after_keepsForm joinJ_keepsForm refresh)
  case mirroredExec => exact commandKeepsForm_sys (exec_mirroredExec s) (mirroredExec_keepsForm)
  case storeSetCommit readback => exact commandKeepsForm_sys (exec_storeSetCommit readback s) (storeCommit_keepsForm readback)
  case registerWrite => exact commandKeepsForm_sys rfl (hostWrite_keepsForm _ _ _ _ _)
  case spiWrite => exact commandKeepsForm_sys rfl (spiWrite_keepsForm _ _ _)
  case i2cWrite => exact commandKeepsForm_sys rfl (i2cWrite_keepsForm _ _ _)
  case registerRead => exact commandKeepsForm_sys rfl (keepsForm_of_mem (hostRead_mem _ _ _ _))
  case spiRead => exact commandKeepsForm_sys rfl (keepsForm_of_mem (spiRead_mem _ _ _))
  case i2cRead => exact commandKeepsForm_sys rfl (keepsForm_of_mem (i2cRead_mem _ _ _ _))
  case mbxDoorbell | mbxChannelReset | glbRstWarm | glbRstPwrCycle | glbCpuRestartGo | pwrCapWrite | pwrHostHold | pwrHostDrop
      | pwrRailClr | domainFaultClear | wideSelWrite | wideRecapture | wideWrite | errInjGo | evtCtlReset | evtEnable | pctrClrGo
      | nvmJtagRelock | qmClear | pmonPhaseWrite =>
    exact commandKeepsForm_sys rfl (writeNamed_keepsForm _ _ _)
  case bootInfo | recoveryEnter | jtagUnlock | updBegin | updWrite | updCommit | updAbort | updConfirm | updStatus | objSet
      | objDel | objGet | commit | commitCancel | shadowRevert | commitStatus | funcReinit | store | sliceLoad | resizePropose
      | inventory | health | pmRead | pmClear | lastGaspRead | lastGaspAck | evtLogRead | refCfg | dpllCfg | dpllClear | dpllForce
      | dpllManual | dpllLockout | dpllUnlock | dpllHoldover | dpllFreerun | dpllRelearn | dpllTemp | align | holdoverLoad
      | timeStatus | apsClear | apsLockout | apsForcedProtection | apsForcedWorking | apsManualProtection | apsManualWorking
      | apsExercise | mergeAutomatic | mergeForcePathA | mergeForcePathB | mergeRestartAlignment | protStatus | mateStatus
      | mateSwitch | mateJoinClear | mateJoinSet | mateJoinRejoin | mateDigest | assistDecide | assistResume | assistList =>
    exact commandKeepsForm_sys rfl (serve_keepsForm _ _ _)
  all_goals exact commandKeepsForm_dev (exec_eq_rawDev _ s rfl)

theorem rawSys_mem_wf {ok : Bool} {f : Sys → Sys} (hf : KeepsForm f) {s t : State} (h : MemoryWf s) (hs : rawSys ok f s = .next t) :
    MemoryWf t := by
  cases ok <;> cases hs
  · exact h
  · exact hf s.sys h

theorem exec_memoryWf {c : Instr} {s t : State} (h : MemoryWf s) (hs : Machine.exec c s = .next t) : MemoryWf t := by
  obtain ⟨ok, f, he, hf⟩ := exec_keepsForm c s
  exact rawSys_mem_wf hf h (he ▸ hs)

/-- Settles O6: an idle step changes nothing, and every command keeps the form. -/
theorem everyStepKeepsTheMemoryForm : Obligations.EveryStepKeepsTheMemoryForm := by
  intro s t h hs
  unfold step at hs
  split at hs
  next => cases hs; exact h
  next c rest _ => exact exec_memoryWf (s := { s with pending := rest }) h hs

end Sys2Proof.Proofs
end

section
/-! SUPPORT. The queue, reset, and what a command leaves of the memories. -/

namespace Sys2Proof.Proofs

open Sys2Proof.Machine Sys2Proof.Laws Sys2Proof.Spec

/-- Settles O1. -/
theorem stepRunsTheFrontCommand : Obligations.StepRunsTheFrontCommand := by
  refine ⟨fun c rest s => rfl, fun s h => ?_⟩
  rw [step, h]

/-- Settles O2: every command is one change under a condition. -/
theorem everyCommandCompletesAndLeavesTheQueue : Obligations.EveryCommandCompletesAndLeavesTheQueue := by
  intro c s
  obtain ⟨ok, f, h⟩ := exec_isChange c s
  rw [h]
  exact rawSys_next ok f s

/-- Settles O5. -/
theorem resetMemoryIsInForm : Obligations.ResetMemoryIsInForm := wf_reset

/-- Settles O57: a command that stores to no memory changes the device alone. -/
theorem otherCommandsLeaveTheMemories : Obligations.OtherCommandsLeaveTheMemories := by
  intro c s h
  obtain ⟨ok, f, he⟩ := exec_eq_rawDev c s h
  have hd : Machine.exec c s = .next { s with dev := if ok then f s.dev else s.dev } := by
    rw [he]
    cases ok <;> rfl
  refine ⟨_, hd, fun t ht a => ?_⟩
  cases hd.symm.trans ht
  rfl

/-- Such a command asks that the device runs. -/
theorem exec_eq_runSys (c : Instr) (s : State) (h : reachesReset c = false) : ∃ ok f, Machine.exec c s = runSys ok f s := by
  cases c
  case porNFall | coldStart | brownout | brownoutEnd | warmRstNRise | perstNRise | perstNFall | pfwNFall | pfwNRise
      | vddAonWriteGuard | pseqPgRise | pseqPgFall =>
    exact Bool.noConfusion h
  case warmRstPin => exact ⟨_, _, exec_warmRstPin s⟩
  case railPgTimeout k => exact ⟨_, _, exec_railPgTimeout k s⟩
  case thinoStart => exact ⟨_, _, exec_thinoStart s⟩
  case bootWdtExpiry => exact ⟨_, _, exec_bootWdtExpiry s⟩
  case cpuWdtExpiry => exact ⟨_, _, exec_cpuWdtExpiry s⟩
  case cpuRestartDone => exact ⟨_, _, exec_cpuRestartDone s⟩
  case lastGaspWritten => exact ⟨_, _, exec_lastGaspWritten s⟩
  case pfwLift => exact ⟨_, _, exec_pfwLift s⟩
  case errHandle => exact ⟨_, _, exec_errHandle s⟩
  case domainFault n cause => exact ⟨_, _, exec_domainFault n cause s⟩
  case joinEpochJ => exact ⟨_, _, exec_joinEpochJ s⟩
  case handoverAckRx => exact ⟨_, _, exec_handoverAckRx s⟩
  case handoverAckTimeout => exact ⟨_, _, exec_handoverAckTimeout s⟩
  all_goals exact ⟨_, _, rfl⟩

/-- Settles O3: every other command is a `runSys`, which a device held in reset ignores. -/
theorem heldInResetNothingHappens : Obligations.HeldInResetNothingHappens := by
  intro c s off h
  obtain ⟨ok, f, he⟩ := exec_eq_runSys c s h
  rw [he, runSys_off ok f s off]

end Sys2Proof.Proofs
end

section
/-! SUPPORT. Reading a memory after writing it. -/

namespace Sys2Proof.Proofs

open Sys2Proof.Machine Sys2Proof.Laws Sys2Proof.Spec

theorem rd_wr_of_above {m : Memory} {lo : Nat} (h : Memory.above lo m = true) (a b : Nat) (v : Byte) :
    rd (wr m a v) b = if b = a then v else rd m b := by
  induction m generalizing lo with
  | nil =>
    rw [wr]
    by_cases hv : v = 0
    · simp [hv, rd]
    · simp only [if_neg hv, rd, ite_self, eq_comm]
  | cons c m ih =>
    obtain ⟨x, y⟩ := c
    simp only [Memory.above, Bool.and_eq_true, decide_eq_true_eq] at h
    obtain ⟨-, hm⟩ := h
    have below : ∀ {k}, k ≤ x → rd m k = 0 := fun hk => rd_below hm (by omega)
    simp only [wr]
    rcases Nat.lt_trichotomy a x with hlt | rfl | hgt
    · by_cases hv : v = 0
      · rw [if_pos hlt, if_pos hv]
        split
        · subst b; rw [rd, if_neg (by omega), if_pos hlt, hv]
        · rfl
      · rw [if_pos hlt, if_neg hv]
        by_cases hb : b = a
        · rw [rd, if_pos hb.symm, if_pos hb]
        · rw [rd, if_neg (Ne.symm hb), if_neg hb]
          split
          · rw [rd, if_neg (by omega), if_pos (by omega)]
          · rfl
    · by_cases hv : v = 0
      · rw [if_neg (lt_irrefl a), if_pos rfl, if_pos hv]
        by_cases hb : b = a
        · rw [if_pos hb, hb, below le_rfl, hv]
        · rw [if_neg hb, rd, if_neg (Ne.symm hb)]
          split
          · exact below (by omega)
          · rfl
      · rw [if_neg (lt_irrefl a), if_pos rfl, if_neg hv]
        by_cases hb : b = a
        · rw [rd, if_pos hb.symm, if_pos hb]
        · rw [rd, rd, if_neg (Ne.symm hb), if_neg hb, if_neg (Ne.symm hb)]
    · rw [if_neg (by omega), if_neg (by omega), rd, rd]
      split
      · rw [if_neg (by omega)]
      split
      · rw [if_neg (by omega)]
      · exact ih hm

/-- The byte written is read back, and every other byte reads as before. -/
theorem rd_wr {m : Memory} (h : Memory.wf m = true) (a b : Nat) (v : Byte) :
    rd (wr m a v) b = if b = a then v else rd m b := rd_wr_of_above h a b v

theorem rd_wrBytes_outside {m : Memory} (h : Memory.wf m = true) {a b : Nat} {l : Bytes} (hb : b < a ∨ a + l.length ≤ b) :
    rd (wrBytes m a l) b = rd m b := by
  induction l generalizing m a with
  | nil => rfl
  | cons v l ih =>
    rw [List.length_cons] at hb
    rw [wrBytes, ih (wf_wr h a v) (by omega), rd_wr h, if_neg (by omega)]

theorem rdBytes_succ (m : Memory) (a n : Nat) : rdBytes m a (n + 1) = rd m a :: rdBytes m (a + 1) n := by
  simp [rdBytes, List.range_succ_eq_map, Nat.add_assoc, Nat.add_comm 1]

theorem rdBytes_wrBytes {m : Memory} (h : Memory.wf m = true) (a : Nat) (l : Bytes) :
    rdBytes (wrBytes m a l) a l.length = l := by
  induction l generalizing m a with
  | nil => rfl
  | cons v l ih =>
    rw [List.length_cons, rdBytes_succ, wrBytes, ih (wf_wr h a v), rd_wrBytes_outside (wf_wr h a v) (by omega), rd_wr h, if_pos rfl]

/-- Settles O7. -/
theorem memoryReadsWhatWasWritten : Obligations.MemoryReadsWhatWasWritten :=
  ⟨fun _ a b v h => rd_wr h a b v, fun _ a l h => rdBytes_wrBytes h a l, fun _ _ _ _ h hb => rd_wrBytes_outside h hb⟩

end Sys2Proof.Proofs
end

section
/-! SUPPORT. A request that is served: what its command does with the device is what its device function answers, plus its response. -/

namespace Sys2Proof.Proofs

open Sys2Proof.Machine Sys2Proof.Laws Sys2Proof.Spec

/-- The execution of a command at the present epoch, with no mate. -/
abbrev atNow (s : State) : Ctx := { x := now s.dev, mirrored := false }

/-- What a served request becomes: its command's effect, and then its response. -/
theorem served_ends {c : Instr} {op : Nat} {q : Req} {s : State} (sv : Served op q s) {sel : Bytes → Bool}
    (hc : Machine.exec c s = runSys (isReq q) (serve op sel q) s) (hs : sel q.payload = true) (hl : listed op q = true)
    {f : Sys → Ans × Sys} (hf : runOp op (atNow s) q = some f) {a : Ans} {t : Sys}
    (h : f { dev := taken q s.dev, mem := s.mem } = (a, t)) (later : a.later = false) :
    EndsSys c s (afterAnswer op a (answered op q a s (beforeAnswer op q.payload a (onDev (gate (opActs op) refresh) t)))) :=
  exec_answers c op sel q s t f a hl hc sv.ok sv.on sv.head hs sv.fresh sv.pass sv.sound sv.ready sv.alone hf h later

/-- The opcode does nothing around its command: no refresh before the response, no abort, no reset after it. -/
def quietOp (op : Nat) : Bool := !opActs op && op != 0x0108 && op != 0x0002

theorem quiet_answers {op : Nat} (h : quietOp op = true) (q : Req) (a : Ans) (s : State) (t : Sys) :
    afterAnswer op a (answered op q a s (beforeAnswer op q.payload a (onDev (gate (opActs op) refresh) t))) = answered op q a s t := by
  simp only [quietOp, Bool.and_eq_true, Bool.not_eq_true', bne_iff_ne] at h
  obtain ⟨⟨hacts, hreinit⟩, hrecover⟩ := h
  simp [afterAnswer, beforeAnswer, hacts, hreinit, hrecover, onDev, beq_eq_false_iff_ne.mpr]

/-- A command of the device alone replies with what its device function answers. -/
theorem served_replies {c : Instr} {op : Nat} {q : Req} {s : State} (sv : Served op q s) {sel : Bytes → Bool}
    (hc : Machine.exec c s = runSys (isReq q) (serve op sel q) s) (hs : sel q.payload = true) (hl : listed op q = true)
    (hq : quietOp op = true) {f : Dev → Ans × Dev} (hf : runOp op (atNow s) q = some (devCmd f)) {a : Ans} {d : Dev}
    (h : f (taken q s.dev) = (a, d)) (later : a.later = false) : Replies c op q s a d := by
  have ends := served_ends sv hc hs hl hf (a := a) (t := { dev := d, mem := s.mem }) (by simp only [devCmd, h]) later
  rwa [quiet_answers hq] at ends

/-- A command that only answers. -/
theorem served_asks {c : Instr} {op : Nat} {q : Req} {s : State} (sv : Served op q s) {sel : Bytes → Bool}
    (hc : Machine.exec c s = runSys (isReq q) (serve op sel q) s) (hs : sel q.payload = true) (hl : listed op q = true)
    (hq : quietOp op = true) {f : Dev → Ans} (hf : runOp op (atNow s) q = some (ask f)) {a : Ans}
    (h : f (taken q s.dev) = a) (later : a.later = false) : Replies c op q s a (taken q s.dev) :=
  served_replies sv hc hs hl hq (f := fun d => (f d, d)) hf (by rw [h]) later

/-! What taking a request leaves: everything but REQ_HEAD of its ring, the mailbox state and the count of free values. -/

@[simp] theorem taken_fuse (q : Req) (d : Dev) : (taken q d).fuse = d.fuse := rfl
@[simp] theorem taken_pin (q : Req) (d : Dev) : (taken q d).pin = d.pin := rfl
@[simp] theorem taken_pwr (q : Req) (d : Dev) : (taken q d).pwr = d.pwr := rfl
@[simp] theorem taken_err (q : Req) (d : Dev) : (taken q d).err = d.err := rfl
@[simp] theorem taken_evt (q : Req) (d : Dev) : (taken q d).evt = d.evt := rfl
@[simp] theorem taken_host (q : Req) (d : Dev) : (taken q d).host = d.host := rfl
@[simp] theorem taken_prov (q : Req) (d : Dev) : (taken q d).prov = d.prov := rfl
@[simp] theorem taken_asst (q : Req) (d : Dev) : (taken q d).asst = d.asst := rfl
@[simp] theorem taken_boot (q : Req) (d : Dev) : (taken q d).boot = d.boot := rfl
@[simp] theorem taken_cli (q : Req) (d : Dev) : (taken q d).cli = d.cli := rfl
@[simp] theorem taken_pctr (q : Req) (d : Dev) : (taken q d).pctr = d.pctr := rfl
@[simp] theorem taken_line (q : Req) (d : Dev) : (taken q d).line = d.line := rfl
@[simp] theorem taken_cont (q : Req) (d : Dev) : (taken q d).cont = d.cont := rfl
@[simp] theorem taken_cctr (q : Req) (d : Dev) : (taken q d).cctr = d.cctr := rfl
@[simp] theorem taken_pm (q : Req) (d : Dev) : (taken q d).pm = d.pm := rfl
@[simp] theorem taken_pkt (q : Req) (d : Dev) : (taken q d).pkt = d.pkt := rfl
@[simp] theorem taken_prot (q : Req) (d : Dev) : (taken q d).prot = d.prot := rfl
@[simp] theorem taken_merge (q : Req) (d : Dev) : (taken q d).merge = d.merge := rfl
@[simp] theorem taken_mate (q : Req) (d : Dev) : (taken q d).mate = d.mate := rfl
@[simp] theorem taken_groom (q : Req) (d : Dev) : (taken q d).groom = d.groom := rfl
@[simp] theorem taken_tim (q : Req) (d : Dev) : (taken q d).tim = d.tim := rfl
@[simp] theorem taken_nvm (q : Req) (d : Dev) : (taken q d).nvm = d.nvm := rfl
@[simp] theorem taken_now (q : Req) (d : Dev) : now (taken q d) = now d := rfl
@[simp] theorem taken_domReady (q : Req) (d : Dev) (n : Nat) : domReady (taken q d) n = domReady d n := rfl

theorem reg_taken {q : Req} {r : Reg} (h : r ≠ .mbxReqHead q.ch) (d : Dev) : reg (taken q d) r = reg d r := by
  rw [taken, takeReq, reg_setRf, if_neg h]
  rfl

theorem rf_taken {q : Req} {r : Reg} (h : r ≠ .mbxReqHead q.ch) (d : Dev) (hi lo : Nat) : rf (taken q d) r hi lo = rf d r hi lo := by
  rw [rf, reg_taken h, rf]

end Sys2Proof.Proofs
end

section
/-! SUPPORT. Mailbox commands that only answer: each clause is its command's answer on the device once the request is taken. -/

namespace Sys2Proof.Proofs

open Sys2Proof.Machine Sys2Proof.Laws Sys2Proof.Spec

/-! ### Queries -/

theorem bootInfo_taken (q : Req) (d : Dev) : bootInfo (taken q d) = bootInfo d := by
  rw [bootInfo, rf_taken Reg.noConfusion, rf_taken Reg.noConfusion]
  rfl

theorem inventory_taken (q : Req) (d : Dev) : inventory (taken q d) = inventory d := by
  rw [inventory, rf_taken Reg.noConfusion, rf_taken Reg.noConfusion, rf_taken Reg.noConfusion]
  rfl

theorem pgStatus_taken (q : Req) (d : Dev) (g : Nat) : pgStatus (taken q d) g = pgStatus d g := by
  rw [pgStatus, reg_taken Reg.noConfusion]
  rfl

theorem timeStatusCmd_of_ref {p : Bytes} (d : Dev) (h : 4 ≤ u8 p 0) (h' : u8 p 0 < 0x10) :
    timeStatusCmd p d = success (timeStatus d (u8 p 0) false) := by
  rw [timeStatusCmd]
  rw [if_neg (by omega), if_pos (.inr ⟨h, h'⟩)]

theorem timeStatusCmd_of_lt_four {p : Bytes} (d : Dev) (h : u8 p 0 < 4) :
    timeStatusCmd p d = success (if Config.targetIsRef (u8 p 0) then timeStatus d (u8 p 0) false else dpllStatus d (u8 p 0)) := by
  rw [timeStatusCmd]
  rw [if_neg (by omega)]
  by_cases ht : Config.targetIsRef (u8 p 0) = true
  · rw [if_pos (.inl ⟨by omega, ht⟩), if_pos ht]
  · rw [if_neg (fun c => c.elim (fun c => ht c.2) (by omega)), if_pos h, if_neg ht]

theorem timeStatusCmd_of_out_or_ref {p : Bytes} (d : Dev) (h : 0x10 ≤ u8 p 0) (h' : u8 p 0 < 0x18) :
    timeStatusCmd p d = success (timeStatus d (u8 p 0) (!Config.targetIsRef (u8 p 0))) := by
  rw [timeStatusCmd]
  rw [if_neg (by omega)]
  by_cases ht : Config.targetIsRef (u8 p 0) = true
  · rw [if_pos (.inl ⟨by omega, ht⟩), ht, Bool.not_true]
  · rw [if_neg (fun c => c.elim (fun c => ht c.2) (by omega)), if_neg (by omega), Bool.eq_false_iff.mpr ht, Bool.not_false]

theorem timeStatusCmd_of_out {p : Bytes} (d : Dev) (h : 0x18 ≤ u8 p 0) (h' : u8 p 0 ≤ 0x19) :
    timeStatusCmd p d = success (timeStatus d (u8 p 0) true) := by
  rw [timeStatusCmd]
  rw [if_neg (by omega), if_neg (by omega), if_neg (by omega)]

theorem protStatus_of_pg {p : Bytes} {d : Dev} (h : u8 p 0 = 0) (hg : u32 p 4 ≤ 511) (hp : hasPg d (u32 p 4) = true) :
    protStatus p d = success (pgStatus d (u32 p 4)) := by
  rw [protStatus]
  rw [if_neg (by omega), if_pos h, if_neg (by omega), if_pos h, if_pos hp]

theorem protStatus_of_mg {p : Bytes} {d : Dev} (h : u8 p 0 = 1) (hg : u32 p 4 ≤ 255) (hm : hasMg d (u32 p 4) = true) :
    protStatus p d = success (mgStatus d (u32 p 4)) := by
  have h0 : u8 p 0 ≠ 0 := by omega
  rw [protStatus]
  rw [if_neg (by omega), if_neg h0, if_neg (by omega), if_neg h0, if_pos hm]

/-- Settles O9. -/
theorem queriesAnswerWithTheirFields : Obligations.QueriesAnswerWithTheirFields := by
  refine ⟨fun q s => ⟨?boot, ?upd, ?commit, ?inventory, ?health, ?mate⟩, fun q s => ⟨?ref, ?refOrDpll, ?refOrOut, ?out, ?pg, ?mg⟩⟩
  case boot => exact fun sv => served_asks sv (exec_bootInfo q s) rfl rfl rfl rfl (bootInfo_taken q s.dev) rfl
  case upd => exact fun sv => served_asks sv (exec_updStatus q s) rfl rfl rfl rfl rfl rfl
  case commit => exact fun sv => served_asks sv (exec_commitStatus q s) rfl rfl rfl rfl rfl rfl
  case inventory => exact fun sv => served_asks sv (exec_inventory q s) rfl rfl rfl rfl (inventory_taken q s.dev) rfl
  case health => exact fun sv => served_asks sv (exec_health q s) rfl rfl rfl rfl rfl rfl
  case mate => exact fun sv => served_asks sv (exec_mateStatus q s) rfl rfl rfl rfl rfl rfl
  case ref => exact fun sv h h' => served_asks sv (exec_timeStatus q s) rfl rfl rfl rfl (timeStatusCmd_of_ref _ h h') rfl
  case refOrDpll => exact fun sv h => served_asks sv (exec_timeStatus q s) rfl rfl rfl rfl (timeStatusCmd_of_lt_four _ h) rfl
  case refOrOut =>
    exact fun sv h h' => served_asks sv (exec_timeStatus q s) rfl rfl rfl rfl (timeStatusCmd_of_out_or_ref _ h h') rfl
  case out => exact fun sv h h' => served_asks sv (exec_timeStatus q s) rfl rfl rfl rfl (timeStatusCmd_of_out _ h h') rfl
  case pg =>
    intro sv h hg hp
    refine served_asks sv (exec_protStatus q s) rfl rfl rfl rfl ?_ rfl
    rw [protStatus_of_pg (d := taken q s.dev) h hg hp, pgStatus_taken, pgStatus]
  case mg => exact fun sv h hg hm => served_asks sv (exec_protStatus q s) rfl rfl rfl rfl (protStatus_of_mg h hg hm) rfl

/-! ### Reads -/

theorem gaspRead_of_ready {p : Bytes} {d w : Dev} (h : u16 p 4 ≤ 236) (hw : w = wakeNvm d) (hr : domReady w 2 = true) :
    gaspRead p d = (match w.nvm.gasp with
      | some g =>
        let n := min (u16 p 4) (260096 - u32 p 0)
        if g.state = 1 then success (be 2 n ++ be 2 0 ++ slice g.bytes (u32 p 0) n) else success (be 2 0 ++ be 2 0)
      | none => success (be 2 0 ++ be 2 0), w) := by
  subst hw
  rw [gaspRead, if_neg (by omega)]
  dsimp only
  rw [hr, if_neg (by decide)]
  cases (wakeNvm d).nvm.gasp <;> rfl

/-- Settles O8. -/
theorem readsAnswerWhatTheDeviceHolds : Obligations.ReadsAnswerWhatTheDeviceHolds := by
  intro q s p
  refine ⟨?obj, ?pm, ?gasp, ?noGasp, ?log, ?digest, ?list⟩
  case obj =>
    intro sv hn hpart hwhich hindex
    refine served_asks sv (exec_objGet q s) rfl rfl rfl rfl (?_ : objGet p _ = _) ?_
    · simp only [objGet, if_neg hn, if_neg (Nat.not_le.mpr hpart), if_neg (Nat.not_lt.mpr hwhich), hindex, Bool.not_true,
        Bool.false_eq_true, if_false, taken_prov]
      cases tfind (if u8 p 2 = 0 then s.dev.prov.shadow else s.dev.prov.serv) (okey (u8 p 0) (u32 p 4)) <;> rfl
    · rfl
  case pm =>
    intro b sv hpoint hbin
    refine served_asks sv (exec_pmRead q s) rfl rfl rfl rfl (?_ : pmRead p _ = _) rfl
    simp only [pmRead, if_neg (Nat.not_lt.mpr hpoint), hbin]
  case gasp =>
    intro w g sv hlen hw hr hg hstate
    refine served_replies sv (exec_lastGaspRead q s) rfl rfl rfl rfl (?_ : gaspRead p _ = _) rfl
    simp only [gaspRead_of_ready hlen hw hr, hg, hstate, if_true]
  case noGasp =>
    intro w sv hlen hw hr hg
    refine served_replies sv (exec_lastGaspRead q s) rfl rfl rfl rfl (?_ : gaspRead p _ = _) rfl
    rw [gaspRead_of_ready hlen hw hr]
    cases hg' : w.nvm.gasp with
    | none => rfl
    | some g => simp only [if_neg (hg g hg')]
  case log =>
    intro l sv hlo hhi hl
    refine served_asks sv (exec_evtLogRead q s) rfl rfl rfl rfl (?_ : evtLogRead p _ = _) rfl
    rw [evtLogRead, if_neg (by omega), hl]
    rfl
  case digest =>
    intro sv h
    refine served_asks sv (exec_mateDigest q s) rfl rfl rfl rfl (if_neg (Nat.not_lt.mpr h)) rfl
  case list =>
    intro l sv hlo hhi hl
    refine served_asks sv (exec_assistList q s) rfl rfl rfl rfl (?_ : assistList p _ = _) rfl
    rw [assistList, if_neg (by omega), hl]
    rfl

end Sys2Proof.Proofs
end

section
/-! SUPPORT. Provisioning: a part written into a shadow record is read back, and what OBJ_SET, OBJ_DEL, COMMIT and COMMIT_CANCEL answer. -/

namespace Sys2Proof.Proofs

open Sys2Proof.Machine Sys2Proof.Laws Sys2Proof.Spec

/-! ### Byte strings -/

theorem length_fit (k : Nat) (b : Bytes) : (fit k b).length = k := by
  simp only [fit, zeros, List.length_append, List.length_take, List.length_replicate]
  omega

theorem fit_of_length {k : Nat} {b : Bytes} (h : b.length = k) : fit k b = b := by
  simp [fit, zeros, ← h]

theorem slice_of_le {b : Bytes} {i k : Nat} (h : i + k ≤ b.length) : slice b i k = (b.drop i).take k := by
  have hlen : k - (b.drop i).length = 0 := by rw [List.length_drop]; omega
  rw [slice, fit, hlen, zeros, List.replicate_zero, List.append_nil]

theorem length_patch {b v : Bytes} {i : Nat} (h : i + v.length ≤ b.length) : (patch b i v).length = b.length := by
  simp only [patch, List.length_append, length_fit, List.length_drop]
  omega

/-- The bytes patched in are found at their place. -/
theorem getElem_patch {b v : Bytes} {i j : Nat} (hj : j < v.length) (h : i + j < (patch b i v).length) :
    (patch b i v)[i + j] = v[j] := by
  simp [patch, length_fit, hj]

/-! ### Reserved fields (R9) -/

/-- A byte of a record at offset i with the reserved bits of the list zero. -/
def clearByte (l : List (Nat × Byte)) (i : Nat) (b : Byte) : Byte := match l.find? fun x => x.1 == i with
  | some x => b &&& x.2
  | none => b

theorem length_clearReserved (l : List (Nat × Byte)) (b : Bytes) : (clearReserved l b).length = b.length := by
  simp [clearReserved]

/-- Reserved fields are cleared byte by byte. -/
theorem getElem_clearReserved (l : List (Nat × Byte)) (b : Bytes) (i : Nat) (h : i < (clearReserved l b).length) :
    (clearReserved l b)[i] = clearByte l i (b[i]'(length_clearReserved l b ▸ h)) := by
  simp only [clearReserved, List.getElem_map, List.getElem_zip, List.getElem_range]
  rfl

/-- A part patched into a record reads as it does in a record of zeros. -/
theorem slice_clearReserved_patch (l : List (Nat × Byte)) {b v : Bytes} {i : Nat} (h : i + v.length ≤ b.length) :
    slice (clearReserved l (patch b i v)) i v.length = (clearReserved l (zeros i ++ v)).drop i := by
  have hlen : i + v.length ≤ (clearReserved l (patch b i v)).length := by rwa [length_clearReserved, length_patch h]
  rw [slice_of_le hlen]
  have hzeros : (zeros i).length = i := List.length_replicate ..
  refine List.ext_getElem ?_ fun j hj _ => ?_
  · rw [List.length_take, List.length_drop, List.length_drop, length_clearReserved l (zeros i ++ v), List.length_append, hzeros]
    omega
  · have hjv : j < v.length := by rw [List.length_take] at hj; omega
    rw [List.getElem_take, List.getElem_drop, List.getElem_drop, getElem_clearReserved, getElem_clearReserved, getElem_patch hjv]
    congr 1
    rw [List.getElem_append_right (by omega)]
    simp only [hzeros, Nat.add_sub_cancel_left]

/-! ### Shadow records (R162, R593) -/

/-- The shadow record once a part is written. -/
theorem tfind_writePart (ty i part : Nat) (data : Bytes) (d : Dev) (k : Nat) :
    tfind (writePart ty i part data d).prov.shadow k = if k = okey ty i then
      some (clearReserved (reservedOf ty i) (fit (recLen ty i)
        (patch (fit (recLen ty i) (tget [] d.prov.shadow (okey ty i))) (232 * part) data)))
      else tfind d.prov.shadow k :=
  tfind_tset _ _ _ _

theorem part_fits {n part : Nat} {data : Bytes} (hp : part < parts n) (hlen : data.length = min 232 (n - 232 * part)) :
    232 * part + data.length ≤ n := by
  rw [parts, Nat.lt_div_iff_mul_lt (by omega)] at hp
  omega

theorem writePart_reads_back {ty i part : Nat} {data : Bytes} (d : Dev) (hp : part < parts (recLen ty i))
    (hlen : data.length = min 232 (recLen ty i - 232 * part)) :
    ∃ b, tfind (writePart ty i part data d).prov.shadow (okey ty i) = some b ∧ b.length = recLen ty i ∧
      slice b (232 * part) data.length = (clearReserved (reservedOf ty i) (zeros (232 * part) ++ data)).drop (232 * part) := by
  have hfits := part_fits hp hlen
  have hold := length_fit (recLen ty i) (tget [] d.prov.shadow (okey ty i))
  have hpatch := length_patch (i := 232 * part) (v := data) (b := fit (recLen ty i) (tget [] d.prov.shadow (okey ty i))) (by omega)
  refine ⟨_, (tfind_writePart ..).trans (if_pos rfl), ?_, ?_⟩
  · rw [length_clearReserved, length_fit]
  · rw [fit_of_length (hpatch.trans hold), slice_clearReserved_patch _ (by omega)]

section
variable {p : Bytes} {d : Dev} (hn : recLen (u8 p 0) (u32 p 4) ≠ 0) (hlen : u16 p 2 = recLen (u8 p 0) (u32 p 4))
  (hpart : u8 p 1 < parts (recLen (u8 p 0) (u32 p 4))) (hindex : indexOk (u8 p 0) (u32 p 4) = true)
  (hdata : p.length = 8 + min 232 (recLen (u8 p 0) (u32 p 4) - 232 * u8 p 1))
include hn hlen hpart hindex hdata

theorem objSet_writes (h : checkPart (u8 p 0) (u32 p 4) (u8 p 1) (zeros (232 * u8 p 1) ++ p.drop 8) = none) :
    objSet p d = (success, writePart (u8 p 0) (u32 p 4) (u8 p 1) (p.drop 8) d) := by
  rw [objSet, if_neg hn, if_neg (not_not.mpr hlen), if_neg (Nat.not_le.mpr hpart), hindex, if_neg (by decide),
    if_neg (not_not.mpr hdata), h]

theorem objSet_refuses {o : Nat} (h : checkPart (u8 p 0) (u32 p 4) (u8 p 1) (zeros (232 * u8 p 1) ++ p.drop 8) = some o) :
    objSet p d = (badParam (8 + o - 232 * u8 p 1), d) := by
  rw [objSet, if_neg hn, if_neg (not_not.mpr hlen), if_neg (Nat.not_le.mpr hpart), hindex, if_neg (by decide),
    if_neg (not_not.mpr hdata), h]

end

theorem objDel_in_range {p : Bytes} (d : Dev) (hn : recLen (u8 p 0) (u32 p 4) ≠ 0) (hindex : indexOk (u8 p 0) (u32 p 4) = true) :
    objDel p d = (success, { d with prov := { d.prov with
      shadow := tdel d.prov.shadow (okey (u8 p 0) (u32 p 4)), parts := tdel d.prov.parts (okey (u8 p 0) (u32 p 4)) } }) := by
  rw [objDel, if_neg hn, hindex, if_neg (by decide)]

/-- Settles O10. -/
theorem shadowTablesAreEdited : Obligations.ShadowTablesAreEdited := by
  refine ⟨fun q s => ⟨?set, ?setBad, ?del, ?revert⟩, fun ty i part data d hp hlen => ⟨writePart_reads_back d hp hlen, ?others, rfl⟩⟩
  case set =>
    intro sv hn hlen hpart hindex hdata hok
    exact served_replies sv (exec_objSet q s) rfl rfl rfl rfl (objSet_writes hn hlen hpart hindex hdata hok) rfl
  case setBad =>
    intro o sv hn hlen hpart hindex hdata hbad
    exact served_replies sv (exec_objSet q s) rfl rfl rfl rfl (objSet_refuses hn hlen hpart hindex hdata hbad) rfl
  case del =>
    intro sv hn hindex
    exact served_replies sv (exec_objDel q s) rfl rfl rfl rfl (objDel_in_range _ hn hindex) rfl
  case revert => exact fun sv => served_replies sv (exec_shadowRevert q s) rfl rfl rfl rfl rfl rfl
  case others => exact fun k hk => (tfind_writePart ..).trans (if_neg hk)

/-! ### COMMIT and COMMIT_CANCEL (R29, R164, R166) -/

/-- The epoch that COMMIT takes: the one it names, or the first that is late enough and later than every pending one. -/
def commitEpoch (c : Ctx) (p : Bytes) (d : Dev) : Nat :=
  if u48 p 0 = 0 then max (earliest c) (match d.prov.pend.getLast?.map (·.epoch) with
    | some l => l + 1
    | none => 0) else u48 p 0

/-- The checks of COMMIT in their order. -/
theorem commit_eq (c : Ctx) (p : Bytes) (d : Dev) : commit c p d =
    if commitEpoch c p d < earliest c then (status 7, d)
    else if (d.prov.pend.getLast?.map (·.epoch)).any (fun l => decide (commitEpoch c p d ≤ l)) then (status 8, d)
    else if 4 ≤ d.prov.pend.length then (status 8, d)
    else match commitRefusal d with
      | some (a, f) => (a, f d)
      | none => (success (be 6 (commitEpoch c p d) ++ be 2 (nextId d.prov.lastId)),
          wakeFor d.prov.shadow { d with prov := { d.prov with
            pend := d.prov.pend ++ [{ id := nextId d.prov.lastId, epoch := commitEpoch c p d, tables := d.prov.shadow }]
            lastId := nextId d.prov.lastId } }) := rfl

theorem commit_accepts {c : Ctx} {p : Bytes} {d : Dev} {e : Nat} (he : commitEpoch c p d = e) (hlo : earliest c ≤ e)
    (hlast : ∀ l, d.prov.pend.getLast? = some l → l.epoch < e) (hfree : d.prov.pend.length < 4) (hok : commitRefusal d = none) :
    commit c p d = (success (be 6 e ++ be 2 (nextId d.prov.lastId)), wakeFor d.prov.shadow { d with prov := { d.prov with
      pend := d.prov.pend ++ [{ id := nextId d.prov.lastId, epoch := e, tables := d.prov.shadow }]
      lastId := nextId d.prov.lastId } }) := by
  have hany : (d.prov.pend.getLast?.map (·.epoch)).any (fun l => decide (e ≤ l)) = false := by
    cases h : d.prov.pend.getLast? with
    | none => rfl
    | some l => exact decide_eq_false (Nat.not_le.mpr (hlast l h))
  rw [commit_eq, he, if_neg (Nat.not_lt.mpr hlo), hany, if_neg Bool.false_ne_true, if_neg (Nat.not_le.mpr hfree), hok]

theorem commit_late {c : Ctx} {p : Bytes} {d : Dev} (h : commitEpoch c p d < earliest c) : commit c p d = (status 7, d) := by
  rw [commit_eq, if_pos h]

theorem commit_not_later {c : Ctx} {p : Bytes} {d : Dev} {e : Nat} {l : Pend} (he : commitEpoch c p d = e) (hlo : earliest c ≤ e)
    (hlast : d.prov.pend.getLast? = some l) (h : e ≤ l.epoch) : commit c p d = (status 8, d) := by
  have hany : (d.prov.pend.getLast?.map (·.epoch)).any (fun k => decide (e ≤ k)) = true := by
    rw [hlast]
    exact decide_eq_true h
  rw [commit_eq, he, if_neg (Nat.not_lt.mpr hlo), if_pos hany]

theorem commit_full {c : Ctx} {p : Bytes} {d : Dev} (hlo : earliest c ≤ commitEpoch c p d) (h : 4 ≤ d.prov.pend.length) :
    commit c p d = (status 8, d) := by
  rw [commit_eq, if_neg (Nat.not_lt.mpr hlo), if_pos h, ite_self]

theorem commitEpoch_named {c : Ctx} {p : Bytes} {d : Dev} (h : u48 p 0 ≠ 0) : commitEpoch c p d = u48 p 0 := if_neg h

theorem earliest_le_commitEpoch {c : Ctx} {p : Bytes} {d : Dev} (h : u48 p 0 = 0 ∨ earliest c ≤ u48 p 0) :
    earliest c ≤ commitEpoch c p d := by
  by_cases h0 : u48 p 0 = 0
  · rw [commitEpoch, if_pos h0]; exact le_max_left ..
  · rw [commitEpoch_named h0]; exact h.resolve_left h0

/-- An epoch of 0 asks for the first that is possible. -/
theorem commitEpoch_first {c : Ctx} {p : Bytes} {d : Dev} {e : Nat} (h0 : u48 p 0 = 0) (hlo : earliest c ≤ e)
    (hlast : ∀ l, d.prov.pend.getLast? = some l → l.epoch < e)
    (he : e = earliest c ∨ ∃ l, d.prov.pend.getLast? = some l ∧ e = l.epoch + 1) : commitEpoch c p d = e := by
  rw [commitEpoch, if_pos h0]
  cases h : d.prov.pend.getLast? with
  | none =>
    obtain rfl | ⟨l, hl, -⟩ := he
    · exact Nat.max_eq_left (Nat.zero_le _)
    · cases h.symm.trans hl
  | some m =>
    have hm := hlast m h
    change max (earliest c) (m.epoch + 1) = e
    obtain rfl | ⟨l, hl, rfl⟩ := he
    · omega
    · cases h.symm.trans hl
      omega

/-- Settles O11. -/
theorem commitsAreAcceptedOrRefused : Obligations.CommitsAreAcceptedOrRefused := by
  refine ⟨fun q s => ⟨?accept, ?cancel⟩, fun q s => ⟨?late, ?notLater, ?full, ?cancelLate, ?unknown⟩⟩
  case accept =>
    intro e sv hfree hlo hlast he hok
    have hepoch : commitEpoch (atNow s) q.payload (taken q s.dev) = e := by
      obtain rfl | ⟨h0, he⟩ := he
      · exact commitEpoch_named (by omega)
      · exact commitEpoch_first h0 hlo hlast he
    exact served_replies sv (exec_commit q s) rfl rfl rfl rfl (commit_accepts hepoch hlo hlast hfree hok) rfl
  case cancel =>
    intro e sv hfind hlo
    refine served_replies sv (exec_commitCancel q s) rfl rfl rfl rfl (f := commitCancel (atNow s) q.payload) ?_ rfl
    rw [commitCancel, taken_prov, hfind]
    exact if_neg (Nat.not_lt.mpr hlo)
  case late =>
    intro sv h0 h
    exact served_replies sv (exec_commit q s) rfl rfl rfl rfl (commit_late (by rwa [commitEpoch_named h0])) rfl
  case notLater =>
    intro l sv hlo hlast h
    have hepoch : commitEpoch (atNow s) q.payload (taken q s.dev) = u48 q.payload 0 := commitEpoch_named (by omega)
    exact served_replies sv (exec_commit q s) rfl rfl rfl rfl (commit_not_later hepoch hlo hlast h) rfl
  case full =>
    intro sv hlo h
    exact served_replies sv (exec_commit q s) rfl rfl rfl rfl (commit_full (earliest_le_commitEpoch hlo) h) rfl
  case cancelLate =>
    intro e sv hfind hlt
    refine served_replies sv (exec_commitCancel q s) rfl rfl rfl rfl (f := commitCancel (atNow s) q.payload) ?_ rfl
    rw [commitCancel, taken_prov, hfind]
    exact if_pos hlt
  case unknown =>
    intro sv hfind
    refine served_replies sv (exec_commitCancel q s) rfl rfl rfl rfl (f := commitCancel (atNow s) q.payload) ?_ rfl
    rw [commitCancel, taken_prov, hfind]
    rfl

end Sys2Proof.Proofs
end

section
/-! SUPPORT. Commands that act on what the ports carry, and those that follow their answer: re-initialisation, STORE and the resize proposal. -/

namespace Sys2Proof.Proofs

open Sys2Proof.Machine Sys2Proof.Laws Sys2Proof.Spec

/-- The opcode refreshes what the ports and containers carry before its response, and does nothing else around its command. -/
def actingOp (op : Nat) : Bool := opActs op && op != 0x0108

theorem acting_answers {op : Nat} (h : actingOp op = true) (q : Req) (a : Ans) (s : State) (t : Sys) :
    afterAnswer op a (answered op q a s (beforeAnswer op q.payload a (onDev (gate (opActs op) refresh) t)))
      = answered op q a s (onDev refresh t) := by
  simp only [actingOp, Bool.and_eq_true, bne_iff_ne] at h
  obtain ⟨hacts, hreinit⟩ := h
  have hrecover : op ≠ 0x0002 := fun he => by rw [he] at hacts; exact absurd hacts (by decide)
  simp [afterAnswer, beforeAnswer, hacts, hreinit, hrecover, onDev, beq_eq_false_iff_ne.mpr]

/-- Such a command of the device replies with what its device function answers. -/
theorem served_acts {c : Instr} {op : Nat} {q : Req} {s : State} (sv : Served op q s) {sel : Bytes → Bool}
    (hc : Machine.exec c s = runSys (isReq q) (serve op sel q) s) (hs : sel q.payload = true) (hl : listed op q = true)
    (hq : actingOp op = true) {f : Dev → Ans × Dev} (hf : runOp op (atNow s) q = some (devCmd f)) {a : Ans} {d : Dev}
    (h : f (taken q s.dev) = (a, d)) (later : a.later = false) : Replies c op q s a (refresh d) := by
  have ends := served_ends sv hc hs hl hf (a := a) (t := { dev := d, mem := s.mem }) (by simp only [devCmd, h]) later
  rwa [acting_answers hq] at ends

/-- A command that works on the memories too ends with its own effect and its response. -/
theorem served_quietly {c : Instr} {op : Nat} {q : Req} {s : State} (sv : Served op q s) {sel : Bytes → Bool}
    (hc : Machine.exec c s = runSys (isReq q) (serve op sel q) s) (hs : sel q.payload = true) (hl : listed op q = true)
    (hq : quietOp op = true) {f : Sys → Ans × Sys} (hf : runOp op (atNow s) q = some f) {a : Ans} {t : Sys}
    (h : f { dev := taken q s.dev, mem := s.mem } = (a, t)) (later : a.later = false) : EndsSys c s (answered op q a s t) := by
  have ends := served_ends sv hc hs hl hf h later
  rwa [quiet_answers hq] at ends

/-! ### Re-initialisation -/

/-- FUNC_REINIT ends with its effect; where it succeeds, the commands of what it resets end first. -/
theorem funcReinit_ends {q : Req} {s : State} (sv : Served 0x0108 q s) {a : Ans} {d : Dev}
    (h : funcReinit q.payload (taken q s.dev) = (a, d)) (later : a.later = false) :
    EndsSys (.funcReinit q) s (answered 0x0108 q a s (gate (a.st == 0)
      (abortCmds (wbit q.payload 3 0) (u16 q.payload 0, u8 q.payload 2, u32 q.payload 4)) { dev := refresh d, mem := s.mem })) := by
  have ends := served_ends sv (exec_funcReinit q s) rfl rfl (f := devCmd (funcReinit q.payload)) rfl (a := a)
    (t := { dev := d, mem := s.mem }) (by simp only [devCmd, h]) later
  rwa [afterAnswer, show (0x0108 == 0x0002 && a.st == 0) = false from rfl, gate_false, show opActs 0x0108 = true from rfl, onDev,
    gate_true, beforeAnswer, show (0x0108 == 0x0108 && a.st == 0) = (a.st == 0) from rfl] at ends

theorem funcReinit_succeeds {q : Req} {s : State} (sv : Served 0x0108 q s) {d : Dev}
    (h : funcReinit q.payload (taken q s.dev) = (success, d)) :
    EndsSys (.funcReinit q) s (answered 0x0108 q success s (abortCmds (wbit q.payload 3 0)
      (u16 q.payload 0, u8 q.payload 2, u32 q.payload 4) { dev := refresh d, mem := s.mem })) := by
  have ends := funcReinit_ends sv h rfl
  rwa [show ((success : Ans).st == 0) = true from rfl, gate_true] at ends

theorem funcReinit_refuses {q : Req} {s : State} (sv : Served 0x0108 q s) {d : Dev} {k : Nat}
    (h : funcReinit q.payload (taken q s.dev) = (status k, d)) (hk : k ≠ 0) :
    Replies (.funcReinit q) 0x0108 q s (status k) (refresh d) := by
  have ends := funcReinit_ends sv h rfl
  rwa [show ((status k).st == 0) = false from beq_false_of_ne hk, gate_false] at ends

theorem funcReinit_one {p : Bytes} {d : Dev} {a b : Nat} (hwhole : wbit p 3 0 = false)
    (hlimit : reinitLimit (u16 p 0) = some (a, b)) (hinst : u8 p 2 ≤ a) (hindex : u32 p 4 ≤ b)
    (hpart : typePart (u16 p 0) = 0 ∨ reloadFails d (typePart (u16 p 0)) = false) :
    funcReinit p d = (success, reinitOne (u16 p 0) (u8 p 2) (u32 p 4) d) := by
  have hrefused : partRefused (u16 p 0) d = false := by
    simpa only [partRefused, Bool.and_eq_false_iff, bne_eq_false_iff_eq] using hpart
  simp only [funcReinit, hwhole, Bool.false_eq_true, if_false, hlimit, hrefused]
  rw [if_neg (by omega)]

theorem funcReinit_whole {p : Bytes} {d : Dev} (hwhole : wbit p 3 0 = true) (hty : u16 p 0 = 0) (hinst : u8 p 2 ≤ 3) :
    funcReinit p d = if layout d = 2 then (status sNotSupported, d)
      else if sliceNamed d.prov.serv (u8 p 2) then (status 0x11, d) else (success, reinitSlice (u8 p 2) d) := by
  simp only [funcReinit, hwhole, if_true, hty, ne_eq, not_true_eq_false, if_false, if_neg (Nat.not_lt.mpr hinst)]

theorem sliceLoad_of_sound {p : Bytes} {s : Sys} (hn : u8 p 0 ≤ 3) (hout : s.dev.boot.sliceOut.testBit (u8 p 0) = true)
    (hfits : u32 p 4 + u32 p 8 ≤ bulkSize) (hvalid : Config.partValid (rdBytes s.mem (bulkBase + u32 p 4) (u32 p 8)) = true) :
    sliceLoad p s = (success, onDev (fun d => { d with boot := { d.boot with sliceNew := nputBit d.boot.sliceNew (u8 p 0) true } }) s) := by
  simp only [sliceLoad, if_neg (Nat.not_lt.mpr hn), hout, if_neg (Nat.not_lt.mpr hfits), hvalid, Bool.not_true,
    Bool.false_eq_true, if_false]

theorem sliceReady_of_ready {n : Nat} {d : Dev} (hn : isSlice n = true) (hout : d.boot.sliceOut.testBit n = true)
    (hready : ∀ k ∈ sliceDoms d n, (dom d k).st ≠ .ramping) :
    sliceReady n d = evtGlb 0x000B n (be 1 (d.boot.sliceNew.testBit n).toNat)
      { d with boot := { d.boot with sliceOut := nputBit d.boot.sliceOut n false } } := by
  have hramping : ((sliceDoms d n).any fun k => (dom d k).st == .ramping) = false := by
    simpa using hready
  have hlt : ¬ 3 < n := by simp only [isSlice, decide_eq_true_eq] at hn; omega
  simp [sliceReady, hout, hramping, hlt]

/-- Settles O12. -/
theorem reinitialisationRepairsWhatItNames : Obligations.ReinitialisationRepairsWhatItNames := by
  constructor
  · intro q s p d
    refine ⟨?one, ?slice, ?load, ?ready⟩
    case one =>
      intro a b sv hwhole hlimit hinst hindex hpart
      have ends := funcReinit_succeeds sv (funcReinit_one hwhole hlimit hinst hindex hpart)
      rwa [hwhole] at ends
    case slice =>
      intro sv hwhole hty hinst hlayout hnamed
      have h := funcReinit_whole (d := taken q s.dev) hwhole hty hinst
      rw [if_neg (show ¬ layout (taken q s.dev) = 2 from hlayout), taken_prov, if_neg (ne_true_of_eq_false hnamed)] at h
      have ends := funcReinit_succeeds sv h
      rwa [hwhole] at ends
    case load =>
      intro sv hn hout hfits hvalid
      exact served_quietly sv (exec_sliceLoad q s) rfl rfl rfl rfl (sliceLoad_of_sound hn hout hfits hvalid) rfl
    case ready =>
      intro n on hn hout hready
      rw [Ends, exec_sliceReady, hn, runDev_on _ _ on, sliceReady_of_ready hn hout hready]
  · intro q s p sv hwhole hty hinst
    have h := funcReinit_whole (d := taken q s.dev) hwhole hty hinst
    refine ⟨fun hlayout => ?_, fun hlayout hnamed => ?_⟩
    · rw [if_pos (show layout (taken q s.dev) = 2 from hlayout)] at h
      exact funcReinit_refuses sv h (by decide)
    · rw [if_neg (show ¬ layout (taken q s.dev) = 2 from hlayout), taken_prov, if_pos hnamed] at h
      exact funcReinit_refuses sv h (by decide)

/-! ### STORE and the resize proposal -/

/-- A command that is answered later leaves its X and its origin with the STORE that it started. -/
theorem execute_later {op : Nat} {c : Ctx} {q : Req} {s t : Sys} {f : Sys → Ans × Sys} {a : Ans} (hf : runOp op c q = some f)
    (hi : q.internal = false) (h : f s = (a, t)) (later : a.later = true) :
    execute op c true q s = onDev (modNvm fun m => { m with
      store := m.store.map fun t => { t with x := c.x, mirrored := c.mirrored, own := true } }) (onDev (gate (opActs op) refresh) t) := by
  unfold execute
  simp only [hf, hi, h, later, Bool.false_eq_true, if_false, if_true]

/-- A STORE that starts is answered later: it runs for the request at the present epoch. -/
theorem store_starts {q : Req} {s : State} (sv : Served 0x0109 q s) {d : Dev}
    (h : storeCmd q.ch q.tag (taken q s.dev) = ({ later := true }, d)) :
    EndsSys (.store q) s { dev := modNvm (fun m => { m with
      store := m.store.map fun t => { t with x := now s.dev, mirrored := false, own := true } }) d, mem := s.mem } := by
  have alone : opMirrored 0x0109 = true → (onDev (takeReq q.ch) s.sys).dev.mate.active = true → _ := sv.alone
  rw [EndsSys, exec_store, sv.ok, runSys_on _ _ sv.on,
    serve_accepts 0x0109 anyAction q s.sys sv.head rfl rfl sv.fresh sv.pass sv.ready, accept_alone _ _ _ alone,
    execute_later (f := devCmd (storeCmd q.ch q.tag)) (a := { later := true }) (t := { dev := d, mem := s.mem }) rfl sv.sound
      (by simp only [devCmd, onDev, State.sys]; rw [show takeReq q.ch s.dev = taken q s.dev from rfl, h]) rfl]
  rfl

/-- A STORE within 1 s of the last, or while one runs. -/
def storeTooSoon (d : Dev) : Prop := d.nvm.store.isSome = true ∨ ∃ e, d.nvm.storeAt = some e ∧ now d < e + 1000

theorem storeCmd_tooSoon {ch : Nat} {tag : BitVec 16} {d : Dev} (h : storeTooSoon d) :
    storeCmd ch tag d = (status 6, evtNvm 0x0C02 0 (be 2 6) d) := by
  unfold storeCmd
  dsimp only
  refine (if_pos ?_).trans rfl
  rcases h with hrun | ⟨e, he, hlt⟩
  · rw [hrun, Bool.or_true]
  · simp only [he, hlt, decide_true, Bool.true_or]

theorem storeCmd_starts {ch : Nat} {tag : BitVec 16} {d w : Dev} {a : Nat} (hat : ∀ e, d.nvm.storeAt = some e → e + 1000 ≤ now d)
    (hidle : d.nvm.store = none) (hconf : unconfirmed d = false) (hwake : wakeNvm d = w) (hw : nvmWritable w = true)
    (ha : a = (match curArea w with
      | some 0 => 1
      | _ => 0)) :
    storeCmd ch tag d = ({ later := true }, modNvm (fun m => { m with
      store := some { area := a, format := runFormat w, ch := ch, tag := tag, x := now w }, storeAt := some (now w) }) w) := by
  subst ha
  unfold storeCmd
  cases hs : d.nvm.storeAt with
  | none =>
    simp only [hidle, hconf, hwake, hw, Option.isSome_none, Bool.or_self, Bool.false_and, Bool.not_true, Bool.false_eq_true,
      if_false] <;> rfl
  | some e =>
    simp only [decide_eq_false (Nat.not_lt.mpr (hat e hs)), hidle, hconf, hwake, hw, Option.isSome_none, Bool.or_self,
      Bool.false_and, Bool.not_true, Bool.false_eq_true, if_false] <;> rfl

/-- The run that such a STORE leaves. -/
theorem store_runs {q : Req} {s : State} (sv : Served 0x0109 q s) {w : Dev} {a : Nat}
    (hat : ∀ e, s.dev.nvm.storeAt = some e → e + 1000 ≤ now s.dev) (hidle : s.dev.nvm.store = none)
    (hconf : unconfirmed s.dev = false) (hwake : wakeNvm (taken q s.dev) = w) (hw : nvmWritable w = true)
    (ha : a = (match curArea w with
      | some 0 => 1
      | _ => 0)) :
    EndsSys (.store q) s { dev := modNvm (fun m => { m with
      store := some { area := a, format := runFormat w, ch := q.ch, tag := q.tag, x := now s.dev }
      storeAt := some (now w) }) w, mem := s.mem } := by
  have ends := store_starts sv (storeCmd_starts (d := taken q s.dev) hat hidle hconf hwake hw ha)
  exact ends

/-- The STORE's image is sound, so that it is written and answered with STORE_COUNT. -/
theorem storeFinish_commits {d e : Dev} {r : StoreRun} (hrun : d.nvm.store = some r) (hfail : r.fail = 0)
    (he : modNvm (fun m => { m with store := none }) d = e) (hw : nvmWritable e = true)
    (hfits : imageLength (imageEntries e) ≤ 1048576) {w : Dev}
    (hwrite : (writeImage r.area r.format true (imageEntries e) e).2 = w) :
    storeFinish true d = (some (r, success (be 4 (storeCount w))),
      evtNvm 0x0C01 r.area (be 4 (storeCount w) ++ be 4 (imageLength (imageEntries e))) w) := by
  have hok : (writeImage r.area r.format true (imageEntries e) e).1 = true := rfl
  unfold storeFinish
  simp only [hrun, he, hfail, hw, hok, hwrite, if_neg (Nat.not_lt.mpr hfits), ne_eq, not_true_eq_false, Bool.not_true,
    Bool.false_eq_true, if_false]

theorem resizePropose_starts {p : Bytes} {d : Dev} {m : Nat} (hport : u8 p 0 ≤ 3) (hlo : 1 ≤ u16 p 2) (hhi : u16 p 2 ≤ 320)
    (hcap : capable d (u8 p 0) = true) (hbusy : rszBusy d (u8 p 0) = false) (hne : u16 p 2 ≠ slotCount (rz d (u8 p 0)).txMap)
    (hplan : planMap d (u8 p 0) (u16 p 2) (wbit p 1 0) = some m) :
    resizePropose p d = (success (be 4 (startProposal (u8 p 0) m (wbit p 1 0) d).1),
      showRz (u8 p 0) (startProposal (u8 p 0) m (wbit p 1 0) d).2) := by
  unfold resizePropose
  simp only [if_neg (Nat.not_lt.mpr hport), decide_eq_true (And.intro hlo hhi), hcap, hbusy, if_neg hne, hplan, Bool.not_true,
    Bool.false_eq_true, if_false]

/-- Settles O13. -/
theorem storesRunAndResizesAreProposed : Obligations.StoresRunAndResizesAreProposed := by
  refine ⟨⟨?_, ?commits⟩, ?proposes⟩
  · intro q s d
    refine ⟨?runs, ?early⟩
    case runs =>
      intro a sv hat hidle hconf hw ha
      exact store_runs sv hat hidle hconf rfl hw ha
    case early =>
      intro sv h
      exact served_replies sv (exec_store q s) rfl rfl rfl rfl (storeCmd_tooSoon h) rfl
  case commits =>
    intro s r on hrun hfail hw hfits d w
    have h := storeFinish_commits hrun hfail rfl hw hfits rfl
    rw [EndsSys, exec_storeSetCommit, runSys_on _ _ on, storeCommit, State.sys]
    dsimp only
    rw [h]
  case proposes =>
    intro q s m p d z id sv hport hlo hhi hcap hbusy hne hplan
    exact served_acts sv (exec_resizePropose q s) rfl rfl rfl rfl (resizePropose_starts hport hlo hhi hcap hbusy hne hplan) rfl

end Sys2Proof.Proofs
end

section
/-! SUPPORT. Firmware update, the recovery key, JTAG, the last-gasp record and the clearing of PM points. -/

namespace Sys2Proof.Proofs

open Sys2Proof.Machine Sys2Proof.Laws Sys2Proof.Spec

/-! ### Firmware update -/

/-- The status of an update command that succeeded. -/
abbrev noted (d : Dev) : Dev := modNvm (fun m => { m with lastStatus := 0 }) d

theorem updBegin_receives {p : Bytes} {d w : Dev} {m : Memory} (hman : u32 p 0 = 936) (hlo : 4096 ≤ u32 p 4) (hhi : u32 p 4 ≤ 8388608)
    (hwake : wakeNvm d = w) (hw : nvmWritable w = true) (hactive : w.nvm.active = none) (hupd : w.nvm.upd ≠ 1) :
    updBegin p { dev := d, mem := m } = (success (be 4 8388608), { dev := noted (setUpd 1 0
      (modNvm (fun n => { n with totalLen := u32 p 4, written := 0, wrote := false, staged := none }) w)), mem := m }) := by
  have hfill : fillResume m w = w := by rw [fillResume, hactive]
  have hagain : (w.nvm.upd == 1) = false := beq_false_of_ne hupd
  unfold updBegin
  simp only [hman, decide_eq_true (And.intro hlo hhi), hwake, hw, hfill, hagain, ne_eq, not_true_eq_false, Bool.not_true,
    Bool.false_eq_true, if_false, noteStatus]
  rfl

theorem updWrite_writes {p : Bytes} {d w : Dev} {m : Memory} (hupd : d.nvm.upd = 1) (hoff : u32 p 0 % 64 = 0)
    (htotal : u32 p 0 + u32 p 8 ≤ d.nvm.totalLen) (hbulk : u32 p 4 + u32 p 8 ≤ bulkSize)
    (hcrc : (crc32 (rdBytes m (bulkBase + u32 p 4) (u32 p 8))).toNat = u32 p 12) (hwake : wakeNvm d = w) (hw : nvmWritable w = true) :
    updWrite p { dev := d, mem := m } = (success, {
      dev := noted (modNvm (fun n => { n with written := n.written + u32 p 8, wrote := true }) w)
      mem := wrBytes m (imageBase + u32 p 0) (rdBytes m (bulkBase + u32 p 4) (u32 p 8)) }) := by
  have hrange : ¬ (u32 p 0 % 64 ≠ 0 ∨ d.nvm.totalLen < u32 p 0 + u32 p 8) := fun h => h.elim (· hoff) (by omega)
  unfold updWrite
  simp only [hupd, if_neg hrange, if_neg (Nat.not_lt.mpr hbulk), hcrc, hwake, hw, ne_eq, not_true_eq_false, Bool.not_true,
    Bool.false_eq_true, if_false, noteStatus]
  rfl

theorem updCommit_stages {p man : Bytes} {d w : Dev} {m : Memory} (hupd : d.nvm.upd = 1) (hbulk : u32 p 0 + u32 p 4 ≤ bulkSize)
    (hlen : u32 p 4 = 936) (hman : man = rdBytes m (bulkBase + u32 p 0) 936) (hsound : manifestSound man d.nvm.totalLen = true)
    (hserial : mfSn man = 0 ∨ mfSn man = Config.serial.toNat) (hsec : arbCounter d ≤ mfSecnum man) (hwake : wakeNvm d = w)
    (hw : nvmWritable w = true) :
    updCommit p { dev := d, mem := m } = (success (be 4 (mfVersion man)), { dev := noted (setUpd 2 (w.nvm.mseq + 1)
      (modNvm (fun n => { n with staged := some (w.nvm.mseq + 1, man), mseq := w.nvm.mseq + 1, man := man }) w)), mem := m }) := by
  have hother : ¬ (mfSn man ≠ 0 ∧ mfSn man ≠ Config.serial.toNat) := fun h => hserial.elim h.1 h.2
  rw [hlen] at hbulk
  unfold updCommit
  simp only [hupd, if_neg (Nat.not_lt.mpr hbulk), hlen, ← hman, hsound, if_neg hother, if_neg (Nat.not_lt.mpr hsec), hwake, hw, ne_eq,
    not_true_eq_false, Bool.not_true, Bool.false_eq_true, if_false, noteStatus]
  rfl

theorem updAbort_leaves {d w : Dev} {m : Memory} (hupd : d.nvm.upd = 1 ∨ d.nvm.upd = 2) (hwake : wakeNvm d = w)
    (hw : nvmWritable w = true) :
    updAbort { dev := d, mem := m } = (success, { dev := noted (setUpd (if d.nvm.wrote then 3 else 0) (stagedMseq d)
      (modNvm (fun n => { n with staged := none }) w)), mem := m }) := by
  have hother : ¬ (d.nvm.upd ≠ 1 ∧ d.nvm.upd ≠ 2) := fun h => hupd.elim h.1 h.2
  unfold updAbort
  simp only [if_neg hother, hwake, hw, Bool.not_true, Bool.false_eq_true, if_false, noteStatus]
  rfl

theorem updConfirm_confirmed {d : Dev} (h : unconfirmed d = false) : updConfirm d = (success (be 4 (arbCounter d)), noted d) := by
  rw [updConfirm, h]
  rfl

theorem jforward_fuse (n : Nat) (d : Dev) : (jforward n d).fuse = d.fuse := by
  induction n generalizing d with
  | zero => rfl
  | succ n ih =>
    rw [jforward]
    split
    · rw [ih]; rfl
    · rfl

/-- The journal lies in MRAM, not in fuses. -/
theorem jappend_fuse (ty sub : Nat) (body : Bytes) (d : Dev) : (jappend ty sub body d).fuse = d.fuse := by
  rw [jappend]
  split
  · rfl
  · exact jforward_fuse 18 d

/-- The anti-rollback counter raised to the SECNUM of the active release (R556). -/
def raiseArb (sec : Nat) (d : Dev) : Dev :=
  if arbCounter d < sec then { jappend jArbTarget 0 (be 1 sec) d with fuse := { d.fuse with arb := max d.fuse.arb (min 64 sec) } } else d

theorem updConfirm_confirms {d w c : Dev} (h : unconfirmed d = true) (hwake : wakeNvm d = w) (hw : nvmWritable w = true)
    (harea : curArea w = none)
    (hc : jappend jConfirm 0 (be 4 (activeMseq (raiseArb (mfSecnum (activeMan w)) w))) (raiseArb (mfSecnum (activeMan w)) w) = c) :
    updConfirm d = (success (be 4 (arbCounter c)), noted (evtNvm 0x0C07 (activeMseq c) (be 1 (arbCounter c)) c)) := by
  subst hc
  unfold updConfirm
  simp only [h, hwake, hw, harea, Bool.not_true, Bool.false_eq_true, if_false, noteStatus, raiseArb, jappend_fuse]
  rfl

/-- Settles O14. -/
theorem updatesAreStagedAndConfirmed : Obligations.UpdatesAreStagedAndConfirmed := by
  constructor
  · intro q s p d w ok
    refine ⟨?begins, ?writes, ?commits, ?aborts, ?confirmed⟩
    case begins =>
      intro sv hman hlo hhi hw hactive hupd
      exact served_quietly sv (exec_updBegin q s) rfl rfl rfl rfl (updBegin_receives hman hlo hhi rfl hw hactive hupd) rfl
    case writes =>
      intro sv hupd hoff htotal hbulk hcrc hw
      exact served_quietly sv (exec_updWrite q s) rfl rfl rfl rfl (updWrite_writes hupd hoff htotal hbulk hcrc rfl hw) rfl
    case commits =>
      intro man sv hupd hbulk hlen hman hsound hserial hsec hw
      exact served_quietly sv (exec_updCommit q s) rfl rfl rfl rfl
        (updCommit_stages hupd hbulk hlen hman hsound hserial hsec rfl hw) rfl
    case aborts =>
      intro sv hupd hw
      exact served_quietly sv (exec_updAbort q s) rfl rfl rfl rfl (updAbort_leaves (d := taken q s.dev) hupd rfl hw) rfl
    case confirmed =>
      intro sv h
      exact served_replies sv (exec_updConfirm q s) rfl rfl rfl rfl (updConfirm_confirmed (d := taken q s.dev) h) rfl
  · intro q s w sec r c sv h hw harea
    exact served_replies sv (exec_updConfirm q s) rfl rfl rfl rfl (updConfirm_confirms (d := taken q s.dev) h rfl hw harea rfl) rfl

/-! ### Keys and acknowledgements -/

theorem recoveryEnter_keyed {p : Bytes} {d : Dev} (h : u16 p 0 = 0xA55A) :
    recoveryEnter p d = (success, { d with boot := { d.boot with recover := true } }) := by
  rw [recoveryEnter, need, if_pos (beq_iff_eq.mpr h), done]

theorem recoveryEnter_unkeyed {p : Bytes} {d : Dev} (h : u16 p 0 ≠ 0xA55A) : recoveryEnter p d = (badParam 0, d) := by
  rw [recoveryEnter, need, beq_false_of_ne h, if_neg Bool.false_ne_true]

/-- RECOVERY_ENTER ends with its answer; where it succeeds, the warm reset follows. -/
theorem recoveryEnter_ends {q : Req} {s : State} (sv : Served 0x0002 q s) {a : Ans} {d : Dev}
    (h : recoveryEnter q.payload (taken q s.dev) = (a, d)) (later : a.later = false) :
    EndsSys (.recoveryEnter q) s (gate (a.st == 0) (askWarm none) (answered 0x0002 q a s { dev := d, mem := s.mem })) := by
  have ends := served_ends sv (exec_recoveryEnter q s) rfl rfl (f := devCmd (recoveryEnter q.payload)) rfl (a := a)
    (t := { dev := d, mem := s.mem }) (by simp only [devCmd, h]) later
  rwa [afterAnswer, show (0x0002 == 0x0002 && a.st == 0) = (a.st == 0) from rfl, show opActs 0x0002 = false from rfl, onDev,
    gate_false, beforeAnswer, show (0x0002 == 0x0108 && a.st == 0) = false from rfl, gate_false] at ends

theorem jtagUnlock_opens {t : Bytes} {d : Dev} (h : tokenOk d t = true) :
    jtagUnlock t d = (success, newNonce (evtJtag 1 (u8 t 5 / 64 * 64) (gate (wbit t 5 1) (requestWake 3 23) (setRb .glbStat 3 true
      (modNvm (fun m => { m with
        jtagLeft := some (if u32 t 20 = 0 then 0 else now d + u32 t 20 * 1000), jtagDebug := wbit t 5 1, jtagBscan := wbit t 5 0 }) d))))) := by
  rw [jtagUnlock, h]
  rfl

theorem jtagUnlock_refuses {t : Bytes} {d : Dev} (h : tokenOk d t = false) : jtagUnlock t d = (status 0x13, newNonce d) := by
  rw [jtagUnlock, h]
  rfl

theorem gaspAck_supersedes {d w : Dev} {g} (hg : d.nvm.gasp = some g) (hstate : g.state = 1) (hwake : wakeNvm d = w)
    (hw : nvmWritable w = true) : gaspAck d = (success, supersede w) := by
  have hvalid : gaspValid d = true := by simp only [gaspValid, hg, hstate, beq_self_eq_true]
  unfold gaspAck
  simp only [hvalid, hwake, hw, Bool.not_true, Bool.false_eq_true, if_false, if_true]

theorem gaspAck_of_none {d : Dev} (hg : d.nvm.gasp = none) : gaspAck d = (success, d) := by
  rw [gaspAck, gaspValid, hg]
  rfl

/-- A BIN that PM_CLEAR takes. -/
abbrev clearsBin (bin : Nat) : Prop := bin = 0 ∨ bin = 2 ∨ bin = 0xFFFF

theorem pmClear_clears {p : Bytes} {d : Dev} (hi : u32 p 0 ≠ 0xFFFFFFFF → u32 p 0 ≤ 16383) (hbin : clearsBin (u16 p 4)) :
    pmClear p d = (success, ((points d.prov.serv).filter fun e => u32 p 0 == 0xFFFFFFFF || e.1 == u32 p 0).foldl
      (fun d e => requestClear (u16 p 4) e.1 d) d) := by
  rw [pmClear, if_neg fun h => Nat.not_lt.mpr (hi h.1) h.2, if_neg fun h => hbin.elim h.1 fun h' => h'.elim h.2.1 h.2.2]

theorem pmClear_one {p : Bytes} {d : Dev} {r : Bytes} (hi : u32 p 0 ≤ 16383) (hbin : clearsBin (u16 p 4))
    (hpoint : ((points d.prov.serv).filter fun e => e.1 == u32 p 0) = [(u32 p 0, r)]) :
    pmClear p d = (success, requestClear (u16 p 4) (u32 p 0) d) := by
  have hne : (u32 p 0 == 0xFFFFFFFF) = false := beq_false_of_ne (by omega)
  rw [pmClear_clears (fun _ => hi) hbin]
  simp only [hne, Bool.false_or, hpoint, List.foldl_cons, List.foldl_nil]

theorem pmClear_all {p : Bytes} {d : Dev} (hi : u32 p 0 = 0xFFFFFFFF) (hbin : clearsBin (u16 p 4)) :
    pmClear p d = (success, (points d.prov.serv).foldl (fun d e => requestClear (u16 p 4) e.1 d) d) := by
  rw [pmClear_clears (fun h => absurd hi h) hbin]
  simp only [hi, beq_self_eq_true, Bool.true_or, List.filter_true]

/-- Settles O15. -/
theorem keysAndAcknowledgementsAreChecked : Obligations.KeysAndAcknowledgementsAreChecked := by
  constructor
  · intro q s p d
    refine ⟨?enters, ?badKey, ?opens, ?badToken⟩
    case enters =>
      intro sv hkey
      have ends := recoveryEnter_ends sv (recoveryEnter_keyed hkey) rfl
      rwa [show ((success : Ans).st == 0) = true from rfl, gate_true] at ends
    case badKey => exact fun sv hkey => recoveryEnter_ends sv (recoveryEnter_unkeyed hkey) rfl
    case opens =>
      exact fun sv h => served_replies sv (exec_jtagUnlock q s) rfl rfl rfl rfl (jtagUnlock_opens (d := taken q s.dev) h) rfl
    case badToken =>
      exact fun sv h => served_replies sv (exec_jtagUnlock q s) rfl rfl rfl rfl (jtagUnlock_refuses (d := taken q s.dev) h) rfl
  · intro q s p d
    refine ⟨?supersedes, ?noRecord, ?one, ?all⟩
    case supersedes =>
      intro g sv hg hstate hw
      exact served_replies sv (exec_lastGaspAck q s) rfl rfl rfl rfl (gaspAck_supersedes (d := taken q s.dev) hg hstate rfl hw) rfl
    case noRecord =>
      intro sv hg
      exact served_replies sv (exec_lastGaspAck q s) rfl rfl rfl rfl (gaspAck_of_none (d := taken q s.dev) hg) rfl
    case one =>
      intro r sv hi hbin hpoint
      exact served_replies sv (exec_pmClear q s) rfl rfl rfl rfl (pmClear_one (d := taken q s.dev) hi hbin hpoint) rfl
    case all =>
      intro sv hi hbin
      exact served_replies sv (exec_pmClear q s) rfl rfl rfl rfl (pmClear_all (d := taken q s.dev) hi hbin) rfl

end Sys2Proof.Proofs
end

section
/-! SUPPORT. The timing commands. -/

namespace Sys2Proof.Proofs

open Sys2Proof.Machine Sys2Proof.Laws Sys2Proof.Spec

theorem u8_drop (p : Bytes) (n i : Nat) : u8 (p.drop n) i = u8 p (n + i) := by
  simp [u8, List.getD_eq_getElem?_getD]

theorem u16_drop (p : Bytes) (n i : Nat) : u16 (p.drop n) i = u16 p (n + i) := by
  rw [u16, u8_drop, u8_drop]
  rfl

/-- A row for one action of an opcode takes the requests of that action. -/
theorem action_self {o k last : Nat} {p : Bytes} (h : u8 p o = k) : action o k last p = true := by
  rw [action, h, beq_self_eq_true, Bool.true_or]

/-! ### References, DPLLs and outputs -/

theorem recAt_none (f : Dev → Dev) (d : Dev) : recAt none f d = (success, f d) := rfl
theorem recAt_some (o : Nat) (f : Dev → Dev) (d : Dev) : recAt (some o) f d = (badParam (4 + o), d) := rfl

theorem refCfg_applies {p : Bytes} {d : Dev} (hr : u8 p 0 < 24) (hok : checkRef (u8 p 0) (p.drop 4) = none) :
    refCfg p d = (success, applyRef (u8 p 0) (clearReserved refReserved (p.drop 4)) d) := by
  rw [refCfg, need, if_pos (decide_eq_true hr), hok, recAt_none]

theorem refCfg_refuses {p : Bytes} {d : Dev} {o : Nat} (hr : u8 p 0 < 24) (hbad : checkRef (u8 p 0) (p.drop 4) = some o) :
    refCfg p d = (badParam (4 + o), d) := by
  rw [refCfg, need, if_pos (decide_eq_true hr), hbad, recAt_some]

theorem applyRef_restarts {r : Nat} {b : Bytes} {d : Dev}
    (h : rrEn b = false ∨ rrEn (tr d r).rec_ = false ∨ rrFreq b ≠ rrFreq (tr d r).rec_ ∨ rrSource b ≠ rrSource (tr d r).rec_) :
    applyRef r b d = showTiming (syncRecovered (modRef r (fun x => { rec_ := b, los := decide (r < 8) && rrEn b && x.los }) d)) := by
  have hrestart : (!rrEn b || !rrEn (tr d r).rec_ || rrFreq b != rrFreq (tr d r).rec_ || rrSource b != rrSource (tr d r).rec_) = true := by
    simpa [or_assoc] using h
  simp only [applyRef, hrestart, if_true]

theorem applyRef_keeps {r : Nat} {b : Bytes} {d : Dev} (hen : rrEn b = true) (hold : rrEn (tr d r).rec_ = true)
    (hfreq : rrFreq b = rrFreq (tr d r).rec_) (hsource : rrSource b = rrSource (tr d r).rec_) :
    applyRef r b d = showTiming (syncRecovered (modRef r (fun x => { x with rec_ := b }) d)) := by
  simp only [applyRef, hen, hold, hfreq, hsource, Bool.not_true, bne_self_eq_false, Bool.or_self, Bool.false_eq_true, if_false]

theorem dpllCfg_dpll {p : Bytes} {d : Dev} (ht : u8 p 0 < 4) (hok : checkDpll (u8 p 0) (p.drop 4) = none) :
    dpllCfg p d = (success, applyDpll (u8 p 0) (clearReserved dpllReserved (p.drop 4)) d) := by
  rw [dpllCfg, if_pos ht, hok, recAt_none]

theorem dpllCfg_out {p : Bytes} {d : Dev} (hlo : 0x10 ≤ u8 p 0) (hhi : u8 p 0 ≤ 0x19) (hok : checkOut (u8 p 0) (p.drop 4) = none) :
    dpllCfg p d = (success, applyOut (u8 p 0) (clearReserved outReserved (p.drop 4)) d) := by
  rw [dpllCfg, if_neg (by omega), if_pos ⟨hlo, hhi⟩, hok, recAt_none]

/-! ### DPLL commands (R490) -/

section DpllCommands

variable {c : Instr} {q : Req} {s : State} {k : Nat}

/-- A DPLL command whose fields are sound takes effect. -/
theorem dpllCmd_replies (sv : Served 0x0303 q s)
    (hc : Machine.exec c s = runSys (isReq q) (serve 0x0303 (action 4 k 8) q) s) (hi : u8 q.payload 0 < 4) (hk : u8 q.payload 4 = k)
    (hok : dpllCmdRefusal (taken q s.dev) (u8 q.payload 0) (q.payload.drop 4) = none) {e : Dev}
    (he : dpllCmd (u8 q.payload 0) (q.payload.drop 4) (taken q s.dev) = e) : Replies c 0x0303 q s success e := by
  refine served_replies sv hc (action_self hk) rfl rfl (f := dpllCommand q.payload) rfl ?_ rfl
  rw [dpllCommand, if_neg (Nat.not_le.mpr hi), hok, he]

theorem dpllCmd_refused (sv : Served 0x0303 q s)
    (hc : Machine.exec c s = runSys (isReq q) (serve 0x0303 (action 4 k 8) q) s) (hi : u8 q.payload 0 < 4) (hk : u8 q.payload 4 = k)
    {o : Nat} (hbad : dpllCmdRefusal (taken q s.dev) (u8 q.payload 0) (q.payload.drop 4) = some o) :
    Replies c 0x0303 q s (badParam o) (taken q s.dev) := by
  refine served_replies sv hc (action_self hk) rfl rfl (f := dpllCommand q.payload) rfl ?_ rfl
  rw [dpllCommand, if_neg (Nat.not_le.mpr hi), hbad]

end DpllCommands

/-- The commands of one reference are sound where it exists; MANUAL wants one of the best set too. -/
theorem dpllCmdRefusal_ref {d : Dev} {i c r : Nat} {b : Bytes} (hc : u8 b 0 = c) (hlo : 1 ≤ c) (hhi : c ≤ 4) (hr : u8 b 1 = r)
    (hlast : r ≤ 23) (hbest : c = 2 → r ∈ bestRefs d i) : dpllCmdRefusal d i b = none := by
  unfold dpllCmdRefusal
  rw [hc, hr]
  have hcontains : ¬ (c = 2 ∧ (!(bestRefs d i).contains r) = true) := fun ⟨h, hn⟩ => by simp [hbest h] at hn
  dsimp only
  rw [if_neg (by omega), if_neg (by omega), if_neg hcontains, if_neg (by omega)]

/-- The commands without a reference. -/
theorem dpllCmdRefusal_plain {d : Dev} {i c : Nat} {b : Bytes} (hc : u8 b 0 = c) (h : c = 0 ∨ (5 ≤ c ∧ c ≤ 7)) :
    dpllCmdRefusal d i b = none := by
  unfold dpllCmdRefusal
  rw [hc]
  dsimp only
  rw [if_neg (by omega), if_neg (by omega), if_neg (by omega), if_neg (by omega)]

theorem dpllCmdRefusal_notBest {d : Dev} {i : Nat} {b : Bytes} (hc : u8 b 0 = 2) (hbest : u8 b 1 ∉ bestRefs d i) :
    dpllCmdRefusal d i b = some 5 := by
  unfold dpllCmdRefusal
  rw [hc]
  have hcontains : (2 = 2 ∧ (!(bestRefs d i).contains (u8 b 1)) = true) := ⟨rfl, by simpa using hbest⟩
  dsimp only
  rw [if_neg (by omega), if_pos hcontains, ite_self]

theorem dpllCmdRefusal_temp {d : Dev} {i : Nat} {b : Bytes} (hc : u8 b 0 = 8) (hlo : -400 ≤ s16 (u16 b 2))
    (hhi : s16 (u16 b 2) ≤ 1250) : dpllCmdRefusal d i b = none := by
  unfold dpllCmdRefusal
  rw [hc]
  have hrange : ¬ (8 = 8 ∧ (!(decide (-400 ≤ s16 (u16 b 2)) && decide (s16 (u16 b 2) ≤ 1250))) = true) := by
    simp [hlo, hhi]
  dsimp only
  rw [if_neg (by omega), if_neg (by omega), if_neg (by omega), if_neg hrange]

/-! ### ALIGN and HOLDOVER_LOAD -/

theorem alignCommand_accepts {p : Bytes} {d : Dev} (hlo : 0x18 ≤ u8 p 0) (hhi : u8 p 0 ≤ 0x1A) (hok : checkAlign d (p.drop 4) = none) :
    alignCommand p d = (success, acceptAlign (u8 p 0) (p.drop 4) d) := by
  rw [alignCommand, need, if_pos (decide_eq_true ⟨hlo, hhi⟩), hok, recAt_none]

/-- The ALIGN that waits once the one before it has been dealt with. -/
def pendAlign (t : Nat) (b : Bytes) (o d : Dev) : Dev := modTim (fun s => { s with pend := some {
  target := t, mode := u8 b 0, ref := u8 b 1, offset := s32 (u32 b 4), epoch := max (u48 b 8) (now o)
  lost := u8 b 0 == 1 && (tr o (u8 b 1)).los } }) d

theorem pendAlign_of_records {t : Nat} {b : Bytes} {o d : Dev} (h : Records o d) : pendAlign t b d d = pendAlign t b o d := by
  simp only [pendAlign, now, tr, h.epoch, h.tim]

theorem acceptAlign_first {t : Nat} {b : Bytes} {d : Dev} (h : d.tim.pend = none) : acceptAlign t b d = pendAlign t b d d := by
  simp only [acceptAlign, h]
  rfl

theorem acceptAlign_supersedes {t : Nat} {b : Bytes} {d : Dev} {a} (h : d.tim.pend = some a) (hlead : following d = false) :
    acceptAlign t b d = pendAlign t b d (alignDone a.target 2 a.offset d) := by
  have hrecords : Records d (alignDone a.target 2 a.offset d) := evtTim_records ..
  rw [← pendAlign_of_records hrecords]
  simp only [acceptAlign, h, hlead, Bool.false_eq_true, false_and, if_false]
  rfl

/-- On a standby the ALIGN that waits is completed by the one that carries its result. -/
theorem acceptAlign_completes {t : Nat} {b : Bytes} {d : Dev} {a} (h : d.tim.pend = some a) (hfollow : following d = true)
    (hmode : a.mode = 1) (hresult : u8 b 0 = 0) : acceptAlign t b d = pendAlign t b d d := by
  rw [acceptAlign, h]
  dsimp only
  rw [if_pos ⟨hfollow, hmode, hresult⟩]
  rfl

theorem holdoverLoad_loads {p : Bytes} {d : Dev} (hi : u8 p 0 < 4) (hok : checkHoldover (p.drop 4) = none) :
    holdoverLoad p d = (success, loadModel (u8 p 0) (clearReserved holdReserved (p.drop 4)) d) := by
  rw [holdoverLoad, need, if_pos (decide_eq_true hi), hok, recAt_none]

/-- Settles O16. -/
theorem timingCommandsTakeEffect : Obligations.TimingCommandsTakeEffect := by
  refine ⟨?configs, ?commands, ?aligns⟩
  case configs =>
    intro q s p d b old
    refine ⟨?restarts, ?keeps, ?refuses, ?dpll, ?out⟩
    case restarts =>
      intro sv hr hok h
      refine served_replies sv (exec_refCfg q s) rfl rfl rfl rfl ((refCfg_applies hr hok).trans ?_) rfl
      rw [applyRef_restarts (d := taken q s.dev) h]
    case keeps =>
      intro sv hr hok hen hold hfreq hsource
      refine served_replies sv (exec_refCfg q s) rfl rfl rfl rfl ((refCfg_applies hr hok).trans ?_) rfl
      rw [applyRef_keeps (d := taken q s.dev) hen hold hfreq hsource]
    case refuses => exact fun o sv hr hbad => served_replies sv (exec_refCfg q s) rfl rfl rfl rfl (refCfg_refuses hr hbad) rfl
    case dpll => exact fun sv ht hok => served_replies sv (exec_dpllCfg q s) rfl rfl rfl rfl (dpllCfg_dpll ht hok) rfl
    case out => exact fun sv hlo hhi hok => served_replies sv (exec_dpllCfg q s) rfl rfl rfl rfl (dpllCfg_out hlo hhi hok) rfl
  case commands =>
    intro q s p d i r t sets sv hi
    have hcode {k : Nat} (h : u8 p 4 = k) : u8 (q.payload.drop 4) 0 = k := (u8_drop p 4 0).trans h
    have href : u8 (q.payload.drop 4) 1 = u8 q.payload 5 := u8_drop p 4 1
    have htemp : u16 (q.payload.drop 4) 2 = u16 q.payload 6 := u16_drop p 4 2
    refine ⟨?clear, ?force, ?manual, ?notBest, ?lockout, ?unlock, ?holdover, ?freerun, ?relearn, ?temp⟩
    case clear =>
      intro hk
      refine dpllCmd_replies sv (exec_dpllClear q s) hi hk (dpllCmdRefusal_plain (hcode hk) (by decide)) ?_
      simp only [dpllCmd, hcode hk]
      rfl
    case force =>
      intro hk hr
      refine dpllCmd_replies sv (exec_dpllForce q s) hi hk (dpllCmdRefusal_ref (hcode hk) (by decide) (by decide) href hr nofun) ?_
      simp only [dpllCmd, hcode hk, href]
      rfl
    case manual =>
      intro hk hr hbest
      refine dpllCmd_replies sv (exec_dpllManual q s) hi hk
        (dpllCmdRefusal_ref (hcode hk) (by decide) (by decide) href hr fun _ => hbest) ?_
      simp only [dpllCmd, hcode hk, href]
      rfl
    case notBest =>
      intro hk hbest
      exact dpllCmd_refused sv (exec_dpllManual q s) hi hk (dpllCmdRefusal_notBest (hcode hk) (href ▸ hbest))
    case lockout =>
      intro hk hr
      refine dpllCmd_replies sv (exec_dpllLockout q s) hi hk (dpllCmdRefusal_ref (hcode hk) (by decide) (by decide) href hr nofun) ?_
      simp only [dpllCmd, hcode hk, href]
      rfl
    case unlock =>
      intro hk hr
      refine dpllCmd_replies sv (exec_dpllUnlock q s) hi hk (dpllCmdRefusal_ref (hcode hk) (by decide) (by decide) href hr nofun) ?_
      simp only [dpllCmd, hcode hk, href]
      rfl
    case holdover =>
      intro hk
      refine dpllCmd_replies sv (exec_dpllHoldover q s) hi hk (dpllCmdRefusal_plain (hcode hk) (by decide)) ?_
      simp only [dpllCmd, hcode hk]
      rfl
    case freerun =>
      intro hk
      refine dpllCmd_replies sv (exec_dpllFreerun q s) hi hk (dpllCmdRefusal_plain (hcode hk) (by decide)) ?_
      simp only [dpllCmd, hcode hk]
      rfl
    case relearn =>
      intro hk
      refine dpllCmd_replies sv (exec_dpllRelearn q s) hi hk (dpllCmdRefusal_plain (hcode hk) (by decide)) ?_
      simp only [dpllCmd, hcode hk]
      rfl
    case temp =>
      intro hk hlo hhi
      refine dpllCmd_replies sv (exec_dpllTemp q s) hi hk (dpllCmdRefusal_temp (hcode hk) (by rw [htemp]; exact hlo) (by rw [htemp]; exact hhi)) ?_
      simp only [dpllCmd, hcode hk, htemp]
      rfl
  case aligns =>
    intro q s p d b waits
    refine ⟨?first, ?supersedes, ?completes, ?loads⟩
    case first =>
      intro sv hlo hhi hok hnone
      refine served_replies sv (exec_align q s) rfl rfl rfl rfl ((alignCommand_accepts (d := taken q s.dev) hlo hhi hok).trans ?_) rfl
      rw [acceptAlign_first (d := taken q s.dev) hnone]
      rfl
    case supersedes =>
      intro a sv hlo hhi hok hpend hlead
      refine served_replies sv (exec_align q s) rfl rfl rfl rfl ((alignCommand_accepts (d := taken q s.dev) hlo hhi hok).trans ?_) rfl
      rw [acceptAlign_supersedes (d := taken q s.dev) hpend hlead]
      rfl
    case completes =>
      intro a hlo hhi hok hpend hfollow hmode hresult
      rw [alignCommand_accepts (d := taken q s.dev) hlo hhi hok, acceptAlign_completes (d := taken q s.dev) hpend hfollow hmode hresult]
      rfl
    case loads => exact fun sv hi hok => served_replies sv (exec_holdoverLoad q s) rfl rfl rfl rfl (holdoverLoad_loads hi hok) rfl

end Sys2Proof.Proofs
end

section
/-! SUPPORT. The commands of protection, merge and the mate, and the decisions of the host. -/

namespace Sys2Proof.Proofs

open Sys2Proof.Machine Sys2Proof.Laws Sys2Proof.Spec

/-! ### Protection and merge commands -/

theorem apsCmd_taken {p : Bytes} {d : Dev} {g : Nat} (hg : u32 p 0 = g) (hlast : g ≤ 511) (hpg : hasPg d g = true) (hk : u8 p 4 ≤ 6) :
    apsCmd p d = (success, apsCommand (u8 p 4) g d) := by
  subst hg
  simp only [apsCmd, if_neg (Nat.not_lt.mpr hlast), hpg, if_neg (Nat.not_lt.mpr hk), Bool.not_true, Bool.false_eq_true, if_false]

theorem apsCmd_absent {p : Bytes} {d : Dev} (hlast : u32 p 0 ≤ 511) (hpg : hasPg d (u32 p 0) = false) :
    apsCmd p d = (badParam 0, d) := by
  simp only [apsCmd, if_neg (Nat.not_lt.mpr hlast), hpg, Bool.not_false, if_true]

/-- A request other than a clear becomes the command in force. -/
theorem apsCommand_request {k g : Nat} {d e : Dev} (hk : k ≠ 0) (he : cctrAdd (pgCtr g 4) 1 d = e) :
    apsCommand k g d = evalPg (pg e g) g 0 (modPg g (fun p => { p with cmds := addCmd k p.cmds }) e) := by
  subst he
  simp only [apsCommand, hk, decide_false, Bool.false_and, Bool.false_eq_true, if_false, Bool.and_not_self]
  rfl

theorem apsCommand_clear {g : Nat} {d e : Dev} {x : ProtGrp} (he : cctrAdd (pgCtr g 4) 1 d = e)
    (hx : x = (if following e || (pg e g).raised % 2 != 0 then { pg e g with cmds := 0 }
      else holdSel (pgRec d g) e { pg e g with cmds := 0 })) :
    apsCommand 0 g d = evalPg (pg e g) g (if x.wtr && !(pg e g).wtr then 3 else 0) (modPg g (fun _ => x) e) := by
  have heven : ((pg e g).raised % 2 == 0) = !((pg e g).raised % 2 != 0) := by simp [bne]
  cases h : following e || (pg e g).raised % 2 != 0
  case false =>
    obtain ⟨hfollow, hraised⟩ := Bool.or_eq_false_iff.mp h
    rw [h, if_neg Bool.false_ne_true] at hx
    subst hx
    simp only [apsCommand, he, hfollow, heven, hraised]
    rfl
  case true =>
    have hno : (!following e && (pg e g).raised % 2 == 0) = false := by rw [heven, ← Bool.not_or, h]; rfl
    rw [h, if_pos rfl] at hx
    subst hx
    simp only [apsCommand, he, decide_true, Bool.true_and, hno, Bool.false_eq_true, if_false]
    rfl

theorem cctrAdd_prov (k n : Nat) (d : Dev) : (cctrAdd k n d).prov = d.prov := by
  rw [cctrAdd]
  split <;> rfl

theorem pgRec_cctrAdd (k n g : Nat) (d : Dev) : pgRec (cctrAdd k n d) g = pgRec d g := by
  simp only [pgRec, servRec, serv, cctrAdd_prov]

section MergeCommands

variable {c : Instr} {q : Req} {s : State} {k : Nat}

/-- A merge command on a group in service, with a path that is QUALIFIED where it names one. -/
theorem mergeCmd_replies (sv : Served 0x0402 q s)
    (hc : Machine.exec c s = runSys (isReq q) (serve 0x0402 (action 4 k 3) q) s) (hg : u32 q.payload 0 ≤ 255)
    (hmg : hasMg s.dev (u32 q.payload 0) = true) (hk : u8 q.payload 4 = k) (hlast : k ≤ 3)
    (hqual : k = 1 ∨ k = 2 → (mg s.dev (u32 q.payload 0)).qual / 2 ^ (k - 1) % 2 = 1) {e : Dev}
    (he : mergeCommand k (u32 q.payload 0) (taken q s.dev) = e) : Replies c 0x0402 q s success (refresh e) := by
  refine served_acts sv hc (action_self hk) rfl rfl (f := mergeCmd q.payload) rfl ?_ rfl
  have hmg' : hasMg (taken q s.dev) (u32 q.payload 0) = true := hmg
  have hok : ¬ (3 < k ∨ (k = 1 ∨ k = 2) ∧ (mg (taken q s.dev) (u32 q.payload 0)).qual / 2 ^ (k - 1) % 2 = 0) := by
    rintro (h | ⟨h, hzero⟩)
    · omega
    · exact absurd ((hqual h).symm.trans hzero) (by decide)
  simp only [mergeCmd, if_neg (Nat.not_lt.mpr hg), hmg', hk, if_neg hok, Bool.not_true, Bool.false_eq_true, if_false, he]

theorem mergeCmd_refused (sv : Served 0x0402 q s)
    (hc : Machine.exec c s = runSys (isReq q) (serve 0x0402 (action 4 k 3) q) s) (hg : u32 q.payload 0 ≤ 255)
    (hmg : hasMg s.dev (u32 q.payload 0) = true) (hk : u8 q.payload 4 = k) (hpath : k = 1 ∨ k = 2)
    (hqual : (mg s.dev (u32 q.payload 0)).qual / 2 ^ (k - 1) % 2 = 0) : Replies c 0x0402 q s (badParam 4) (refresh (taken q s.dev)) := by
  refine served_acts sv hc (action_self hk) rfl rfl (f := mergeCmd q.payload) rfl ?_ rfl
  have hmg' : hasMg (taken q s.dev) (u32 q.payload 0) = true := hmg
  have hbad : 3 < k ∨ (k = 1 ∨ k = 2) ∧ (mg (taken q s.dev) (u32 q.payload 0)).qual / 2 ^ (k - 1) % 2 = 0 := .inr ⟨hpath, hqual⟩
  simp only [mergeCmd, if_neg (Nat.not_lt.mpr hg), hmg', hk, if_pos hbad, Bool.not_true, Bool.false_eq_true, if_false]

end MergeCommands

/-- In hardware mode a forced path becomes the only member of the delivery set. -/
theorem mergeCommand_force {k g : Nat} {d : Dev} (h : assisted d 3 g = false) (h0 : k ≠ 0) (h3 : k ≠ 3) :
    mergeCommand k g d = single g (k - 1) (modMg g (fun m => { m with cmd := k }) d) := by
  simp only [mergeCommand, h, h0, h3, Bool.false_eq_true, if_false]

/-- In host-assisted mode it leaves a MERGED set at once. -/
theorem mergeCommand_force_assisted {k g : Nat} {d : Dev} (h : assisted d 3 g = true) (h0 : k ≠ 0) (h3 : k ≠ 3) :
    mergeCommand k g d = if (mg d g).st = 2 then
      setMg g 1 (k - 1) (2 ^ (k - 1)) (dueOn (mg d g) (k - 1)) false (modMg g (fun m => { m with cmd := k }) d)
    else modMg g (fun m => { m with cmd := k }) d := by
  simp only [mergeCommand, h, h0, h3, if_true, if_false, gate, beq_iff_eq]

/-- Settles O17. -/
theorem apsAndMergeCommandsAreTaken : Obligations.ApsAndMergeCommandsAreTaken := by
  constructor
  · intro q s p g d sv hg
    refine ⟨?request, ?clear, ?absent⟩
    case request =>
      intro k c hc hpg hk
      have row : Machine.exec c s = runSys (isReq q) (serve 0x0401 (action 4 k 6) q) s ∧ k ≠ 0 ∧ k ≤ 6 := by
        simp only [List.mem_cons, Prod.mk.injEq, List.not_mem_nil, or_false] at hc
        rcases hc with ⟨rfl, rfl⟩ | ⟨rfl, rfl⟩ | ⟨rfl, rfl⟩ | ⟨rfl, rfl⟩ | ⟨rfl, rfl⟩ | ⟨rfl, rfl⟩
        · exact ⟨exec_apsLockout q s, by decide, by decide⟩
        · exact ⟨exec_apsForcedProtection q s, by decide, by decide⟩
        · exact ⟨exec_apsForcedWorking q s, by decide, by decide⟩
        · exact ⟨exec_apsManualProtection q s, by decide, by decide⟩
        · exact ⟨exec_apsManualWorking q s, by decide, by decide⟩
        · exact ⟨exec_apsExercise q s, by decide, by decide⟩
      obtain ⟨hexec, h0, h6⟩ := row
      refine served_acts sv hexec (action_self hk) rfl rfl (f := apsCmd q.payload) rfl ?_ rfl
      rw [apsCmd_taken rfl hg (d := taken q s.dev) hpg (hk.trans_le h6), hk, apsCommand_request h0 rfl]
    case clear =>
      intro x hpg hk hx
      refine served_acts sv (exec_apsClear q s) (action_self hk) rfl rfl (f := apsCmd q.payload) rfl ?_ rfl
      rw [show pgRec d g = pgRec (taken q s.dev) g from pgRec_cctrAdd ..] at hx
      rw [apsCmd_taken rfl hg (d := taken q s.dev) hpg (hk.trans_le (by decide)), hk, apsCommand_clear rfl hx]
    case absent =>
      intro hpg hk
      exact served_acts sv (exec_apsClear q s) (action_self hk) rfl rfl (f := apsCmd q.payload) rfl
        (apsCmd_absent (d := taken q s.dev) hg hpg) rfl
  · intro q s p g d sv hg hmg
    refine ⟨fun hw => ⟨?automatic, ?pathA, ?pathB, ?restart⟩, fun host => ⟨?automaticHost, ?pathAHost, ?pathBHost, ?restartHost⟩, ?unqualified⟩
    case automatic =>
      intro hk
      refine mergeCmd_replies sv (exec_mergeAutomatic q s) hg hmg hk (by decide) (fun h => absurd h (by decide)) ?_
      simp only [mergeCommand, show assisted (taken q s.dev) 3 (u32 q.payload 0) = false from hw, Bool.false_eq_true, if_false, if_true]
      rfl
    case pathA =>
      intro hk hqual
      exact mergeCmd_replies sv (exec_mergeForcePathA q s) hg hmg hk (by decide) (fun _ => by simpa using hqual)
        (mergeCommand_force hw (by decide) (by decide))
    case pathB =>
      intro hk hqual
      exact mergeCmd_replies sv (exec_mergeForcePathB q s) hg hmg hk (by decide) (fun _ => by simpa using hqual)
        (mergeCommand_force hw (by decide) (by decide))
    case restart =>
      intro x hk hx
      refine mergeCmd_replies sv (exec_mergeRestartAlignment q s) hg hmg hk (by decide) (fun h => absurd h (by decide)) ?_
      simp only [mergeCommand, show assisted (taken q s.dev) 3 (u32 q.payload 0) = false from hw,
        show laterPath (mg (taken q s.dev) (u32 q.payload 0)) = some x from hx]
      rfl
    case automaticHost =>
      intro hk
      refine mergeCmd_replies sv (exec_mergeAutomatic q s) hg hmg hk (by decide) (fun h => absurd h (by decide)) ?_
      simp only [mergeCommand, show assisted (taken q s.dev) 3 (u32 q.payload 0) = true from host, if_true]
      rfl
    case pathAHost =>
      intro hk hqual
      exact mergeCmd_replies sv (exec_mergeForcePathA q s) hg hmg hk (by decide) (fun _ => by simpa using hqual)
        (mergeCommand_force_assisted host (by decide) (by decide))
    case pathBHost =>
      intro hk hqual
      exact mergeCmd_replies sv (exec_mergeForcePathB q s) hg hmg hk (by decide) (fun _ => by simpa using hqual)
        (mergeCommand_force_assisted host (by decide) (by decide))
    case restartHost =>
      intro hk
      refine mergeCmd_replies sv (exec_mergeRestartAlignment q s) hg hmg hk (by decide) (fun h => absurd h (by decide)) ?_
      simp only [mergeCommand, show assisted (taken q s.dev) 3 (u32 q.payload 0) = true from host, if_true]
      rfl
    case unqualified =>
      intro hk hqual
      exact mergeCmd_refused sv (exec_mergeForcePathA q s) hg hmg hk (.inl rfl) (by simpa using hqual)

/-! ### The mate -/

theorem mateSwitch_keyed {p : Bytes} {d : Dev} (hkey : u16 p 0 = 0xA55A) :
    mateSwitch p d = if !inStep d then (0x10, d) else if d.mate.active then (0, startSwitch 1 d) else (0, sendControl 4 0 0 0 d) := by
  simp only [mateSwitch, hkey, ne_eq, not_true_eq_false, if_false]

theorem mateJoin_keyed {p : Bytes} {d : Dev} {a : Nat} (hkey : u16 p 0 = 0xA55A) (ha : u8 p 2 = a) (hlast : a ≤ 2) :
    mateJoin p d = if a = 2 then if following d then (0, 0, enterJoining d) else (0x10, 0, d)
      else if !nvmWritable (wakeNvm d) then (0x15, 0, wakeNvm d)
      else
        let e := jappend jPairing 0 (be 1 a) (wakeNvm d)
        if a = 0 then (0, 0, unpair e) else if e.mate.st = 0 then (0, 0, mateStart e) else (0, 0, showMate e) := by
  simp only [mateJoin, hkey, ha, ne_eq, not_true_eq_false, if_false, if_neg (Nat.not_lt.mpr hlast)]

theorem mateSwitchCmd_succeeds {p : Bytes} {d e : Dev} (h : mateSwitch p d = (0, e)) : mateSwitchCmd p d = (success, e) := by
  rw [mateSwitchCmd, h]
  rfl

theorem mateJoinCmd_succeeds {p : Bytes} {d e : Dev} (h : mateJoin p d = (0, 0, e)) : mateJoinCmd p d = (success, e) := by
  rw [mateJoinCmd, h]
  rfl

theorem mateSwitch_hands {p : Bytes} {d : Dev} (hkey : u16 p 0 = 0xA55A) (hstep : inStep d = true) (hactive : d.mate.active = true)
    (hnone : d.mate.handover = none) :
    mateSwitch p d = (0, sendControl 1 0 0 0 (modMate (fun m => { m with handover := some (1, 1) }) d)) := by
  rw [mateSwitch_keyed hkey, hstep, hactive, startSwitch, hstep, hactive, hnone]
  rfl

theorem mateSwitch_asks {p : Bytes} {d : Dev} (hkey : u16 p 0 = 0xA55A) (hstep : inStep d = true) (hactive : d.mate.active = false) :
    mateSwitch p d = (0, sendControl 4 0 0 0 d) := by
  rw [mateSwitch_keyed hkey, hstep, hactive]
  rfl

theorem mateJoin_clears {p : Bytes} {d w : Dev} (hkey : u16 p 0 = 0xA55A) (ha : u8 p 2 = 0) (hwake : wakeNvm d = w)
    (hw : nvmWritable w = true) : mateJoin p d = (0, 0, unpair (jappend jPairing 0 (be 1 0) w)) := by
  rw [mateJoin_keyed hkey ha (by decide), hwake, hw]
  rfl

theorem mateJoin_sets {p : Bytes} {d w : Dev} (hkey : u16 p 0 = 0xA55A) (ha : u8 p 2 = 1) (hwake : wakeNvm d = w)
    (hw : nvmWritable w = true) (hst : (jappend jPairing 0 (be 1 1) w).mate.st = 0) :
    mateJoin p d = (0, 0, mateStart (jappend jPairing 0 (be 1 1) w)) := by
  rw [mateJoin_keyed hkey ha (by decide), hwake, hw]
  simp only [hst, Bool.not_true, Bool.false_eq_true, if_false, if_true, OfNat.one_ne_ofNat, Nat.one_ne_zero]

theorem mateJoin_rejoins {p : Bytes} {d : Dev} (hkey : u16 p 0 = 0xA55A) (ha : u8 p 2 = 2) (hfollow : following d = true) :
    mateJoin p d = (0, 0, enterJoining d) := by
  rw [mateJoin_keyed hkey ha (by decide), hfollow]
  rfl

/-! ### Decisions and ASSIST_RESUME -/

theorem instances_le (fn : Nat) : instances fn ≤ 16384 := by
  unfold instances
  rcases Nat.lt_or_ge fn 10 with h | h
  · revert fn; decide
  · rw [List.getD_eq_default _ _ (by simpa using h)]; decide

section Decisions

variable {p : Bytes} {d : Dev} {r : Report}

theorem assistDecide_of_report (hlo : 1 ≤ u8 p 4) (hhi : u8 p 4 ≤ 9) (hi : u32 p 8 < instances (u8 p 4))
    (hr : tfind d.asst.newest (akey (u8 p 4) (u32 p 8)) = some r) (hid : r.id = u32 p 0) :
    assistDecide p d = if !assisted d (u8 p 4) (u32 p 8) || isFrozen d (u8 p 4) (u32 p 8) then (status 0xE, d)
      else match decisionBad d (u8 p 4) (u32 p 8) (p.drop 12) with
        | some a => (a, d)
        | none => (success (be 6 (now d)), applyDecision (u8 p 4) (u32 p 8) (p.drop 12) (closeReport (u8 p 4) (u32 p 8) d)) := by
  have hrange : ¬ (u8 p 4 = 0 ∨ 9 < u8 p 4) := by omega
  simp only [assistDecide, if_neg hrange, if_neg (Nat.not_le.mpr hi), hr, Option.any_some, hid, beq_self_eq_true, Bool.not_true,
    Bool.false_eq_true, if_false] <;> rfl

theorem assistDecide_stale (hlo : 1 ≤ u8 p 4) (hhi : u8 p 4 ≤ 9) (hi : u32 p 8 < instances (u8 p 4))
    (hr : tfind d.asst.newest (akey (u8 p 4) (u32 p 8)) = some r) (hid : r.id ≠ u32 p 0) : assistDecide p d = (status 0xF, d) := by
  have hrange : ¬ (u8 p 4 = 0 ∨ 9 < u8 p 4) := by omega
  simp only [assistDecide, if_neg hrange, if_neg (Nat.not_le.mpr hi), hr, Option.any_some, beq_false_of_ne hid, Bool.not_false, if_true]

end Decisions

theorem assistResume_one {p : Bytes} {d : Dev} (hlo : 1 ≤ u8 p 0) (hhi : u8 p 0 ≤ 9) (hi : u32 p 4 < instances (u8 p 0)) {l : List Nat}
    (hl : l = d.asst.frozen.filter fun k => k / 2 ^ 24 == u8 p 0 && k % 2 ^ 24 == u32 p 4) :
    assistResume p d = (success (be 4 l.length), each l resume d) := by
  have hle := instances_le (u8 p 0)
  have hevery : (u32 p 4 == 0xFFFFFFFF) = false := beq_false_of_ne (by omega)
  have hfn : (u8 p 0 == 0) = false := beq_false_of_ne (by omega)
  have hne : ¬ (u8 p 0 = 0 ∧ (!false) = true) := by omega
  subst hl
  simp only [assistResume, hevery, hfn, if_neg (Nat.not_lt.mpr hhi), if_neg hne, decide_eq_false (Nat.not_le.mpr hi), Bool.and_false,
    Bool.false_or, Bool.false_eq_true, if_false]

theorem assistResume_all {p : Bytes} {d : Dev} (hfn : u8 p 0 = 0) (hi : u32 p 4 = 0xFFFFFFFF) :
    assistResume p d = (success (be 4 d.asst.frozen.length), each d.asst.frozen resume d) := by
  simp [assistResume, hfn, hi]

/-- Settles O18. -/
theorem mateCommandsAndDecisionsTakeEffect : Obligations.MateCommandsAndDecisionsTakeEffect := by
  constructor
  · intro q s p d w
    refine ⟨?hands, ?asks, ?outside, ?leaves, ?enters, ?rejoins⟩
    case hands =>
      intro sv hkey hstep hactive hnone
      exact served_acts sv (exec_mateSwitch q s) rfl rfl rfl (f := mateSwitchCmd q.payload) rfl
        (mateSwitchCmd_succeeds (mateSwitch_hands (d := taken q s.dev) hkey hstep hactive hnone)) rfl
    case asks =>
      intro sv hkey hstep hactive
      exact served_acts sv (exec_mateSwitch q s) rfl rfl rfl (f := mateSwitchCmd q.payload) rfl
        (mateSwitchCmd_succeeds (mateSwitch_asks (d := taken q s.dev) hkey hstep hactive)) rfl
    case outside =>
      intro sv hkey hstep
      refine served_acts sv (exec_mateSwitch q s) rfl rfl rfl (f := mateSwitchCmd q.payload) rfl ?_ rfl
      rw [mateSwitchCmd, mateSwitch_keyed hkey, show inStep (taken q s.dev) = false from hstep]
      rfl
    case leaves =>
      intro sv hkey ha hw
      exact served_acts sv (exec_mateJoinClear q s) (action_self ha) rfl rfl (f := mateJoinCmd q.payload) rfl
        (mateJoinCmd_succeeds (mateJoin_clears hkey ha rfl hw)) rfl
    case enters =>
      intro sv hkey ha hw hst
      exact served_acts sv (exec_mateJoinSet q s) (action_self ha) rfl rfl (f := mateJoinCmd q.payload) rfl
        (mateJoinCmd_succeeds (mateJoin_sets hkey ha rfl hw hst)) rfl
    case rejoins =>
      intro sv hkey ha hfollow
      exact served_acts sv (exec_mateJoinRejoin q s) (action_self ha) rfl rfl (f := mateJoinCmd q.payload) rfl
        (mateJoinCmd_succeeds (mateJoin_rejoins (d := taken q s.dev) hkey ha hfollow)) rfl
  · intro q s p d fn i
    refine ⟨?decides, ?stale, ?hardware, ?one, ?all⟩
    case decides =>
      intro r sv hlo hhi hi hr hid hassisted hfrozen hok
      refine served_acts sv (exec_assistDecide q s) rfl rfl rfl (f := assistDecide q.payload) rfl ?_ rfl
      rw [assistDecide_of_report (d := taken q s.dev) hlo hhi hi hr hid,
        show assisted (taken q s.dev) (u8 q.payload 4) (u32 q.payload 8) = true from hassisted,
        show isFrozen (taken q s.dev) (u8 q.payload 4) (u32 q.payload 8) = false from hfrozen, if_neg (by decide),
        show decisionBad (taken q s.dev) (u8 q.payload 4) (u32 q.payload 8) (q.payload.drop 12) = none from hok]
      rfl
    case stale =>
      intro r sv hlo hhi hi hr hid
      exact served_acts sv (exec_assistDecide q s) rfl rfl rfl (f := assistDecide q.payload) rfl
        (assistDecide_stale (d := taken q s.dev) hlo hhi hi hr hid) rfl
    case hardware =>
      intro r sv hlo hhi hi hr hid hassisted
      refine served_acts sv (exec_assistDecide q s) rfl rfl rfl (f := assistDecide q.payload) rfl ?_ rfl
      rw [assistDecide_of_report (d := taken q s.dev) hlo hhi hi hr hid,
        show assisted (taken q s.dev) (u8 q.payload 4) (u32 q.payload 8) = false from hassisted]
      rfl
    case one =>
      intro l sv hlo hhi hi hl
      exact served_acts sv (exec_assistResume q s) rfl rfl rfl (f := assistResume q.payload) rfl
        (assistResume_one (d := taken q s.dev) hlo hhi hi hl) rfl
    case all =>
      intro sv hfn hi
      exact served_acts sv (exec_assistResume q s) rfl rfl rfl (f := assistResume q.payload) rfl
        (assistResume_all (d := taken q s.dev) hfn hi) rfl

end Sys2Proof.Proofs
end

section
/-! SUPPORT. Responses: the slot that an answer takes, what it leaves, and the statuses that the pair compares. -/

namespace Sys2Proof.Proofs

open Sys2Proof.Machine Sys2Proof.Laws Sys2Proof.Spec

/-! ### The slot -/

@[simp] theorem length_be (k v : Nat) : (be k v).length = k := by
  induction k with
  | zero => rfl
  | succ k ih => rw [be, List.length_cons, ih]

/-- A shorter run from the same address is the head of the longer one. -/
theorem rdBytes_take {n k : Nat} (m : Memory) (a : Nat) (h : n ≤ k) : rdBytes m a n = (rdBytes m a k).take n := by
  rw [rdBytes, rdBytes, ← List.map_take, List.take_range, Nat.min_eq_left h]

/-- A run that starts further on is what is left of the longer one. -/
theorem rdBytes_drop (m : Memory) (a i n : Nat) : rdBytes m (a + i) n = (rdBytes m a (i + n)).drop i := by
  simp only [rdBytes, List.range_add, List.map_append, List.map_map]
  rw [List.drop_left' (by simp)]
  exact List.map_congr_left fun k _ => by simp only [Function.comp_apply, Nat.add_assoc]

theorem rdBytes_wrBytes_head {m : Memory} (hm : Memory.wf m = true) (a : Nat) (h t : Bytes) :
    rdBytes (wrBytes m a (h ++ t)) a h.length = h := by
  rw [rdBytes_take _ _ (Nat.le.intro (List.length_append (as := h) (bs := t)).symm), rdBytes_wrBytes hm, List.take_left]

theorem rdBytes_wrBytes_after {m : Memory} (hm : Memory.wf m = true) (a : Nat) (h b t : Bytes) :
    rdBytes (wrBytes m a (h ++ (b ++ t))) (a + h.length) b.length = b := by
  rw [rdBytes_drop, rdBytes_take _ _ (show h.length + b.length ≤ (h ++ (b ++ t)).length by simp), rdBytes_wrBytes hm,
    ← List.append_assoc, List.take_left' (by simp), List.drop_left]

/-- The header of a slot (R152). -/
def slotHead (h : Slot) : Bytes :=
  be 2 h.opcode ++ be 2 h.tag.toNat ++ be 2 h.len
    ++ be 2 (h.resp.toNat * 32768 + h.hit.toNat * 16384 + h.mirrored.toNat * 8192) ++ be 2 h.status ++ be 1 h.ch ++ [0] ++ be 4 h.epochLo

theorem slotBytes_eq (h : Slot) (pay : Bytes) (fits : pay.length ≤ 240) :
    slotBytes h pay = slotHead h ++ (pay ++ zeros (240 - pay.length)) := by
  rw [slotBytes, fit, List.take_of_length_le fits]
  rfl

theorem length_slotHead (h : Slot) : (slotHead h).length = 16 := by simp [slotHead]

theorem length_slotBytes (h : Slot) (pay : Bytes) : (slotBytes h pay).length = 256 := by simp [slotBytes, length_fit]

/-- The device once a response of channel c stands in its ring. -/
def rspPosted (c : Nat) (d : Dev) : Dev :=
  raiseInt (1 + c) (wrapCtr (.mbxServed c) 31 0 1 (setRf (.mbxRspTail c) 6 0 ((rf d (.mbxRspTail c) 6 0 + 1) % 128) d))

theorem writeRsp_of_channel {h : Slot} (hc : h.ch < 8) (pay : Bytes) (s : Sys) :
    writeRsp h pay s = { mem := wrBytes s.mem (rspSlot h.ch (rf s.dev (.mbxRspTail h.ch) 6 0)) (slotBytes h pay), dev := rspPosted h.ch s.dev } := by
  rw [writeRsp]
  dsimp only
  rw [if_neg (by omega)]
  rfl

/-! ### What a response leaves -/

/-- `e` is `d` but for registers other than those of `l` and for MSI-X state. -/
structure Posts (l : List Reg) (d e : Dev) : Prop where
  frame : e = { d with regs := e.regs, host := { d.host with pf0 := e.host.pf0, pf1 := e.host.pf1 } }
  regs : ∀ r, r ∉ l → reg e r = reg d r

theorem posts_refl (l : List Reg) (d : Dev) : Posts l d d := ⟨rfl, fun _ _ => rfl⟩

theorem posts_trans {l : List Reg} {a b c : Dev} (h : Posts l a b) (k : Posts l b c) : Posts l a c := by
  refine ⟨?_, fun r hr => (k.regs r hr).trans (h.regs r hr)⟩
  rw [k.frame, h.frame]

theorem posts_setReg {l : List Reg} {r : Reg} (hr : r ∈ l) (w : Word) (d : Dev) : Posts l d (setReg r w d) :=
  ⟨rfl, fun j hj => by rw [reg_setReg, if_neg (by rintro rfl; exact hj hr)]⟩

theorem posts_gate {l : List Reg} {f : Dev → Dev} (h : ∀ d, Posts l d (f d)) (c : Bool) (d : Dev) : Posts l d (gate c f d) := by
  cases c
  · exact posts_refl l d
  · exact h d

theorem posts_msixPf0 (l : List Reg) (k : Nat) (d : Dev) : Posts l d (msixPf0 k d) := ⟨rfl, fun _ _ => rfl⟩
theorem posts_msixPf1 (l : List Reg) (k : Nat) (d : Dev) : Posts l d (msixPf1 k d) := ⟨rfl, fun _ _ => rfl⟩

theorem posts_raiseInt {l : List Reg} (hl : .glbIntStat ∈ l) (k : Nat) (d : Dev) : Posts l d (raiseInt k d) :=
  posts_trans (posts_trans (posts_trans (posts_setReg hl _ d) (posts_gate (posts_msixPf0 l k) _ _)) (posts_gate (posts_msixPf1 l 0) _ _))
    (posts_gate (posts_msixPf1 l 1) _ _)

theorem posts_rspPosted {l : List Reg} {c : Nat} (ht : .mbxRspTail c ∈ l) (hs : .mbxServed c ∈ l) (hi : .glbIntStat ∈ l) (d : Dev) :
    Posts l d (rspPosted c d) :=
  posts_trans (posts_trans (posts_setReg ht _ d) (posts_setReg hs _ _)) (posts_raiseInt hi _ _)

theorem posts_writeRsp {l : List Reg} {h : Slot} (ht : .mbxRspTail h.ch ∈ l) (hs : .mbxServed h.ch ∈ l) (hi : .glbIntStat ∈ l)
    (pay : Bytes) (s : Sys) : Posts l s.dev (writeRsp h pay s).dev := by
  by_cases hc : h.ch < 8
  · rw [writeRsp_of_channel hc]
    exact posts_rspPosted ht hs hi s.dev
  · rw [writeRsp]
    dsimp only
    rw [if_pos (by omega)]
    exact posts_refl l s.dev

/-! ### The statuses that the pair compares (R453) -/

/-- The result that waits for a status agrees with it, so that it only leaves the list. -/
theorem noteResult_eq {op x st : Nat} {q : Req} {d : Dev}
    (agree : ∀ r, d.mate.results.find? (sameResult (x, q.ch % 8, q.tag.toNat, st)) = some r → r.2.2.2 = st) :
    ∃ l k, noteResult op x q st d = { d with mate := { d.mate with statuses := l, results := k } } := by
  cases hpair : opMirrored op && d.mate.active && (d.mate.st == 3 || d.mate.st == 4 || (d.mate.st == 2 && d.mate.joinS))
  case false =>
    refine ⟨d.mate.statuses, d.mate.results, ?_⟩
    simp only [noteResult, hpair, Bool.not_false, if_true]
  case true =>
    cases hr : d.mate.results.find? (sameResult (x, q.ch % 8, q.tag.toNat, st)) with
    | none =>
      refine ⟨d.mate.statuses ++ [(x, q.ch % 8, q.tag.toNat, st)], d.mate.results, ?_⟩
      simp only [noteResult, hpair, hr, Bool.not_true, Bool.false_eq_true, if_false, modMate]
    | some r =>
      refine ⟨d.mate.statuses, d.mate.results.erase r, ?_⟩
      simp only [noteResult, hpair, hr, Bool.not_true, Bool.false_eq_true, if_false, meetStatus, agree r hr, if_true, modMate]

theorem each_keeps {σ β : Type} (p : σ → β) {f : Nat → σ → σ} (h : ∀ k s, p (f k s) = p s) (l : List Nat) (s : σ) :
    p (each l f s) = p s := by
  induction l generalizing s with
  | nil => rfl
  | cons k l ih => rw [each_cons, ih, h]

theorem gate_keeps {σ β : Type} (p : σ → β) {f : σ → σ} (h : ∀ s, p (f s) = p s) (c : Bool) (s : σ) : p (gate c f s) = p s := by
  cases c
  · rfl
  · exact h s

theorem showMate_mate (d : Dev) : (showMate d).mate = d.mate := by
  have hsteer (d : Dev) : (showDpll 0 (modDp 0 (fun x => { x with mateSteer := following d }) d)).mate = d.mate := rfl
  exact gate_keeps Dev.mate hsteer _ _

theorem setPktStep_mate (c : Nat) (v : Bool) (d : Dev) : (setPktStep c v d).mate = d.mate := by
  rw [setPktStep]
  split
  · rfl
  · exact (evtMate_records _ _ _ _).mate

theorem setMateSt_st (v : Nat) (d : Dev) : (setMateSt v d).mate.st = v := by
  rw [setMateSt]
  dsimp only
  split
  · assumption
  · rw [showMate_mate,
      gate_keeps (f := fun d => each (packetConts d) (fun c => setPktStep c false) d) Dev.mate
        (fun d => each_keeps Dev.mate (fun k d => setPktStep_mate k false d) _ d),
      gate_keeps (f := fun d => evtMate 0x0304 0 [] (setMateLive mPartition (v == 5) d)) Dev.mate
        (fun d => (evtMate_records _ _ _ _).mate.trans (setLive_records _ _ _ _ _).mate), (evtMate_records _ _ _ _).mate]
    rfl

/-- A status that differs from the standby's makes the pair join anew. -/
theorem noteResult_differs {op x st : Nat} {q : Req} {d : Dev} {r : Nat × Nat × Nat × Nat} (hop : opMirrored op = true)
    (hactive : d.mate.active = true) (hlo : 3 ≤ d.mate.st) (hhi : d.mate.st ≤ 4)
    (hr : d.mate.results.find? (sameResult (x, q.ch % 8, q.tag.toNat, st)) = some r) (hst : r.2.2.2 ≠ st) :
    (noteResult op x q st d).mate.st = 2 := by
  have hpair : (opMirrored op && d.mate.active && (d.mate.st == 3 || d.mate.st == 4 || (d.mate.st == 2 && d.mate.joinS))) = true := by
    have h34 : d.mate.st = 3 ∨ d.mate.st = 4 := by omega
    rcases h34 with h | h <;> simp [hop, hactive, h]
  rw [noteResult, hpair]
  simp only [Bool.not_true, Bool.false_eq_true, if_false, hr]
  rw [meetStatus, if_neg (Ne.symm hst), enterJoining]
  exact setMateSt_st 2 _

theorem logTag_eq (c : Nat) (e : TagEnt) (d : Dev) : ∃ l, logTag c e d = { d with mbx := { d.mbx with logs := l } } := by
  rw [logTag]
  split
  · exact ⟨d.mbx.logs, rfl⟩
  · exact ⟨_, rfl⟩

/-! ### The rows of the mailbox -/

/-- Every command of the mailbox serves its opcode, which R179 lists. -/
theorem mailbox_serves {c : Instr} {op : Nat} {q : Req} {sel : Bytes → Bool} (h : mailbox c = some (op, q, sel)) (s : State) :
    Machine.exec c s = runSys (isReq q) (serve op sel q) s ∧ listed op q = true := by
  unfold mailbox at h
  split at h
  all_goals cases h
  all_goals exact ⟨rfl, rfl⟩

end Sys2Proof.Proofs
end

section
/-! SUPPORT. What the mailbox refuses, replays, forwards and executes at X. -/

namespace Sys2Proof.Proofs

open Sys2Proof.Machine Sys2Proof.Laws Sys2Proof.Spec

/-! ### Refusals -/

/-- The refusals of the header in their order. -/
theorem headerRefusal_eq (d : Dev) (op : Nat) (q : Req) :
    headerRefusal d op q = if !onItsChannel op q then some 2
      else if !d.boot.thino && !romServes d op then some 0x12
      else if q.payload.length < (opLength op).1 ∨ (opLength op).2 < q.payload.length then some 3
      else if opMirrored op && d.mate.st != 0 && !d.mate.active then some 0xD
      else freezeRefusal d op q := by
  have hhome : (!onItsChannel op q) = (!(if opcodeChannel op = 6 then q.ch == 6 || q.ch == 7 else q.ch == opcodeChannel op)
      || q.chField != q.ch) := by rw [onItsChannel, Bool.not_and]; rfl
  rw [hhome]
  rfl

/-- A refused request is answered with its status; beyond the response, STORE posts its refusal. -/
theorem refused_replies {c : Instr} {op : Nat} {q : Req} {s : State} {st : Nat} (w : Waits c op q s) (fresh : logged s.dev q = none)
    (h : headerRefusal s.dev op q = some st) :
    Replies c op q s (status st) (gate (op == 0x0109 && (st == 9 || st == 0xA || st == 0x15)) (refuseStore st) (taken q s.dev)) := by
  obtain ⟨⟨sel, hrow, hsel⟩, ok, on, head⟩ := w
  obtain ⟨hexec, hl⟩ := mailbox_serves hrow s
  rw [Replies, EndsSys, hexec, ok, runSys_on _ _ on, serve_refuses op sel q s.sys st head hsel hl fresh h]
  rfl

/-- A status that STORE does not post leaves nothing beyond the response. -/
theorem refused_plainly {c : Instr} {op : Nat} {q : Req} {s : State} {st : Nat} (w : Waits c op q s) (fresh : logged s.dev q = none)
    (h : headerRefusal s.dev op q = some st) (hst : (st == 9 || st == 0xA || st == 0x15) = false) :
    Replies c op q s (status st) (taken q s.dev) := by
  have replies := refused_replies w fresh h
  rwa [hst, Bool.and_false, gate_false] at replies

theorem refused_frozen {c : Instr} {op : Nat} {q : Req} {s : State} {st : Nat} (w : Waits c op q s) (fresh : logged s.dev q = none)
    (h : headerRefusal s.dev op q = some st) (hst : (st == 9 || st == 0xA || st == 0x15) = true) :
    Replies c op q s (status st) (if op = 0x0109 then evtNvm 0x0C02 0 (be 2 st) (taken q s.dev) else taken q s.dev) := by
  have replies := refused_replies w fresh h
  rw [hst, Bool.and_true] at replies
  by_cases hop : op = 0x0109
  · rw [if_pos hop]
    rwa [beq_iff_eq.mpr hop, gate_true] at replies
  · rw [if_neg hop]
    rwa [beq_false_of_ne hop, gate_false] at replies

theorem waits_channel {c : Instr} {op : Nat} {q : Req} {s : State} (w : Waits c op q s) : q.ch < 8 := by
  have ok := w.ok
  simp only [isReq, isChannel, Bool.and_eq_true, decide_eq_true_eq] at ok
  exact ok.1.1.1

theorem freezeRefusal_fatal {d : Dev} {op : Nat} {q : Req} (hop : opMirrored op = true) (hch : q.ch < 8) (hne : q.ch ≠ 2)
    (hfatal : isFatal d = true) : freezeRefusal d op q = some 0xA := by
  have hch2 : (q.ch % 8 == 2) = false := beq_false_of_ne (by omega)
  simp only [freezeRefusal, hop, hch2, hfatal, Bool.not_true, Bool.or_self, Bool.false_eq_true, if_false, if_true]

theorem freezeRefusal_powerFail {d : Dev} {op : Nat} {q : Req} (hop : opMirrored op = true) (hch : q.ch < 8) (hne : q.ch ≠ 2)
    (hfatal : isFatal d = false) (hpfw : isPfwFrozen d = true) : freezeRefusal d op q = some 9 := by
  have hch2 : (q.ch % 8 == 2) = false := beq_false_of_ne (by omega)
  simp only [freezeRefusal, hop, hch2, hfatal, hpfw, Bool.not_true, Bool.or_self, Bool.false_eq_true, if_false, if_true]

/-- An opcode that R179 does not list is answered BAD_OPCODE by any row. -/
theorem unlisted_replies {c : Instr} {op here : Nat} {q : Req} {sel : Bytes → Bool} {s : State} (hrow : mailbox c = some (op, q, sel))
    (ok : isReq q = true) (on : On s) (head : atHead here q s.sys = true) (hl : listed here q = false)
    (fresh : logged s.dev q = none) : Replies c here q s { st := 1 } (taken q s.dev) := by
  obtain ⟨hexec, -⟩ := mailbox_serves hrow s
  rw [Replies, EndsSys, hexec, ok, runSys_on _ _ on, serve_unlisted op sel q s.sys here head hl fresh]
  rfl

/-- The response of a served request, for its own host. -/
theorem answered_eq (op : Nat) (q : Req) (a : Ans) (s : State) (x : Sys) :
    answered op q a s x = writeRsp {
      opcode := op, tag := q.tag, len := a.pay.length, resp := true, status := a.st, ch := q.ch, epochLo := now s.dev % 2 ^ 32 } a.pay
      { dev := noteResult op (now s.dev) q a.st (logTag q.ch {
          tag := q.tag, opcode := op, crc := crc32 q.payload, status := a.st, payload := a.pay, mirrored := false, epoch := now s.dev } x.dev)
        mem := x.mem } := rfl

/-- The header of a response that is no retry and was not forwarded. -/
theorem slotHead_response (op : Nat) (tag : BitVec 16) (len st ch x : Nat) :
    slotHead { opcode := op, tag := tag, len := len, resp := true, status := st, ch := ch, epochLo := x } =
      be 2 op ++ be 2 tag.toNat ++ be 2 len ++ be 2 0x8000 ++ be 2 st ++ be 1 ch ++ [0] ++ be 4 x := by
  simp only [slotHead, Bool.toNat_true, Bool.toNat_false, Nat.one_mul, Nat.zero_mul, Nat.add_zero]

/-- The slot that a response takes: header and payload, and no other byte. -/
theorem writeRsp_slot {h : Slot} {pay : Bytes} {d : Dev} {m : Memory} {a : Nat} (hm : Memory.wf m = true) (hc : h.ch < 8)
    (fits : pay.length ≤ 240) (ha : rspSlot h.ch (rf d (.mbxRspTail h.ch) 6 0) = a) :
    rdBytes (writeRsp h pay { dev := d, mem := m }).mem a 16 = slotHead h ∧
      rdBytes (writeRsp h pay { dev := d, mem := m }).mem (a + 16) pay.length = pay ∧
      ∀ b, b < a ∨ a + 256 ≤ b → rd (writeRsp h pay { dev := d, mem := m }).mem b = rd m b := by
  rw [writeRsp_of_channel hc, ha]
  dsimp only
  have hout (b : Nat) (hb : b < a ∨ a + 256 ≤ b) : rd (wrBytes m a (slotBytes h pay)) b = rd m b :=
    rd_wrBytes_outside hm (by rw [length_slotBytes]; exact hb)
  refine ⟨?_, ?_, hout⟩
  · have hhead := rdBytes_wrBytes_head hm a (slotHead h) (pay ++ zeros (240 - pay.length))
    rwa [length_slotHead, ← slotBytes_eq h pay fits] at hhead
  · have hpay := rdBytes_wrBytes_after hm a (slotHead h) pay (zeros (240 - pay.length))
    rwa [length_slotHead, ← slotBytes_eq h pay fits] at hpay

/-- What a response that meets no other status leaves. -/
theorem answered_frame {op : Nat} {q : Req} {a : Ans} {s : State} {x : Sys} {y : Dev} (hy : (answered op q a s x).dev = y)
    (agree : ∀ r, x.dev.mate.results.find? (sameResult (now s.dev, q.ch % 8, q.tag.toNat, a.st)) = some r → r.2.2.2 = a.st) :
    y = { x.dev with
      regs := y.regs
      mbx := { x.dev.mbx with logs := y.mbx.logs }
      host := { x.dev.host with pf0 := y.host.pf0, pf1 := y.host.pf1 }
      mate := { x.dev.mate with statuses := y.mate.statuses, results := y.mate.results } } ∧
    ∀ r, r ≠ .mbxRspTail q.ch → r ≠ .mbxServed q.ch → r ≠ .glbIntStat → reg y r = reg x.dev r := by
  obtain ⟨l, hl⟩ := logTag_eq q.ch {
    tag := q.tag, opcode := op, crc := crc32 q.payload, status := a.st, payload := a.pay, mirrored := false, epoch := now s.dev } x.dev
  obtain ⟨j, k, hn⟩ := noteResult_eq (op := op) (x := now s.dev) (st := a.st) (q := q)
    (d := { x.dev with mbx := { x.dev.mbx with logs := l } }) agree
  rw [answered_eq, hl, hn] at hy
  have posts := posts_writeRsp (l := [.mbxRspTail q.ch, .mbxServed q.ch, .glbIntStat]) (h := {
      opcode := op, tag := q.tag, len := a.pay.length, resp := true, status := a.st, ch := q.ch, epochLo := now s.dev % 2 ^ 32 })
    (by simp) (by simp) (by simp) a.pay { dev := {
      x.dev with mbx := { x.dev.mbx with logs := l }, mate := { x.dev.mate with statuses := j, results := k } }, mem := x.mem }
  rw [hy] at posts
  obtain ⟨hframe, hregs⟩ := posts
  refine ⟨?_, fun r h1 h2 h3 => (hregs r (by simp [h1, h2, h3])).trans rfl⟩
  rw [hframe]

/-- A response whose status differs from the standby's leaves the pair JOINING. -/
theorem answered_differs {op : Nat} {q : Req} {a : Ans} {s : State} {x : Sys} {r : Nat × Nat × Nat × Nat} (hop : opMirrored op = true)
    (hactive : x.dev.mate.active = true) (hlo : 3 ≤ x.dev.mate.st) (hhi : x.dev.mate.st ≤ 4)
    (hr : x.dev.mate.results.find? (sameResult (now s.dev, q.ch % 8, q.tag.toNat, a.st)) = some r) (hst : r.2.2.2 ≠ a.st) :
    (answered op q a s x).dev.mate.st = 2 := by
  obtain ⟨l, hl⟩ := logTag_eq q.ch {
    tag := q.tag, opcode := op, crc := crc32 q.payload, status := a.st, payload := a.pay, mirrored := false, epoch := now s.dev } x.dev
  have hst2 := noteResult_differs (op := op) (x := now s.dev) (st := a.st) (q := q)
    (d := { x.dev with mbx := { x.dev.mbx with logs := l } }) hop hactive hlo hhi hr hst
  rw [answered_eq, hl]
  generalize noteResult op (now s.dev) q a.st { x.dev with mbx := { x.dev.mbx with logs := l } } = e at hst2 ⊢
  have posts := posts_writeRsp (l := [.mbxRspTail q.ch, .mbxServed q.ch, .glbIntStat]) (h := {
      opcode := op, tag := q.tag, len := a.pay.length, resp := true, status := a.st, ch := q.ch, epochLo := now s.dev % 2 ^ 32 })
    (by simp) (by simp) (by simp) a.pay { dev := e, mem := x.mem }
  rw [posts.frame]
  exact hst2

theorem romServes_taken (q : Req) (d : Dev) (op : Nat) : romServes (taken q d) op = romServes d op := by
  rw [romServes, rb, reg_taken Reg.noConfusion, ← rb, ← romServes]

/-- Settles O19. -/
theorem responsesAndRefusals : Obligations.ResponsesAndRefusals := by
  refine ⟨?slot, ?leaves, ?unlisted, ?refused⟩
  case slot =>
    intro op q a s d m hm hch hlen n t x
    obtain ⟨hhead, hpay, hrest⟩ := writeRsp_slot (h := {
        opcode := op, tag := q.tag, len := a.pay.length, resp := true, status := a.st, ch := q.ch, epochLo := now s.dev % 2 ^ 32 })
      (d := n) (a := 0x2204000 + q.ch * 0x8000 + t % 64 * 256) hm hch hlen rfl
    have hdev : x.dev = rspPosted q.ch n := congrArg Sys.dev (writeRsp_of_channel hch a.pay { dev := n, mem := m })
    rw [slotHead_response] at hhead
    exact ⟨hhead, hpay, hrest, hdev⟩
  case leaves =>
    intro op q a s x y mine
    exact ⟨answered_frame rfl, fun r => answered_differs⟩
  case unlisted => exact fun c op here q sel s hrow ok on head hl fresh => unlisted_replies hrow ok on head hl fresh
  case refused =>
    intro c op q s w fresh d len served m standby
    have served_iff : served ↔ ¬ (!s.dev.boot.thino && !romServes s.dev op) = true := by
      rw [← romServes_taken q s.dev op]
      show (s.dev.boot.thino = true ∨ romServes (taken q s.dev) op = true) ↔ _
      cases s.dev.boot.thino <;> simp
    have standby_iff : standby ↔ (s.dev.mate.st != 0 && !s.dev.mate.active) = true := by simp [standby]
    have len_iff : len ↔ ¬ (q.payload.length < (opLength op).1 ∨ (opLength op).2 < q.payload.length) := by
      simp only [len]
      omega
    have hch := waits_channel w
    refine ⟨?channel, ?rom, ?length, ?standby, ?fatal, ?powerFail⟩
    case channel =>
      intro hon
      exact refused_plainly w fresh (by rw [headerRefusal_eq, hon]; rfl) rfl
    case rom =>
      intro hon hserved
      refine refused_plainly w fresh ?_ rfl
      rw [headerRefusal_eq, if_neg (by simp [hon]), if_pos (not_not.mp (mt served_iff.mpr hserved))]
    case length =>
      intro hon hserved hlen
      refine refused_plainly w fresh ?_ rfl
      rw [headerRefusal_eq, if_neg (by simp [hon]), if_neg (served_iff.mp hserved), if_pos (not_not.mp (mt len_iff.mpr hlen))]
    case standby =>
      intro hon hserved hlen hm hstandby
      refine refused_plainly w fresh ?_ rfl
      rw [headerRefusal_eq, if_neg (by simp [hon]), if_neg (served_iff.mp hserved), if_neg (len_iff.mp hlen), Bool.and_assoc, hm,
        standby_iff.mp hstandby]
      rfl
    case fatal =>
      intro hon hserved hlen hm hstandby hne hfatal
      refine refused_frozen w fresh ?_ rfl
      rw [headerRefusal_eq, if_neg (by simp [hon]), if_neg (served_iff.mp hserved), if_neg (len_iff.mp hlen),
        Bool.and_assoc, hm, Bool.true_and, if_neg (mt standby_iff.mpr hstandby),
        freezeRefusal_fatal hm hch hne hfatal]
    case powerFail =>
      intro hon hserved hlen hm hstandby hne hfatal hpfw
      refine refused_frozen w fresh ?_ rfl
      rw [headerRefusal_eq, if_neg (by simp [hon]), if_neg (served_iff.mp hserved), if_neg (len_iff.mp hlen),
        Bool.and_assoc, hm, Bool.true_and, if_neg (mt standby_iff.mpr hstandby),
        freezeRefusal_powerFail hm hch hne hfatal hpfw]

end Sys2Proof.Proofs
end

section
/-! SUPPORT. The tag log, and commands that wait for their X. -/

namespace Sys2Proof.Proofs

open Sys2Proof.Machine Sys2Proof.Laws Sys2Proof.Spec

/-! ### The tag log (R104, R157) -/

/-- A request with a logged tag is answered from its entry. -/
theorem logged_replays {c : Instr} {op : Nat} {q : Req} {s : State} {e : TagEnt} (w : Waits c op q s) (h : logged s.dev q = some e) :
    EndsSys c s (replay op (now s.dev) true false q e { dev := taken q s.dev, mem := s.mem }) := by
  obtain ⟨⟨sel, hrow, hsel⟩, ok, on, head⟩ := w
  obtain ⟨hexec, hl⟩ := mailbox_serves hrow s
  rw [EndsSys, hexec, ok, runSys_on _ _ on, serve_replays op sel q s.sys e head hsel hl h]
  rfl

theorem replay_hit {op x : Nat} {q : Req} {e : TagEnt} (s : Sys) (h : sameCommand e op q = true) :
    replay op x true false q e s = writeRsp {
      opcode := op, tag := q.tag, len := e.payload.length, resp := true, hit := true, mirrored := e.mirrored, status := e.status
      ch := q.ch, epochLo := e.epoch % 2 ^ 32 } e.payload s := by
  simp only [replay, h, if_true, Bool.false_or, Bool.true_and, gate_false, onDev]

theorem replay_conflict {op x : Nat} {q : Req} {e : TagEnt} (s : Sys) (h : sameCommand e op q = false) :
    replay op x true false q e s = writeRsp {
      opcode := op, tag := q.tag, len := 0, resp := true, hit := false, mirrored := false, status := 0xC
      ch := q.ch, epochLo := x % 2 ^ 32 } [] s := by
  simp only [replay, h, Bool.false_eq_true, if_true, if_false, Bool.false_or, Bool.false_and, gate_false, onDev, List.length_nil]

theorem sameCommand_iff (e : TagEnt) (op : Nat) (q : Req) :
    sameCommand e op q = true ↔ e.opcode = op ∧ e.crc = crc32 q.payload := by
  simp only [sameCommand, Bool.and_eq_true, beq_iff_eq]

theorem neverLogged_iff (st : Nat) : neverLogged st = true ↔ st ∈ [6, 9, 0xA, 0xB, 0xC, 0xD, 0x12] := List.contains_iff_mem

theorem logTag_keeps {c : Nat} {e : TagEnt} (d : Dev) (h : e.tag = 0 ∨ e.status ∈ [6, 9, 0xA, 0xB, 0xC, 0xD, 0x12]) :
    logTag c e d = d := by
  have hskip : (decide (e.tag = 0) || neverLogged e.status) = true := by
    rw [Bool.or_eq_true, decide_eq_true_eq, neverLogged_iff]
    exact h
  rw [logTag, hskip, if_pos rfl]

theorem logTag_logs {c : Nat} {e : TagEnt} (d : Dev) (hc : c < 8) (htag : e.tag ≠ 0)
    (hst : e.status ∉ [6, 9, 0xA, 0xB, 0xC, 0xD, 0x12]) :
    logTag c e d = { d with mbx := { d.mbx with logs := tset d.mbx.logs c ((e :: tget [] d.mbx.logs c).take 64) } } := by
  have hskip : (decide (e.tag = 0) || neverLogged e.status) = false := by
    rw [Bool.or_eq_false_iff, decide_eq_false_iff_not, ← Bool.not_eq_true, neverLogged_iff]
    exact ⟨htag, hst⟩
  rw [logTag, hskip, if_neg Bool.false_ne_true, Nat.mod_eq_of_lt hc]
  rfl

/-- The newest entry of a tag is the one that a retry finds. -/
theorem logged_front {d : Dev} {q : Req} {e : TagEnt} {l : List TagEnt} (hc : q.ch < 8) (hq : q.tag = e.tag) (htag : e.tag ≠ 0)
    (hl : tget [] d.mbx.logs q.ch = e :: l) : logged d q = some e := by
  rw [logged, if_neg (hq ▸ htag), Nat.mod_eq_of_lt hc, hl]
  exact List.find?_cons_of_pos (beq_iff_eq.mpr hq.symm)

/-! ### Commands that wait for X (R161) -/

/-- A command marked M of an active whose standby is IN_STEP is forwarded, and waits. -/
theorem forwarded_waits {c : Instr} {op : Nat} {q : Req} {s : State} (w : Waits c op q s) (fresh : logged s.dev q = none)
    (pass : headerRefusal s.dev op q = none) (hm : opMirrored op = true) (hactive : s.dev.mate.active = true)
    (hstep : inStep s.dev = true) {x : Nat} (hx : execEpoch s.dev q.ns = x) :
    Ends c s (sendCommand x q.ch op q.tag q.payload { taken q s.dev with
      mbx := { (taken q s.dev).mbx with mir := s.dev.mbx.mir ++ [{ opcode := op, req := q, x := x }] } }) := by
  obtain ⟨⟨sel, hrow, hsel⟩, ok, on, head⟩ := w
  obtain ⟨hexec, hl⟩ := mailbox_serves hrow s
  have hwaits : waitsForX s.dev op = true := by rw [waitsForX, hm, hactive, hstep]; rfl
  have hserve : serve op sel q s.sys = accept op q (onDev (takeReq q.ch) s.sys) := by
    unfold serve
    simp only [head_opcode head, head, hsel, hl, show logged s.sys.dev q = none from fresh, show headerRefusal s.sys.dev op q = none from pass,
      show waitsForX s.sys.dev op = true from hwaits, Bool.not_true, Bool.false_and, Bool.or_self,
      Bool.false_eq_true, if_false]
  have haccept : accept op q (onDev (takeReq q.ch) s.sys) = onDev (fun d => sendCommand x q.ch op q.tag q.payload
      { d with mbx := { d.mbx with mir := d.mbx.mir ++ [{ opcode := op, req := q, x := x }] } }) (onDev (takeReq q.ch) s.sys) := by
    subst hx
    exact if_pos hwaits
  rw [Ends, hexec, ok, runSys_on _ _ on, hserve, haccept]
  rfl

/-- The oldest held command whose X has come executes. -/
theorem mirroredExec_runs {s : Sys} {m : MirItem} (hthino : s.dev.boot.thino = true)
    (hm : (s.dev.mbx.mir.find? fun m => decide (m.x ≤ now s.dev)) = some m) (hheld : heldForJ s.dev m = false) :
    mirroredExec s = runHeld m s := by
  unfold mirroredExec
  simp only [hthino, hm, hheld, Bool.not_true, Bool.false_eq_true, if_false]

theorem mirroredExec_idles {s : Sys} (h : (s.dev.mbx.mir.find? fun m => decide (m.x ≤ now s.dev)) = none) : mirroredExec s = s := by
  unfold mirroredExec
  simp only [h, ite_self]

theorem heldForJ_of {d : Dev} {m : MirItem} (h : m.own = true ∨ (d.mate.st ≠ 2 ∧ d.mate.joinAt = none)) : heldForJ d m = false := by
  rcases h with h | ⟨hst, hjoin⟩
  · rw [heldForJ, h]; rfl
  · rw [heldForJ, beq_false_of_ne hst, hjoin]; exact Bool.and_false _

theorem runHeld_executes {m : MirItem} {s : Sys} (fresh : logged s.dev m.req = none)
    (pass : m.own = true → freezeRefusal s.dev m.opcode m.req = none)
    (ready : stalls m.opcode { x := m.x, mirrored := m.ahead } m.req s = false) :
    runHeld m s = execute m.opcode { x := m.x, mirrored := m.ahead } m.own m.req
      (onDev (fun d => { d with mbx := { d.mbx with mir := d.mbx.mir.erase m } }) s) := by
  have hpass : (if m.own then freezeRefusal s.dev m.opcode m.req else none) = none := by
    split
    · exact pass ‹_›
    · rfl
  unfold runHeld
  simp only [fresh, hpass, ready, Bool.not_false, if_true]

/-- Settles O20. -/
theorem tagsAreLoggedAndMirroredCommandsWait : Obligations.TagsAreLoggedAndMirroredCommandsWait := by
  refine ⟨⟨?replays, ?untagged⟩, ?logs, ?forwards, ?executes, ?idles⟩
  case replays =>
    intro c op q s e w he
    have ends := logged_replays w he
    refine ⟨fun hsame => ?_, fun hsame => ?_⟩
    · rwa [replay_hit _ ((sameCommand_iff e op q).mpr hsame)] at ends
    · rwa [replay_conflict _ (eq_false_of_ne_true (mt (sameCommand_iff e op q).mp hsame))] at ends
  case untagged => exact fun q d h => if_pos h
  case logs =>
    intro c e d q hq hc
    refine ⟨logTag_keeps d, fun htag hst => ?_⟩
    have hlog := logTag_logs d hc htag hst
    have hlist : tget [] (logTag c e d).mbx.logs c = (e :: tget [] d.mbx.logs c).take 64 := by
      rw [hlog, tget_tset, if_pos rfl]
    refine ⟨hlist, fun heq => ?_, fun k hk => ?_⟩
    · exact logged_front (l := (tget [] d.mbx.logs c).take 63) (hq ▸ hc) heq htag (hq ▸ hlist)
    · rw [hlog, tfind_tset, if_neg hk]
  case forwards =>
    intro c op q s w fresh pass hm hactive hstep x
    exact forwarded_waits w fresh pass hm hactive hstep rfl
  case executes =>
    intro s m on hthino hm hheld fresh pass ready
    rw [EndsSys, exec_mirroredExec, runSys_on _ _ on, mirroredExec_runs hthino hm (heldForJ_of hheld),
      runHeld_executes fresh pass ready]
    rfl
  case idles =>
    intro s on h
    have hnone : (s.dev.mbx.mir.find? fun m => decide (m.x ≤ now s.dev)) = none := by
      rw [List.find?_eq_none]
      intro m hm
      simpa using h m hm
    rw [exec_mirroredExec, runSys_on _ _ on, mirroredExec_idles (s := s.sys) hnone]
    rfl

end Sys2Proof.Proofs
end

section
/-! SUPPORT. Register words: fields, key words, and what a write under the access types leaves. -/

namespace Sys2Proof.Proofs

open Sys2Proof.Machine Sys2Proof.Laws Sys2Proof.Spec

/-! ### Bits of a word -/

theorem getLsbD_mask {hi lo : Nat} (h : lo ≤ hi) (i : Nat) :
    (mask hi lo).getLsbD i = (decide (i < 32) && (decide (lo ≤ i) && decide (i ≤ hi))) := by
  rw [mask, BitVec.getLsbD_ofNat, Nat.testBit_mul_two_pow, Nat.testBit_two_pow_sub_one]
  by_cases hlo : lo ≤ i
  · have hhi : i - lo < hi + 1 - lo ↔ i ≤ hi := by omega
    simp [hlo, hhi]
  · simp [hlo]

theorem getLsbD_putBits {hi lo : Nat} (h : lo ≤ hi) (w : Word) (v i : Nat) (hi32 : i < 32) :
    (putBits w hi lo v).getLsbD i = if lo ≤ i ∧ i ≤ hi then v.testBit (i - lo) else w.getLsbD i := by
  rw [putBits, BitVec.getLsbD_or, BitVec.getLsbD_and, BitVec.getLsbD_and, BitVec.getLsbD_not, getLsbD_mask h, BitVec.getLsbD_ofNat,
    Nat.testBit_mul_two_pow]
  by_cases hin : lo ≤ i ∧ i ≤ hi
  · simp [hin, hi32]
  · rw [if_neg hin]
    have : (decide (lo ≤ i) && decide (i ≤ hi)) = false := by simpa using hin
    simp [this, hi32]

theorem bit_putBit_same (w : Word) (i : Nat) (b : Bool) (h : i < 32) : bit (putBit w i b) i = b := by
  rw [bit, putBit, getLsbD_putBits (Nat.le_refl i) _ _ _ h, if_pos ⟨Nat.le_refl i, Nat.le_refl i⟩, Nat.sub_self]
  cases b <;> rfl

theorem bit_putBit_ne (w : Word) {i j : Nat} (b : Bool) (hne : j ≠ i) : bit (putBit w i b) j = bit w j := by
  by_cases h : j < 32
  · rw [bit, putBit, getLsbD_putBits (Nat.le_refl i) _ _ _ h, if_neg (by omega), bit]
  · rw [bit, bit, BitVec.getLsbD_of_ge _ _ (Nat.le_of_not_lt h), BitVec.getLsbD_of_ge _ _ (Nat.le_of_not_lt h)]

theorem testBit_bits (w : Word) (hi lo i : Nat) : (bits w hi lo).testBit i = (decide (i < hi + 1 - lo) && w.getLsbD (lo + i)) := by
  rw [bits, Nat.testBit_mod_two_pow, Nat.testBit_shiftRight, BitVec.testBit_toNat]

/-- A field reads what was put into it. -/
theorem bits_putBits_same {hi lo : Nat} (h : lo ≤ hi) (h32 : hi < 32) (w : Word) (v : Nat) :
    bits (putBits w hi lo v) hi lo = v % 2 ^ (hi + 1 - lo) := by
  refine Nat.eq_of_testBit_eq fun i => ?_
  rw [testBit_bits, Nat.testBit_mod_two_pow]
  rcases Nat.lt_or_ge i (hi + 1 - lo) with hi' | hi'
  · rw [getLsbD_putBits h _ _ _ (by omega), if_pos (by omega), Nat.add_sub_cancel_left]
  · simp [Nat.not_lt.mpr hi']

theorem bits_lt (w : Word) (hi lo : Nat) : bits w hi lo < 2 ^ (hi + 1 - lo) := Nat.mod_lt _ (Nat.two_pow_pos _)

/-- A field of a word of a small number. -/
theorem bits_ofNat {hi n : Nat} (h : n < 2 ^ (hi + 1)) (h32 : hi < 32) : bits (BitVec.ofNat 32 n) hi 0 = n := by
  have hpow : 2 ^ (hi + 1) ≤ 2 ^ 32 := Nat.pow_le_pow_right (by decide) (by omega)
  rw [bits, BitVec.toNat_ofNat, Nat.mod_eq_of_lt (Nat.lt_of_lt_of_le h hpow), Nat.shiftRight_zero, Nat.sub_zero, Nat.mod_eq_of_lt h]

/-! ### Writes under the access types (R127) -/

/-- Bit by bit: W1C bits written 1 clear, RW and CTR bits load, every other bit stays. -/
theorem getLsbD_typedValue (r : Reg) (old w : Word) {i : Nat} (hi : i < 32) :
    (typedValue r old w).getLsbD i =
      if (regMask r fun t => t == .w1c).getLsbD i && w.getLsbD i then false
      else if (regMask r fun t => t == .rw || t == .ctr).getLsbD i then w.getLsbD i else old.getLsbD i := by
  simp only [typedValue, BitVec.getLsbD_and, BitVec.getLsbD_or, BitVec.getLsbD_not, hi, decide_true, Bool.true_and]
  cases (regMask r fun t => t == .w1c).getLsbD i <;> cases (regMask r fun t => t == .rw || t == .ctr).getLsbD i <;>
    cases w.getLsbD i <;> simp

/-- The register has one writable bit: a write sets it. -/
theorem typedValue_bit {r : Reg} {i : Nat} (hi : i < 32) (hload : (regMask r fun t => t == .rw || t == .ctr) = mask i i)
    (hclr : (regMask r fun t => t == .w1c) = 0) (old w : Word) : typedValue r old w = putBit old i (bit w i) := by
  refine BitVec.eq_of_getLsbD_eq fun j hj => ?_
  rw [getLsbD_typedValue r old w hj, hload, hclr, getLsbD_mask (Nat.le_refl i), putBit, getLsbD_putBits (Nat.le_refl i) _ _ _ hj]
  by_cases h : i ≤ j ∧ j ≤ i
  · obtain rfl : i = j := by omega
    have hb : (bit w i).toNat.testBit 0 = w.getLsbD i := by rw [bit]; cases w.getLsbD i <;> rfl
    simp [hi, hb]
  · have hin : (decide (i ≤ j) && decide (j ≤ i)) = false := by simpa using h
    simp [h, hin]

/-! ### Key words -/

theorem bit_keyWord {low i : Nat} (key : Nat) (hlow : low < 65536) (hi : i < 16) : bit (keyWord key low) i = low.testBit i := by
  rw [bit, keyWord, BitVec.getLsbD_ofNat, decide_eq_true (by omega), Bool.true_and, Nat.mul_comm key 65536,
    show 65536 = 2 ^ 16 from rfl, Nat.testBit_two_pow_mul_add _ hlow, if_pos hi]

theorem keyed_keyWord {key low : Nat} (hkey : key < 65536) (hlow : low < 65536) : keyed (keyWord key low) = (key == 0xA55A) := by
  have hbits : bits (keyWord key low) 31 16 = key := by
    rw [bits, keyWord, BitVec.toNat_ofNat, Nat.shiftRight_eq_div_pow]
    omega
  rw [keyed, hbits]

theorem keyed_key {low : Nat} (hlow : low < 65536) : keyed (keyWord 0xA55A low) = true := keyed_keyWord (by decide) hlow

theorem keyed_ne {key low : Nat} (hkey : key < 65536) (hne : key ≠ 0xA55A) (hlow : low < 65536) : keyed (keyWord key low) = false :=
  (keyed_keyWord hkey hlow).trans (beq_false_of_ne hne)

/-! ### A granted write -/

section GrantedWrites

variable {q : Requester} {r : Reg} {s : State}

/-- A granted write of a register by name has the register's own effect. -/
theorem grants_writes (g : Grants q r s) (w : Word) : writeNamed q r w s.sys = writeReg q (regOffset r) r w s.sys := by
  have hresolve : resolve s.dev (.named r) = some { off := regOffset r, dom := regDomain r, priv := regPriv r, site := .reg r } :=
    if_pos g.valid
  rw [writeNamed, show pathUp s.sys.dev q = true from g.path, if_pos rfl, writeOne,
    show refusalOf s.sys.dev q (.named r) 4 true true = none from g.free, show resolve s.sys.dev (.named r) = _ from hresolve]
  rfl

/-- The row of a register ends with what its write does. -/
theorem named_endsSys (g : Grants q r s) {c : Instr} {ok : Bool} {w : Word} (hc : Machine.exec c s = runSys ok (writeNamed q r w) s)
    (hok : ok = true) {x : Sys} (hx : writeReg q (regOffset r) r w s.sys = x) : EndsSys c s x := by
  rw [EndsSys, hc, hok, runSys_on _ _ g.on, grants_writes g, hx]

theorem named_ends (g : Grants q r s) {c : Instr} {ok : Bool} {w : Word} (hc : Machine.exec c s = runSys ok (writeNamed q r w) s)
    (hok : ok = true) {f : Dev → Dev} (hf : writeReg q (regOffset r) r w s.sys = onDev f s.sys) {d : Dev} (hd : f s.dev = d) :
    Ends c s d := by
  subst hd
  exact named_endsSys g hc hok hf

end GrantedWrites

/-! ### Refused accesses (R132, R590) -/

theorem accErr_write {b o k : Nat} {q : Requester} {d e : Dev} (hk : 2 ^ 28 + reqNo q * 2 ^ 26 + o % 2 ^ 26 = k)
    (he : setReg .glbAccerrAddr (BitVec.ofNat 32 k) (setRb .glbAccerr b true d) = e) :
    accErr b q true o d = if d.err.accSeen.testBit b then satCtr .errAccCnt 31 0 1 e
      else raiseErr 0 0x0001 0 0x0001 b (o % 65536) { e with err := { d.err with accSeen := nputBit d.err.accSeen b true } } := by
  have herr : e.err = d.err := by subst he; rfl
  rw [accErr, Bool.toNat_true, Nat.one_mul, hk, he]
  dsimp only
  rw [herr]

theorem hostWrite_refused {q : Requester} {t : RegTarget} {size : Nat} {lo hi : Word} {s : Sys} {e : Nat × Word}
    (hpath : pathUp s.dev q = true) (hsize : size ≠ 8) (h : refusalOf s.dev q t size true true = some e) :
    hostWrite q t size lo hi s = onDev (accErr e.1 q true (targetOff t)) s := by
  rw [hostWrite, hpath, if_neg (by decide), if_neg fun h8 => hsize h8.1, writeOne, h]

theorem registerWrite_refused {q : Requester} {t : RegTarget} {size : Nat} {lo hi : Word} {s : State} {b o k : Nat} {v : Word} {d : Dev}
    (on : On s) (hpath : pathUp s.dev q = true) (hsize : size ≠ 8) (h : refusalOf s.dev q t size true true = some (b, v))
    (ho : targetOff t = o) (hk : 2 ^ 28 + reqNo q * 2 ^ 26 + o % 2 ^ 26 = k)
    (hd : setReg .glbAccerrAddr (BitVec.ofNat 32 k) (setRb .glbAccerr b true s.dev) = d) :
    Ends (.registerWrite q t size lo hi) s (if s.dev.err.accSeen.testBit b then satCtr .errAccCnt 31 0 1 d
      else raiseErr 0 0x0001 0 0x0001 b (o % 65536) { d with err := { s.dev.err with accSeen := nputBit s.dev.err.accSeen b true } }) := by
  rw [Ends, exec_registerWrite, runSys_on _ _ on, hostWrite_refused (s := s.sys) hpath hsize h, ← accErr_write hk hd, ho]
  rfl

/-- Settles O21. -/
theorem registersHoldWhatIsWritten : Obligations.RegistersHoldWhatIsWritten := by
  refine ⟨⟨fun r x w d => reg_setReg r x w d, fun r old w i hi => getLsbD_typedValue r old w hi⟩, ?_⟩
  intro q t size lo hi s b v on hpath hsize hrefused o d
  have ends := registerWrite_refused (lo := lo) (hi := hi) (o := o) (d := d) on hpath hsize hrefused (by cases t <;> rfl) rfl rfl
  refine ⟨fun hseen => ?_, fun hseen => ?_⟩
  · rwa [if_pos hseen] at ends
  · rwa [if_neg (ne_true_of_eq_false hseen)] at ends

end Sys2Proof.Proofs
end

section
/-! SUPPORT. Registers with effects of their own: doorbells, resets, and the host's power, test and counter registers. -/

namespace Sys2Proof.Proofs

open Sys2Proof.Machine Sys2Proof.Laws Sys2Proof.Spec

/-! ### Doorbells and channel resets (R154, R156) -/

theorem rf_lt (d : Dev) (r : Reg) (hi lo : Nat) : rf d r hi lo < 2 ^ (hi + 1 - lo) := bits_lt _ _ _

theorem subMod_of_lt {m a b : Nat} (ha : a < m) (hb : b < m) : subMod m a b = (a + m - b) % m := by
  rw [subMod, Nat.mod_eq_of_lt ha, Nat.mod_eq_of_lt hb, Nat.add_sub_assoc (Nat.le_of_lt hb)]

theorem doorbell_eq {c tail lead : Nat} {d : Dev} (ht : tail < 128) (hlead : (tail + 128 - rf d (.mbxReqHead c) 6 0) % 128 = lead) :
    doorbell c tail d = if 64 < lead then setRb (.mbxStat c) 4 true d
      else if lead < reqUsed d c then setRb (.mbxStat c) 3 true d else setRf (.mbxDb c) 6 0 tail d := by
  have hmod : tail % 128 = tail := Nat.mod_eq_of_lt ht
  rw [doorbell, hmod, subMod_of_lt ht (rf_lt d (.mbxReqHead c) 6 0), hlead]

/-- The only writable bit of MBX_CTL is OWNER. -/
theorem typedWrite_mbxCtl (c : Nat) (w : Word) (d : Dev) : typedWrite (.mbxCtl c) w d = setRb (.mbxCtl c) 1 (bit w 1) d := by
  have hload : (regMask (.mbxCtl c) fun t => t == .rw || t == .ctr) = mask 1 1 := by
    show (regMask (.mbxCtl 0) fun t => t == .rw || t == .ctr) = mask 1 1
    decide
  have hclr : (regMask (.mbxCtl c) fun t => t == .w1c) = 0 := by
    show (regMask (.mbxCtl 0) fun t => t == .w1c) = 0
    decide
  rw [typedWrite, typedValue_bit (by decide) hload hclr, setRb]

theorem writeMbxCtl_reset {c o key : Nat} {q : Requester} {spi : Bool} {d : Dev} (hkey : key < 65536) :
    writeMbxCtl c q o (keyWord key (spi.toNat * 2 + 1)) d = if key = 0xA55A then channelReset c (setRb (.mbxCtl c) 1 spi d)
      else accErr accKey q true o (setRb (.mbxCtl c) 1 spi d) := by
  have hlow : spi.toNat * 2 + 1 < 65536 := by cases spi <;> decide
  have howner : bit (keyWord key (spi.toNat * 2 + 1)) 1 = spi := by
    rw [bit_keyWord key hlow (by decide)]
    cases spi <;> decide
  have hreset : bit (keyWord key (spi.toNat * 2 + 1)) 0 = true := by
    rw [bit_keyWord key hlow (by decide)]
    cases spi <;> decide
  rw [writeMbxCtl, typedWrite_mbxCtl, howner, hreset, keyed_keyWord hkey hlow]
  simp only [Bool.not_true, Bool.false_eq_true, if_false, beq_iff_eq]

/-! ### GLB_RST_CMD and GLB_CPU_RESTART (R103, R106, R143) -/

theorem writeRstCmd_badKey {q : Requester} {o key low : Nat} {s : Sys} (hkey : key < 65536) (hlow : low < 65536) (hne : key ≠ 0xA55A) :
    writeRstCmd q o (keyWord key low) s = onDev (accErr accKey q true o) s := by
  rw [writeRstCmd, keyed_ne hkey hne hlow, Bool.not_false, if_pos rfl]

theorem writeRstCmd_warm {q : Requester} {o : Nat} {s : Sys} (h : warmWaits s.dev = false) :
    writeRstCmd q o (keyWord 0xA55A 1) s = rstWarm s := by
  rw [writeRstCmd, keyed_key (by decide), bit_keyWord _ (by decide) (by decide), bit_keyWord _ (by decide) (by decide), h]
  rfl

theorem writeRstCmd_powerCycle {q : Requester} {o : Nat} {warm : Bool} {s : Sys} :
    writeRstCmd q o (keyWord 0xA55A (2 + warm.toNat)) s = onDev askPowerCycle s := by
  have hlow : 2 + warm.toNat < 65536 := by cases warm <;> decide
  have hbit : (2 + warm.toNat).testBit 1 = true := by cases warm <;> decide
  rw [writeRstCmd, keyed_key hlow, bit_keyWord _ hlow (by decide), hbit]
  rfl

theorem writeCpuRestart_badKey {q : Requester} {o key low : Nat} {s : Sys} (hkey : key < 65536) (hlow : low < 65536)
    (hne : key ≠ 0xA55A) : writeCpuRestart q o (keyWord key low) s = onDev (accErr accKey q true o) s := by
  rw [writeCpuRestart, keyed_ne hkey hne hlow, Bool.not_false, if_pos rfl]

theorem writeCpuRestart_go {q : Requester} {o : Nat} {s : Sys} (h : s.dev.boot.cpuRestart = none) :
    writeCpuRestart q o (keyWord 0xA55A 1) s = restartCpu 6 s := by
  rw [writeCpuRestart, keyed_key (by decide), bit_keyWord _ (by decide) (by decide), h]
  rfl

theorem rstWarm_alone {s : Sys} (h : ¬ (inStep s.dev = true ∧ s.dev.mate.active = true)) : rstWarm s = askWarm (some 3) s := by
  rw [rstWarm, if_neg (by simpa using h)]

theorem startSwitch_starts {cause : Nat} {d : Dev} (hstep : inStep d = true) (hactive : d.mate.active = true)
    (hnone : d.mate.handover = none) :
    startSwitch cause d = sendControl 1 0 0 0 (modMate (fun m => { m with handover := some (cause, 1) }) d) := by
  rw [startSwitch, hstep, hactive, hnone]
  rfl

theorem rstWarm_hands {s : Sys} (hstep : inStep s.dev = true) (hactive : s.dev.mate.active = true) (hnone : s.dev.mate.handover = none) :
    rstWarm s = onDev (fun d => modMate (fun m => { m with thenReset := some 3 })
      (sendControl 1 0 0 0 (modMate (fun m => { m with handover := some (7, 1) }) d))) s := by
  rw [rstWarm, hstep, hactive]
  simp only [Bool.and_self, if_true, onDev, startSwitch_starts hstep hactive hnone]

theorem restartCpu_runs {cause : Nat} {s : Sys} (hready : domReady s.dev 1 = true) (hpor : s.dev.pin.porN = true) :
    restartCpu cause s = { dev := cpuRestart cause s.dev, mem := clearRange s.mem bulkBase bulkSize } := by
  rw [restartCpu, hready, hpor]
  rfl

theorem porN_of_on {s : State} (on : On s) : s.dev.pin.porN = true := by
  simp only [On, powered, Bool.and_eq_true] at on
  exact on.1

/-- Settles O22. -/
theorem doorbellsResetsAndTheirKeys : Obligations.DoorbellsResetsAndTheirKeys := by
  constructor
  · intro q c s hc d
    have hch : isChannel c = true := decide_eq_true hc
    refine ⟨?doorbell, ?reset⟩
    case doorbell =>
      intro tail g ht lead
      have ends := named_ends g (exec_mbxDoorbell q c tail s) (by rw [hch, decide_eq_true ht]; rfl) (f := doorbell c (bits (BitVec.ofNat 32 tail) 6 0))
        rfl rfl
      rw [bits_ofNat (by omega) (by decide), doorbell_eq (lead := lead) ht rfl] at ends
      refine ⟨fun h => ?_, fun h h' => ?_, fun h h' => ?_⟩
      · rwa [if_pos h] at ends
      · rwa [if_neg (Nat.not_lt.mpr h), if_pos h'] at ends
      · rwa [if_neg (Nat.not_lt.mpr h), if_neg (Nat.not_lt.mpr h')] at ends
    case reset =>
      intro key spi g hkey
      have ends := named_ends g (exec_mbxChannelReset q c key spi s) (by rw [hch, isHalf, decide_eq_true hkey]; rfl)
        (f := writeMbxCtl c q (regOffset (.mbxCtl c)) (keyWord key (spi.toNat * 2 + 1))) rfl rfl
      rw [writeMbxCtl_reset hkey] at ends
      refine ⟨fun h => ?_, fun h => ?_⟩
      · rwa [if_pos h] at ends
      · rwa [if_neg h] at ends
  · intro q s key hkey
    have hhalf : isHalf key = true := decide_eq_true hkey
    refine ⟨?warm, ?cycle, ?restart, ?badReset, ?badRestart⟩
    case warm =>
      rintro g rfl hwait
      have ends := named_endsSys g (exec_glbRstWarm q 0xA55A s) hhalf (writeRstCmd_warm (s := s.sys) hwait)
      refine ⟨fun h => ?_, fun hstep hactive hnone => ?_⟩
      · rwa [rstWarm_alone (s := s.sys) h] at ends
      · rw [rstWarm_hands (s := s.sys) hstep hactive hnone] at ends
        exact ends
    case cycle =>
      rintro warm g rfl
      exact named_endsSys g (exec_glbRstPwrCycle q 0xA55A warm s) hhalf writeRstCmd_powerCycle
    case restart =>
      rintro g rfl hnone hready
      have ends := named_endsSys g (exec_glbCpuRestartGo q 0xA55A s) hhalf (writeCpuRestart_go (s := s.sys) hnone)
      rwa [restartCpu_runs (s := s.sys) hready (porN_of_on g.on)] at ends
    case badReset =>
      intro g hne
      refine ⟨named_endsSys g (exec_glbRstWarm q key s) hhalf (writeRstCmd_badKey hkey (by decide) hne), fun warm => ?_⟩
      exact named_endsSys g (exec_glbRstPwrCycle q key warm s) hhalf (writeRstCmd_badKey hkey (by cases warm <;> decide) hne)
    case badRestart =>
      intro g hne
      exact named_endsSys g (exec_glbCpuRestartGo q key s) hhalf (writeCpuRestart_badKey hkey (by decide) hne)

end Sys2Proof.Proofs
end

section
/-! SUPPORT. The host's power, test, event, counter and JTAG registers. -/

namespace Sys2Proof.Proofs

open Sys2Proof.Machine Sys2Proof.Laws Sys2Proof.Spec

/-! ### Power (R67, R79, R80, R144) -/

theorem writeCap_eq {v : Nat} {d e : Dev} (he : setRf .pwrCap 15 0 v d = e) :
    writeCap v d = reevaluate (if v < load e then evtPwr 0x0103 0 (be 2 v ++ be 2 (load e)) e else e) := by
  subst he
  simp only [writeCap, gate, decide_eq_true_eq]

theorem writePwrCap_takes {q : Requester} {o : Nat} {w : Word} {d : Dev} (h : 2000 ≤ bits w 15 0) :
    writePwrCap q o w d = writeCap (bits w 15 0) d := by
  have hlt : bits w 15 0 < 65536 := bits_lt w 15 0
  have hclamp : clampTo 2000 65535 (bits w 15 0) = (bits w 15 0, false) := by
    rw [clampTo, if_neg (Nat.not_lt.mpr h), if_neg (by omega)]
  rw [writePwrCap, hclamp, rangeErr, gate_false]

theorem writePwrCap_clamps {q : Requester} {o : Nat} {w : Word} {d : Dev} (h : bits w 15 0 < 2000) :
    writePwrCap q o w d = accErr accRange q true o (writeCap 2000 d) := by
  have hclamp : clampTo 2000 65535 (bits w 15 0) = (2000, true) := by rw [clampTo, if_pos h]
  rw [writePwrCap, hclamp, rangeErr, gate_true]

/-- The domains that the host can hold (R144). -/
def holdable (n : Nat) : Bool := decide (n < 24) && (n == 2 || n == 3 || n == 5 || decide (18 ≤ n))

/-- A write of one implemented bit names its domain alone. -/
theorem heldOf_twoPow {n : Nat} (h : holdable n = true) :
    ((List.range 24).filter fun k => (Nat.land (bits (BitVec.twoPow 32 n) 23 0) holdMask).testBit k) = [n] := by
  have small : n < 24 := by
    rw [holdable, Bool.and_eq_true, decide_eq_true_eq] at h
    exact h.1
  have all : ∀ n < 24, holdable n = true →
      ((List.range 24).filter fun k => (Nat.land (bits (BitVec.twoPow 32 n) 23 0) holdMask).testBit k) = [n] := by decide
  exact all n small h

theorem holdable_of {n : Nat} (hn : n < 24) (h : n = 2 ∨ n = 3 ∨ n = 5 ∨ 18 ≤ n) : holdable n = true := by
  simpa [holdable, hn, or_assoc] using h

theorem hostHold_one {n : Nat} (h : holdable n = true) (d : Dev) :
    hostHold (bits (BitVec.twoPow 32 n) 23 0) d = requestWake 3 n (setRb .pwrHostHold n true d) := by
  rw [hostHold, heldOf_twoPow h, each_cons, each_nil]

theorem hostDrop_one {n : Nat} (h : holdable n = true) (d : Dev) :
    hostDrop (bits (BitVec.twoPow 32 n) 23 0) d = markLeaving (setRb .pwrHostHold n false d) := by
  rw [hostDrop, heldOf_twoPow h, each_cons, each_nil]

theorem each_gate_one {k : Nat} {w : Word} (f : Nat → Dev → Dev) (d : Dev) (hk : k < 4) (hw : w = BitVec.twoPow 32 k) :
    each [0, 1, 2, 3] (fun k d => gate (bit w k) (f k) d) d = f k d := by
  have hbit (j : Nat) (hj : j < 4) : bit w j = (k == j) := by
    rw [hw, bit, BitVec.getLsbD_twoPow, decide_eq_true (show k < 32 by omega), Bool.true_and]
    rfl
  simp only [each_cons, each_nil, hbit 0 (by decide), hbit 1 (by decide), hbit 2 (by decide), hbit 3 (by decide)]
  have cases4 : k = 0 ∨ k = 1 ∨ k = 2 ∨ k = 3 := by omega
  rcases cases4 with rfl | rfl | rfl | rfl <;> rfl

theorem railClr_overvoltage {k : Nat} {d : Dev} (hk : k < 4) (hov : d.pwr.ovOff.testBit k = true) :
    railClr k d = setRail k true { d with pwr := { d.pwr with ovOff := nputBit d.pwr.ovOff k false } } := if_pos ⟨hk, hov⟩

theorem writeDomStat_clears {n cnt : Nat} {d : Dev} (hcnt : cnt < 256) :
    writeDomStat n (BitVec.ofNat 32 (cnt * 256 + 16)) d = clearFault n (setRf (.pwrDomStat n) 15 8 cnt d) := by
  have hfault : bit (BitVec.ofNat 32 (cnt * 256 + 16)) 4 = true := by
    rw [bit, BitVec.getLsbD_ofNat, Nat.testBit_eq_decide_div_mod_eq]
    simp only [Nat.reduceLT, decide_true, Bool.true_and, decide_eq_true_eq]
    omega
  have hload : bits (BitVec.ofNat 32 (cnt * 256 + 16)) 15 8 = cnt := by
    rw [bits, BitVec.toNat_ofNat, Nat.shiftRight_eq_div_pow]
    omega
  rw [writeDomStat, hfault, hload, gate_true]

/-! ### Test records, events, counters, JTAG (R146, R173, R178, R525, R562) -/

theorem bits_keyWord {key low hi : Nat} (hlow : low < 65536) (hhi : hi < 16) : bits (keyWord key low) hi 0 = low % 2 ^ (hi + 1) := by
  refine Nat.eq_of_testBit_eq fun i => ?_
  rw [testBit_bits, Nat.testBit_mod_two_pow, Nat.zero_add, Nat.sub_zero]
  by_cases hi' : i < hi + 1
  · rw [← bit, bit_keyWord key hlow (by omega)]
  · simp [hi']

theorem writeErrInj_go {q : Requester} {o key sev : Nat} {d : Dev} (hkey : key < 65536) (hsev : sev < 8) :
    writeErrInj q o (keyWord key (256 + sev)) d = if key ≠ 0xA55A then accErr accKey q true o d
      else if 4 ≤ sev then accErr accRange q true o d else raiseErr sev 0x0008 0 0x0002 sev 0 d := by
  have hlow : 256 + sev < 65536 := by omega
  have hgo : bit (keyWord key (256 + sev)) 8 = true := by
    rw [bit_keyWord key hlow (by decide), Nat.testBit_eq_decide_div_mod_eq]
    exact decide_eq_true (by omega)
  have hval : bits (keyWord key (256 + sev)) 2 0 = sev := by
    rw [bits_keyWord hlow (by decide)]
    omega
  rw [writeErrInj, hgo, keyed_keyWord hkey hlow, hval]
  simp only [Bool.true_and, gate_true, Bool.not_eq_true', beq_eq_false_iff_ne]

theorem typedWrite_evtCtl (w : Word) (d : Dev) : typedWrite .evtCtl w d = setRb .evtCtl 0 (bit w 0) d := by
  rw [typedWrite, typedValue_bit (i := 0) (by decide) (by decide) (by decide), setRb]

theorem writeEvtCtl_enable (d : Dev) : writeEvtCtl 1 d = setRb .evtCtl 0 true (if rb d .evtCtl 0 then d
    else { d with evt := { d.evt with pass := rf d .evtProd 16 0 / evtEntries d % 2 } }) := by
  have henable : bit (1 : Word) 0 = true := by decide
  have hreset : bit (1 : Word) 1 = false := by decide
  rw [writeEvtCtl, typedWrite_evtCtl, henable, hreset]
  cases h : rb d .evtCtl 0 <;> rfl

/-- What EVT_CTL.RESET leaves of a device on which ENABLE was written first. -/
def evtReset (d : Dev) : Dev := setRf .evtProd 16 0 0 (setRf .evtCons 16 0 0 (setRb .evtCtl 0 false d))

theorem gate_pass (c e : Bool) (p : Nat) (d : Dev) :
    gate c (fun d => { d with evt := { d.evt with pass := p } }) (setRb .evtCtl 0 e d)
      = setRb .evtCtl 0 e { d with evt := { d.evt with pass := if c then p else d.evt.pass } } := by
  cases c <;> rfl

theorem writeEvtCtl_reset (e : Bool) (d : Dev) :
    ∃ v, writeEvtCtl (BitVec.ofNat 32 (2 + e.toNat)) d = evtReset (setRb .evtCtl 0 e { d with evt := { d.evt with pass := v } }) := by
  have henable : bit (BitVec.ofNat 32 (2 + e.toNat)) 0 = e := by cases e <;> decide
  have hreset : bit (BitVec.ofNat 32 (2 + e.toNat)) 1 = true := by cases e <;> decide
  rw [writeEvtCtl, typedWrite_evtCtl, henable, hreset, gate_true, gate_pass]
  exact ⟨_, rfl⟩

theorem evtReset_regs {r : Reg} (hctl : r ≠ .evtCtl) (hprod : r ≠ .evtProd) (hcons : r ≠ .evtCons) (d : Dev) :
    reg (evtReset d) r = reg d r := by
  rw [evtReset, reg_setRf, if_neg hprod, reg_setRf, if_neg hcons, reg_setRb, if_neg hctl]

theorem evtReset_enable (d : Dev) : rb (evtReset d) .evtCtl 0 = false := by
  rw [rb, evtReset, reg_setRf, if_neg Reg.noConfusion, reg_setRf, if_neg Reg.noConfusion, reg_setRb, if_pos rfl]
  exact bit_putBit_same _ 0 false (by decide)

theorem evtReset_prod (d : Dev) : rf (evtReset d) .evtProd 16 0 = 0 := by
  rw [rf, evtReset, reg_setRf, if_pos rfl, bits_putBits_same (by decide) (by decide), Nat.zero_mod]

theorem evtReset_cons (d : Dev) : rf (evtReset d) .evtCons 16 0 = 0 := by
  rw [rf, evtReset, reg_setRf, if_neg Reg.noConfusion, reg_setRf, if_pos rfl, bits_putBits_same (by decide) (by decide), Nat.zero_mod]

theorem writePctrClr_go {q : Requester} {o banks : Nat} {d : Dev} (hb : banks < 128) :
    writePctrClr q o (keyWord 0xA55A (256 + banks)) d = gate (!d.pctr.clrGo) (pctrClrGo banks) d := by
  have hlow : 256 + banks < 65536 := by omega
  have hgo : bit (keyWord 0xA55A (256 + banks)) 8 = true := by
    rw [bit_keyWord _ hlow (by decide), Nat.testBit_eq_decide_div_mod_eq]
    exact decide_eq_true (by omega)
  have hval : bits (keyWord 0xA55A (256 + banks)) 6 0 = banks := by
    rw [bits_keyWord hlow (by decide)]
    omega
  rw [writePctrClr, keyed_key hlow, hgo, hval]
  rfl

theorem pctrClrGo_first {banks : Nat} {d : Dev} (hb : banks < 128) (hclr : d.pctr.clr = 0) (hready : domReady d 4 = true) :
    pctrClrGo banks d = { d with pctr := { d.pctr with clr := banks, clrGo := true } } := by
  rw [pctrClrGo, hready, hclr, Nat.zero_or, Nat.mod_eq_of_lt hb]
  rfl

theorem writeJtagCtl_relock {d : Dev} (hopen : d.nvm.jtagLeft.isSome = true) (hdebug : d.nvm.jtagDebug = false) :
    writeJtagCtl 1 d = evtNvm 0x0C08 0 (be 1 0 ++ be 1 0) (setRb .glbStat 3 false
      (modNvm (fun m => { m with jtagLeft := none, jtagDebug := false, jtagBscan := false }) d)) := by
  have hgo : bit (1 : Word) 0 = true := by decide
  have hnone : d.nvm.jtagLeft.isNone = false := by simpa using hopen
  rw [writeJtagCtl, hgo, gate_true, jtagLock, hnone, hdebug]
  rfl

/-- Settles O23. -/
theorem hostPowerTestAndCounterWrites : Obligations.HostPowerTestAndCounterWrites := by
  constructor
  · intro q w s d
    refine ⟨?takes, ?clamps, ?holds, ?drops, ?rail, ?fault⟩
    case takes =>
      intro g h e
      have ends := named_ends g (exec_pwrCapWrite q w s) rfl (f := writePwrCap q (regOffset .pwrCap) w) rfl (writePwrCap_takes h)
      rwa [writeCap_eq (e := e) rfl] at ends
    case clamps => exact fun g h => named_ends g (exec_pwrCapWrite q w s) rfl rfl (writePwrCap_clamps h)
    case holds =>
      rintro n g hn hmask rfl
      exact named_ends g (exec_pwrHostHold q _ s) rfl (f := hostHold (bits (BitVec.twoPow 32 n) 23 0)) rfl (hostHold_one (holdable_of hn hmask) d)
    case drops =>
      rintro n g hn hmask rfl
      exact named_ends g (exec_pwrHostDrop q _ s) rfl (f := hostDrop (bits (BitVec.twoPow 32 n) 23 0)) rfl (hostDrop_one (holdable_of hn hmask) d)
    case rail =>
      intro k g hk hw hov
      exact named_ends g (exec_pwrRailClr q w s) rfl (f := each [0, 1, 2, 3] fun k d => gate (bit w k) (railClr k) d) rfl
        ((each_gate_one railClr d hk hw).trans (railClr_overvoltage hk hov))
    case fault =>
      intro n cnt g hn hcnt
      exact named_ends g (exec_domainFaultClear q n cnt s) (by rw [isDom, isByte, decide_eq_true hn, decide_eq_true hcnt]; rfl)
        (f := writeDomStat n (BitVec.ofNat 32 (cnt * 256 + 16))) rfl (writeDomStat_clears hcnt)
  · intro q s d
    refine ⟨?inject, ?badKey, ?reset, ?enable, ?clear, ?pending, ?relock⟩
    case inject =>
      rintro key sev g rfl hsev
      have ends := named_ends g (exec_errInjGo q 0xA55A sev s) (by rw [decide_eq_true (show sev < 8 by omega)]; rfl)
        (f := writeErrInj q (regOffset .errInj) (keyWord 0xA55A (256 + sev))) rfl (writeErrInj_go (by decide) (by omega))
      rwa [if_neg (by decide), if_neg (Nat.not_le.mpr hsev)] at ends
    case badKey =>
      intro key sev g hkey hne hsev
      have ends := named_ends g (exec_errInjGo q key sev s) (by rw [isHalf, decide_eq_true hkey, decide_eq_true hsev]; rfl)
        (f := writeErrInj q (regOffset .errInj) (keyWord key (256 + sev))) rfl (writeErrInj_go hkey hsev)
      rwa [if_pos hne] at ends
    case reset =>
      intro e g
      obtain ⟨v, hv⟩ := writeEvtCtl_reset e s.dev
      refine ⟨_, named_ends g (exec_evtCtlReset q e s) rfl (f := writeEvtCtl (BitVec.ofNat 32 (2 + e.toNat))) rfl hv, evtReset_enable _,
        evtReset_prod _, evtReset_cons _, rfl, fun r hctl hprod hcons => ?_⟩
      rw [evtReset_regs hctl hprod hcons, reg_setRb, if_neg hctl]
      rfl
    case enable => exact fun g => named_ends g (exec_evtEnable q s) rfl (f := writeEvtCtl 1) rfl (writeEvtCtl_enable d)
    case clear =>
      rintro key banks g rfl hb hclr hgo hready
      refine named_ends g (exec_pctrClrGo q 0xA55A banks s) (by rw [decide_eq_true hb]; rfl)
        (f := writePctrClr q (regOffset .pctrClr) (keyWord 0xA55A (256 + banks))) rfl ?_
      rw [writePctrClr_go hb, show s.dev.pctr.clrGo = false from hgo, Bool.not_false, gate_true, pctrClrGo_first hb hclr hready]
    case pending =>
      rintro key banks g rfl hb hgo
      refine named_ends g (exec_pctrClrGo q 0xA55A banks s) (by rw [decide_eq_true hb]; rfl)
        (f := writePctrClr q (regOffset .pctrClr) (keyWord 0xA55A (256 + banks))) rfl ?_
      rw [writePctrClr_go hb, show s.dev.pctr.clrGo = true from hgo, Bool.not_true, gate_false]
    case relock =>
      exact fun g hopen hdebug => named_ends g (exec_nvmJtagRelock q s) rfl (f := writeJtagCtl 1) rfl (writeJtagCtl_relock hopen hdebug)

end Sys2Proof.Proofs
end

section
/-! SUPPORT. Wide values, watermark and phase registers, and interrupt vectors. -/

namespace Sys2Proof.Proofs

open Sys2Proof.Machine Sys2Proof.Laws Sys2Proof.Spec

/-! ### Wide values (R133 to R136) -/

theorem wideCommand_recapture (q : Requester) (d : Dev) : wideCommand q 2 d = wideRecapture q d := by
  have hwrite : bit (2 : Word) 0 = false := by decide
  have hagain : bit (2 : Word) 1 = true := by decide
  rw [wideCommand, hwrite, hagain]
  rfl

theorem wideCommand_write (q : Requester) (again : Bool) (d : Dev) :
    wideCommand q (BitVec.ofNat 32 (1 + again.toNat * 2)) d = wideWrite q again d := by
  have hwrite : bit (BitVec.ofNat 32 (1 + again.toNat * 2)) 0 = true := by cases again <;> decide
  have hagain : bit (BitVec.ofNat 32 (1 + again.toNat * 2)) 1 = again := by cases again <;> decide
  rw [wideCommand, hwrite, hagain, if_pos rfl]

/-- What refuses a WRITE (R135, R524). -/
def wideRefused (q : Requester) (b : WideBank) : Prop :=
  b.busy = true ∨ (q ≠ .pf0 ∧ q ≠ .spi) ∨ wideSpace b ≠ 3 ∨ (ctrBank (wideIndex b)).isNone = true

theorem wideRefused_iff (q : Requester) (b : WideBank) :
    wideRefused q b ↔ (b.busy || !(q == .pf0 || q == .spi) || wideSpace b != 3 || (ctrBank (wideIndex b)).isNone) = true := by
  simp [wideRefused, or_assoc]

theorem wideWrite_refused {q : Requester} {again : Bool} {d : Dev} (h : wideRefused q (bankOf d q)) :
    wideWrite q again d = modBank q (fun b => { b with errc := 4 }) d := if_pos ((wideRefused_iff q _).mp h)

theorem wideWrite_takes {q : Requester} {again : Bool} {d : Dev} {v : Nat} (h : ¬ wideRefused q (bankOf d q))
    (hv : (((bankOf d q).wdata.getD 0 0).toNat + ((bankOf d q).wdata.getD 1 0).toNat * 2 ^ 32) % 2 ^ 48 = v) :
    wideWrite q again d = modBank q (fun b => { b with busy := true, cmd := Nat.lor b.cmd (if again then 3 else 1) })
      (gate (domReady d 4) (fun d => { d with pctr := { d.pctr with ctr := tset d.pctr.ctr (wideIndex (bankOf d q)) { v := v } } }) d) := by
  subst hv
  exact if_neg (mt (wideRefused_iff q _).mpr h)

theorem wideWritable {q : Requester} {b : WideBank} (hbusy : b.busy = false) (hq : q = .pf0 ∨ q = .spi) (hspace : wideSpace b = 3)
    (hindex : (ctrBank (wideIndex b)).isSome = true) : ¬ wideRefused q b := by
  rintro (h | ⟨h0, h1⟩ | h | h)
  · exact Bool.false_ne_true (hbusy.symm.trans h)
  · exact hq.elim h0 h1
  · exact h hspace
  · rw [Option.isNone_iff_eq_none.mp h] at hindex
    exact Bool.false_ne_true hindex

/-- A capture that has run leaves its words and its code, under the ticket of its selection. -/
def captured (q : Requester) (errc : Nat) (w : List Word) (d : Dev) : Dev := modBank q (fun b =>
  { b with busy := false, cmd := 0, valid := true, ticket := b.writes, errc := errc, data := w }) d

section WideDone

variable {q : Requester} {d : Dev}

theorem wideDone_idle (h : (bankOf d q).busy = false) : wideDone q d = d := by
  rw [wideDone, h]
  rfl

theorem wideDone_data {w : List Word} (h : (bankOf d q).busy = true)
    (hv : wideValue d q (wideSpace (bankOf d q)) (wideIndex (bankOf d q)) = .data w) : wideDone q d = captured q 0 w d := by
  simp only [wideDone, h, hv, Bool.not_true, Bool.false_eq_true, if_false]
  rfl

theorem wideDone_noRecord (h : (bankOf d q).busy = true)
    (hv : wideValue d q (wideSpace (bankOf d q)) (wideIndex (bankOf d q)) = .noRecord) :
    wideDone q d = captured q 1 [0, 0, 0, 0] d := by
  simp only [wideDone, h, hv, Bool.not_true, Bool.false_eq_true, if_false]
  rfl

theorem wideDone_noValue (h : (bankOf d q).busy = true)
    (hv : wideValue d q (wideSpace (bankOf d q)) (wideIndex (bankOf d q)) = .noValue) :
    ∃ w : List Word, w.length = 4 ∧ wideDone q d = captured q 1 w { d with time := { d.time with free := d.time.free + 2 } } := by
  refine ⟨[(Config.freeValue d.time.free).setWidth 32, (Config.freeValue d.time.free >>> 32).setWidth 32,
    (Config.freeValue (d.time.free + 1)).setWidth 32, (Config.freeValue (d.time.free + 1) >>> 32).setWidth 32], rfl, ?_⟩
  simp only [wideDone, h, hv, Bool.not_true, Bool.false_eq_true, if_false]
  rfl

theorem wideDone_notReady (h : (bankOf d q).busy = true)
    (hv : wideValue d q (wideSpace (bankOf d q)) (wideIndex (bankOf d q)) = .notReady) :
    wideDone q d = captured q 2 (List.replicate 4 0xFFFFFFFF) d := by
  simp only [wideDone, h, hv, Bool.not_true, Bool.false_eq_true, if_false]
  rfl

theorem wideDone_denied (h : (bankOf d q).busy = true)
    (hv : wideValue d q (wideSpace (bankOf d q)) (wideIndex (bankOf d q)) = .denied) :
    wideDone q d = accErr accPriv q true 0x2000000 (captured q 3 [0, 0, 0, 0] d) := by
  simp only [wideDone, h, hv, Bool.not_true, Bool.false_eq_true, if_false]
  rfl

end WideDone

theorem done_ends {q : Requester} {s : State} {d : Dev} (on : On s) (h : wideDone q s.dev = d) : Ends (.wideCaptureDone q) s d := by
  rw [Ends, exec_wideCaptureDone, runDev_on _ _ on, h]

/-! ### SLn_QM_CLR and PMON_PHASE -/

theorem qmClear_ends {q : Requester} {s : State} {n sp i : Nat} {d : Dev} (g : Grants q (.qmClr n) s) (hn : n < 4) (hsp : sp < 4)
    (hi : i < 65536) (h : clearEntry n sp i s.dev = d) : Ends (.qmClear q n sp i) s d := by
  have hspace : bits (BitVec.ofNat 32 (sp * 2 ^ 30 + i)) 31 30 = sp := by
    rw [bits, BitVec.toNat_ofNat, Nat.shiftRight_eq_div_pow]
    omega
  have hindex : bits (BitVec.ofNat 32 (sp * 2 ^ 30 + i)) 15 0 = i := by
    rw [bits, BitVec.toNat_ofNat, Nat.shiftRight_zero]
    omega
  refine named_ends g (exec_qmClear q n sp i s) (by rw [isSlice, isHalf, decide_eq_true hn, decide_eq_true hsp, decide_eq_true hi]; rfl)
    (f := clearEntry n (bits (BitVec.ofNat 32 (sp * 2 ^ 30 + i)) 31 30) (bits (BitVec.ofNat 32 (sp * 2 ^ 30 + i)) 15 0)) rfl ?_
  rw [hspace, hindex, h]

/-- The phase that a write leaves, with RANGE where it was brought into range. -/
theorem writePhase_eq {q : Requester} {o v k : Nat} {bad : Bool} {w : Word} {d : Dev} (hv : bits w 26 0 = v)
    (hk : pmonPhase v = (k, bad)) :
    writePhase q o w d = gate bad (accErr accRange q true o) (modPm (fun m => { m with phaseDue := true }) (setRf .pmonPhase 26 0 k d)) := by
  rw [writePhase, hv, setPhase, hk, rangeErr]

theorem pmonPhase_of {v : Nat} (h : v < 2 ^ 27) :
    pmonPhase v = (min v 86399000 / 1000 * 1000, decide (v > 86399000) || min v 86399000 % 1000 != 0) := by
  rw [pmonPhase, Nat.mod_eq_of_lt h]

/-! ### Interrupt vectors (R118) -/

theorem msixOf_setMsix (fn1 : Bool) (m : Msix) (d : Dev) : msixOf (setMsix fn1 m d) fn1 = m := by cases fn1 <;> rfl
theorem setMsix_setMsix (fn1 : Bool) (m n : Msix) (d : Dev) : setMsix fn1 m (setMsix fn1 n d) = setMsix fn1 m d := by cases fn1 <;> rfl
theorem msixRuns_setMsix (fn1 : Bool) (m : Msix) (d : Dev) : msixRuns (setMsix fn1 m d) fn1 = msixRuns d fn1 := by cases fn1 <;> rfl
theorem rb_setMsix (fn1 : Bool) (m : Msix) (d : Dev) (r : Reg) (i : Nat) : rb (setMsix fn1 m d) r i = rb d r i := rfl

theorem unmasked {k : Nat} (m : BitVec 16) : (m &&& ~~~ BitVec.twoPow 16 k).getLsbD k = false := by
  rw [BitVec.getLsbD_and, BitVec.getLsbD_not, BitVec.getLsbD_twoPow]
  by_cases h : k < 16 <;> simp [h]

theorem msixUnmask_eq {fn1 : Bool} {k : Nat} {d : Dev} {m n : Msix} (hk : k < vectors fn1) (hm : msixOf d fn1 = m)
    (hn : { m with mask := m.mask &&& ~~~ BitVec.twoPow 16 k } = n) :
    msixUnmask fn1 k d = if m.pend.getLsbD k && msixRuns d fn1 then
        setMsix fn1 (if rb d .glbIntStat (vectorSrc fn1 k) then
          { n with pend := m.pend &&& ~~~ BitVec.twoPow 16 k, sent := tmod 0 m.sent k (· + 1) }
        else { n with pend := m.pend &&& ~~~ BitVec.twoPow 16 k }) d
      else setMsix fn1 n d := by
  subst hn hm
  simp only [msixUnmask, if_neg (Nat.not_le.mpr hk), sendPending, msixOf_setMsix, msixRuns_setMsix, unmasked, rb_setMsix,
    setMsix_setMsix]
  cases (msixOf d fn1).pend.getLsbD k <;> cases msixRuns d fn1 <;> rfl

theorem msixUnmask_ends {pf1 : Bool} {k : Nat} {s : State} {d : Dev} (on : On s) (hk : k < 16) (h : msixUnmask pf1 k s.dev = d) :
    Ends (.msixUnmask pf1 k) s d := by
  rw [Ends, exec_msixUnmask, decide_eq_true hk, runDev_on _ _ on, h]

/-- A command whose operands are out of range does nothing. -/
theorem runSys_false (f : Sys → Sys) (s : State) : runSys false f s = .next s := rfl

/-- Settles O24. -/
theorem wideQueuePhaseAndVectorControls : Obligations.WideQueuePhaseAndVectorControls := by
  constructor
  · intro q s d b
    refine ⟨?select, ?recapture, ?writes, ?writesOff, ?refused, ?idle, ?noRecord, ?noValue, ?denied, ?data, ?notReady, ?own⟩
    case select => exact fun w g => named_ends g (exec_wideSelWrite q w s) rfl (f := wideSelect q w) rfl rfl
    case recapture =>
      exact fun g => named_ends g (exec_wideRecapture q s) rfl (f := wideCommand q 2) rfl (wideCommand_recapture q d)
    case writes =>
      intro again g hbusy hq hspace hindex hready v
      refine named_ends g (exec_wideWrite q again s) rfl (f := wideCommand q (BitVec.ofNat 32 (1 + again.toNat * 2))) rfl ?_
      rw [wideCommand_write, wideWrite_takes (v := v) (wideWritable hbusy hq hspace hindex) rfl, hready, gate_true]
    case writesOff =>
      intro again g hbusy hq hspace hindex hready
      refine named_ends g (exec_wideWrite q again s) rfl (f := wideCommand q (BitVec.ofNat 32 (1 + again.toNat * 2))) rfl ?_
      rw [wideCommand_write, wideWrite_takes (wideWritable hbusy hq hspace hindex) rfl, hready, gate_false]
    case refused =>
      intro again g h
      refine named_ends g (exec_wideWrite q again s) rfl (f := wideCommand q (BitVec.ofNat 32 (1 + again.toNat * 2))) rfl ?_
      rw [wideCommand_write, wideWrite_refused h]
    case idle => exact fun on h => done_ends on (wideDone_idle h)
    case noRecord => exact fun on h hv => done_ends on (wideDone_noRecord h hv)
    case noValue =>
      intro on h hv
      obtain ⟨w, hlen, hw⟩ := wideDone_noValue h hv
      exact ⟨w, hlen, done_ends on hw⟩
    case denied => exact fun on h hv => done_ends on (wideDone_denied h hv)
    case data => exact fun w on h hv => done_ends on (wideDone_data h hv)
    case notReady => exact fun on h hv => done_ends on (wideDone_notReady h hv)
    case own =>
      intro k hk f
      show tfind (tset d.host.wide (reqNo q) _) k = _
      rw [tfind_tset, if_neg hk]
  · intro q s d
    refine ⟨?flow, ?watermark, ?phase, ?between, ?above, ?vector, ?beyond⟩
    case flow => exact fun n i g hn hi => qmClear_ends g hn (by decide) hi rfl
    case watermark =>
      intro n sp i g hn hlo hsp hi
      exact qmClear_ends g hn hsp hi (if_neg (by omega))
    case phase =>
      intro w g hle hsec
      have hk : pmonPhase (bits w 26 0) = (bits w 26 0, false) := by
        rw [pmonPhase_of (bits_lt w 26 0), Nat.min_eq_left hle, hsec, decide_eq_false (by omega)]
        rw [Nat.div_mul_cancel (Nat.dvd_of_mod_eq_zero hsec)]
        rfl
      exact named_ends g (exec_pmonPhaseWrite q w s) rfl (f := writePhase q (regOffset .pmonPhase) w) rfl (writePhase_eq rfl hk)
    case between =>
      intro w g hle hsec
      have hk : pmonPhase (bits w 26 0) = (bits w 26 0 / 1000 * 1000, true) := by
        rw [pmonPhase_of (bits_lt w 26 0), Nat.min_eq_left hle, bne_iff_ne.mpr hsec, Bool.or_true]
      exact named_ends g (exec_pmonPhaseWrite q w s) rfl (f := writePhase q (regOffset .pmonPhase) w) rfl (writePhase_eq rfl hk)
    case above =>
      intro w g hlt
      have hk : pmonPhase (bits w 26 0) = (86399000, true) := by
        rw [pmonPhase_of (bits_lt w 26 0), Nat.min_eq_right (Nat.le_of_lt hlt), decide_eq_true hlt]
        rfl
      exact named_ends g (exec_pmonPhaseWrite q w s) rfl (f := writePhase q (regOffset .pmonPhase) w) rfl (writePhase_eq rfl hk)
    case vector =>
      intro pf1 k on hk m mask pend
      have hvec : k < vectors pf1 := hk
      have h16 : k < 16 := by cases pf1 <;> simp at hk <;> omega
      have ends := msixUnmask_ends on h16 (msixUnmask_eq (d := s.dev) hvec rfl rfl)
      refine ⟨fun hpend hruns hsrc => ?_, fun hpend hruns hsrc => ?_, fun h => ?_⟩
      · rwa [hpend, hruns, Bool.and_self, if_pos rfl, hsrc, if_pos rfl] at ends
      · rwa [hpend, hruns, Bool.and_self, if_pos rfl, hsrc, if_neg Bool.false_ne_true] at ends
      · rwa [Bool.and_eq_false_iff.mpr h, if_neg Bool.false_ne_true] at ends
    case beyond =>
      intro k on hk
      by_cases h16 : k < 16
      · exact msixUnmask_ends on h16 (if_pos hk)
      · rw [Ends, exec_msixUnmask, decide_eq_false h16]
        rfl

end Sys2Proof.Proofs
end

section
/-! SUPPORT. The resets, and what each leaves. -/

namespace Sys2Proof.Proofs

open Sys2Proof.Machine Sys2Proof.Laws Sys2Proof.Spec

/-! ### What remains of memories, registers and tables -/

theorem rd_filter_above {m : Memory} {lo : Nat} (h : Memory.above lo m = true) (p : Nat → Bool) (a : Nat) :
    rd (m.filter fun c => p c.1) a = if p a then rd m a else 0 := by
  induction m generalizing lo with
  | nil => simp [rd]
  | cons c m ih =>
    obtain ⟨x, b⟩ := c
    simp only [Memory.above, Bool.and_eq_true, decide_eq_true_eq] at h
    obtain ⟨-, hm⟩ := h
    rw [List.filter_cons]
    have tail : a ≤ x → rd (m.filter fun c => p c.1) a = 0 := fun hax => rd_below (above_filter hm _) (by omega)
    by_cases hx : p x = true
    · rw [if_pos hx, rd, rd]
      by_cases hxa : x = a
      · subst hxa; rw [if_pos rfl, if_pos hx, if_pos rfl]
      · rw [if_neg hxa, if_neg hxa, ih hm]
        split <;> simp
    · rw [if_neg hx, rd]
      by_cases hxa : x = a
      · subst hxa; rw [tail le_rfl, if_neg hx]
      · rw [if_neg hxa]
        by_cases hax : a < x
        · rw [if_pos hax, tail hax.le, ite_self]
        · rw [if_neg hax]; exact ih hm

/-- What is left of a memory of which cells are dropped by address. -/
theorem rd_filter {m : Memory} (h : Memory.wf m = true) (p : Nat → Bool) (a : Nat) :
    rd (m.filter fun c => p c.1) a = if p a then rd m a else 0 := rd_filter_above h p a

theorem lookupReg_filter (ib : Bool) (l : List (Reg × Word)) (keep : Reg → Bool) (r : Reg) :
    lookupReg ib (l.filter fun e => keep e.1) r = if keep r then lookupReg ib l r else regReset ib r := by
  induction l with
  | nil => simp [lookupReg]
  | cons e l ih =>
    obtain ⟨q, w⟩ := e
    rw [List.filter_cons, lookupReg]
    by_cases hq : q = r
    · subst hq
      by_cases hk : keep q = true
      · simp [hk, lookupReg]
      · rw [if_neg hk, ih]; simp [hk]
    · rw [if_neg hq]
      split
      · rw [lookupReg, if_neg hq]; exact ih
      · exact ih

theorem tfind_tmap {α β : Type} (t : Tbl α) (f : Nat → α → β) (k : Nat) : tfind (tmap t f) k = (tfind t k).map (f k) := by
  induction t with
  | nil => rfl
  | cons e t ih =>
    obtain ⟨j, v⟩ := e
    change (if j = k then some (f j v) else if k < j then none else tfind (tmap t f) k) = _
    rw [ih, tfind]
    by_cases hj : j = k
    · subst hj; simp
    · rw [if_neg hj, if_neg hj]
      split <;> rfl

/-! ### Cold reset (R86, R99, R100, R106) -/

theorem coldReset_eq (s : Sys) :
    coldReset s = { dev := coldDev s.dev { s.dev.pin with porN := false, pseqEn := 0 }, mem := mramOnly s.mem } := by
  rw [coldReset, coldDev, gate]
  cases h : s.dev.pwr.gaspBusy
  · rfl
  · simp only [gaspLost, h]
    rfl

theorem coldReset_regs (d : Dev) (p : PinSt) (r : Reg) :
    reg (coldDev d p) r = if r = .glbStat ∧ p.pwrCycleReq = true then 3 else regReset d.fuse.ib r := by
  show lookupReg d.fuse.ib (if p.pwrCycleReq then [(.glbStat, 3)] else []) r = _
  cases p.pwrCycleReq
  · simp [lookupReg]
  · simp [lookupReg, eq_comm]

theorem domReady_coldDev (d : Dev) (p : PinSt) (n : Nat) : domReady (coldDev d p) n = decide (n = 0) := by
  show ((tget {} [(0, { st := .ready })] n : Dom).st == .ready) = _
  rw [tget, tfind]
  by_cases h : n = 0
  · subst h; rfl
  · rw [if_neg (Ne.symm h), if_neg (Nat.not_lt_zero n), tfind, decide_eq_false h]; rfl

theorem gasp_coldDev (d : Dev) (p : PinSt) : (coldDev d p).nvm.gasp = if d.pwr.gaspBusy then none else d.nvm.gasp := by
  rw [coldDev]
  cases d.pwr.gaspBusy <;> rfl

theorem jrnl_coldDev (d : Dev) (p : PinSt) : (coldDev d p).nvm.jrnl = d.nvm.jrnl := by
  rw [coldDev]
  cases d.pwr.gaspBusy <;> rfl

theorem active_coldDev (d : Dev) (p : PinSt) : (coldDev d p).nvm.active = d.nvm.active := by
  rw [coldDev]
  cases d.pwr.gaspBusy <;> rfl

theorem rd_mramOnly {m : Memory} (h : Memory.wf m = true) (a : Nat) : rd (mramOnly m) a = if imageBase ≤ a then rd m a else 0 := by
  rw [mramOnly, rd_filter h (fun a => decide (imageBase ≤ a))]
  simp only [decide_eq_true_eq]

/-- The device once VDD_AON is back above its thresholds (R81). -/
def backUp (d : Dev) : Dev := { d with pin := { d.pin with brownout := false, guard := false } }

theorem brownoutEnd_high {straps : Nat} {s : Sys} (h : s.dev.pin.brownout = true) :
    brownoutEnd true straps s = onDev (fun d => startCold straps 1 (backUp d)) s := by
  rw [brownoutEnd, h, Bool.not_true, if_neg Bool.false_ne_true, if_pos rfl]
  rfl

theorem brownoutEnd_low {straps : Nat} {s : Sys} (h : s.dev.pin.brownout = true) :
    brownoutEnd false straps s = onDev (fun d => setRb .glbRstCause 1 true (backUp d)) s := by
  rw [brownoutEnd, h, Bool.not_true, if_neg Bool.false_ne_true, if_neg Bool.false_ne_true]
  rfl

theorem rawSys_ends {c : Instr} {s : State} {f : Sys → Sys} {ok : Bool} {x : Sys} (h : Machine.exec c s = rawSys ok f s) (hok : ok = true)
    (hx : f s.sys = x) : EndsSys c s x := by
  rw [EndsSys, h, hok, rawSys, if_pos rfl, hx]

theorem runSys_ends {c : Instr} {s : State} {f : Sys → Sys} {ok : Bool} {x : Sys} (h : Machine.exec c s = runSys ok f s) (on : On s)
    (hok : ok = true) (hx : f s.sys = x) : EndsSys c s x := by
  rw [EndsSys, h, hok, runSys_on _ _ on, hx]

theorem runDev_ends {c : Instr} {s : State} {f : Dev → Dev} {ok : Bool} {d : Dev} (h : Machine.exec c s = runDev ok f s) (on : On s)
    (hok : ok = true) (hd : f s.dev = d) : Ends c s d := by
  rw [Ends, h, hok, runDev_on _ _ on, hd]

/-- A command that settles: what it does, and what follows at once. -/
theorem runSys_settles {c : Instr} {s : State} {f : Sys → Sys} {x : Sys}
    (h : Machine.exec c s = runSys true (fun s => onDev refresh (f s)) s) (on : On s) (hx : f s.sys = x) : SettlesSys c s x := by
  subst hx
  exact h.trans (runSys_on _ _ on)

theorem withSys_onDev (s : State) (f : Dev → Dev) (d : Dev) :
    s.withSys (onDev f { dev := d, mem := s.mem }) = { s with dev := f d } := rfl

theorem runSys_settlesDev {c : Instr} {s : State} {f : Sys → Sys} {d : Dev}
    (h : Machine.exec c s = runSys true (fun s => onDev refresh (f s)) s) (on : On s) (hx : f s.sys = { dev := d, mem := s.mem }) :
    Settles c s d := by
  rw [Settles, Ends, ← withSys_onDev]
  exact runSys_settles h on hx

/-! ### Warm reset (R56, R101, R103, R106) -/

theorem askWarm_resets {c : Option Nat} {s : Sys} (h : s.dev.pwr.gaspBusy = false) : askWarm c s = warmReset c s := by
  rw [askWarm, h]; rfl

theorem askWarm_waits {k : Nat} {s : Sys} (h : s.dev.pwr.gaspBusy = true) :
    askWarm (some k) s = { s with dev := { s.dev with pwr := { s.dev.pwr with warmDeferred := some k } } } := by
  rw [askWarm, h]; rfl

/-- The epochs of the newest restarts by CPU_WDT that count towards the escalation, with this one (R103). -/
def wdtSeen (d : Dev) : List Nat := (now d :: (d.boot.wdtAt.filter fun e => now d < e + 60000)).take 3

theorem cpuWdt_escalates {s : Sys} (h : s.dev.boot.thino = true) (h3 : (wdtSeen s.dev).length = 3) (he : rb s.dev .glbRstCtl 2 = true) :
    cpuWdtExpiry s = askWarm (some 5) (onDev (fun d => { d with boot := { d.boot with wdtAt := wdtSeen s.dev } }) s) := by
  simp only [cpuWdtExpiry, h, Bool.not_true, Bool.false_eq_true, if_false]
  exact if_pos ⟨h3, he⟩

theorem cpuWdt_restarts {s : Sys} (h : s.dev.boot.thino = true) (hn : (wdtSeen s.dev).length ≠ 3 ∨ rb s.dev .glbRstCtl 2 = false) :
    cpuWdtExpiry s = restartCpu 7 (onDev (fun d => { d with boot := { d.boot with wdtAt := wdtSeen s.dev } }) s) := by
  simp only [cpuWdtExpiry, h, Bool.not_true, Bool.false_eq_true, if_false]
  refine if_neg fun hc => ?_
  obtain ⟨h3, he⟩ := hc
  rcases hn with hn | hn
  · exact hn h3
  · exact absurd (hn.symm.trans he) Bool.false_ne_true

theorem romTimeout_waits {d : Dev} (hw : d.boot.waitRom = true) (hh : d.boot.warmHeld = false) (hn : d.boot.noRom < 2) :
    romTimeout d = { d with boot := { d.boot with noRom := d.boot.noRom + 1, waitRom := false } } := by
  simp only [romTimeout, hw, hh, Bool.not_true, Bool.or_self, Bool.false_eq_true, if_false]
  rw [decide_eq_false (show ¬ 3 ≤ d.boot.noRom + 1 by omega), gate_false]

theorem romTimeout_cycles {d : Dev} (hw : d.boot.waitRom = true) (hh : d.boot.warmHeld = false) (hn : 2 ≤ d.boot.noRom) :
    romTimeout d = askPowerCycle { d with boot := { d.boot with noRom := d.boot.noRom + 1, waitRom := false } } := by
  simp only [romTimeout, hw, hh, Bool.not_true, Bool.or_self, Bool.false_eq_true, if_false]
  rw [decide_eq_true (show 3 ≤ d.boot.noRom + 1 by omega), gate_true]

theorem resetsOfSupplies (s : State) (x : Dev) (hx : x = coldDev s.dev { s.dev.pin with porN := false, pseqEn := 0 }) :
    (∀ r, reg x r = if r = .glbStat ∧ s.dev.pin.pwrCycleReq = true then 3 else regReset s.dev.fuse.ib r) ∧
      (∀ n, domReady x n = decide (n = 0)) ∧ x.nvm.jrnl = s.dev.nvm.jrnl ∧
      x.nvm.gasp = (if s.dev.pwr.gaspBusy then none else s.dev.nvm.gasp) ∧ x.nvm.active = s.dev.nvm.active ∧ x.fuse = s.dev.fuse := by
  subst hx
  exact ⟨coldReset_regs _ _, domReady_coldDev _ _, jrnl_coldDev _ _, gasp_coldDev _ _, active_coldDev _ _, rfl⟩

/-- WARM_RST_N is low. -/
def pinLow (d : Dev) : Dev := { d with pin := { d.pin with warmRstN := false } }

theorem warmPin_asks {s : Sys} (h : s.dev.pin.porN = true) : warmPin s = askWarm (some 2) (onDev pinLow s) := by
  rw [warmPin, h, Bool.not_true, if_neg Bool.false_ne_true]
  rfl

theorem warmPin_settles {s : State} (on : On s) (h : s.dev.pwr.gaspBusy = false) :
    SettlesSys .warmRstPin s (warmReset (some 2) { dev := pinLow s.dev, mem := s.mem }) :=
  runSys_settles (exec_warmRstPin s) on ((warmPin_asks (porN_of_on on)).trans (askWarm_resets h))

theorem warmPin_waits {s : State} (on : On s) (h : s.dev.pwr.gaspBusy = true) :
    Settles .warmRstPin s { pinLow s.dev with pwr := { s.dev.pwr with warmDeferred := some 2 } } :=
  runSys_settlesDev (exec_warmRstPin s) on ((warmPin_asks (porN_of_on on)).trans (askWarm_waits h))

theorem bootWdt_settles {s : State} (on : On s) (h : s.dev.pwr.gaspBusy = false) (hb : s.dev.boot.bootWdt = true) :
    SettlesSys .bootWdtExpiry s (warmReset (some 4) s.sys) := by
  refine runSys_settles (exec_bootWdtExpiry s) on ?_
  rw [bootWdtExpiry, if_pos (show s.sys.dev.boot.bootWdt = true from hb), askWarm_resets h]

/-- The device with a restart by CPU_WDT noted. -/
def bitten (d : Dev) : Dev := { d with boot := { d.boot with wdtAt := wdtSeen d } }

theorem cpuWdt_settles {s : State} (on : On s) (h : s.dev.pwr.gaspBusy = false) (ht : s.dev.boot.thino = true)
    (h3 : (wdtSeen s.dev).length = 3) (he : rb s.dev .glbRstCtl 2 = true) :
    SettlesSys .cpuWdtExpiry s (warmReset (some 5) { dev := bitten s.dev, mem := s.mem }) :=
  runSys_settles (exec_cpuWdtExpiry s) on ((cpuWdt_escalates ht h3 he).trans (askWarm_resets h))

theorem cpuWdt_settlesAlone {s : State} (on : On s) (ht : s.dev.boot.thino = true) (h1 : domReady s.dev 1 = true)
    (hn : (wdtSeen s.dev).length ≠ 3 ∨ rb s.dev .glbRstCtl 2 = false) :
    SettlesSys .cpuWdtExpiry s { dev := cpuRestart 7 (bitten s.dev), mem := clearRange s.mem bulkBase bulkSize } :=
  runSys_settles (exec_cpuWdtExpiry s) on
    ((cpuWdt_restarts ht hn).trans (restartCpu_runs (s := { dev := bitten s.dev, mem := s.mem }) h1 (porN_of_on on)))

/-- Settles O27. -/
theorem resetsAndWatchdogs : Obligations.ResetsAndWatchdogs := by
  unfold Obligations.ResetsAndWatchdogs
  refine ⟨fun s => ⟨?porN, ?brownout, ?cold, ?end_, fun v => rfl, resetsOfSupplies s, fun a h => rd_mramOnly h a⟩,
    fun s => ⟨rfl, ?pin, ?pinWaits, ?bootWdt, ?escalate, ?restart, ?romWaits, ?romCycles⟩⟩
  case porN => exact rawSys_ends (exec_porNFall s) rfl (coldReset_eq s.sys)
  case brownout =>
    refine rawSys_ends (exec_brownout s) rfl ?_
    rw [brownout, coldReset_eq]
    rfl
  case cold =>
    intro straps hs hp hb
    refine rawSys_ends (exec_coldStart straps s) (decide_eq_true hs) ?_
    have idle : (s.sys.dev.pin.porN || s.sys.dev.pin.brownout) = false := by
      show (s.dev.pin.porN || s.dev.pin.brownout) = false
      rw [hp, hb]; rfl
    rw [coldStart, idle, if_neg Bool.false_ne_true, coldReset_eq]
    rfl
  case end_ =>
    intro straps hs hb
    exact ⟨rawSys_ends (exec_brownoutEnd true straps s) (decide_eq_true hs) (brownoutEnd_high hb),
      rawSys_ends (exec_brownoutEnd false straps s) (decide_eq_true hs) (brownoutEnd_low hb)⟩
  case pin => exact fun on hg => warmPin_settles on hg
  case pinWaits => exact fun on hg => warmPin_waits on hg
  case bootWdt => exact fun on hg hb => bootWdt_settles on hg hb
  case escalate => exact fun on hg ht h3 he => cpuWdt_settles on hg ht h3 he
  case restart => exact fun on ht h1 hn => cpuWdt_settlesAlone on ht h1 hn
  case romWaits => exact fun on hw hh hn => runDev_ends (exec_romStartTimeout s) on rfl (romTimeout_waits hw hh hn)
  case romCycles => exact fun on hw hh hn => runDev_ends (exec_romStartTimeout s) on rfl (romTimeout_cycles hw hh hn)

end Sys2Proof.Proofs
end

section
/-! SUPPORT. What a warm reset keeps and what it clears. -/

namespace Sys2Proof.Proofs

open Sys2Proof.Machine Sys2Proof.Laws Sys2Proof.Spec

/-- The timing domain is kept. -/
def keepsTiming (d : Dev) : Bool := rb d .glbRstCtl 0 && domReady d 3

/-- The registers that a warm reset does not return to their reset value. -/
def keepsReg (timing : Bool) (r : Reg) : Bool := regDomain r == 0 || (regDomain r == 3 && timing)

/-- The PCIe domain is kept. -/
def keepsPcie (c : Option Nat) (d : Dev) : Bool := c == some 3 && rb d .glbRstCtl 1

/-- The device that a warm reset leaves, before its cause and its stage are shown. -/
def warmDev (c : Option Nat) (d : Dev) : Dev :=
  { time := d.time, fuse := d.fuse, pin := d.pin
    regs := (d.regs.filter fun e => keepsReg (keepsTiming d) e.1).filterMap (warmReg d.pin.pwrCycleReq)
    pwr := { d.pwr with doms := warmDoms (keepsTiming d) (keepsPcie c d) d.pwr.doms, warmDeferred := none }
    err := d.err
    pkt := { memc := { trims := d.pkt.memc.trims } }
    evt := { seq := d.evt.seq, log := d.evt.log, lost := d.evt.lost || !d.evt.staged.isEmpty }
    mbx := { inForce := d.mbx.inForce }
    host := if keepsPcie c d then d.host
      else { d.host with pf0 := {}, pf1 := {}, training := false, busMaster := false, d3hot := false }
    boot := {
      wdtAt := d.boot.wdtAt, noRom := d.boot.noRom, warmHeld := !d.pin.warmRstN, waitRom := true, keptPcie := keepsPcie c d,
      hbAt := now d, recover := d.boot.recover, warm := true, step3 := rungThree c, rail := d.boot.rail }
    tim := if keepsTiming d then d.tim else {}
    nvm := nvmReset d.nvm }

/-- The registers that showing cause and stage of a warm reset changes. -/
def shownRegs : List Reg := [.glbRstCause, .glbBootStat, .glbIntStat, .glbStat]

theorem posts_setStage (v : Nat) (d : Dev) : Posts shownRegs d (setStage v d) := by
  rw [setStage]
  split
  · exact posts_refl _ d
  · exact posts_trans (posts_setReg (by decide) _ d) (posts_raiseInt (by decide) _ _)

theorem posts_updFrozen (d : Dev) : Posts shownRegs d (updFrozen d) := posts_setReg (by decide) _ d

/-- Cause and stage shown. -/
def warmShown (k : Nat) (d : Dev) : Dev := updFrozen (setStage 0 (setRb .glbRstCause k true d))

theorem posts_warmShown (k : Nat) (d : Dev) : Posts shownRegs d (warmShown k d) :=
  posts_trans (posts_trans (posts_setReg (by decide) _ d) (posts_setStage 0 _)) (posts_updFrozen _)

theorem reg_requeueErrs (d : Dev) (r : Reg) : reg (requeueErrs d) r = reg d r := rfl

/-- A register that showing cause and stage leaves, after a warm reset. -/
theorem reg_warm {k : Nat} {d : Dev} {r : Reg} (h : r ∉ shownRegs) :
    reg (requeueErrs (warmShown k (warmDev (some k) d))) r = reg (warmDev (some k) d) r :=
  (reg_requeueErrs _ r).trans ((posts_warmShown k _).regs r h)

theorem lookupReg_warmReg (ib hold : Bool) (l : List (Reg × Word)) {r : Reg} (h1 : r ≠ .glbStat) (h2 : r ≠ .glbBootStat) :
    lookupReg ib (l.filterMap (warmReg hold)) r = lookupReg ib l r := by
  induction l with
  | nil => rfl
  | cons e l ih =>
    obtain ⟨q, w⟩ := e
    have key : ∃ v, warmReg hold (q, w) = some (q, v) ∧ (q = r → v = w) := by
      rw [warmReg]
      split
      next hq => exact ⟨_, rfl, fun hr => absurd (hr.symm.trans hq) h1⟩
      next hq => exact ⟨_, rfl, fun hr => absurd (hr.symm.trans hq) h2⟩
      next => exact ⟨w, rfl, fun _ => rfl⟩
    obtain ⟨v, hv, same⟩ := key
    rw [List.filterMap_cons_some hv, lookupReg, lookupReg, ih]
    split
    next hq => exact same hq
    next => rfl

theorem reg_warmDev (c : Option Nat) (d : Dev) {r : Reg} (h1 : r ≠ .glbStat) (h2 : r ≠ .glbBootStat) :
    reg (warmDev c d) r = if keepsReg (keepsTiming d) r then reg d r else regReset d.fuse.ib r := by
  show lookupReg d.fuse.ib ((d.regs.filter fun e => keepsReg (keepsTiming d) e.1).filterMap (warmReg d.pin.pwrCycleReq)) r = _
  rw [lookupReg_warmReg _ _ _ h1 h2, lookupReg_filter]
  rfl

/-- A warm reset of a device of which the host holds no domain. -/
theorem warmReset_eq {k : Nat} {y : Sys} (hold : ∀ n, n < 24 → rb y.dev .pwrHostHold n = false) :
    warmReset (some k) y =
      { dev := requeueErrs (warmShown k (warmDev (some k) y.dev)), mem := clearRange y.mem bulkBase bulkSize } := by
  have held : ((List.range 24).filter fun n => rb (requeueErrs (warmShown k (warmDev (some k) y.dev))) .pwrHostHold n) = [] := by
    rw [List.filter_eq_nil_iff]
    intro n hn
    have same : reg (requeueErrs (warmShown k (warmDev (some k) y.dev))) .pwrHostHold = reg y.dev .pwrHostHold := by
      rw [reg_warm (by decide), reg_warmDev _ _ (by decide) (by decide)]
      rfl
    rw [rb, same, ← rb, hold n (List.mem_range.mp hn)]
    decide
  have unfolded : warmReset (some k) y =
      { dev := each ((List.range 24).filter fun n => rb (requeueErrs (warmShown k (warmDev (some k) y.dev))) .pwrHostHold n)
          (requestWake 3) (requeueErrs (warmShown k (warmDev (some k) y.dev)))
        mem := clearRange y.mem bulkBase bulkSize } := rfl
  rw [unfolded, held, each_nil]

/-- The domains that a warm reset neither keeps nor starts. -/
theorem st_warmDoms {n : Nat} (timing pcie : Bool) (t : Tbl Dom) (h : 5 ≤ n) :
    (tget {} (warmDoms timing pcie t) n : Dom).st = .off ∨ (tget {} (warmDoms timing pcie t) n : Dom).st = .selfRefresh := by
  rw [tget, warmDoms, tfind_tmap]
  cases tfind t n with
  | none => exact .inl rfl
  | some x =>
    dsimp only [Option.map_some, Option.getD_some]
    rw [if_neg (by omega), if_neg (by omega), if_neg (by omega), if_neg (by omega)]
    split
    · exact .inr rfl
    · exact .inl rfl

theorem dom_warm (k : Nat) (d : Dev) (n : Nat) :
    dom (requeueErrs (warmShown k (warmDev (some k) d))) n = tget {} (warmDoms (keepsTiming d) (keepsPcie (some k) d) d.pwr.doms) n := by
  show dom (warmShown k (warmDev (some k) d)) n = _
  rw [(posts_warmShown k _).frame]
  rfl

theorem domReady_warm {k n : Nat} (d : Dev) (h : 5 ≤ n) : domReady (requeueErrs (warmShown k (warmDev (some k) d))) n = false := by
  rw [domReady, dom_warm]
  rcases st_warmDoms (keepsTiming d) (keepsPcie (some k) d) d.pwr.doms h with h | h <;> rw [h] <;> decide

theorem domAwake_warm {k n : Nat} (d : Dev) (h : 5 ≤ n) : domAwake (requeueErrs (warmShown k (warmDev (some k) d))) n = false := by
  rw [domAwake, dom_warm]
  rcases st_warmDoms (keepsTiming d) (keepsPcie (some k) d) d.pwr.doms h with h | h <;> rw [h]

theorem rst_cause_warm {k : Nat} (hk : k < 9) (d : Dev) : rb (requeueErrs (warmShown k d)) .glbRstCause k = true := by
  have hs : reg (setStage 0 (setRb .glbRstCause k true d)) .glbRstCause = reg (setRb .glbRstCause k true d) .glbRstCause := by
    rw [setStage]
    split
    · rfl
    · rw [(posts_raiseInt (l := [.glbIntStat]) (by decide) 15 _).regs _ (by decide), reg_setRf, if_neg (by decide)]
  rw [rb, reg_requeueErrs, warmShown, updFrozen, reg_setRb, if_neg (by decide), hs, reg_setRb, if_pos rfl]
  exact bit_putBit_same _ _ _ (by omega)

theorem stage_warm (k : Nat) (d : Dev) : rf (requeueErrs (warmShown k d)) .glbBootStat 3 0 = 0 := by
  rw [rf, reg_requeueErrs, warmShown, updFrozen, reg_setRb, if_neg (by decide), ← rf]
  rw [setStage]
  split
  next h => exact h
  next =>
    rw [rf, (posts_raiseInt (l := [.glbIntStat]) (by decide) 15 _).regs _ (by decide), reg_setRf, if_pos rfl]
    exact bits_putBits_same (by decide) (by decide) _ _

theorem rd_clearRange {m : Memory} (h : Memory.wf m = true) (lo n a : Nat) :
    rd (clearRange m lo n) a = if lo ≤ a ∧ a < lo + n then 0 else rd m a := by
  rw [clearRange, rd_filter h fun a => !(decide (lo ≤ a) && decide (a < lo + n))]
  by_cases hin : lo ≤ a ∧ a < lo + n
  · rw [if_pos hin, decide_eq_true hin.1, decide_eq_true hin.2]; rfl
  · have out : (!(decide (lo ≤ a) && decide (a < lo + n))) = true := by
      simpa only [Bool.not_eq_true', Bool.and_eq_false_iff, decide_eq_false_iff_not, ← not_and_or] using hin
    rw [if_neg hin, if_pos out]

theorem err_warm {k : Nat} {d : Dev} : (requeueErrs (warmShown k (warmDev (some k) d))).err =
    { d.err with queue := d.err.queue.map fun e => { e with st := 0 } } := by
  rw [requeueErrs, (posts_warmShown k _).frame]
  rfl

/-- What showing cause and stage leaves of the device. -/
theorem frame_warm (k : Nat) (d : Dev) : ∃ regs pf0 pf1 err, requeueErrs (warmShown k (warmDev (some k) d)) =
    { warmDev (some k) d with regs := regs, host := { (warmDev (some k) d).host with pf0 := pf0, pf1 := pf1 }, err := err } := by
  rw [requeueErrs, (posts_warmShown k _).frame]
  exact ⟨_, _, _, _, rfl⟩

/-- Registers outside D0 and not kept are at reset; the others are as they were. -/
theorem reg_warm_outside {k : Nat} {d : Dev} {r : Reg} (h : r ∉ shownRegs) :
    reg (requeueErrs (warmShown k (warmDev (some k) d))) r = if keepsReg (keepsTiming d) r then reg d r else regReset d.fuse.ib r := by
  rw [reg_warm h]
  refine reg_warmDev _ _ ?_ ?_ <;> rintro rfl <;> exact h (by decide)

theorem notShown {r : Reg} (h : regDomain r ≠ 0) : r ∉ shownRegs := by
  intro hr
  have all : ∀ r ∈ shownRegs, regDomain r = 0 := by decide
  exact h (all r hr)

/-- Settles O28. -/
theorem aWarmResetKeepsItsState : Obligations.AWarmResetKeepsItsState := by
  unfold Obligations.AWarmResetKeepsItsState
  intro k y hold hk
  rw [warmReset_eq hold]
  obtain ⟨regs, pf0, pf1, err, frame⟩ := frame_warm k y.dev
  refine ⟨by rw [frame]; rfl, by rw [frame]; rfl, err_warm, by rw [frame]; rfl, by rw [frame]; rfl, by rw [frame]; rfl, by rw [frame]; rfl,
    by rw [frame]; rfl, by rw [frame]; rfl, by rw [frame]; rfl, by rw [frame]; rfl, ?reset, ?timing, ?kept, rst_cause_warm hk _, stage_warm _ _,
    fun n h5 _ => ⟨domReady_warm _ h5, domAwake_warm _ h5⟩, fun a h => rd_clearRange h _ _ a⟩
  case reset =>
    intro r h0 h3
    have dropped : keepsReg (keepsTiming y.dev) r = false := by
      rw [keepsReg, beq_eq_false_iff_ne.mpr h0, Bool.false_or, Bool.and_eq_false_iff, beq_eq_false_iff_ne]
      exact h3
    exact (reg_warm_outside (notShown h0)).trans (by rw [dropped, if_neg Bool.false_ne_true])
  case timing =>
    intro r h3 hkeep
    have kept : keepsReg (keepsTiming y.dev) r = true := by
      rw [keepsReg, h3, show keepsTiming y.dev = true from hkeep]
      rfl
    exact (reg_warm_outside (notShown (by rw [h3]; decide))).trans (if_pos kept)
  case kept =>
    intro r hr
    have inD0 : ∀ r ∈ [Reg.glbScratch, .glbStrap, .pwrCap, .pwrThermCtl, .nvmErr, .errCnt 3], regDomain r = 0 ∧ r ∉ shownRegs := by
      decide
    obtain ⟨h0, hs⟩ := inD0 r hr
    refine (reg_warm_outside hs).trans (if_pos ?_)
    rw [keepsReg, h0]
    rfl

end Sys2Proof.Proofs
end

section
/-! SUPPORT. Counters, windows and dumps. -/

namespace Sys2Proof.Proofs

open Sys2Proof.Machine Sys2Proof.Laws Sys2Proof.Spec

/-! ### Counting (R519, R522, R532) -/

theorem count_ctr {dm n k : Nat} {d : Dev} (hdm : domReady d dm = true) (h4 : domReady d 4 = true) (hk : 1 ≤ k) :
    (count dm n k d).pctr.ctr = tset d.pctr.ctr n
      { v := ((ctrVal d n).v + k) % 2 ^ 48, wrap := (ctrVal d n).wrap || decide (2 ^ 48 ≤ (ctrVal d n).v + k) } := by
  have runs : (!(domReady d dm && domReady d 4) || k == 0) = false := by
    rw [hdm, h4, beq_eq_false_iff_ne.mpr (by omega)]; rfl
  simp only [count, runs, Bool.false_eq_true, if_false, ge_iff_le]
  split
  · rfl
  · split
    · rfl
    · rw [(postEvt_records _ _ _ _ _ _).pctr]
      rfl

theorem subMod_counted {v k : Nat} (hk : k < 2 ^ 48) (hv : v < 2 ^ 48) : subMod (2 ^ 48) ((v + k) % 2 ^ 48) v = k := by
  rw [subMod, Nat.mod_mod, Nat.mod_eq_of_lt hv]
  omega

theorem counts {dm n k : Nat} {d : Dev} (hdm : domReady d dm = true) (h4 : domReady d 4 = true) (hk : 1 ≤ k) (hlt : k < 2 ^ 48)
    (hv : (ctrVal d n).v < 2 ^ 48) :
    ctrVal (count dm n k d) n = { v := ((ctrVal d n).v + k) % 2 ^ 48, wrap := (ctrVal d n).wrap || decide (2 ^ 48 ≤ (ctrVal d n).v + k) } ∧
    subMod (2 ^ 48) (ctrVal (count dm n k d) n).v (ctrVal d n).v = k ∧
    (∀ j, j ≠ n → ctrVal (count dm n k d) j = ctrVal d j) := by
  have counted := count_ctr (n := n) hdm h4 hk
  have own : ctrVal (count dm n k d) n =
      { v := ((ctrVal d n).v + k) % 2 ^ 48, wrap := (ctrVal d n).wrap || decide (2 ^ 48 ≤ (ctrVal d n).v + k) } := by
    rw [ctrVal, counted, tget_tset, if_pos rfl]
  refine ⟨own, ?_, fun j hj => ?_⟩
  · rw [own]
    exact subMod_counted hlt hv
  · rw [ctrVal, counted, tget_tset, if_neg hj, ctrVal]

theorem count_idle {dm n k : Nat} {d : Dev} (h : domReady d dm = false ∨ domReady d 4 = false ∨ k = 0) : count dm n k d = d := by
  have idle : (!(domReady d dm && domReady d 4) || k == 0) = true := by
    rcases h with h | h | h <;> rw [h] <;> simp
  rw [count, idle, if_pos rfl]

/-! ### The window (R526 to R528) -/

/-- The bandwidth registers (R527). -/
def bwRegs : List Reg := (List.range 68).flatMap fun p => [.pctrBwRx p, .pctrBwTx p]

theorem posts_each {l : List Reg} {ks : List Nat} {f : Nat → Dev → Dev} (h : ∀ k ∈ ks, ∀ d, Posts l d (f k d)) (d : Dev) :
    Posts l d (each ks f d) := by
  induction ks generalizing d with
  | nil => exact posts_refl l d
  | cons k ks ih =>
    rw [each_cons]
    exact posts_trans (h k List.mem_cons_self d) (ih (fun j hj => h j (List.mem_cons_of_mem k hj)) _)

theorem posts_bandwidths (us : Nat) (d : Dev) : Posts bwRegs d (each (List.range 68) (fun p d =>
    setReg (.pctrBwRx p) (BitVec.ofNat 32 (meanRate d us (bwCtr p false)))
      (setReg (.pctrBwTx p) (BitVec.ofNat 32 (meanRate d us (bwCtr p true))) d)) d) := by
  refine posts_each (fun p hp e => ?_) d
  have hrx : .pctrBwRx p ∈ bwRegs := List.mem_flatMap.mpr ⟨p, hp, List.mem_cons_self⟩
  have htx : .pctrBwTx p ∈ bwRegs := List.mem_flatMap.mpr ⟨p, hp, List.mem_cons_of_mem _ List.mem_cons_self⟩
  exact posts_trans (posts_setReg htx _ e) (posts_setReg hrx _ _)

/-- The device at a window boundary with its bandwidths computed and the window's sequence number advanced (R526 steps 1 and 2). -/
def windowed (us : Nat) (d : Dev) : Dev := wrapCtr .pctrWinSeq 31 0 1 (computeBw us d)

theorem windowed_eq (us : Nat) (d : Dev) : ∃ regs pf0 pf1 prev,
    windowed us d = { d with regs := regs, host := { d.host with pf0 := pf0, pf1 := pf1 }, pctr := { d.pctr with prev := prev } } := by
  rw [windowed, wrapCtr, computeBw]
  dsimp only
  rw [(posts_bandwidths us d).frame]
  exact ⟨_, _, _, _, rfl⟩

theorem reg_windowed (us : Nat) (d : Dev) {r : Reg} (hs : r ≠ .pctrWinSeq) (hb : r ∉ bwRegs) : reg (windowed us d) r = reg d r := by
  rw [windowed, wrapCtr, reg_setRf, if_neg hs]
  exact (posts_bandwidths us d).regs r hb

/-- The next window begins (R526). -/
def nextWindow (d x : Dev) : Dev := { x with pctr := { x.pctr with
  win := rf d .pctrWin 13 0, part := rf d .pctrWin 13 0 != x.pctr.win, start := now d, clrGo := false } }

/-- What a capture gives (R530). -/
def captureOf (us : Nat) (d : Dev) : Dump where
  seq := ((reg d .pctrWinSeq).toNat + 1) % 2 ^ 32
  epoch := now d
  winMs := d.pctr.win
  winUs := us
  banks := rf d .pctrMask 6 0
  phase := ringPass d % 2 == d.pctr.pass
  restart := d.pctr.restart
  partWin := d.pctr.part || decide (us < d.pctr.win * 1000)
  skipped := d.pctr.skipped
  snap := d.pctr.ctr.filter fun e => inBanks (rf d .pctrMask 6 0) e.1

/-- The length of the window that ends, in µs. -/
def windowUs (d : Dev) : Nat := subMod (2 ^ 48) (now d) d.pctr.start * 1000

/-- The clear of banks that waited for the boundary (R525). -/
def clearBanks (c : Nat) (d : Dev) : Dev := zeroCtrs (inBanks c)
  (setReg .pctrWrapSum (reg d .pctrWrapSum &&& ~~~ BitVec.ofNat 32 c)
    { d with pctr := { d.pctr with restart := true, clr := 0, prev := d.pctr.prev.filter fun e => !inBanks c e.1 } })

section Window

variable {d x : Dev} (h4 : domReady d 4 = true) (hw : now d % d.pctr.win = 0)
include h4 hw

/-- The actions of R526 after the bandwidths: dump, clear, and the next window. -/
theorem windowEnd_eq (hx : gate (d.pctr.clr != 0) (clearBanks d.pctr.clr)
      (gate (rb d .pctrCtl 0) (startDump (captureOf (windowUs d) d)) (windowed (windowUs d) d)) = x) (hn : now x = now d) :
    pctrWindowEnd d = nextWindow d x := by
  have due : (!domReady d 4 || now d % d.pctr.win != 0) = false := by rw [h4, hw]; rfl
  have hctl : rb (windowed (windowUs d) d) .pctrCtl 0 = rb d .pctrCtl 0 := by
    rw [rb, reg_windowed _ _ (by decide) (by decide), rb]
  have hclr : (windowed (windowUs d) d).pctr.clr = d.pctr.clr := by
    obtain ⟨regs, pf0, pf1, prev, h⟩ := windowed_eq (windowUs d) d
    rw [h]
  rw [nextWindow, ← hn, ← hx, ← hctl, ← hclr, pctrWindowEnd, due, if_neg Bool.false_ne_true]
  rfl

theorem windowEnd_plain (hctl : rb d .pctrCtl 0 = false) (hclr : d.pctr.clr = 0) :
    pctrWindowEnd d = nextWindow d (windowed (windowUs d) d) := by
  refine windowEnd_eq h4 hw ?_ ?_
  · rw [hctl, hclr]; rfl
  · obtain ⟨regs, pf0, pf1, prev, h⟩ := windowed_eq (windowUs d) d
    rw [h]; rfl

theorem windowEnd_clears (hctl : rb d .pctrCtl 0 = false) (hclr : d.pctr.clr ≠ 0) :
    pctrWindowEnd d = nextWindow d (clearBanks d.pctr.clr (windowed (windowUs d) d)) := by
  refine windowEnd_eq h4 hw ?_ ?_
  · rw [hctl, bne_iff_ne.mpr hclr]; rfl
  · obtain ⟨regs, pf0, pf1, prev, h⟩ := windowed_eq (windowUs d) d
    rw [h]; rfl

/-- A capture that has room, a free writer and a bus to master is written (R528, R529). -/
theorem windowEnd_dumps (hctl : rb d .pctrCtl 0 = true) (hclr : d.pctr.clr = 0) (hroom : dumpUsed d < dumpSlots d)
    (hfree : d.pctr.writing = none) (hdma : pf0Dma d = true)
    (hfit : 64 + dumpEntries (rf d .pctrMask 6 0) * 8 ≤ 2 ^ rf d .pctrRingSize 12 8) :
    pctrWindowEnd d = nextWindow d { windowed (windowUs d) d with pctr := { (windowed (windowUs d) d).pctr with
      writing := some (captureOf (windowUs d) d), restart := false, skipped := 0 } } := by
  obtain ⟨regs, pf0, pf1, prev, h⟩ := windowed_eq (windowUs d) d
  have size : reg (windowed (windowUs d) d) .pctrRingSize = reg d .pctrRingSize := reg_windowed _ _ (by decide) (by decide)
  have prod : reg (windowed (windowUs d) d) .pctrProd = reg d .pctrProd := reg_windowed _ _ (by decide) (by decide)
  have cons : reg (windowed (windowUs d) d) .pctrCons = reg d .pctrCons := reg_windowed _ _ (by decide) (by decide)
  have slots : dumpSlots (windowed (windowUs d) d) = dumpSlots d := by rw [dumpSlots, rf, size, ← rf, ← dumpSlots]
  have used : dumpUsed (windowed (windowUs d) d) = dumpUsed d := by
    rw [dumpUsed, slots, rf, prod, rf, cons, ← rf, ← rf, ← dumpUsed]
  have writing : (windowed (windowUs d) d).pctr.writing = none := by rw [h]; exact hfree
  have dma : pf0Dma (windowed (windowUs d) d) = true := by rw [h]; exact hdma
  have ring : rf (windowed (windowUs d) d) .pctrRingSize 12 8 = rf d .pctrRingSize 12 8 := by rw [rf, size, rf]
  refine windowEnd_eq h4 hw ?_ ?_
  · rw [hctl, hclr, gate_true, startDump, used, slots, if_neg (Nat.not_le.mpr hroom), writing, if_neg (by decide), dma,
      if_neg (by decide), ring, if_neg (show ¬ 64 + dumpEntries (captureOf (windowUs d) d).banks * 8 > _ from Nat.not_lt.mpr hfit)]
    rfl
  · rw [h]; rfl

end Window

/-- Settles O37. -/
theorem countersWindowsAndDumps : Obligations.CountersWindowsAndDumps := by
  unfold Obligations.CountersWindowsAndDumps
  refine ⟨fun _ _ _ _ => counts, fun _ _ _ _ => count_idle, fun s on => ⟨fun h4 hw => ⟨?plain, ?dumps, ?clears⟩, ?written, ?idle⟩⟩
  case plain => exact fun hctl hclr => runDev_ends (exec_pctrWindowEnd s) on rfl (windowEnd_plain h4 hw hctl hclr)
  case dumps =>
    exact fun hctl hclr hroom hfree hdma hfit =>
      runDev_ends (exec_pctrWindowEnd s) on rfl (windowEnd_dumps h4 hw hctl hclr hroom hfree hdma hfit)
  case clears => exact fun hctl hclr => runDev_ends (exec_pctrWindowEnd s) on rfl (windowEnd_clears h4 hw hctl hclr)
  case written => exact fun w h => runDev_ends (exec_pctrDumpWritten s) on rfl (by rw [pctrDumpWritten, h])
  case idle => exact fun h => runDev_ends (exec_pctrDumpWritten s) on rfl (by rw [pctrDumpWritten, h])

end Sys2Proof.Proofs
end

section
/-! SUPPORT. The memory controller: grants, burst errors and training. -/

namespace Sys2Proof.Proofs

open Sys2Proof.Machine Sys2Proof.Laws Sys2Proof.Spec

/-! ### Commands that settle -/

theorem runDev_settles {c : Instr} {s : State} {f : Dev → Dev} {ok : Bool} {d : Dev}
    (h : Machine.exec c s = runDev ok (fun d => refresh (f d)) s) (on : On s) (hok : ok = true) (hd : f s.dev = d) : Settles c s d :=
  runDev_ends h on hok (congrArg refresh hd)

/-! ### Grants (R21, R338) -/

theorem total_eq_sum (l : List Nat) : total l = l.sum := (List.sum_eq_foldl).symm

/-- A slice's demand is kept, and its grant lies between its share and its demand. -/
structure Granted (want : Nat → Nat) (share : Nat) (e : Nat × Nat × Nat) : Prop where
  demand : e.2.1 = want e.1
  least : min (want e.1) share ≤ e.2.2
  most : e.2.2 ≤ want e.1

/-- What stage 2 of R21 adds to an unmet slice. -/
def giveOf (q : Nat) (e : Nat × Nat × Nat) : Nat := if e.2.2 < e.2.1 then min q (e.2.1 - e.2.2) else 0

theorem giveOf_sum_le (q : Nat) (l : List (Nat × Nat × Nat)) :
    (l.map (giveOf q)).sum ≤ q * (l.filter fun e => decide (e.2.2 < e.2.1)).length := by
  induction l with
  | nil => exact Nat.zero_le _
  | cons e l ih =>
    rw [List.map_cons, List.sum_cons, List.filter_cons, giveOf]
    split
    next h =>
      rw [if_pos (decide_eq_true h), List.length_cons, Nat.mul_succ]
      omega
    next h =>
      rw [if_neg (by simpa using h)]
      omega

theorem shareOut_granted {want : Nat → Nat} {share : Nat} (k left : Nat) {l : List (Nat × Nat × Nat)}
    (h : ∀ e ∈ l, Granted want share e) : ∀ e ∈ shareOut k left l, Granted want share e := by
  induction k generalizing left l with
  | zero => exact h
  | succ k ih =>
    rw [shareOut]
    dsimp only
    split
    · exact h
    generalize left / (l.filter fun e => decide (e.2.2 < e.2.1)).length = q
    split
    · exact h
    refine ih _ fun e he => ?_
    obtain ⟨x, hx, rfl⟩ := List.mem_map.mp he
    obtain ⟨hd, hl, hm⟩ := h x hx
    refine ⟨hd, ?_, ?_⟩ <;> dsimp only <;> split <;> omega

theorem shareOut_sum {limit : Nat} (k left : Nat) {l : List (Nat × Nat × Nat)} (h : (l.map (·.2.2)).sum + left ≤ limit) :
    ((shareOut k left l).map (·.2.2)).sum ≤ limit := by
  induction k generalizing left l with
  | zero => exact le_trans (Nat.le_add_right _ _) h
  | succ k ih =>
    have kept : (l.map (·.2.2)).sum ≤ limit := le_trans (Nat.le_add_right _ _) h
    rw [shareOut]
    dsimp only
    split
    · exact kept
    split
    · exact kept
    have given := giveOf_sum_le (left / (l.filter fun e => decide (e.2.2 < e.2.1)).length) l
    have inLeft := Nat.div_mul_le_self left (l.filter fun e => decide (e.2.2 < e.2.1)).length
    refine ih _ ?_
    rw [total_eq_sum, List.map_map]
    have split_ : (l.map fun e => e.2.2 + giveOf (left / (l.filter fun e => decide (e.2.2 < e.2.1)).length) e).sum =
        (l.map (·.2.2)).sum + (l.map (giveOf (left / (l.filter fun e => decide (e.2.2 < e.2.1)).length))).sum := List.sum_map_add
    show (l.map fun e => e.2.2 + giveOf _ e).sum + (left - (l.map (giveOf _)).sum) ≤ limit
    rw [split_]
    omega

theorem shares_sum (want : Nat → Nat) (share : Nat) (l : List Nat) : (l.map fun n => min (want n) share).sum ≤ share * l.length := by
  induction l with
  | nil => exact Nat.zero_le _
  | cons n l ih =>
    rw [List.map_cons, List.sum_cons, List.length_cons, Nat.mul_succ]
    omega

theorem grants_bounds (limit : Nat) (l : List Nat) (want : Nat → Nat) : total ((grants limit l want).map (·.2)) ≤ limit ∧
    ∀ e ∈ grants limit l want, e.2 ≤ want e.1 ∧ min (want e.1) (limit / max 1 l.length) ≤ e.2 := by
  have shares : (l.map fun n => min (want n) (limit / max 1 l.length)).sum ≤ limit := by
    refine (shares_sum want _ l).trans (le_trans (Nat.mul_le_mul_left _ (Nat.le_max_right 1 l.length)) (Nat.div_mul_le_self _ _))
  constructor
  · rw [grants, total_eq_sum, List.map_map]
    refine shareOut_sum 5 _ ?_
    rw [total_eq_sum, List.map_map]
    change (l.map fun n => min (want n) (limit / max 1 l.length)).sum +
      (limit - (l.map fun n => min (want n) (limit / max 1 l.length)).sum) ≤ limit
    omega
  · intro e he
    obtain ⟨x, hx, rfl⟩ := List.mem_map.mp he
    have granted : Granted want (limit / max 1 l.length) x := by
      refine shareOut_granted _ _ (fun y hy => ?_) x hx
      obtain ⟨n, -, rfl⟩ := List.mem_map.mp hy
      exact ⟨rfl, le_rfl, Nat.min_le_left _ _⟩
    exact ⟨granted.most, granted.least⟩

theorem roundCredit_bounds (g ns m : Nat) (x : Credit) :
    (roundCredit g ns m x).rd < blockCost + g * ns ∧ (roundCredit g ns m x).wr < blockCost + g * ns := by
  have hr := Nat.mod_lt x.rd (show blockCost > 0 by decide)
  have hw := Nat.mod_lt x.wr (show blockCost > 0 by decide)
  exact ⟨by show _ - _ < _; omega, by show _ - _ < _; omega⟩

/-! ### Burst errors (R335, R342) -/

theorem count_keeps (dm n k : Nat) (d : Dev) : (count dm n k d).pkt = d.pkt ∧ (count dm n k d).time.epoch = d.time.epoch := by
  rw [count]
  dsimp only
  split
  · exact ⟨rfl, rfl⟩
  split
  · exact ⟨rfl, rfl⟩
  split
  · exact ⟨rfl, rfl⟩
  · exact ⟨(postEvt_records _ _ _ _ _ _).pkt, (postEvt_records _ _ _ _ _ _).epoch⟩

theorem now_stepFree (d : Dev) : now (stepFree d) = now d := rfl

theorem queueAt_pkt {d e : Dev} {n i : Nat} {eg : Bool} (h : e.pkt = d.pkt) : queueAt e n eg i = queueAt d n eg i := by
  simp only [queueAt, egQ, flowQ, psl, h]

section Burst

variable {iface n i : Nat} {eg : Bool} {d : Dev} (hr : domReady d (18 + iface / 4) = true) (hg : iface / 4 ∈ memGroups d)
include hr hg

theorem burst_live : (!domReady d (18 + iface / 4) || !(memGroups d).contains (iface / 4)) = false := by
  rw [hr, List.contains_iff_mem.mpr hg]
  rfl

theorem burstEdc_corrected {failed : Nat} (hf : failed < 3) : burstEdc iface failed n eg i d =
    count (18 + iface / 4) (ctrMemc iface 3) 1 (count (18 + iface / 4) (ctrMemc iface 2) (1 + failed) d) := by
  rw [burstEdc]
  dsimp only
  rw [burst_live hr hg, if_neg Bool.false_ne_true, if_pos hf, Nat.min_eq_left hf.le]

/-- The three counts of an exhausted burst, and its mark. -/
def exhausted (iface : Nat) (d : Dev) : Dev :=
  setRb (.memcGstat (iface / 4)) (24 + iface % 4) true (count (18 + iface / 4) (ctrMemc iface 5) 1
    (count (18 + iface / 4) (ctrMemc iface 4) 1 (count (18 + iface / 4) (ctrMemc iface 2) 4 d)))

omit hr hg in
theorem exhausted_keeps (iface : Nat) (d : Dev) : (exhausted iface d).pkt = d.pkt ∧ (exhausted iface d).time.epoch = d.time.epoch := by
  obtain ⟨p2, t2⟩ := count_keeps (18 + iface / 4) (ctrMemc iface 2) 4 d
  obtain ⟨p4, t4⟩ := count_keeps (18 + iface / 4) (ctrMemc iface 4) 1 (count (18 + iface / 4) (ctrMemc iface 2) 4 d)
  obtain ⟨p5, t5⟩ := count_keeps (18 + iface / 4) (ctrMemc iface 5) 1
    (count (18 + iface / 4) (ctrMemc iface 4) 1 (count (18 + iface / 4) (ctrMemc iface 2) 4 d))
  exact ⟨p5.trans (p4.trans p2), t5.trans (t4.trans t2)⟩

omit hr hg in
theorem dropBlock_none {j : Nat} (h : (queueAt d n eg i).spilled = 0) : dropBlock n eg i j d = d := by
  rw [dropBlock, h, Nat.zero_sub, if_pos (Nat.zero_le j)]

theorem burstEdc_exhausted (hs : (queueAt d n eg i).spilled = 0) (hf : tget [] d.pkt.memc.fails iface = []) :
    burstEdc iface 3 n eg i d = postEvt 0x0909 0x000C (iface / 4 + 1) iface []
      (modMemc (fun m => { m with fails := tset m.fails iface [now d] }) (stepFree (exhausted iface d))) := by
  obtain ⟨hp, ht⟩ := exhausted_keeps iface d
  have spilled : (queueAt (stepFree (exhausted iface d)) n eg i).spilled = 0 := by
    rw [queueAt_pkt (show (stepFree (exhausted iface d)).pkt = d.pkt from hp), hs]
  have fails : tget [] (stepFree (exhausted iface d)).pkt.memc.fails iface = [] :=
    (congrArg (fun p : PktSt => tget [] p.memc.fails iface) hp).trans hf
  have at_ : now (stepFree (exhausted iface d)) = now d := (now_stepFree _).trans (congrArg BitVec.toNat ht)
  have body : burstEdc iface 3 n eg i d =
      (let x := dropBlock n eg i (peekFree (exhausted iface d) ((queueAt (exhausted iface d) n eg i).spilled
          - (queueAt (exhausted iface d) n eg i).reserve)) (stepFree (exhausted iface d))
       let l := (now x :: (tget [] x.pkt.memc.fails iface).filter fun e => decide (now x < e + 1000)).take 16
       let y := postEvt 0x0909 0x000C (iface / 4 + 1) iface [] (modMemc (fun m => { m with fails := tset m.fails iface l }) x)
       if l.length < 16 then y
       else setRf (.memcGstat (iface / 4)) 2 0 4 (satCtr (.memcGstat (iface / 4)) 23 16 1
          (modMemc (fun m => { m with fails := tdel m.fails iface }) y))) := by
    rw [burstEdc]
    dsimp only
    rw [burst_live hr hg, if_neg Bool.false_ne_true, if_neg (lt_irrefl 3)]
    rfl
  rw [body]
  dsimp only
  rw [dropBlock_none spilled, fails, at_, List.filter_nil, List.take_of_length_le (show [now d].length ≤ 16 by simp),
    if_pos (show [now d].length < 16 by simp)]

end Burst

/-! ### Training (R339) -/

theorem trainingDone_fails {g k : Nat} {d : Dev} (hk : k < 15) (hst : (dom d (18 + g)).st = .ramping) (hu : (dom d (18 + g)).untrained = true) :
    trainingDone g k d = postEvt 0x0908 0x000C (g + 1) g (be 1 k) (setRf (.memcGstat g) 7 4 k (setRf (.memcGstat g) 2 0 5 d)) := by
  have live : ¬ ((dom d (18 + g)).st ≠ .ramping ∨ (!(dom d (18 + g)).untrained) = true) := by rw [hst, hu]; decide
  have bad : (k % 16 == 15) = false := beq_eq_false_iff_ne.mpr (by omega)
  rw [trainingDone, if_neg live]
  dsimp only
  rw [bad, Nat.mod_eq_of_lt (show k < 16 by omega)]
  rfl

theorem trainingDone_trains {g : Nat} {d : Dev} (hst : (dom d (18 + g)).st = .ramping) (hu : (dom d (18 + g)).untrained = true) :
    trainingDone g 15 d =
      (let e := postEvt 0x0908 0x000C (g + 1) g (be 1 15) (setRf (.memcGstat g) 7 4 15 (setRf (.memcGstat g) 2 0 2 d))
       let f := modMemc (fun m => { m with trims := tset m.trims g (peekFree e (2 ^ 64)) })
        (stepFree (modDom (18 + g) (fun x => { x with untrained := false }) e))
       calWrite 1 (trimSection f) f) := by
  have live : ¬ ((dom d (18 + g)).st ≠ .ramping ∨ (!(dom d (18 + g)).untrained) = true) := by rw [hst, hu]; decide
  rw [trainingDone, if_neg live]
  dsimp only
  rw [show 15 % 16 = 15 from rfl, beq_self_eq_true, Bool.not_true, if_neg Bool.false_ne_true, if_pos rfl]

theorem retrainDone_idle {g : Nat} {ok : Bool} {d : Dev} (h : rf d (.memcGstat g) 2 0 ≠ 4) : retrainDone g ok d = d := by
  rw [retrainDone, if_pos h]

theorem grantRound_idle {l merge : List Nat} {ns : Nat} {d : Dev} (h : domReady d 22 = false) : grantRound l ns merge d = d := by
  rw [grantRound, h]
  rfl

/-- Settles O47. -/
theorem memoryIsGrantedAndTrained : Obligations.MemoryIsGrantedAndTrained := by
  unfold Obligations.MemoryIsGrantedAndTrained
  intro s on
  refine ⟨?round, roundCredit_bounds, ?noRound, grants_bounds, ?corrected, ?exhausted, ?retrained, ?noRetrain, ?failed, ?trained⟩
  case round =>
    intro l merge ns hl hm h22
    refine runDev_ends (exec_memcGrantRound ⟨l, ns, merge⟩ s) on (by rw [hl, hm]; rfl) ?_
    show grantRound l ns merge s.dev = _
    rw [grantRound, h22, Bool.not_true, if_neg Bool.false_ne_true]
  case noRound =>
    intro l merge ns hl hm h22
    exact runDev_ends (exec_memcGrantRound ⟨l, ns, merge⟩ s) on (by rw [hl, hm]; rfl) (grantRound_idle h22)
  case corrected =>
    intro iface failed n eg i hi hf hn hq hr hg
    exact runDev_settles (exec_memcBurstEdcFail iface failed n eg i s) on
      (by rw [decide_eq_true hi, decide_eq_true (show failed < 4 by omega), hn, hq]; rfl) (burstEdc_corrected hr hg hf)
  case exhausted =>
    intro iface n eg i hi hn hq hr hg hs hfails
    exact runDev_settles (exec_memcBurstEdcFail iface 3 n eg i s) on (by rw [decide_eq_true hi, hn, hq]; rfl)
      (burstEdc_exhausted hr hg hs hfails)
  case retrained =>
    intro g hg h4
    exact ⟨runDev_settles (exec_memcRetrainDone g true s) on (decide_eq_true hg) (by rw [retrainDone, if_neg (by rw [h4]; decide), if_pos rfl]),
      runDev_settles (exec_memcRetrainDone g false s) on (decide_eq_true hg)
        (by rw [retrainDone, if_neg (by rw [h4]; decide), if_neg Bool.false_ne_true])⟩
  case noRetrain => exact fun g ok hg h4 => runDev_settles (exec_memcRetrainDone g ok s) on (decide_eq_true hg) (retrainDone_idle h4)
  case failed =>
    intro g k hg hk hst hu
    exact runDev_settles (exec_memcTrainingDone g k s) on
      (by rw [isMem, decide_eq_true hg, decide_eq_true (show k < 16 by omega)]; rfl) (trainingDone_fails hk hst hu)
  case trained =>
    intro g hg hst hu
    exact runDev_settles (exec_memcTrainingDone g 15 s) on (by rw [isMem, decide_eq_true hg]; rfl) (trainingDone_trains hst hu)

end Sys2Proof.Proofs
end

section
/-! SUPPORT. Register accesses by offset, SPI and I²C. -/

namespace Sys2Proof.Proofs

open Sys2Proof.Machine Sys2Proof.Laws Sys2Proof.Spec

theorem runSys_endsDev {c : Instr} {s : State} {f : Sys → Sys} {ok : Bool} {d : Dev} (h : Machine.exec c s = runSys ok f s) (on : On s)
    (hok : ok = true) (hx : f s.sys = { dev := d, mem := s.mem }) : Ends c s d := runSys_ends h on hok hx

/-! ### Registers under their access type alone (R127) -/

/-- Registers of each kind that a write loads under their access type alone. -/
def plainRegs : List Reg := [.glbScratch, .glbRstCause, .glbIntStat, .glbIntEn, .glbIntMgmtEn, .glbErrCtl, .pwrRailoff, .errLost,
  .mbxRspHead 0, .mbxServed 7, .evtCons, .evtLost, .nvmErr, .nvmCorrCnt, .pctrMask, .pctrCons, .pctrWrapSum,
  .cliPstat 0 0, .lineStat 3, .lineOhxSlip 1, .xcCstat 1023, .timRefStat 23]

theorem writeReg_plain {r : Reg} (h : r ∈ plainRegs) (q : Requester) (o : Nat) (w : Word) (s : Sys) :
    writeReg q o r w s = onDev (typedWrite r w) s := by
  simp only [plainRegs, List.mem_cons, List.not_mem_nil, or_false] at h
  rcases h with rfl | rfl | rfl | rfl | rfl | rfl | rfl | rfl | rfl | rfl | rfl | rfl | rfl | rfl | rfl | rfl | rfl | rfl | rfl | rfl |
    rfl | rfl <;> rfl

theorem hostWrite_one {q : Requester} {t : RegTarget} {lo hi : Word} {s : Sys} (hpath : pathUp s.dev q = true) :
    hostWrite q t 4 lo hi s = writeOne q t 4 lo s := by
  rw [hostWrite, hpath, if_neg (by decide), if_neg (by simp)]

theorem writeOne_at {q : Requester} {t : RegTarget} {w : Word} {s : Sys} {p : Place} (hfree : refusalOf s.dev q t 4 true true = none)
    (hp : resolve s.dev t = some p) : writeOne q t 4 w s = writeSite q (targetOff t) p w s := by
  rw [writeOne, hfree, hp]

/-! ### The windows of R122 and R181 -/

theorem blkAt_ring {o : Nat} (h1 : 0x2200000 ≤ o) (h2 : o < 0x2240000) : blkAt o = some ⟨0x2200000, 0x40000, 0, false⟩ := by
  rw [blkAt]
  repeat rw [if_neg (by omega)]
  rw [if_pos (by omega)]

theorem blkAt_bulk {o : Nat} (h1 : 0x2400000 ≤ o) (h2 : o < 0x2440000) : blkAt o = some ⟨0x2400000, 0x40000, 1, true⟩ := by
  rw [blkAt]
  repeat rw [if_neg (by omega)]
  rw [if_pos (by omega)]

/-- A dword of a ring slot or of the BULK window is memory. -/
theorem resolve_bytes {d : Dev} {o : Nat} (h4 : o % 4 = 0) (h : (0x2200000 ≤ o ∧ o < 0x2240000) ∨ (0x2400000 ≤ o ∧ o < 0x2440000)) :
    ∃ p, resolve d (.offset o) = some p ∧ p.site = .bytes ∧ p.off = o := by
  rw [resolve, h4, Nat.sub_zero, placeAt, if_neg (by omega)]
  rcases h with ⟨h1, h2⟩ | ⟨h1, h2⟩
  · rw [blkAt_ring h1 h2]
    exact ⟨_, rfl, rfl, rfl⟩
  · rw [blkAt_bulk h1 h2]
    exact ⟨_, rfl, rfl, rfl⟩

/-- Between the registers of GLB and the end of its 128 bytes stands no register. -/
theorem resolve_hole {d : Dev} {o : Nat} (h4 : o % 4 = 0) (h1 : 0x48 ≤ o) (h2 : o < 0x80) :
    ∃ p, resolve d (.offset o) = some p ∧ p.site = .hole := by
  have none_ : glbAt (o - 0) = none := by
    rw [glbAt, List.getElem?_eq_none]
    simp only [List.length_cons, List.length_nil]
    omega
  rw [resolve, h4, Nat.sub_zero, placeAt, if_neg (by omega), blkAt, if_pos (by omega)]
  refine ⟨_, rfl, ?_⟩
  show siteAt 0 0 (o - 0) = .hole
  rw [siteAt, if_pos rfl, none_]
  rfl

/-! ### Reads (R129, R132) -/

theorem logRead_quiet {q : Requester} {t : RegTarget} {d : Dev} {p : Place} (hp : resolve d t = some p) (hq : drawsFree p.site = false) :
    logRead q t none d = d := by
  rw [logRead, hp]
  exact congrArg (fun b => gate b senseRead d) hq

theorem readOne_at {q : Requester} {t : RegTarget} {s : Sys} {p : Place} (hfree : refusalOf s.dev q t 4 false true = none)
    (hp : resolve s.dev t = some p) : readOne q t 4 true s = (none, readSite q p s) := by
  rw [readOne, hfree, hp]

theorem length_wordLe (w : Word) : (wordLe w).length = 4 := by simp [wordLe]

theorem readSite_reg {q : Requester} {r : Reg} {p : Place} {s : Sys} (hp : p.site = .reg r) (h1 : r ≠ .wideSel) (h2 : r ≠ .wideStat)
    (h3 : r ≠ .wideCmd) (h4 : ∀ i, r ≠ .wideData i ∧ r ≠ .wideWdata i) : readSite q p s = readReg s.dev r := by
  rw [readSite, hp]
  cases r
  case wideSel => exact absurd rfl h1
  case wideStat => exact absurd rfl h2
  case wideCmd => exact absurd rfl h3
  case wideData i => exact absurd rfl (h4 i).1
  case wideWdata i => exact absurd rfl (h4 i).2
  all_goals exact if_neg (by rw [Bool.and_false]; exact Bool.false_ne_true)

theorem drawsFree_reg {r : Reg} (h : ∀ i, r ≠ .pwrRegion i) : drawsFree (.reg r) = false := by
  cases r
  case pwrRegion i => exact absurd rfl (h i)
  all_goals rfl

theorem hostRead_named {q : Requester} {r : Reg} {s : Sys} (hpath : pathUp s.dev q = true) (hv : regValid r = true)
    (hfree : refusalOf s.dev q (.named r) 4 false true = none) (h1 : r ≠ .wideSel) (h2 : r ≠ .wideStat) (h3 : r ≠ .wideCmd)
    (h4 : ∀ i, r ≠ .wideData i ∧ r ≠ .wideWdata i ∧ r ≠ .pwrRegion i) :
    hostRead q (.named r) 4 true s = onDev (setAnswer q (wordLe (readReg s.dev r))) s := by
  have hp : resolve s.dev (.named r) = some { off := regOffset r, dom := regDomain r, priv := regPriv r, site := .reg r } := if_pos hv
  have quiet := logRead_quiet (q := q) hp (drawsFree_reg fun i => (h4 i).2.2)
  have value := readSite_reg (q := q) (s := s) (p := { off := regOffset r, dom := regDomain r, priv := regPriv r, site := .reg r }) rfl
    h1 h2 h3 fun i => ⟨(h4 i).1, (h4 i).2.1⟩
  rw [hostRead, hpath, if_neg (by decide), if_neg (by omega)]
  dsimp only
  rw [readOne_at hfree hp, value]
  rw [if_neg (show ¬ crosses (.named r) 4 = true from Bool.false_ne_true), List.drop_zero, List.take_of_length_le (length_wordLe _).le]
  simp only [onDev, quiet]

/-! ### SPI and I²C (R54, R120, R121) -/

theorem writeRun_one {q : Requester} {o : Nat} {w : Word} {s : Sys} {p : Place}
    (hfree : refusalOf s.dev q (.offset o) 4 true true = none) (hp : resolve s.dev (.offset o) = some p) :
    writeRun q [w] o s = ([], writeSite q o p w s) := by
  rw [writeRun, writeRun, hfree, writeOne_at hfree hp]
  rfl

theorem readRun_one {q : Requester} {o : Nat} {s : Sys} {p : Place} (hfree : refusalOf s.dev q (.offset o) 4 false true = none)
    (hp : resolve s.dev (.offset o) = some p) (hq : drawsFree p.site = false) :
    readRun q true 1 o s = ([], wordLe (readSite q p s), s) := by
  have quiet := logRead_quiet (q := q) hp hq
  rw [readRun, readOne_at hfree hp]
  simp only [onDev, quiet, readRun, Option.toList_none, List.append_nil]

theorem pathUp_serial {s : State} (on : On s) : pathUp s.dev .spi = true ∧ pathUp s.dev .i2c = true := by
  have both : (s.dev.pin.porN && !s.dev.pin.brownout) = true := on
  exact ⟨by rw [pathUp, both]; rfl, by rw [pathUp, both]; rfl⟩

theorem i2cHears_own {s : State} (on : On s) : i2cHears s.dev (0x5C + rf s.dev .glbStrap 3 2) = true := by
  rw [i2cHears, (pathUp_serial on).2, beq_self_eq_true]
  rfl

theorem i2cHears_other {d : Dev} {k : Nat} (h : k ≠ 0x5C + rf d .glbStrap 3 2) : i2cHears d k = false := by
  rw [i2cHears, beq_eq_false_iff_ne.mpr h, Bool.and_false]

section Serial

variable {o : Nat} {s : State} {p : Place} (on : On s) (ho : o < 2 ^ 26) (hp : resolve s.dev (.offset o) = some p)
include on ho hp

theorem spiWrite_writes {w : Word} (hfree : refusalOf s.dev .spi (.offset o) 4 true true = none) :
    EndsSys (.spiWrite o [w] false) s (onDev (fun d => { d with host := { d.host with spiOut := [], spiStatus := 0 } })
      (writeSite .spi o p w s.sys)) := by
  refine runSys_ends (exec_spiWrite o [w] false s) on (decide_eq_true (by omega)) ?_
  rw [spiWrite, show pathUp s.sys.dev .spi = true from (pathUp_serial on).1, if_neg (by decide), writeRun_one hfree hp]
  rfl

theorem i2cWrite_writes {w : Word} {a : Nat} (ha : a = 0x5C + rf s.dev .glbStrap 3 2)
    (hfree : refusalOf s.dev .i2c (.offset o) 4 true true = none) : EndsSys (.i2cWrite ⟨a, o⟩ [w]) s (writeSite .i2c o p w s.sys) := by
  subst ha
  have small : rf s.dev .glbStrap 3 2 < 4 := bits_lt _ 3 2
  refine runSys_ends (exec_i2cWrite _ [w] s) on ?_ ?_
  · rw [isI2cAddr, isOffset, decide_eq_true (show 0x5C + rf s.dev .glbStrap 3 2 < 128 by omega), decide_eq_true (show o < 2 ^ 32 by omega)]; rfl
  · rw [i2cWrite, show i2cHears s.sys.dev _ = true from i2cHears_own on, if_neg (by decide), writeRun_one hfree hp]

theorem spiRead_reads (hq : drawsFree p.site = false) (hfree : refusalOf s.dev .spi (.offset o) 4 false true = none) :
    Ends (.spiRead o 1 true) s { s.dev with host := { s.dev.host with
      spiOut := 0x5A :: wordLe (readSite .spi p s.sys), spiStatus := 0 } } := by
  refine runSys_endsDev (exec_spiRead o 1 true s) on (decide_eq_true (by omega)) ?_
  rw [spiRead, show pathUp s.sys.dev .spi = true from (pathUp_serial on).1, if_neg (by decide), readRun_one hfree hp hq]
  rfl

theorem i2cRead_reads {a : Nat} (ha : a = 0x5C + rf s.dev .glbStrap 3 2) (hq : drawsFree p.site = false)
    (hfree : refusalOf s.dev .i2c (.offset o) 4 false true = none) :
    Ends (.i2cRead ⟨a, o⟩ 1 true) s { s.dev with host := { s.dev.host with
      i2cOut := [leWord (slice (wordLe (readSite .i2c p s.sys)) 0 4)] } } := by
  subst ha
  have small : rf s.dev .glbStrap 3 2 < 4 := bits_lt _ 3 2
  refine runSys_endsDev (exec_i2cRead _ 1 true s) on ?_ ?_
  · rw [isI2cAddr, isOffset, decide_eq_true (show 0x5C + rf s.dev .glbStrap 3 2 < 128 by omega), decide_eq_true (show o < 2 ^ 32 by omega)]; rfl
  · rw [i2cRead, show i2cHears s.sys.dev _ = true from i2cHears_own on, if_neg (by decide), readRun_one hfree hp hq]
    rfl

end Serial

theorem i2c_other {s : State} (on : On s) {o k : Nat} (ho : o < 2 ^ 26) (hk : k < 128) (h : k ≠ 0x5C + rf s.dev .glbStrap 3 2)
    (ws : List Word) : Ends (.i2cWrite ⟨k, o⟩ ws) s s.dev ∧ ∀ n, Ends (.i2cRead ⟨k, o⟩ n true) s s.dev := by
  have fits : (isI2cAddr k && isOffset o) = true := by
    rw [isI2cAddr, isOffset, decide_eq_true hk, decide_eq_true (by omega)]; rfl
  have deaf : i2cHears s.sys.dev k = false := i2cHears_other h
  refine ⟨runSys_endsDev (exec_i2cWrite _ ws s) on fits ?_, fun n => runSys_endsDev (exec_i2cRead _ n true s) on fits ?_⟩
  · rw [i2cWrite, deaf, if_pos (by decide)]; rfl
  · rw [i2cRead, deaf, if_pos (by decide)]; rfl

/-- Settles O25. -/
theorem registerAccessesTakePlace : Obligations.RegisterAccessesTakePlace := by
  unfold Obligations.RegisterAccessesTakePlace
  refine ⟨fun q s lo hi => ⟨?plain, ?bytes, ?hole, ?read⟩, fun o s p on ho h4 hp hq => ⟨?spiWrite, ?i2cWrite, ?spiRead, ?i2cRead, ?other, ?status⟩⟩
  case plain =>
    intro r g hr
    refine runSys_endsDev (d := typedWrite r lo s.dev) (exec_registerWrite q (.named r) 4 lo hi s) g.on rfl ?_
    have written := (grants_writes g lo).trans (writeReg_plain hr q (regOffset r) lo s.sys)
    rw [writeNamed, if_pos (show pathUp s.sys.dev q = true from g.path)] at written
    exact (hostWrite_one (show pathUp s.sys.dev q = true from g.path)).trans written
  case bytes =>
    intro o on hpath h4 ho hfree
    obtain ⟨p, hp, hsite, hoff⟩ := resolve_bytes (d := s.dev) h4 ho
    refine runSys_ends (exec_registerWrite q (.offset o) 4 lo hi s) on rfl ?_
    rw [hostWrite_one (show pathUp s.sys.dev q = true from hpath), writeOne_at hfree hp, writeSite, hsite, hoff]
    rfl
  case hole =>
    intro o on hpath h4 h1 h2 hfree
    obtain ⟨p, hp, hsite⟩ := resolve_hole (d := s.dev) h4 h1 h2
    refine runSys_endsDev (exec_registerWrite q (.offset o) 4 lo hi s) on rfl ?_
    rw [hostWrite_one (show pathUp s.sys.dev q = true from hpath), writeOne_at hfree hp, writeSite, hsite]
    rfl
  case read =>
    intro r on hpath hv hfree h1 h2 h3 hother
    exact runSys_endsDev (d := setAnswer q (wordLe (readReg s.dev r)) s.dev) (exec_registerRead q (.named r) 4 true s) on rfl
      (hostRead_named hpath hv hfree h1 h2 h3 hother)
  case spiWrite => exact fun w hfree => spiWrite_writes on ho hp hfree
  case i2cWrite => exact fun w hfree => i2cWrite_writes on ho hp rfl hfree
  case spiRead => exact fun hfree => spiRead_reads on ho hp hq hfree
  case i2cRead => exact fun hfree => i2cRead_reads on ho hp rfl hq hfree
  case other => exact fun k ws hk hne => i2c_other on ho hk hne ws
  case status =>
    refine runDev_ends (exec_spiStatus s) on rfl ?_
    rw [spiStatus, (pathUp_serial on).1, if_neg (by decide)]

end Sys2Proof.Proofs
end

section
/-! SUPPORT. The PCIe endpoint and the posting of events. -/

namespace Sys2Proof.Proofs

open Sys2Proof.Machine Sys2Proof.Laws Sys2Proof.Spec

/-! ### The event ring (R172, R173) -/

theorem ringWrite_rest (n pass room prod : Nat) (lost : Bool) (l : List EvtRec) (t : Tbl EvtRec) :
    (ringWrite n pass room prod lost l t).2.2 = l.drop room := by
  induction room generalizing prod lost l t with
  | zero => rfl
  | succ room ih =>
    cases l with
    | nil => rfl
    | cons e l => exact ih _ _ _ _

theorem ringWrite_prod (n pass room prod : Nat) (lost : Bool) (l : List EvtRec) (t : Tbl EvtRec) (h : prod < 2 * n) :
    (ringWrite n pass room prod lost l t).2.1 = (prod + min room l.length) % (2 * n) := by
  induction room generalizing prod lost l t with
  | zero => rw [Nat.zero_min, Nat.add_zero, Nat.mod_eq_of_lt h]; rfl
  | succ room ih =>
    cases l with
    | nil => exact (Nat.mod_eq_of_lt h).symm
    | cons e l =>
      rw [ringWrite, ih _ _ _ _ (Nat.mod_lt _ (by omega)), List.length_cons, Nat.succ_min_succ, Nat.mod_add_mod]
      congr 1
      omega

/-- Where the ring's producer index goes when records are written, whatever it was. -/
theorem ringWrite_advances (n pass room prod : Nat) (lost : Bool) (e : EvtRec) (l : List EvtRec) (t : Tbl EvtRec) (hn : 0 < n)
    (hr : 0 < room) : (ringWrite n pass room prod lost (e :: l) t).2.1 = (prod + min room (l.length + 1)) % (2 * n) := by
  obtain ⟨k, rfl⟩ := Nat.exists_eq_add_of_lt hr
  rw [Nat.zero_add, ringWrite, ringWrite_prod _ _ _ _ _ _ _ (Nat.mod_lt _ (by omega)), Nat.succ_min_succ, Nat.mod_add_mod]
  congr 1
  omega

theorem reg_raiseInt (k : Nat) (d : Dev) (r : Reg) :
    reg (raiseInt k d) r = if r = .glbIntStat then putBit (reg d r) k true else reg d r := by
  have kept (f : Dev → Dev) (hf : ∀ d, reg (f d) r = reg d r) (c : Bool) (d : Dev) : reg (gate c f d) r = reg d r := by
    cases c
    · rfl
    · exact hf d
  rw [raiseInt, kept (msixPf1 1) (fun _ => rfl), kept (msixPf1 0) (fun _ => rfl), kept (msixPf0 k) (fun _ => rfl), reg_setRb]
  split
  next h => rw [h]
  next => rfl

/-- A posting with the DMA running and room in the ring. -/
theorem postEvents_posts {d : Dev} {e : EvtRec} {l : List EvtRec} (hs : d.evt.staged = e :: l) (hsize : rf d .evtSize 4 0 ≤ 16)
    (hdma : evtDma d = true) (hroom : 0 < evtRoom d) :
    (postEvents d).evt.staged = (e :: l).drop (min (evtRoom d) (l.length + 1)) ∧ (postEvents d).evt.due = false ∧
    (postEvents d).evt.lost = false ∧
    rf (postEvents d) .evtProd 16 0 = (rf d .evtProd 16 0 + min (evtRoom d) (l.length + 1)) % (2 * evtEntries d) ∧
    rb (postEvents d) .glbIntStat 0 = true ∧ (postEvents d).evt.log = d.evt.log ∧ (postEvents d).evt.seq = d.evt.seq := by
  have entries : evtEntries d ≤ 2 ^ 16 := Nat.pow_le_pow_right (by decide) hsize
  have some_ : 0 < evtEntries d := Nat.two_pow_pos _
  have rest := ringWrite_rest (evtEntries d) d.evt.pass (evtRoom d) (rf d .evtProd 16 0) d.evt.lost (e :: l) d.evt.ring
  have prod := ringWrite_advances (evtEntries d) d.evt.pass (evtRoom d) (rf d .evtProd 16 0) d.evt.lost e l d.evt.ring some_ hroom
  have posted : postEvents d =
      (let w := ringWrite (evtEntries d) d.evt.pass (evtRoom d) (rf d .evtProd 16 0) d.evt.lost (e :: l) d.evt.ring
       raiseInt 0 (setRf .evtProd 16 0 w.2.1 { d with evt := { d.evt with
         ring := w.1, staged := w.2.2, lost := false, due := false, holdoff := !w.2.2.isEmpty } })) := by
    rw [postEvents, hs, if_neg (by simp), hdma, decide_eq_true hroom, if_pos (by decide)]
  rw [posted]
  dsimp only
  rw [prod, rest]
  have frame (x : Dev) : (raiseInt 0 x).evt = x.evt := by
    rw [(posts_raiseInt (l := [.glbIntStat]) List.mem_cons_self 0 x).frame]
  refine ⟨?_, by rw [frame]; rfl, by rw [frame]; rfl, ?_, ?_, by rw [frame]; rfl, by rw [frame]; rfl⟩
  · rw [frame]
    show (e :: l).drop (evtRoom d) = _
    rw [List.drop_eq_drop_min, List.length_cons]
  · rw [rf, reg_raiseInt, if_neg (by decide), reg_setRf, if_pos rfl, bits_putBits_same (by decide) (by decide)]
    refine Nat.mod_eq_of_lt (lt_of_lt_of_le (Nat.mod_lt _ (by omega)) ?_)
    omega
  · rw [rb, reg_raiseInt, if_pos rfl]
    exact bit_putBit_same _ _ _ (by decide)

/-! ### The endpoint (R92, R115, R117) -/

theorem startLink_idle {d : Dev} (hw : d.pin.warmRstN = false) (hk : d.boot.keptPcie = false) : startLink d = d := by
  have down : pcieUp d = false := by rw [pcieUp, hw, hk]; rfl
  rw [startLink, down, Bool.and_false, if_neg Bool.false_ne_true]

theorem startLink_trains {d : Dev} (hp : d.pin.perstN = true) (h4 : domReady d 4 = true)
    (hu : d.pin.warmRstN = true ∨ d.boot.keptPcie = true) :
    startLink d = { d with host := { d.host with training := true, trained := d.host.trained + 1 } } := by
  have up : pcieUp d = true := by rw [pcieUp, Bool.or_eq_true]; exact hu
  rw [startLink, hp, h4, up, if_pos (by decide)]

section Link

variable {d : Dev} (h4 : domReady d 4 = true) (ht : d.host.training = true)
include h4 ht

theorem pf0Flr_resets : pf0Flr d = setRf .evtProd 16 0 0 (setRf .evtCons 16 0 0 (setRf .pctrProd 8 0 0 (setRf .pctrCons 8 0 0
    (setRb .evtCtl 0 false (setRb .pctrCtl 0 false { d with
      host := { d.host with pf0 := {}, busMaster := false, d3hot := false }
      pctr := { d.pctr with writing := none } }))))) := by
  rw [pf0Flr, h4, ht, if_neg (by decide)]

theorem pf1Flr_resets : pf1Flr d = { d with host := { d.host with pf1 := {} } } := by
  rw [pf1Flr, h4, ht, if_pos (by decide)]

theorem pf0Pause_pauses (d3 : Bool) : pf0Pause d3 d =
    { d with host := if d3 then { d.host with d3hot := true } else { d.host with busMaster := false } } := by
  rw [pf0Pause, h4, ht, if_neg (by decide)]

theorem pf0Resume_sends : pf0Resume d =
    each (List.range 16) (sendPending false) { d with host := { d.host with d3hot := false, busMaster := true } } := by
  rw [pf0Resume, h4, ht, if_neg (by decide)]

end Link

theorem holdoffEnd_posts {d : Dev} (h4 : domReady d 4 = true) (hh : d.evt.holdoff = true) : holdoffEnd d = postEvents d := by
  rw [holdoffEnd, hh, h4, if_pos (by decide)]

theorem postOnRoom_posts {d : Dev} (h4 : domReady d 4 = true) (hd : d.evt.due = true) (hdma : evtDma d = true) (hr : 0 < evtRoom d) :
    postOnRoom d = postEvents d := by
  rw [postOnRoom, hd, h4, hdma, decide_eq_true hr, if_pos (by decide)]

theorem postEvents_holds {d : Dev} {e : EvtRec} {l : List EvtRec} (hs : d.evt.staged = e :: l) (hdma : evtDma d = false) :
    postEvents d = { d with evt := { d.evt with due := true } } := by
  have full : d.evt.staged.isEmpty = false := by rw [hs]; rfl
  rw [postEvents, full, if_neg Bool.false_ne_true, hdma, if_neg (by simp)]

/-- Settles O26. -/
theorem thePcieEndpointAndItsEvents : Obligations.ThePcieEndpointAndItsEvents := by
  unfold Obligations.ThePcieEndpointAndItsEvents
  refine ⟨fun s => ⟨rfl, rfl, ?trains, ?noLink, ?link⟩, fun s e l on h4 hs hsize => ⟨?held, ?posted⟩⟩
  case trains => exact fun on hp h4 hu => runDev_ends (exec_pcieLinkTrainingStart s) on rfl (startLink_trains hp h4 hu)
  case noLink => exact fun on hw hk => runDev_ends (exec_pcieLinkTrainingStart s) on rfl (startLink_idle hw hk)
  case link =>
    exact fun on h4 ht => ⟨runDev_ends (exec_pf0Flr s) on rfl (pf0Flr_resets h4 ht),
      runDev_ends (exec_pf1Flr s) on rfl (pf1Flr_resets h4 ht),
      runDev_ends (exec_pf0D3hotEntry true s) on rfl (pf0Pause_pauses h4 ht true),
      runDev_ends (exec_pf0D3hotEntry false s) on rfl (pf0Pause_pauses h4 ht false),
      runDev_ends (exec_pf0DmaResume s) on rfl (pf0Resume_sends h4 ht)⟩
  case held =>
    exact fun hh hdma => runDev_ends (exec_evtHoldoffExpiry s) on rfl ((holdoffEnd_posts h4 hh).trans (postEvents_holds hs hdma))
  case posted =>
    intro c hc hdma hr
    refine ⟨postEvents s.dev, ?_, postEvents_posts hs hsize hdma hr⟩
    rcases hc with ⟨rfl, hh⟩ | ⟨rfl, hd⟩
    · exact runDev_ends (exec_evtHoldoffExpiry s) on rfl (holdoffEnd_posts h4 hh)
    · exact runDev_ends (exec_evtPostOnRoom s) on rfl (postOnRoom_posts h4 hd hdma hr)

end Sys2Proof.Proofs
end

section
/-! SUPPORT. Start-up: rails, the ROM, Thino and the restart of the control processor. -/

namespace Sys2Proof.Proofs

open Sys2Proof.Machine Sys2Proof.Laws Sys2Proof.Spec

theorem rawSys_endsDev {c : Instr} {s : State} {f : Sys → Sys} {ok : Bool} {d : Dev} (h : Machine.exec c s = rawSys ok f s)
    (hok : ok = true) (hx : f s.sys = { dev := d, mem := s.mem }) : Ends c s d := rawSys_ends h hok hx

theorem runSys_settlesThenReset {c : Instr} {s : State} {f : Dev → Dev} {ok : Bool} {d : Dev}
    (h : Machine.exec c s = runSys ok (fun s => afterGasp (onDev (fun d => refresh (f d)) s)) s) (on : On s) (hok : ok = true)
    (hd : f s.dev = d) : SettlesThenReset c s d := by
  subst hd
  exact runSys_ends h on hok rfl

/-! ### Rails (R76, R90) -/

theorem railNext_raises {d : Dev} (hpor : d.pin.porN = true) (h1 : 4 < d.boot.rail) (h2 : d.boot.rail < 8)
    (hpg : d.pin.pseqPg.getLsbD (d.boot.rail - 1) = true) (hon : railOn d (d.boot.rail - 1) = true) (hrom : d.boot.rom = false) :
    railNext d = setRail d.boot.rail true { d with boot := { d.boot with rail := d.boot.rail + 1 } } := by
  rw [railNext, if_pos ⟨h1, h2, hpor, hpg, hon⟩]
  exact congrArg (fun b => gate b (setStage 2) _) hrom

theorem gate_idle {σ : Type} {b : Bool} (h : b = false) (f : σ → σ) (x : σ) : gate b f x = x := by rw [h, gate_false]

/-- A common rail has stayed low. -/
def startFails (e : Dev) : Dev := askPowerCycle (setBootCause 5 (setStage 0xF { e with
  pin := { e.pin with pseqEn := 0 }
  pwr := { e.pwr with doms := [(0, { st := .ready })] }
  boot := { e.boot with rom := false, thino := false } }))

section Timeout

variable {k : Nat} {d : Dev} (hon : railOn d k = true) (hpg : d.pin.pseqPg.getLsbD k = false)
include hon hpg

theorem rail_waits (hk : k < 8) : ¬ (8 ≤ k ∨ (!railOn d k) = true ∨ d.pin.pseqPg.getLsbD k = true) := by
  rw [hon, hpg]
  simpa using hk

theorem railTimeout_common (h4 : 4 ≤ k) (h8 : k < 8) (hg : d.pwr.gaspBusy = false) :
    railTimeout k d = startFails (evtPwr 0x0109 k (be 1 1) d) := by
  have idle : (evtPwr 0x0109 k (be 1 1) d).pwr.gaspBusy = false := by
    rw [evtPwr, (postEvt_records _ _ _ _ _ d).pwr, hg]
  rw [railTimeout, if_neg (rail_waits hon hpg h8)]
  dsimp only
  rw [if_neg (by omega)]
  rw [gate_idle idle, startFails]

theorem railTimeout_slice (hk : k < 4) : railTimeout k d =
    each [6 + k, 10 + k, 14 + k] (fun n d => gate (dom d n).waitRail (faultDomain n 4) d) (evtPwr 0x0109 k (be 1 1) d) := by
  rw [railTimeout, if_neg (rail_waits hon hpg (by omega))]
  dsimp only
  rw [if_pos hk, railDoms, if_pos hk]

end Timeout

theorem pgRise_slice {k : Nat} {d : Dev} (hk : k < 4) (h2 : 2 < rf d .glbBootStat 3 0) :
    pgRise k d = each [6 + k, 10 + k, 14 + k] (fun n => modDom n fun x => { x with waitRail := false }) (pgHigh k d) := by
  have raised : railUp k d = each [6 + k, 10 + k, 14 + k] (fun n => modDom n fun x => { x with waitRail := false }) (pgHigh k d) := by
    rw [railUp, if_neg (by omega)]
    dsimp only
    rw [if_pos hk, railDoms, if_pos hk]
  have late : ¬ rf (railUp k d) .glbBootStat 3 0 ≤ 2 := by
    rw [raised]
    exact Nat.not_le.mpr h2
  rw [pgRise, decide_eq_false late, Bool.and_false, Bool.false_and, Bool.false_and, gate_false, gate_false, raised]

theorem pgRise_common {d x : Dev} (h2 : rf d .glbBootStat 3 0 ≤ 2) (hx : x = requestWake 3 2 (requestWake 3 1 (pgHigh 4 d))) :
    pgRise 4 d = if railsUp x = true ∧ domAwake x 4 = false then requestWake 3 4 x else x := by
  have early : rf (railUp 4 d) .glbBootStat 3 0 ≤ 2 := h2
  subst hx
  rw [pgRise, decide_eq_true early, Bool.and_true, Bool.true_and, beq_self_eq_true, gate_true, show railUp 4 d = pgHigh 4 d from rfl, gate]
  simp only [Bool.and_eq_true, Bool.not_eq_true']

/-! ### The ROM (R94, R96, R97) -/

/-- The device once the ROM has read its fuses. -/
def scanned (w : Dev) : Dev := setRf .glbBootStat 9 8 (attempts w) (burnFuses (newNonce (setStage 3 w)))

section Rom

variable {s : Sys} {w : Dev} (hw : wakeNvm s.dev = w)
include hw

theorem romBoot_steps (hrom : s.dev.boot.rom = true) (hcpu : s.dev.boot.cpuRestart = none) (h1 : domReady s.dev 1 = true)
    (hr : railsUp s.dev = true) (hst : rf s.dev .glbBootStat 3 0 ≤ 2) : romBoot s = bootSteps { s with dev := w } := by
  subst hw
  rw [romBoot, hrom, hcpu, h1, hr, decide_eq_false (Nat.not_lt.mpr hst), if_neg (by decide)]
  rfl

omit hw in
theorem bootSteps_strap (h2 : domReady w 2 = true) (hs : rb w .glbStrap 5 = true) :
    bootSteps { s with dev := w } = { s with dev := enterRecovery 1 (scanned w) } := by
  rw [bootSteps]
  dsimp only
  rw [h2, if_neg (by decide), hs, if_pos rfl]
  rfl

omit hw in
theorem bootSteps_asked (h2 : domReady w 2 = true) (hs : rb w .glbStrap 5 = false) (hr : w.boot.recover = true) :
    bootSteps { s with dev := w } = { s with dev := enterRecovery 4 (scanned w) } := by
  rw [bootSteps]
  dsimp only
  rw [h2, if_neg (by decide), hs, if_neg (by decide), hr, if_pos rfl]
  rfl

omit hw in
theorem bootSteps_goesOn (h2 : domReady w 2 = true) (hs : rb w .glbStrap 5 = false) (hr : w.boot.recover = false)
    (ha : attempts w ≠ 3 ∨ w.boot.step3 = true) :
    bootSteps { s with dev := w } = bootVerify (bootActivate { s with dev := scanned w }) := by
  have few : (decide (attempts w = 3) && !w.boot.step3) = false := by
    rcases ha with h | h
    · rw [decide_eq_false h, Bool.false_and]
    · rw [h, Bool.not_true, Bool.and_false]
  rw [bootSteps]
  dsimp only
  rw [h2, if_neg (by decide), hs, if_neg (by decide), hr, if_neg (by decide), few, if_neg (by decide)]
  rfl

omit hw in
theorem bootActivate_idle (h : nvmWritable s.dev = false ∨ (activationOpen s.dev = false ∧ s.dev.nvm.staged = none)) :
    bootActivate s = s := by
  rw [bootActivate]
  cases hn : nvmWritable s.dev
  · rfl
  · obtain ⟨ho, hs⟩ := h.resolve_left (by rw [hn]; decide)
    rw [ho, hs]
    rfl

omit hw in
theorem bootVerify_passes {ms : Nat} {man : Bytes} (ha : s.dev.nvm.active = some (ms, man)) (hv : verify s.mem s.dev man = 0) :
    bootVerify s = onDev (fun d => postVerify ms 1 0 (setStage 3 d)) s := by
  rw [bootVerify, ha]
  dsimp only
  rw [hv, if_pos rfl]

/-- The active image is verified where nothing is to be activated first. -/
theorem romBoot_verifies (hrom : s.dev.boot.rom = true) (hcpu : s.dev.boot.cpuRestart = none) (h1 : domReady s.dev 1 = true)
    (hr : railsUp s.dev = true) (hst : rf s.dev .glbBootStat 3 0 ≤ 2) (h2 : domReady w 2 = true) (hs : rb w .glbStrap 5 = false)
    (hrec : w.boot.recover = false) (ha : attempts w ≠ 3 ∨ w.boot.step3 = true)
    (hidle : nvmWritable (scanned w) = false ∨ (activationOpen (scanned w) = false ∧ (scanned w).nvm.staged = none))
    {ms : Nat} {man : Bytes} (hact : (scanned w).nvm.active = some (ms, man)) (hver : verify s.mem (scanned w) man = 0) :
    romBoot s = { s with dev := postVerify ms 1 0 (setStage 3 (scanned w)) } := by
  rw [romBoot_steps hw hrom hcpu h1 hr hst, bootSteps_goesOn h2 hs hrec ha,
    bootActivate_idle (s := { s with dev := scanned w }) hidle,
    bootVerify_passes (s := { s with dev := scanned w }) hact hver]
  rfl

end Rom

/-! ### Thino (R94, R98, R103) -/

theorem bootReady_posts {d : Dev} (hb : d.boot.bootWdt = true) (ht : d.boot.thino = true) (hid : d.prov.doneId ≠ 0)
    (hp : ∀ e ∈ d.prov.pend, e.restore = false) :
    bootReady d = (let e := setStage 7 (setAttempts 0 { d with boot := { d.boot with bootWdt := false } })
      evtGlb 0x0001 0 (be 4 (mfVersion (activeMan e)) ++ be 2 (rf e .glbRstCause 8 0) ++ be 2 e.boot.restoreId) e) := by
  have none_ : d.prov.pend.any (·.restore) = false := List.any_eq_false.mpr fun e he => by rw [hp e he]; decide
  rw [bootReady, hb, ht, none_, decide_eq_false hid, if_neg (by decide)]

theorem thinoStart_starts {s : Sys} {c : Dev} (hrom : s.dev.boot.rom = true) (hcpu : s.dev.boot.cpuRestart = none)
    (h1 : domReady s.dev 1 = true) (hst : rf s.dev .glbBootStat 3 0 = 3)
    (hc : c = if s.dev.boot.counted then s.dev else setAttempts (min 3 (attempts s.dev + 1)) s.dev) :
    thinoStart s = { s with dev := (
      let b := wakeNvm (setStage 5 { c with boot := { c.boot with
        bootWdt := true, rom := false, thino := true, exposed := true, hbAt := now c, counted := false, warm := false } })
      setStage 6 (mateStart (reportGasp (commitRestored (restoreSettings (if domReady b 2 then extendLtab s.mem b else b)))))) } := by
  subst hc
  rw [thinoStart, hrom, hcpu, h1, hst, if_neg (by decide)]
  rfl

theorem cpuRestartDone_restarts {s : Sys} {w : Dev} {cause : Nat} (hw : wakeNvm s.dev = w) (hc : s.dev.boot.cpuRestart = some cause)
    (h1 : domReady s.dev 1 = true) (hr : reloadFails s.dev 1 = false) (hs : w.nvm.staged = none) (hm : w.mbx.mir = [])
    (hf : w.asst.frozen = []) (hp : w.prov.parts = []) :
    cpuRestartDone s = { s with dev := evtGlb 0x0004 cause (zeros 36 ++ be 1 (decide (w.prov.shadow ≠ w.prov.serv)).toNat) { w with
        boot := { w.boot with thino := true, rom := false, exposed := true, cpuRestart := none, hbAt := now w }
        prov := { w.prov with shadow := w.prov.serv } } } := by
  have activated : restartActivate s = { s with dev := w } := by
    subst hw
    rw [restartActivate]
    dsimp only [onDev]
    rw [hs]
  have counts : ((List.range 9).flatMap fun k => be 4 (frozenOf w (k + 1)).length) = zeros 36 := by
    simp only [frozenOf, hf]
    rfl
  have mbx : { w.mbx with mir := w.mbx.mir.filter fun m => decide (now w < m.x) } = w.mbx := by rw [hm, List.filter_nil, ← hm]
  have prov : { w.prov with shadow := w.prov.serv, parts := [] } = { w.prov with shadow := w.prov.serv } := by rw [← hp]
  have parts : w.prov.parts.isEmpty = true := by rw [hp]; rfl
  rw [cpuRestartDone, hc]
  dsimp only
  rw [h1, if_neg (by decide), hr, if_neg (by decide), activated]
  dsimp only [onDev]
  rw [counts, mbx, prov, hm, parts, List.any_nil, Bool.not_true, Bool.or_false, Bool.false_and, Bool.false_and, gate_false]

/-- Settles O29. -/
theorem theDeviceBoots : Obligations.TheDeviceBoots := by
  unfold Obligations.TheDeviceBoots
  intro s on
  have por := porN_of_on on
  refine ⟨?next, ?common, ?slice, ?pgSlice, ?pgCommon, ?rom, ?thino, ?ready, ?restart⟩
  case next => exact fun h1 h2 hpg hon hrom => runDev_ends (exec_commonRailEnable s) on rfl (railNext_raises por h1 h2 hpg hon hrom)
  case common =>
    exact fun k h4 h8 hon hpg hg => runSys_settlesThenReset (exec_railPgTimeout k s) on (decide_eq_true h8)
      (railTimeout_common hon hpg h4 h8 hg)
  case slice =>
    exact fun k hk hon hpg => runSys_settlesThenReset (exec_railPgTimeout k s) on (decide_eq_true (show k < 8 by omega))
      (railTimeout_slice hon hpg hk)
  case pgSlice =>
    intro k hk h2
    refine rawSys_endsDev (exec_pseqPgRise k s) (decide_eq_true (show k < 8 by omega)) ?_
    rw [if_pos (show powered s.sys.dev = true from on)]
    exact congrArg (fun d : Dev => ({ dev := d, mem := s.mem } : Sys)) (pgRise_slice hk h2)
  case pgCommon =>
    intro x h2 hx
    refine rawSys_endsDev (exec_pseqPgRise 4 s) rfl ?_
    rw [if_pos (show powered s.sys.dev = true from on)]
    exact congrArg (fun d : Dev => ({ dev := d, mem := s.mem } : Sys)) (pgRise_common h2 hx)
  case rom =>
    intro hrom hcpu h1 hr hst h2
    have steps := romBoot_steps (s := s.sys) rfl hrom hcpu h1 hr hst
    refine ⟨fun hs => ?_, fun hs hrec => ?_, fun ms man hs hrec ha hidle hact hver => ?_⟩
    · exact runSys_endsDev (exec_romBoot s) on rfl (steps.trans (bootSteps_strap h2 hs))
    · exact runSys_endsDev (exec_romBoot s) on rfl (steps.trans (bootSteps_asked h2 hs hrec))
    · exact runSys_endsDev (exec_romBoot s) on rfl
        (romBoot_verifies (s := s.sys) rfl hrom hcpu h1 hr hst h2 hs hrec ha hidle hact hver)
  case thino =>
    exact fun c hrom hcpu h1 hst hc => runSys_settlesDev (exec_thinoStart s) on (thinoStart_starts hrom hcpu h1 hst hc)
  case ready => exact fun hb ht hid hp => runDev_ends (exec_bootReady s) on rfl (bootReady_posts hb ht hid hp)
  case restart =>
    exact fun cause hc h1 hr hs hm hf hp =>
      runSys_settlesDev (exec_cpuRestartDone s) on (cpuRestartDone_restarts (s := s.sys) rfl hc h1 hr hs hm hf hp)

end Sys2Proof.Proofs
end

section
/-! SUPPORT. Power fail, the handling of errors, and the end of JTAG's time. -/

namespace Sys2Proof.Proofs

open Sys2Proof.Machine Sys2Proof.Laws Sys2Proof.Spec

theorem rawDev_settles {c : Instr} {s : State} {f : Dev → Dev} {ok : Bool} {d : Dev}
    (h : Machine.exec c s = rawDev ok (fun d => gate (powered d) refresh (f d)) s) (on : On s) (hok : ok = true) (hd : f s.dev = d) :
    Settles c s d := by
  subst hd
  have effect : gate (powered s.dev) refresh (f s.dev) = refresh (f s.dev) := by rw [on, gate_true]
  rw [Settles, ← effect]
  exact rawSys_endsDev h hok rfl

/-! ### PFW_N (R84 to R87, R548) -/

/-- The freeze of R84 shown. -/
def frozen (d : Dev) : Dev := updFrozen (setRb .pwrPfwStat 2 true (setRb .pwrPfwStat 3 false (setRb .pwrPfwStat 1 true
  { d with pin := { d.pin with pfwN := false }, pwr := { d.pwr with liftRun := false } })))

theorem clearedPend_of_nil {d : Dev} (h : d.prov.pend = []) : { d with prov := { d.prov with pend := [] } } = d := by rw [← h]

theorem spoilStore_none {d : Dev} (st : Nat) (h : d.nvm.store = none) : spoilStore st d = d := by
  rw [spoilStore, h, Option.map_none, ← h]

theorem rszStop_idle {p reason : Nat} {d : Dev} (h : (rz d p).st = 0) : rszStop p reason d = d := by
  rw [rszStop, h]
  split
  · rfl
  · simp

theorem rszStops_idle {reason : Nat} {d : Dev} (h : ∀ p, p < 4 → (rz d p).st = 0) : each [0, 1, 2, 3] (fun p => rszStop p reason) d = d := by
  rw [each_cons, rszStop_idle (h 0 (by decide)), each_cons, rszStop_idle (h 1 (by decide)), each_cons, rszStop_idle (h 2 (by decide)),
    each_cons, rszStop_idle (h 3 (by decide)), each_nil]

theorem isPfwFrozen_seen (d : Dev) : isPfwFrozen (setRb .pwrPfwStat 1 true d) = isPfwFrozen d := by
  rw [isPfwFrozen, rb, reg_setRb, if_pos rfl]
  exact bit_putBit_ne _ _ (by decide)

/-- What the freeze does where nothing is pending, stored, paired or resized. -/
theorem pfwFall_quiet {ns : Nat} {d : Dev} (on : powered d = true) (hp : d.pin.pfwN = true) (hf : isPfwFrozen d = false)
    (hpend : d.prov.pend = []) (hstore : d.nvm.store = none) (hmate : d.mate.st = 0) (hrz : ∀ p, p < 4 → (rz d p).st = 0) :
    pfwFall ns d =
      (let w := requestWake 3 2 { frozen d with pwr := { (frozen d).pwr with frozenAt := now d, gaspBusy := true } }
       markLeaving (raiseInt 11 (evtPwr 0x0106 0 (be 4 ns ++ [0]) (senseRead { w with
        nvm := { w.nvm with gaspNext := some (gaspBytes w false false), gasp := if nvmWritable w then none else w.nvm.gasp } })))) := by
  have running : (!d.pin.porN || d.pin.brownout) = false := by simpa [powered] using on
  have seen : isPfwFrozen (setRb .pwrPfwStat 1 true
      { d with pin := { d.pin with pfwN := false }, pwr := { d.pwr with liftRun := false } }) = false := (isPfwFrozen_seen _).trans hf
  have hand : (inStep (frozen d) && (frozen d).mate.active && rb (frozen d) .pwrPfwCtl 0 && !(frozen d).mate.matePfw) = false := by
    have apart : inStep (frozen d) = false := by
      show (d.mate.st == 4) = false
      rw [hmate]; rfl
    rw [apart]; rfl
  rw [pfwFall, hp, if_neg (by decide), running, if_neg (by decide)]
  dsimp only
  rw [seen, if_neg (by decide), ← frozen, show (frozen d).prov.pend = [] from hpend, List.foldl_nil, List.isEmpty_nil, Bool.not_true,
    gate_false, clearedPend_of_nil (show (frozen d).prov.pend = [] from hpend), spoilStore_none 9 (show (frozen d).nvm.store = none from hstore),
    hand, gate_false, rszStops_idle (show ∀ p, p < 4 → (rz (frozen d) p).st = 0 from hrz)]
  rw [show (frozen d).nvm.store = none from hstore]
  rfl

theorem gaspWritten_stands {d : Dev} {b : Bytes} (h : d.nvm.gaspNext = some b) (hn : nvmWritable d = true) :
    gaspWritten d = setRb .pwrPfwStat 3 true { d with
      pwr := { d.pwr with gaspBusy := false }
      nvm := { d.nvm with gaspNext := none, gasp := some { state := 1, bytes := b } } } := by
  rw [gaspWritten, h]
  exact if_pos hn

theorem gaspDone_alone {s : Sys} (h : (gaspWritten s.dev).pwr.warmDeferred = none) : gaspDone s = onDev gaspWritten s := by
  rw [gaspDone, afterGasp, show (onDev gaspWritten s).dev.pwr.warmDeferred = none from h]

theorem pfwLift_lifts {d x : Dev} (hp : d.pin.pfwN = true) (hf : isPfwFrozen d = true) (hl : d.pwr.liftRun = true)
    (hg : d.pwr.gaspBusy = false) (hr : ∀ k, k < 8 → railOn d k = true → d.pin.pseqPg.getLsbD k = true)
    (hx : x = updFrozen (setRb .pwrPfwStat 2 false { d with pwr := { d.pwr with liftRun := false } })) :
    pfwLift d = evtPwr 0x0107 0 (be 6 d.pwr.frozenAt) (if gaspValid x then nvmWrite supersede x else x) := by
  have good : ((List.range 8).all fun k => !railOn d k || d.pin.pseqPg.getLsbD k) = true := by
    rw [List.all_eq_true]
    intro k hk
    cases hon : railOn d k
    · rfl
    · rw [hr k (List.mem_range.mp hk) hon, Bool.or_true]
  have lift : (!d.pin.pfwN || !isPfwFrozen d || !d.pwr.liftRun || !true) = false := by rw [hp, hf, hl]; rfl
  subst hx
  rw [pfwLift, good, lift, if_neg Bool.false_ne_true, hg, gate_false]
  rfl

/-! ### Errors (R107, R108, R110, R149) -/

theorem handleNext_takes {s : Sys} (h : ∀ e ∈ s.dev.err.queue, e.st ≠ 1) : handleNext s = onDev takeErr s := by
  have none_ : (s.dev.err.queue.find? fun e => e.st == 1) = none :=
    List.find?_eq_none.mpr fun e he => by simpa using h e he
  rw [handleNext, none_]

theorem handleNext_suspends {s : Sys} {e : ErrRec} (h : (s.dev.err.queue.find? fun e => e.st == 1) = some e)
    (hm : e.sev < maxSev s.dev.err.queue) : handleNext s = onDev takeErr s := by
  rw [handleNext, h]
  exact if_neg (Nat.not_le.mpr hm)

theorem handleNext_completes {s : Sys} {e : ErrRec} (h : (s.dev.err.queue.find? fun e => e.st == 1) = some e)
    (hm : maxSev s.dev.err.queue ≤ e.sev) (ha : autoReinit e s.dev = none) :
    handleNext s = onDev takeErr (onDev (fun d => postErr { e with st := 3 } { d with err := { d.err with queue := d.err.queue.erase e } }) s) := by
  have again : autoReinit e { s.dev with err := { s.dev.err with queue := s.dev.err.queue.erase e } } = none := ha
  have finished : finishErr e s =
      onDev (fun d => postErr { e with st := 3 } { d with err := { d.err with queue := d.err.queue.erase e } }) s := by
    rw [finishErr, ha]
    dsimp only [onDev]
    rw [handleErr]
    dsimp only
    rw [again]
  rw [handleNext, h, ← finished]
  exact if_pos hm

theorem errHandle_thino {s : Sys} {x : Sys} (ht : s.dev.boot.thino = true) (hx : handleNext s = x) : errHandle s = onDev detect x := by
  rw [errHandle, ht, if_pos rfl, hx]

theorem errHandle_rom {s : Sys} (ht : s.dev.boot.thino = false) : errHandle s = onDev detect s := by
  rw [errHandle, ht, if_neg Bool.false_ne_true]

theorem engineErr_fatal {ty i k : Nat} (ht : ty < 65536) (hi : i < 256) (hk : k < 65536) (d : Dev) :
    engineErr (.engineFatal ty i k) d = enterFatal (raiseErr 4 ty i 0x63 k 0 d) := by
  have src : (ty % 65536 * 256 + i % 256) / 256 = ty := by omega
  have inst : (ty % 65536 * 256 + i % 256) % 256 = i := by omega
  show enterFatal (raiseErr 4 ((ty % 65536 * 256 + i % 256) / 256) ((ty % 65536 * 256 + i % 256) % 256) 0x63 (k % 65536) 0 d) = _
  rw [src, inst, Nat.mod_eq_of_lt hk]

theorem engineErr_xc {c : Nat} (hc : c < 1024) (d : Dev) : engineErr (.xcParity c) d = enterFatal (raiseErr 4 0xB 0 0x62 c 0 d) := by
  show enterFatal (raiseErr 4 (0x0B00 / 256) (0x0B00 % 256) 0x62 (c % 65536) 0 d) = _
  rw [Nat.mod_eq_of_lt (show c < 65536 by omega)]

theorem engineErr_mram {n : Nat} (h : n ≠ 0) (d : Dev) :
    engineErr (.mramCorr n) d = raiseErr 1 7 0 0x40 (min n 65535) 0 (setRb .nvmErr 2 true (satCtr .nvmCorrCnt 31 0 n d)) := by
  rw [engineErr, if_neg h]
  show raiseErr 1 (0x0700 / 256) (0x0700 % 256) 0x40 (min n 65535) 0 _ = _
  rw [show 0x0700 / 256 = 7 from rfl, show 0x0700 % 256 = 0 from rfl]

/-! ### JTAG (R562) -/

theorem jtagExpiry_locks {d : Dev} {e : Nat} (hl : d.nvm.jtagLeft = some e) (h0 : e ≠ 0) (hn : e ≤ now d) (hd : d.nvm.jtagDebug = false) :
    jtagExpiry d = evtNvm 0x0C08 0 (be 1 0 ++ be 1 0) (setRb .glbStat 3 false
      (modNvm (fun m => { m with jtagLeft := none, jtagDebug := false, jtagBscan := false }) d)) := by
  have open_ : d.nvm.jtagLeft.isNone = false := by rw [hl]; rfl
  rw [jtagExpiry, hl]
  dsimp only
  rw [if_pos ⟨h0, hn⟩, jtagLock, open_, if_neg Bool.false_ne_true, hd, gate_false]
  rfl

/-- Settles O30. -/
theorem powerFailErrorsAndJtagExpiry : Obligations.PowerFailErrorsAndJtagExpiry := by
  unfold Obligations.PowerFailErrorsAndJtagExpiry
  intro s on
  refine ⟨?fall, ?written, rfl, ?lift, ?takes, ?handles, ?rom, fun n h => engineErr_mram h s.dev, rfl, rfl,
    fun c hc => engineErr_xc hc s.dev, fun ty i k ht hi hk => engineErr_fatal ht hi hk s.dev, ?jtag⟩
  case fall =>
    intro ns hns hp hf hpend hstore hmate hrz
    exact rawDev_settles (exec_pfwNFall ns s) on (decide_eq_true hns) (pfwFall_quiet on hp hf hpend hstore hmate hrz)
  case written =>
    intro b hb hw hn
    have stands := gaspWritten_stands hb hn
    have alone : gaspDone s.sys = onDev gaspWritten s.sys := gaspDone_alone (by rw [show s.sys.dev = s.dev from rfl, stands]; exact hw)
    exact runSys_settlesDev (exec_lastGaspWritten s) on
      (alone.trans (congrArg (fun d : Dev => ({ dev := d, mem := s.mem } : Sys)) stands))
  case lift =>
    intro x hp hf hl hg hr hx
    exact runSys_ends (exec_pfwLift s) on rfl
      (congrArg (fun d : Dev => afterGasp { dev := d, mem := s.mem }) (pfwLift_lifts hp hf hl hg hr hx))
  case takes => exact fun ht h => runSys_settlesDev (exec_errHandle s) on (errHandle_thino (s := s.sys) ht (handleNext_takes h))
  case handles =>
    exact fun e ht he =>
      ⟨fun hm ha => runSys_settlesDev (exec_errHandle s) on (errHandle_thino (s := s.sys) ht (handleNext_completes he hm ha)),
        fun hm => runSys_settlesDev (exec_errHandle s) on (errHandle_thino (s := s.sys) ht (handleNext_suspends he hm))⟩
  case rom => exact fun ht => runSys_settlesDev (exec_errHandle s) on (errHandle_rom (s := s.sys) ht)
  case jtag => exact fun e hl h0 hn hd => runDev_ends (exec_jtagExpiry s) on rfl (jtagExpiry_locks hl h0 hn hd)

end Sys2Proof.Proofs
end

section
/-! SUPPORT. Rails and faults of domains. -/

namespace Sys2Proof.Proofs

open Sys2Proof.Machine Sys2Proof.Laws Sys2Proof.Spec

/-! ### What leaves GLB_STAT.FATAL as it is (R110) -/

theorem isFatal_setReg {r : Reg} (h : r ≠ .glbStat) (w : Word) (d : Dev) : isFatal (setReg r w d) = isFatal d := by
  rw [isFatal, rb, reg_setReg, if_neg (Ne.symm h)]
  rfl

theorem isFatal_setRf {r : Reg} (h : r ≠ .glbStat) (hi lo v : Nat) (d : Dev) : isFatal (setRf r hi lo v d) = isFatal d :=
  isFatal_setReg h _ d

theorem isFatal_setRb {r : Reg} (h : r ≠ .glbStat) (i : Nat) (v : Bool) (d : Dev) : isFatal (setRb r i v d) = isFatal d :=
  isFatal_setReg h _ d

theorem isFatal_satCtr {r : Reg} (h : r ≠ .glbStat) (hi lo n : Nat) (d : Dev) : isFatal (satCtr r hi lo n d) = isFatal d :=
  isFatal_setReg h _ d

/-- Another bit of GLB_STAT. -/
theorem isFatal_setStat {i : Nat} (h : 0 ≠ i) (v : Bool) (d : Dev) : isFatal (setRb .glbStat i v d) = isFatal d := by
  rw [isFatal, rb, reg_setRb, if_pos rfl]
  exact bit_putBit_ne _ _ h

theorem isFatal_of_regs {d e : Dev} (hf : e.fuse = d.fuse) (hr : e.regs = d.regs) : isFatal e = isFatal d := by
  rw [isFatal, rb, reg, hf, hr]
  rfl

theorem isFatal_gate {f : Dev → Dev} (h : ∀ d, isFatal (f d) = isFatal d) (c : Bool) (d : Dev) : isFatal (gate c f d) = isFatal d := by
  cases c
  · rfl
  · exact h d

theorem isFatal_each {f : Nat → Dev → Dev} (h : ∀ k d, isFatal (f k d) = isFatal d) (l : List Nat) (d : Dev) :
    isFatal (each l f d) = isFatal d := by
  induction l generalizing d with
  | nil => rfl
  | cons k l ih => exact (ih (f k d)).trans (h k d)

theorem isFatal_raiseInt (k : Nat) (d : Dev) : isFatal (raiseInt k d) = isFatal d := by
  rw [isFatal, rb, reg_raiseInt, if_neg (by decide)]
  rfl

theorem isFatal_postEvents (d : Dev) : isFatal (postEvents d) = isFatal d := by
  rw [postEvents]
  split
  · rfl
  split
  · dsimp only
    rw [isFatal_raiseInt, isFatal_setRf (by decide)]
    rfl
  · rfl

theorem isFatal_stageEvt (e : EvtRec) (d : Dev) : isFatal (stageEvt e d) = isFatal d := by
  rw [stageEvt]
  split
  · rfl
  split
  · rw [isFatal_satCtr (by decide), isFatal_setRb (by decide)]
    rfl
  · dsimp only
    rw [isFatal_gate isFatal_postEvents]
    rfl

theorem isFatal_postEvt (ty src inst obj : Nat) (detail : Bytes) (d : Dev) : isFatal (postEvt ty src inst obj detail d) = isFatal d := by
  rw [postEvt, postEvtAs, isFatal_stageEvt]
  rfl

theorem isFatal_evtPwr (ty obj : Nat) (detail : Bytes) (d : Dev) : isFatal (evtPwr ty obj detail d) = isFatal d :=
  isFatal_postEvt _ _ _ _ _ d

theorem isFatal_evtMate (ty obj : Nat) (detail : Bytes) (d : Dev) : isFatal (evtMate ty obj detail d) = isFatal d := by
  rw [evtMate, isFatal_raiseInt, isFatal_postEvt]

theorem isFatal_modDom (n : Nat) (f : Dom → Dom) (d : Dev) : isFatal (modDom n f d) = isFatal d := rfl
theorem isFatal_modMate (f : MateSt → MateSt) (d : Dev) : isFatal (modMate f d) = isFatal d := rfl
theorem isFatal_modRz (p : Nat) (f : Rsz → Rsz) (d : Dev) : isFatal (modRz p f d) = isFatal d := rfl
theorem isFatal_modDp (i : Nat) (f : Dpll → Dpll) (d : Dev) : isFatal (modDp i f d) = isFatal d := rfl
theorem isFatal_stepFree (d : Dev) : isFatal (stepFree d) = isFatal d := rfl
theorem isFatal_setRail (k : Nat) (v : Bool) (d : Dev) : isFatal (setRail k v d) = isFatal d := rfl

theorem isFatal_markLeaving (d : Dev) : isFatal (markLeaving d) = isFatal d := by
  rw [markLeaving, isFatal_each fun _ _ => isFatal_modDom _ _ _]

theorem isFatal_admitDom (rank n : Nat) (d : Dev) : isFatal (admitDom rank n d) = isFatal d := by
  rw [admitDom]
  split
  · exact isFatal_modDom _ _ _
  · dsimp only
    rw [isFatal_modDom, isFatal_gate (isFatal_setRail _ _)]

theorem isFatal_decide1 (exempt : Bool) (rank n : Nat) (d : Dev) : isFatal (decide1 exempt rank n d) = isFatal d := by
  rw [decide1]
  split
  · rfl
  split
  · dsimp only
    rw [isFatal_gate (isFatal_evtPwr _ _ _), isFatal_each (isFatal_admitDom _)]
  · dsimp only
    rw [isFatal_gate (fun d => (isFatal_raiseInt 11 _).trans (isFatal_evtPwr _ _ _ d)),
      isFatal_each fun _ _ => isFatal_modDom _ _ _]

theorem isFatal_reevaluate (d : Dev) : isFatal (reevaluate d) = isFatal d := by
  rw [reevaluate, isFatal_each fun rank d => ?_]
  rw [isFatal_each fun n d => ?_]
  split
  · exact isFatal_decide1 _ _ _ d
  · rfl

theorem isFatal_showRz (p : Nat) (d : Dev) : isFatal (showRz p d) = isFatal d := by
  simp only [showRz, isFatal_setReg, isFatal_setRf, isFatal_setRb, ne_eq, reduceCtorEq, not_false_eq_true]

theorem isFatal_fwdRz (p : Nat) (d : Dev) : isFatal (fwdRz p d) = isFatal d := by
  obtain ⟨m, h⟩ := fwd_eq kResize p (epoch32 d) (be 1 (rz d p).msg ++ be 1 (rz d p).cd ++ be 4 (rz d p).propId ++ be 6 (rz d p).se) d
  rw [fwdRz, isFatal_showRz, h]
  rfl

theorem isFatal_rszEnd (p msg reason : Nat) (d : Dev) : isFatal (rszEnd p msg reason d) = isFatal d := by
  rw [rszEnd, isFatal_fwdRz, isFatal_modRz]

theorem isFatal_rszFail (p reason : Nat) (d : Dev) : isFatal (rszFail p reason d) = isFatal d := by
  simp only [rszFail, isFatal_satCtr, isFatal_setRb, isFatal_modRz, ne_eq, reduceCtorEq, not_false_eq_true]

theorem isFatal_rszStop (p reason : Nat) (d : Dev) : isFatal (rszStop p reason d) = isFatal d := by
  rw [rszStop]
  split
  · rfl
  split
  · rw [isFatal_showRz, rszAborted, evtLine, isFatal_postEvt, isFatal_rszFail, isFatal_rszEnd]
  split
  · rw [refuseProp, isFatal_showRz, rszRefused, evtLine, isFatal_postEvt, isFatal_rszFail, isFatal_rszEnd]
  · rfl

theorem isFatal_showDpll (i : Nat) (d : Dev) : isFatal (showDpll i d) = isFatal d := by
  simp only [showDpll, isFatal_setRf, ne_eq, reduceCtorEq, not_false_eq_true]

theorem isFatal_showMate (d : Dev) : isFatal (showMate d) = isFatal d := by
  rw [showMate, isFatal_gate (fun d => (isFatal_showDpll 0 (modDp 0 _ d)).trans (isFatal_modDp 0 _ d)), isFatal_setStat (by decide), isFatal_setRf (by decide)]

theorem isFatal_setRole (v : Bool) (cause : Nat) (d : Dev) : isFatal (setRole v cause d) = isFatal d := by
  rw [setRole]
  split
  · rfl
  · rw [isFatal_showMate, isFatal_evtMate, isFatal_satCtr (by decide), drivePins, isFatal_modMate, isFatal_modMate]

/-- The FATAL safe state once entered. -/
theorem isFatal_enterFatal (d : Dev) : isFatal (enterFatal d) = true := by
  rw [enterFatal]
  split
  next h => exact h
  next =>
    dsimp only
    rw [isFatal_gate (fun d => (isFatal_setRole false (peekFree d 256) (stepFree d)).trans (isFatal_stepFree d)), isFatal_each fun p => isFatal_rszStop p 13, isFatal_raiseInt, updFrozen,
      isFatal_setStat (by decide), isFatal, rb, reg_setRb, if_pos rfl]
    exact bit_putBit_same _ _ _ (by decide)

/-! ### Faults of domains (R78, R80) -/

/-- `e` is `d` as far as power, time and boot go. -/
structure KeepsPower (d e : Dev) : Prop where
  pwr : e.pwr = d.pwr
  boot : e.boot = d.boot
  epoch : e.time.epoch = d.time.epoch

theorem keepsPower_dropLayers (n : Nat) (d : Dev) : KeepsPower d (dropLayers n d) := ⟨rfl, rfl, rfl⟩

theorem keepsPower_trans {a b c : Dev} (h : KeepsPower a b) (k : KeepsPower b c) : KeepsPower a c :=
  ⟨k.pwr.trans h.pwr, k.boot.trans h.boot, k.epoch.trans h.epoch⟩

theorem keepsPower_each {l : List Nat} {f : Nat → Dev → Dev} (h : ∀ k d, KeepsPower d (f k d)) (d : Dev) : KeepsPower d (each l f d) := by
  induction l generalizing d with
  | nil => exact ⟨rfl, rfl, rfl⟩
  | cons k l ih => exact keepsPower_trans (h k d) (ih (f k d))

theorem keepsPower_resetDelin (c : Nat) (d : Dev) : KeepsPower d (resetDelin c d) := ⟨rfl, rfl, rfl⟩

theorem keepsPower_modLn (p : Nat) (f : LinePort → LinePort) (d : Dev) : KeepsPower d (modLn p f d) := ⟨rfl, rfl, rfl⟩

theorem keepsPower_clearLine (p : Nat) (d : Dev) : KeepsPower d (clearLine p d) := by
  rw [clearLine]
  exact keepsPower_trans (keepsPower_trans (keepsPower_modLn _ _ _) (keepsPower_each keepsPower_resetDelin _)) (keepsPower_dropLayers _ _)

theorem keepsPower_dropRegs (n : Nat) (d : Dev) : KeepsPower d (dropRegs n d) := ⟨rfl, rfl, rfl⟩

/-- The reset of a line, client or packet domain leaves power, time and boot. -/
theorem keepsPower_clearDom {n : Nat} (h5 : 5 < n) (h18 : n < 18) (d : Dev) : KeepsPower d (clearDom n d) := by
  rw [clearDom, if_neg (by omega)]
  dsimp only
  rw [if_neg (by omega)]
  split
  · exact keepsPower_trans (keepsPower_dropRegs n d) (keepsPower_clearLine _ _)
  split
  · exact ⟨rfl, rfl, rfl⟩
  split
  · exact ⟨rfl, rfl, rfl⟩
  · omega

theorem modDom_const {n : Nat} (f : Dom → Dom) (d : Dev) : modDom n f d = modDom n (fun _ => f (dom d n)) d := by
  rw [modDom, modDom, tmod, tmod]
  rfl

theorem notIn {n k : Nat} (h5 : 5 < n) (h18 : n < 18) (hk : k ≤ 5 ∨ 18 ≤ k) : (n == k) = false := beq_eq_false_iff_ne.mpr (by omega)

/-- A fault of a line, client or packet domain. -/
theorem faultDomain_slice {n cause : Nat} {d : Dev} (h5 : 5 < n) (h18 : n < 18) (ha : domAwake d n = true) :
    faultDomain n cause d =
      (let recent := (now d :: ((dom d n).faults.filter fun e => now d < e + 60000)).take 3
       let x : Dom := { dom d n with
         st := .faulted, waitRail := false, leaving := false, heldWake := 0, faults := recent, cause := cause
         latched := (dom d n).latched || decide (3 ≤ recent.length), railOk := d.boot.warm }
       let y := satCtr (.pwrDomStat n) 15 8 1 (modDom n (fun _ => x) (clearDom n d))
       let z := raiseErr 3 0x0005 0 0x0010 n cause (setRb (.pwrDomStat n) 4 true y)
       reevaluate (markLeaving (raiseInt 11 (evtPwr 0x0104 n
         (be 1 cause ++ be 1 (rf z (.pwrDomStat n) 15 8) ++ be 1 x.latched.toNat) z)))) := by
  obtain ⟨hp, hb, ht⟩ := keepsPower_clearDom h5 h18 d
  have hdom : dom (clearDom n d) n = dom d n := by rw [dom, hp, dom]
  have hnow : now (clearDom n d) = now d := congrArg BitVec.toNat ht
  have live : ¬ (n = 0 ∨ 24 ≤ n ∨ (!domAwake d n) = true) := by
    rw [ha]
    simp only [Bool.not_true, Bool.false_eq_true, or_false]
    omega
  rw [faultDomain, if_neg live]
  dsimp only
  rw [modDom_const, hdom, hnow, hb, if_neg (show ¬ (n = 3 ∨ n = 22) by omega), notIn h5 h18 (.inl (by decide : 1 ≤ 5)),
    notIn h5 h18 (.inl (by decide : 2 ≤ 5)), notIn h5 h18 (.inl (by decide : 3 ≤ 5)), notIn h5 h18 (.inl (by decide : 4 ≤ 5)),
    notIn h5 h18 (.inr (by decide : 18 ≤ 22))]
  simp only [Bool.or_self, Bool.and_false, gate_false]

/-- The loss of XO_IN enters the FATAL safe state. -/
theorem isFatal_xoLoss {d : Dev} (ha : domAwake d 3 = true) : isFatal (faultDomain 3 5 d) = true := by
  have live : ¬ (3 = 0 ∨ 24 ≤ 3 ∨ (!domAwake d 3) = true) := by
    rw [ha]
    decide
  rw [faultDomain, if_neg live]
  dsimp only
  rw [isFatal_reevaluate, isFatal_markLeaving, show (3 == 1 || 3 == 2 || 3 == 4) = false from rfl, Bool.and_false, gate_false,
    show (3 == 3 || 3 == 22) = true from rfl, gate_true, isFatal_enterFatal]

/-! ### Excursions (R78, R79) -/

/-- The rail of a domain (R50, R58). -/
theorem railOf_eq (n : Nat) : railOf n = if 6 ≤ n ∧ n < 18 then (n - 6) % 4 else 4 := by
  rw [railOf, railSlice]
  split
  · rw [if_pos (by omega), Option.getD_some]; omega
  split
  · rw [if_pos (by omega), Option.getD_some]; omega
  split
  · rw [if_pos (by omega), Option.getD_some]; omega
  · rw [if_neg (by omega)]; rfl

theorem domainFault_asleep {n cause : Nat} {d : Dev} (ha : domAwake d n = false) : domainFault n cause d = d := by
  rw [domainFault, if_pos (.inl (by rw [ha]; rfl))]

section Excursion

variable {n k : Nat} {d : Dev} (ha : domAwake d n = true) (h1 : 1 ≤ n) (h24 : n < 24) (hk : k = railOf n)
include ha h1 h24

theorem domainFault_live : ¬ ((!domAwake d n) = true ∨ n = 0 ∨ 24 ≤ n) := by
  rw [ha]
  simp only [Bool.not_true, Bool.false_eq_true, false_or]
  omega

include hk

theorem domainFault_under : domainFault n 1 d = faultDomain n 1 (setRb (.pwrRailStat k) 8 true d) := by
  subst hk
  rw [domainFault, if_neg (domainFault_live ha h1 h24)]
  rfl

theorem domainFault_over (h4 : k < 4) : domainFault n 2 d = (
    let e := faultDomain n 2 (setRb (.pwrRailStat k) 9 true d)
    evtPwr 0x0109 k (be 1 3) (setRail k false { e with pwr := { e.pwr with ovOff := nputBit e.pwr.ovOff k true } })) := by
  subst hk
  rw [domainFault, if_neg (domainFault_live ha h1 h24)]
  show overvoltageOff (railOf n) (faultDomain n 2 (setRb (.pwrRailStat (railOf n)) 9 true d)) = _
  rw [overvoltageOff, if_neg (by omega)]

end Excursion

theorem railDown_slice {k : Nat} {d : Dev} (hk : k < 4) (hon : railOn d k = true) :
    railDown k d = each [6 + k, 10 + k, 14 + k] (fun n => faultDomain n 3) (evtPwr 0x0109 k (be 1 2) (pgLow k d)) := by
  rw [railDown, if_neg (by omega)]
  dsimp only
  rw [show railOn (pgLow k d) k = true from hon, if_pos rfl, railDoms, if_pos hk]

/-- Settles O31. -/
theorem railsAndFaultsArePolicedByDomain : Obligations.RailsAndFaultsArePolicedByDomain := by
  unfold Obligations.RailsAndFaultsArePolicedByDomain
  refine ⟨fun s on => ⟨?short, ?excursion, ?asleep, ?pgFall, ?always, ?alert, ?poll, ?avs⟩, fun n cause d h5 h18 ha _ => faultDomain_slice h5 h18 ha,
    fun s on ha => ⟨_, runDev_settles (exec_xoInLoss s) on rfl rfl, rfl, isFatal_xoLoss ha⟩⟩
  case short =>
    intro k hk
    exact runDev_ends (exec_railExcursionShort k s) on (decide_eq_true hk) (if_pos (Nat.le_of_lt_succ hk))
  case excursion =>
    intro n k ha h1 h24 hk
    have hrail : k = railOf n := hk.trans (railOf_eq n).symm
    have fits : (isDom n && (1 == 1 || 1 == 2)) = true := by rw [isDom, decide_eq_true h24]; rfl
    have fits2 : (isDom n && (2 == 1 || 2 == 2)) = true := by rw [isDom, decide_eq_true h24]; rfl
    exact ⟨runSys_settlesThenReset (exec_domainFault n 1 s) on fits (domainFault_under ha h1 h24 hrail),
      fun h4 => runSys_settlesThenReset (exec_domainFault n 2 s) on fits2 (domainFault_over ha h1 h24 hrail h4)⟩
  case asleep =>
    intro n cause ha h24 hc
    have fits : (isDom n && (cause == 1 || cause == 2)) = true := by
      rw [isDom, decide_eq_true h24]
      rcases hc with rfl | rfl <;> rfl
    exact runSys_settlesThenReset (exec_domainFault n cause s) on fits (domainFault_asleep ha)
  case pgFall =>
    intro k hk hon
    refine rawSys_ends (exec_pseqPgFall k s) (decide_eq_true (show k < 8 by omega)) ?_
    rw [if_pos (show powered s.sys.dev = true from on)]
    exact congrArg (fun d : Dev => afterGasp { dev := refresh d, mem := s.mem }) (railDown_slice hk hon)
  case always =>
    intro k over_ hk
    refine runDev_settles (exec_vddIo18Excursion k over_ s) on ?_ (if_pos hk)
    rcases hk with rfl | rfl <;> rfl
  case alert =>
    intro k addr sb sw hk ha hb hw
    refine runDev_ends (exec_pmbAlert k addr sb sw s) on ?_ rfl
    rw [isRail, isByte, isByte, isHalf, decide_eq_true hk, decide_eq_true ha, decide_eq_true hb, decide_eq_true hw]
    rfl
  case poll =>
    intro k mv io t hk
    refine runDev_ends (exec_pmbusPoll _ s) on rfl ?_
    rw [pmbusPoll, List.foldl_cons, List.foldl_nil, if_neg (by omega)]
    dsimp only
    rw [if_pos hk]
  case avs =>
    intro k hk hpg
    refine runDev_ends (exec_avsStep k s) on (decide_eq_true hk) ?_
    rw [avsStep, hpg, if_neg (by simp only [Bool.not_true, Bool.false_eq_true, or_false]; omega)]

end Sys2Proof.Proofs
end

section
/-! SUPPORT. Domains wake and sleep. -/

namespace Sys2Proof.Proofs

open Sys2Proof.Machine Sys2Proof.Laws Sys2Proof.Spec

/-! ### Wake requests (R23, R67 to R69, R589) -/

theorem lone_domain {n : Nat} (hr : requires n = []) (hn : n < 18 ∨ n = 23) : n < 6 ∨ n = 23 := by
  by_contra h
  rw [requires] at hr
  split_ifs at hr
  omega

theorem requestWake_lone {rank n : Nat} {d : Dev} (hr : requires n = []) : requestWake rank n d = requestOne rank n d := by
  rw [requestWake, hr]
  rfl

theorem wakeable_low {n : Nat} {d : Dev} (h : n < 18 ∨ n = 22 ∨ n = 23) : wakeable d n = true := by
  rw [wakeable, decide_eq_false (show ¬ (20 ≤ n ∧ n < 22) by omega), decide_eq_true (show n < 24 by omega)]
  rfl

/-- An off domain that requires none and nothing bars is decided. -/
theorem requestOne_off {rank n : Nat} {d : Dev} (hr : requires n = []) (hn : n < 18 ∨ n = 23) (hl : (dom d n).latched = false)
    (hb : (dom d n).barred = false) (hs : (dom d n).st = .off) :
    requestOne rank n d = decide1 (n == 2 && d.pwr.gaspBusy) rank n d := by
  rw [requestOne, wakeable_low (by omega), hl, hb, hr, hs]
  simp only [Bool.not_true, Bool.or_self, Bool.false_eq_true, if_false, List.any_nil, Bool.and_false]

section Decide

variable {rank n : Nat} {d : Dev} (hr : requires n = []) (hn : n < 18 ∨ n = 23) (hl : (dom d n).latched = false)
  (hb : (dom d n).barred = false) (hs : (dom d n).st = .off)
include hr hn hl hb hs

theorem wakeSet_lone : ((wakeSet d n).filter fun k => !domAwake d k) = [n] := by
  have lone := lone_domain hr hn
  have may : mayWake d n = true := by
    rw [mayWake, wakeable_low (by omega), hl, hb, hs, decide_eq_false (by omega)]
    rfl
  have asleep : domAwake d n = false := by rw [domAwake, hs]
  rw [wakeSet, if_neg (by omega), List.filter_cons_of_pos may, List.filter_nil, List.filter_cons_of_pos (by rw [asleep]; rfl),
    List.filter_nil]

theorem decide1_admits {exempt : Bool} (hfit : load d + est d n ≤ cap d) : decide1 exempt rank n d = admitDom rank n d := by
  have rank_ : bestRank d rank [n] = rank := by rw [bestRank, List.foldl_cons, List.foldl_nil, hs]; rfl
  have was : ([n].any fun k => (dom d k).st == .deferred) = false := by rw [List.any_cons, List.any_nil, hs]; rfl
  have need : total ([n].map (est d)) = est d n := Nat.zero_add _
  rw [decide1, wakeSet_lone hr hn hl hb hs]
  dsimp only
  rw [need, rank_, was, hr, decide_eq_true hfit, Bool.or_true, List.all_nil, if_neg (show ¬ [n].isEmpty = true from Bool.false_ne_true), if_pos (by decide), gate_false, each_cons,
    each_nil]

theorem decide1_defers (hfull : cap d < load d + est d n) : decide1 false rank n d =
    (let e := modDom n (fun x => { x with st := .deferred, rank := rank, heldWake := 0 }) d
     raiseInt 11 (evtPwr 0x0101 n (be 2 (est d n) ++ be 2 (load d) ++ be 2 (cap d) ++ be 1 rank) e)) := by
  have rank_ : bestRank d rank [n] = rank := by rw [bestRank, List.foldl_cons, List.foldl_nil, hs]; rfl
  have was : ([n].any fun k => (dom d k).st == .deferred) = false := by rw [List.any_cons, List.any_nil, hs]; rfl
  have need : total ([n].map (est d)) = est d n := Nat.zero_add _
  rw [decide1, wakeSet_lone hr hn hl hb hs]
  dsimp only
  rw [need, rank_, was, hr, decide_eq_false (Nat.not_le.mpr hfull), Bool.or_false, List.all_nil, if_neg (show ¬ [n].isEmpty = true from Bool.false_ne_true), if_neg (by decide),
    Bool.not_false, gate_true, each_cons, each_nil, deferDetail]

end Decide

/-- Writing back what stands at an index leaves the table. -/
theorem tset_same {α : Type} {t : Tbl α} {k : Nat} {v : α} (h : tfind t k = some v) : tset t k v = t := by
  induction t with
  | nil => cases h
  | cons e t ih =>
    obtain ⟨j, w⟩ := e
    rw [tfind] at h
    rw [tset]
    by_cases hj : j = k
    · rw [if_pos hj, Option.some.injEq] at h
      rw [if_neg (by omega), if_pos hj, hj, h]
    · rw [if_neg hj] at h
      by_cases hk : k < j
      · rw [if_pos hk] at h; cases h
      · rw [if_neg hk] at h
        rw [if_neg hk, if_neg hj, ih h]

/-- A change of a listed domain to what it is. -/
theorem modDom_same {n : Nat} {f : Dom → Dom} {d : Dev} (hl : dom d n ≠ {}) (hf : f (dom d n) = dom d n) : modDom n f d = d := by
  have listed : tfind d.pwr.doms n = some (dom d n) := by
    cases h : tfind d.pwr.doms n with
    | none => exact absurd (by rw [dom, tget, h]; rfl) hl
    | some v => rw [dom, tget, h]; rfl
  have same : tmod {} d.pwr.doms n f = d.pwr.doms := by
    show tset d.pwr.doms n (f (dom d n)) = _
    rw [hf, tset_same listed]
  rw [modDom, same]

/-- A ready domain that stays awake is not changed by a request. -/
theorem requestOne_ready {rank : Nat} {d : Dev} (h3 : domReady d 3 = true) (hl : (dom d 3).leaving = false) : requestOne rank 3 d = d := by
  have st : (dom d 3).st = .ready := by simpa [domReady] using h3
  have listed : dom d 3 ≠ {} := fun h => by
    rw [h] at st
    exact absurd st (by decide)
  have stays : modDom 3 (fun x => { x with leaving := false }) d = d := modDom_same listed (by rw [← hl])
  rw [requestOne]
  split
  · rfl
  split
  next h => simp [requires] at h
  · rw [st]; exact stays

theorem requestOne_noBoard {rank n : Nat} {d : Dev} (h6 : 6 ≤ n) (h14 : n < 14) (hs : (dom d n).st = .off) (hb : board d = none)
    (h3 : domReady d 3 = true) (hh : (dom d 3).heldWake = 0) : requestOne rank n d = d := by
  have st : (dom d 3).st = .ready := by simpa [domReady] using h3
  have barred : mayWake d n = false := by
    rw [mayWake, decide_eq_true (show 6 ≤ n ∧ n < 22 by omega), hb]
    simp
  have none_ : ((wakeSet d n).filter fun k => !domAwake d k) = [] := by
    rw [wakeSet, if_neg (by omega), List.filter_cons_of_neg (by rw [barred]; decide), List.filter_nil, List.filter_nil]
  have dropped (exempt : Bool) : decide1 exempt rank n d = d := by
    rw [decide1, none_]
    rfl
  have base : requires n = [3] := by rw [requires, if_neg (by omega), if_pos (by omega)]
  rw [requestOne, base, hs]
  split
  · rfl
  split
  next h => simp [st, hh] at h
  · exact dropped _

theorem requestWake_noBoard {rank n : Nat} {d : Dev} (h6 : 6 ≤ n) (h14 : n < 14) (hs : (dom d n).st = .off) (hb : board d = none)
    (h3 : domReady d 3 = true) (hl : (dom d 3).leaving = false) (hh : (dom d 3).heldWake = 0) : requestWake rank n d = d := by
  have base : requires n = [3] := by rw [requires, if_neg (by omega), if_pos (by omega)]
  rw [requestWake, base, show ([3].flatMap requires) = [] from rfl, show (([] : List Nat).flatMap requires) = [] from rfl, each_nil, each_nil,
    each_cons, each_nil, requestOne_ready h3 hl, requestOne_noBoard h6 h14 hs hb h3 hh]

/-! ### DOMAIN_READY (R58) -/

theorem domainUp_idle {n : Nat} {d : Dev} (hn : n ≠ 1) (h : (dom d n).st ≠ .ramping ∨ (dom d n).waitRail = true) : domainUp n d = d := by
  have resting : domainReady n d = d := by
    rw [domainReady]
    refine if_pos ?_
    rcases h with h | h
    · exact .inl h
    · exact .inr (.inl h)
  have whole : ((dom d n).st == .ramping && !(dom d n).waitRail && domainPart n != 0 && reloadFails d (domainPart n)) = false := by
    rcases h with h | h
    · rw [beq_eq_false_iff_ne.mpr h]; rfl
    · rw [h]; simp
  rw [domainUp, whole, if_neg Bool.false_ne_true, resting]
  exact if_neg fun h => hn h.1

theorem domainReadyCmd_idle {n : Nat} {d : Dev} (hn : n ≠ 1) (h : (dom d n).st ≠ .ramping ∨ (dom d n).waitRail = true) :
    domainReadyCmd n d = d := by
  rw [domainReadyCmd, domainUp_idle hn h]
  exact if_pos (by rw [Bool.or_not_self])

theorem domReady_modDom {n : Nat} (d : Dev) : domReady (modDom n (fun x => { x with st := .ready, rank := 3 }) d) n = true := by
  show ((tget {} (tmod {} d.pwr.doms n fun x => { x with st := .ready, rank := 3 }) n : Dom).st == .ready) = true
  rw [tget_tmod, if_pos rfl]
  rfl

/-- A domain of which nothing else starts with it. -/
theorem domainReady_plain {n : Nat} {d : Dev} (hn : (n = 2 ∧ d.pwr.gaspBusy = false) ∨ n = 4 ∨ n = 22 ∨ n = 23)
    (hs : (dom d n).st = .ramping) (hw : (dom d n).waitRail = false) :
    domainReady n d = modDom n (fun x => { x with st := .ready, rank := 3 }) d := by
  have mem : decide (18 ≤ n ∧ n < 22) = false := decide_eq_false (by omega)
  rw [domainReady, hs, hw, mem]
  dsimp only
  rw [if_neg (by simp), if_neg (by omega)]
  rcases hn with ⟨rfl, hg⟩ | hn
  · rw [if_pos rfl, clearGasp, show (modDom 2 _ d).pwr.gaspBusy = false from hg, Bool.false_and, gate_false]
  · rw [if_neg (by omega), if_neg (by omega), if_neg (by omega), if_neg (by omega), if_neg (by omega), if_neg (by omega)]

theorem domainReadyCmd_plain {n : Nat} {d : Dev} (hn : (n = 2 ∧ d.pwr.gaspBusy = false) ∨ n = 4 ∨ n = 22 ∨ n = 23)
    (hs : (dom d n).st = .ramping) (hw : (dom d n).waitRail = false) (hr : reloadFails d (domainPart n) = false) :
    domainReadyCmd n d = modDom n (fun x => { x with st := .ready, rank := 3 }) d := by
  have up : domainUp n d = modDom n (fun x => { x with st := .ready, rank := 3 }) d := by
    rw [domainUp, hr, Bool.and_false, if_neg Bool.false_ne_true, domainReady_plain hn hs hw]
    exact if_neg fun h => absurd h.1 (by omega)
  have was : domReady d n = false := by rw [domReady, hs]; rfl
  rw [domainReadyCmd, up, was, domReady_modDom, if_neg (by decide), if_neg (by omega), if_neg (by omega)]

theorem domainReady_settles {n : Nat} {s : State} {d : Dev} (on : On s) (h24 : n < 24) (h1 : n ≠ 1) (hd : domainReadyCmd n s.dev = d) :
    Settles (.domainReady n) s d := by
  subst hd
  have kept : domainReadySys n s.sys = { dev := refresh (domainReadyCmd n s.dev), mem := s.mem } := by
    rw [domainReadySys, if_neg fun h => h1 h.1]
    rfl
  exact runSys_endsDev (exec_domainReady n s) on (decide_eq_true h24) kept

/-! ### Sleep (R60 to R62, R70, R73, R76, R80) -/

theorem domainSleep_isolates {n : Nat} {d : Dev} (hs : (dom d n).st = .ready) (hl : (dom d n).leaving = true) (hu : domUsed d n = false)
    (hq : 14 ≤ n → n < 18 → queuesEmpty d (n - 14) = true) :
    domainSleep n d = modDom n (fun x => { x with st := .isolating, leaving := false }) d := by
  have quiet : (!decide (14 ≤ n ∧ n < 18) || queuesEmpty d (n - 14)) = true := by
    by_cases h : 14 ≤ n ∧ n < 18
    · rw [hq h.1 h.2, Bool.or_true]
    · rw [decide_eq_false h]; rfl
  rw [domainSleep, quiet]
  exact if_pos ⟨hs, hl, by rw [hu]; rfl, rfl⟩

theorem switchedOff_off {n : Nat} {d : Dev} (hs : (dom d n).st = .isolating) (hh : (dom d n).heldWake = 0) :
    switchedOff n d = reevaluate (markLeaving (heldNext (modDom n (fun x => { x with st := .off, heldWake := 0 }) (clearDom n d)))) := by
  rw [switchedOff, hs, hh]
  rfl

theorem nvmIdle_sleeps {d : Dev} (h2 : domReady d 2 = true) (hh : rb d .pwrHostHold 2 = false) (hs : d.nvm.store = none)
    (hg : d.pwr.gaspBusy = false) : nvmIdle d = modDom 2 (fun x => { x with st := .isolating }) d := by
  rw [nvmIdle, h2, hh, hs, hg]
  rfl

theorem sliceRailOff_off {n : Nat} {d : Dev} (hn : n < 4) (h6 : (dom d (6 + n)).st = .off) (h10 : (dom d (10 + n)).st = .off)
    (h14 : (dom d (14 + n)).st = .off) (hb : (rf d .pwrRailoff 3 0).testBit n = true) (hon : railOn d n = true) :
    sliceRailOff n d = setRail n false d := by
  have off : ([6 + n, 10 + n, 14 + n].all fun k => (dom d k).st == .off || (dom d k).st == .deferred) = true := by
    simp only [List.all_cons, List.all_nil, h6, h10, h14]
    rfl
  rw [Nat.testBit_eq_decide_div_mod_eq, decide_eq_true_eq] at hb
  rw [sliceRailOff, off, hb]
  exact if_pos ⟨hn, rfl, rfl, hon⟩

theorem memIdle_refreshes {g : Nat} {d : Dev} (hu : unitOf d g = [g]) (hr : domReady d (18 + g) = true)
    (hsc : (dom d (18 + g)).scrub = false) (hh : rb d .pwrHostHold (18 + g) = false) (hg : rf d (.memcGstat g) 2 0 = 2)
    (hi : rf d .pwrMemIdle 13 0 ≠ 0) (hm : unitMerging d g = false) :
    memIdle g d = reevaluate (markLeaving
      (modDom (18 + g) (fun x => { x with st := .selfRefresh, leaving := false }) (dropRegs (18 + g) d))) := by
  have set_ : ((unitOf d g).filter fun k => domReady d (18 + k)) = [g] := by
    rw [hu, List.filter_cons_of_pos (p := fun k => domReady d (18 + k)) hr, List.filter_nil]
  have barred : ([g].any fun k => (dom d (18 + k)).scrub || rb d .pwrHostHold (18 + k) || rf d (.memcGstat k) 2 0 != 2) = false := by
    rw [List.any_cons, List.any_nil, hsc, hh, hg]
    rfl
  rw [memIdle, set_, barred, hm]
  rw [if_neg (by simp [hi]), each_cons, each_nil]

theorem memScrubWake_wakes {g : Nat} {d : Dev} (hu : unitOf d g = [g]) (hs : (dom d (18 + g)).st = .selfRefresh) :
    memScrubWake g d = requestWake 3 (18 + g) (modDom (18 + g) (fun x => { x with scrub := true }) d) := by
  have set_ : ((unitOf d g).filter fun k => (dom d (18 + k)).st == .selfRefresh) = [g] := by
    rw [hu, List.filter_cons_of_pos (by rw [hs]; rfl), List.filter_nil]
  rw [memScrubWake, set_]
  rfl

theorem faultRewake_wakes {n : Nat} {d : Dev} (hn : n < 18) (hs : (dom d n).st = .faulted) (hl : (dom d n).latched = false)
    (hb : (dom d n).barred = false) (hr : railGood d n = true) (hw : d.boot.warm = false) :
    faultRewake n d = requestWake 2 n (modDom n (fun x => { x with railOk := true }) d) := by
  rw [faultRewake, hs, hl, hb, hr, hw]
  dsimp only
  rw [if_neg (by simp), if_neg (by omega)]

/-- Settles O32. -/
theorem domainsWakeAndSleep : Obligations.DomainsWakeAndSleep := by
  unfold Obligations.DomainsWakeAndSleep
  intro s on
  have fits {rank n : Nat} (h1 : 1 ≤ rank) (h3 : rank ≤ 3) (hn : n < 24) : (isRank rank && isDom n) = true := by
    rw [isRank, isDom, decide_eq_true ⟨h1, h3⟩, decide_eq_true hn]
    rfl
  refine ⟨?request, ?ready, ?idle, ?sleep, ?off, ?d2, ?rail, ?refresh, ?scrub, ?rewake, ?noBoard⟩
  case request =>
    intro rank n h1 h3 hn hr h18 hl hb hs
    have decided : requestWake rank n s.dev = decide1 (n == 2 && s.dev.pwr.gaspBusy) rank n s.dev :=
      (requestWake_lone hr).trans (requestOne_off hr h18 hl hb hs)
    refine ⟨fun hfit => ?_, fun hfull hx => ?_⟩
    · exact runDev_settles (exec_wakeRequest rank n s) on (fits h1 h3 hn) (decided.trans (decide1_admits hr h18 hl hb hs hfit))
    · have bound : (n == 2 && s.dev.pwr.gaspBusy) = false := by
        rcases hx with hx | hx
        · rw [beq_eq_false_iff_ne.mpr hx, Bool.false_and]
        · rw [hx, Bool.and_false]
      rw [bound] at decided
      exact runDev_settles (exec_wakeRequest rank n s) on (fits h1 h3 hn) (decided.trans (decide1_defers hr h18 hl hb hs hfull))
  case ready =>
    exact fun n hn hs hw hr => domainReady_settles on (by omega) (by omega) (domainReadyCmd_plain hn hs hw hr)
  case idle => exact fun n hn h h1 => ⟨s.dev, domainReady_settles on hn h1 (domainReadyCmd_idle h1 h), rfl⟩
  case sleep =>
    exact fun n hn hs hl hu hq => runDev_settles (exec_domainSleep n s) on (decide_eq_true hn) (domainSleep_isolates hs hl hu hq)
  case off => exact fun n hn hs hh => runDev_settles (exec_powerSwitchedOff n s) on (decide_eq_true hn) (switchedOff_off hs hh)
  case d2 => exact fun h2 hh hs hg => runDev_ends (exec_d2IdleSleep s) on rfl (nvmIdle_sleeps h2 hh hs hg)
  case rail =>
    exact fun n hn h6 h10 h14 hb hon => runDev_ends (exec_sliceRailOff n s) on (decide_eq_true hn) (sliceRailOff_off hn h6 h10 h14 hb hon)
  case refresh =>
    exact fun g hg hu hr hsc hh hst hi hm => runDev_settles (exec_memIdleSelfRefresh g s) on (decide_eq_true hg)
      (memIdle_refreshes hu hr hsc hh hst hi hm)
  case scrub =>
    exact fun g hg hu hs => runDev_settles (exec_memScrubWake g s) on (decide_eq_true hg) (memScrubWake_wakes hu hs)
  case rewake =>
    exact fun n hn hs hl hb hr hw => runDev_settles (exec_faultRewake n s) on (decide_eq_true (by omega))
      (faultRewake_wakes hn hs hl hb hr hw)
  case noBoard =>
    exact fun rank n h1 h3 h6 h14 hs hb hr hl hh => runDev_settles (exec_wakeRequest rank n s) on (fits h1 h3 (by omega))
      (requestWake_noBoard h6 h14 hs hb hr hl hh)

end Sys2Proof.Proofs
end

section
/-! SUPPORT. Registers that records leave; temperature and regions. -/

namespace Sys2Proof.Proofs

open Sys2Proof.Machine Sys2Proof.Laws Sys2Proof.Spec

/-! ### Registers that records leave -/

/-- The registers that an event or an error record can change. -/
def recordRegs : List Reg := [.glbIntStat, .evtProd, .evtStat, .evtLost, .errOverflow, .errLost, .errSummary] ++ (List.range 5).map .errCnt

theorem reg_setReg_ne {r q : Reg} (h : r ≠ q) (w : Word) (d : Dev) : reg (setReg q w d) r = reg d r := by rw [reg_setReg, if_neg h]

theorem reg_setRf_ne {r q : Reg} (h : r ≠ q) (hi lo v : Nat) (d : Dev) : reg (setRf q hi lo v d) r = reg d r := reg_setReg_ne h _ d

theorem reg_setRb_ne {r q : Reg} (h : r ≠ q) (i : Nat) (b : Bool) (d : Dev) : reg (setRb q i b d) r = reg d r := reg_setReg_ne h _ d

theorem reg_gate {r : Reg} {f : Dev → Dev} (h : ∀ d, reg (f d) r = reg d r) (c : Bool) (d : Dev) : reg (gate c f d) r = reg d r :=
  gate_keeps (fun d => reg d r) h c d

section Records

variable {r : Reg} (h : r ∉ recordRegs)
include h

theorem recordRegs_ne {q : Reg} (hq : q ∈ recordRegs) : r ≠ q := fun e => h (e ▸ hq)

theorem reg_raiseInt_of_ne (k : Nat) (d : Dev) : reg (raiseInt k d) r = reg d r := by
  rw [reg_raiseInt, if_neg (recordRegs_ne h (by decide))]

theorem reg_postEvents (d : Dev) : reg (postEvents d) r = reg d r := by
  rw [postEvents]
  split
  · rfl
  split
  · dsimp only
    rw [reg_raiseInt_of_ne h, reg_setRf_ne (recordRegs_ne h (by decide))]
    rfl
  · rfl

theorem reg_stageEvt (e : EvtRec) (d : Dev) : reg (stageEvt e d) r = reg d r := by
  rw [stageEvt]
  split
  · rfl
  split
  · rw [satCtr, reg_setRf_ne (recordRegs_ne h (by decide)), reg_setRb_ne (recordRegs_ne h (by decide))]
    rfl
  · rw [reg_gate (reg_postEvents h)]
    rfl

theorem reg_postEvtAs (engine urgent : Bool) (ty src inst obj : Nat) (detail : Bytes) (d : Dev) :
    reg (postEvtAs engine urgent ty src inst obj detail d) r = reg d r := by
  rw [postEvtAs, reg_stageEvt h]
  rfl

theorem reg_evtPwr (ty obj : Nat) (detail : Bytes) (d : Dev) : reg (evtPwr ty obj detail d) r = reg d r := reg_postEvtAs h _ _ _ _ _ _ _ d

theorem reg_loseErr (sev : Nat) (d : Dev) : reg (loseErr sev d) r = reg d r := by
  rw [loseErr, reg_setRb_ne (recordRegs_ne h (by decide)), satCtr, reg_setRf_ne (recordRegs_ne h (by decide)),
    reg_setRb_ne (recordRegs_ne h (by decide))]

theorem reg_raiseErr {sev : Nat} (hs : sev < 5) (src inst code d0 d1 : Nat) (d : Dev) :
    reg (raiseErr sev src inst code d0 d1 d) r = reg d r := by
  have counted : r ≠ .errCnt sev := recordRegs_ne h (List.mem_append_right _ (List.mem_map_of_mem (List.mem_range.mpr hs)))
  have taken (d : Dev) : reg (wrapCtr (.errCnt sev) 31 0 1 d) r = reg d r := reg_setRf_ne counted _ _ _ d
  have dropped (q : List ErrRec) (v : Nat) (d : Dev) : reg (loseErr v { d with err := { d.err with queue := q } }) r = reg d r :=
    reg_loseErr h v _
  rw [raiseErr, arriveErr]
  dsimp only
  split
  · rw [reg_loseErr h, taken]
  split
  · rw [postErr, reg_postEvtAs h, reg_gate (fun d => dropped _ _ d), taken]
  · rw [reg_gate (reg_raiseInt_of_ne h 9)]
    exact (reg_gate (fun d => dropped _ _ d) _ _).trans (taken d)

end Records

theorem rf_of_reg {d e : Dev} {r : Reg} (h : reg e r = reg d r) (hi lo : Nat) : rf e r hi lo = rf d r hi lo := by rw [rf, rf, h]

theorem rb_of_reg {d e : Dev} {r : Reg} (h : reg e r = reg d r) (i : Nat) : rb e r i = rb d r i := by rw [rb, rb, h]

/-! ### Temperature (R83) -/

theorem thermCtl_ne (r : Nat) : Reg.pwrThermCtl ≠ .pwrRegion r := nofun

theorem thermCtl_kept : Reg.pwrThermCtl ∉ recordRegs := by decide

theorem reg_showTherm {r : Reg} (h : r ≠ .pwrThermStat) (d : Dev) : reg (showTherm d) r = reg d r := reg_setRf_ne h _ _ _ d

theorem thermWarn_quiet {r : Nat} {t : Int} {d : Dev} (h : d.pwr.warnUp.testBit r = true ∨ t < (rf d .pwrThermCtl 15 8 : Nat)) :
    thermWarn r t d = d := by
  rw [thermWarn]
  refine if_pos ?_
  rcases h with h | h
  · rw [h]; rfl
  · rw [decide_eq_true h, Bool.or_true]

theorem thermCrit_quiet {r : Nat} {t : Int} {d : Dev} (h : d.pwr.critUp.testBit r = true ∨ t < 110) : thermCrit r t d = d := by
  rw [thermCrit]
  refine if_pos ?_
  rcases h with h | h
  · rw [h]; rfl
  · rw [decide_eq_true h, Bool.or_true]

theorem thermWarn_warns {r : Nat} {t : Int} {d : Dev} (h : d.pwr.warnUp.testBit r = false) (ht : (rf d .pwrThermCtl 15 8 : Nat) ≤ t) :
    thermWarn r t d = showTherm (thermEvent r 1 t (setRb .pwrThermStat 0 true
      { d with pwr := { d.pwr with warnUp := nputBit d.pwr.warnUp r true } })) := by
  rw [thermWarn, h, decide_eq_false (by omega)]
  rfl

/-- The register that permits the isolation is not one that the record and the event change. -/
theorem thermCrit_crosses {r : Nat} {t : Int} {d : Dev} (h : d.pwr.critUp.testBit r = false) (ht : 110 ≤ t) :
    thermCrit r t d =
      (let e := showTherm (setRb .pwrThermStat (1 + r) true { d with pwr := { d.pwr with critUp := nputBit d.pwr.critUp r true } })
       let f := thermEvent r 2 t (raiseErr 3 0x0005 0 0x0012 r (twos 16 t) e)
       if r < 4 ∧ rb d .pwrThermCtl 0 = true then isolateSlice r { f with pwr := { f.pwr with thermIso := nputBit f.pwr.thermIso r true } }
       else f) := by
  have kept : rb (thermEvent r 2 t (raiseErr 3 0x0005 0 0x0012 r (twos 16 t) (showTherm (setRb .pwrThermStat (1 + r) true
      { d with pwr := { d.pwr with critUp := nputBit d.pwr.critUp r true } })))) .pwrThermCtl 0 = rb d .pwrThermCtl 0 := by
    refine rb_of_reg ?_ 0
    rw [thermEvent, reg_raiseInt_of_ne thermCtl_kept, reg_evtPwr thermCtl_kept, reg_raiseErr thermCtl_kept (by decide),
      reg_showTherm (by decide), reg_setRb_ne (by decide)]
    rfl
  rw [thermCrit, h, decide_eq_false (by omega)]
  dsimp only
  rw [kept]
  rfl

section Reading

variable {r : Nat} {t : Int} {d : Dev} (hr : r < 5)
include hr

theorem thermalReading_eq : thermalReading r t d =
    (let e := thermCrit r t (thermWarn r t (setRf (.pwrRegion r) 23 16 (twos 8 t) d))
     if 125 ≤ t then askPowerCycle { e with pin := { e.pin with pseqEn := 0 } } else e) := by
  rw [thermalReading]
  exact if_neg (by omega)

omit hr in
theorem thermLimit_read : rf (setRf (.pwrRegion r) 23 16 (twos 8 t) d) .pwrThermCtl 15 8 = rf d .pwrThermCtl 15 8 :=
  rf_of_reg (reg_setRf_ne (thermCtl_ne r) _ _ _ d) 15 8

theorem thermalReading_cool (ht : t < 110) (hw : t < (rf d .pwrThermCtl 15 8 : Nat)) :
    thermalReading r t d = setRf (.pwrRegion r) 23 16 (twos 8 t) d := by
  rw [thermalReading_eq hr, thermWarn_quiet (.inr (by rw [thermLimit_read]; exact hw)), thermCrit_quiet (.inr ht)]
  exact if_neg (by omega)

theorem thermalReading_warm (ht : t < 110) (hw : (rf d .pwrThermCtl 15 8 : Nat) ≤ t) (hu : d.pwr.warnUp.testBit r = false) :
    thermalReading r t d = showTherm (thermEvent r 1 t (setRb .pwrThermStat 0 true (setRf (.pwrRegion r) 23 16 (twos 8 t)
      { d with pwr := { d.pwr with warnUp := nputBit d.pwr.warnUp r true } }))) := by
  rw [thermalReading_eq hr, thermWarn_warns (d := setRf (.pwrRegion r) 23 16 (twos 8 t) d) hu (by rw [thermLimit_read]; exact hw), thermCrit_quiet (.inr ht)]
  exact if_neg (by omega)

theorem thermalReading_critical (ht : 110 ≤ t) (ht' : t < 125) (hu : d.pwr.warnUp.testBit r = true) (hc : d.pwr.critUp.testBit r = false) :
    thermalReading r t d =
      (let e := showTherm (setRb .pwrThermStat (1 + r) true (setRf (.pwrRegion r) 23 16 (twos 8 t)
        { d with pwr := { d.pwr with critUp := nputBit d.pwr.critUp r true } }))
       let f := raiseInt 11 (evtPwr 0x0105 r (be 1 2 ++ be 1 (twos 8 t)) (raiseErr 3 0x0005 0 0x0012 r (twos 16 t) e))
       if r < 4 ∧ rb d .pwrThermCtl 0 = true then isolateSlice r { f with pwr := { f.pwr with thermIso := nputBit f.pwr.thermIso r true } }
       else f) := by
  rw [thermalReading_eq hr, thermWarn_quiet (d := setRf (.pwrRegion r) 23 16 (twos 8 t) d) (.inl hu), thermCrit_crosses (d := setRf (.pwrRegion r) 23 16 (twos 8 t) d) hc ht, rb_of_reg (reg_setRf_ne (thermCtl_ne r) _ _ _ d)]
  exact if_neg (by omega)

theorem thermalReading_shuts (ht : 125 ≤ t) (hu : d.pwr.warnUp.testBit r = true) (hc : d.pwr.critUp.testBit r = true) :
    thermalReading r t d = enterFatal (setRf (.pwrRegion r) 23 16 (twos 8 t) { d with pin := { d.pin with pseqEn := 0, pwrCycleReq := true } }) := by
  rw [thermalReading_eq hr, thermWarn_quiet (d := setRf (.pwrRegion r) 23 16 (twos 8 t) d) (.inl hu), thermCrit_quiet (d := setRf (.pwrRegion r) 23 16 (twos 8 t) d) (.inl hc)]
  exact if_pos ht

theorem thermRearm_rearms (hw : regionTemp d r + 2 ≤ (rf d .pwrThermCtl 15 8 : Nat)) (hc : regionTemp d r + 2 ≤ 110) :
    thermRearm r d = showTherm { d with pwr := { d.pwr with
      warnUp := nputBit d.pwr.warnUp r false
      critUp := nputBit d.pwr.critUp r false } } := by
  rw [thermRearm, if_pos hw, if_pos hc]
  exact if_neg (by omega)

end Reading

theorem thermRejoin_rejoins {n : Nat} {d : Dev} (hn : n < 4) (hi : d.pwr.thermIso.testBit n = true) (hs : d.pwr.skewIso.testBit n = false)
    (ht : regionTemp d n ≤ 100) : thermRejoin n d = rejoinSlice n (evtPwr 0x0105 n (be 1 3 ++ be 1 (twos 8 (regionTemp d n)))
      { d with pwr := { d.pwr with thermIso := nputBit d.pwr.thermIso n false } }) := by
  have alone (x : Bytes) : (evtPwr 0x0105 n x { d with pwr := { d.pwr with thermIso := nputBit d.pwr.thermIso n false } }).pwr.skewIso.testBit n
      = false := by
    rw [evtPwr, (postEvt_records _ _ _ _ _ _).pwr]
    exact hs
  rw [thermRejoin, if_pos ⟨hn, hi, ht⟩]
  dsimp only
  rw [if_neg (by rw [alone]; decide)]
  rfl

/-! ### Differences between regions (R82) -/

theorem regionRejoin_rejoins {n : Nat} {d : Dev} (hn : n < 4) (hs : d.pwr.skewIso.testBit n = true) (hi : d.pwr.thermIso.testBit n = false) :
    regionRejoin n d = rejoinSlice n { d with pwr := { d.pwr with skewIso := nputBit d.pwr.skewIso n false } } := by
  rw [regionRejoin, if_pos ⟨hn, hs⟩]
  exact if_neg (by rw [hi]; decide)

theorem regionRejoin_waits {n : Nat} {d : Dev} (hn : n < 4) (hs : d.pwr.skewIso.testBit n = true) (hi : d.pwr.thermIso.testBit n = true) :
    regionRejoin n d = { d with pwr := { d.pwr with skewIso := nputBit d.pwr.skewIso n false } } := by
  rw [regionRejoin, if_pos ⟨hn, hs⟩]
  exact if_pos hi

/-- One slice region awake beside the common one, and the higher of the two: it is farthest from the median, the lower value. -/
theorem farthest_higher {n : Nat} {v : Nat → Int} {d : Dev} (ha : awakeRegions d = [n, 4]) (hv : v 4 < v n) :
    farthest d v = n := by
  have sorted : sortBy (fun a b => decide (a ≤ b)) [v n, v 4] = [v 4, v n] := by
    rw [sortBy, List.foldr_cons, List.foldr_cons, List.foldr_nil, insertBy, insertBy, if_neg (by simpa using hv), insertBy]
  have median_ : median ([n, 4].map v) = v 4 := by
    rw [List.map_cons, List.map_cons, List.map_nil, median, sorted]
    simp
  rw [farthest, ha, median_]
  simp only [List.foldl_cons, List.foldl_nil]
  have near : (v 4 - v 4).natAbs < (v n - v 4).natAbs := by omega
  rw [if_pos (c := _ ∨ _ ∧ n < 4) (.inl near), if_neg (by omega)]

/-- The values of the alarm by region: v at n, w elsewhere. -/
theorem skewValue_at (n : Nat) (v w : Int) : (List.replicate n w ++ [v] ++ List.replicate (4 - n) w).getD n 0 = v := by
  simp [List.getD_eq_getElem?_getD]

theorem skewValue_common {n : Nat} (hn : n < 4) (v w : Int) : (List.replicate n w ++ [v] ++ List.replicate (4 - n) w).getD 4 0 = w := by
  rw [List.getD_eq_getElem?_getD, List.getElem?_append_right (by simp; omega), List.getElem?_replicate, if_pos (by simp; omega)]
  rfl

theorem regionSkew_isolates {n : Nat} {l : List Int} {v w : Int} {d : Dev} (hn : n < 4) (ha : awakeRegions d = [n, 4]) (hv : l.getD n 0 = v)
    (hw : l.getD 4 0 = w) (far : w + 250 < v) : regionSkew 2 l d =
      (let e := setRf .pwrThermStat 10 8 n (setRb .pwrThermStat 6 true d)
       let f := evtPwr 0x010A n (be 1 2 ++ [0] ++ be 2 (v - w).natAbs) (raiseErr 3 0x0005 0 0x0011 n 2 e)
       isolateSlice n { f with pwr := { f.pwr with skewIso := nputBit f.pwr.skewIso n true } }) := by
  have apart : ([n, 4].any fun a => [n, 4].any fun b => decide (250 < (l.getD a 0 - l.getD b 0).natAbs)) = true := by
    simp only [List.any_cons, hv, hw, decide_eq_true (show 250 < (v - w).natAbs by omega), Bool.true_or, Bool.or_true]
  have top : farthest d (fun r => l.getD r 0) = n := farthest_higher ha (by rw [hv, hw]; omega)
  have spread : ([n, 4].map fun r => (l.getD n 0 - l.getD r 0).natAbs).foldl max 0 = (v - w).natAbs := by
    simp only [List.map_cons, List.map_nil, List.foldl_cons, List.foldl_nil, hv, hw]
    omega
  rw [regionSkew]
  rw [top, ha, if_neg (show ¬ (2 : Nat) = 1 by decide), apart, if_neg (by decide)]
  dsimp only
  rw [spread, if_pos hn, each_cons, each_nil]

/-- Settles O33. -/
theorem regionsAreIsolatedAndRejoin : Obligations.RegionsAreIsolatedAndRejoin := by
  unfold Obligations.RegionsAreIsolatedAndRejoin
  intro s on
  have fits {r : Nat} {t : Int} (hr : r < 5) (h : -128 ≤ t) (h' : t ≤ 127) : (isRegion r && isTemp t) = true := by
    rw [isRegion, isTemp, decide_eq_true hr, decide_eq_true ⟨h, h'⟩]
    rfl
  refine ⟨?cool, ?warm, ?critical, ?shuts, ?rearm, ?thermal, ?rejoin, ?waits, ?skew⟩
  case cool =>
    exact fun r t hr h0 ht hw => runDev_settles (exec_thermalReading r t s) on (fits hr h0 (by omega)) (thermalReading_cool hr ht hw)
  case warm =>
    exact fun r t hr ht hw hu => runDev_settles (exec_thermalReading r t s) on (fits hr (by omega) (by omega)) (thermalReading_warm hr ht hw hu)
  case critical =>
    exact fun r t hr h ht hu hc => runDev_settles (exec_thermalReading r t s) on (fits hr (by omega) (by omega))
      (thermalReading_critical hr h ht hu hc)
  case shuts =>
    exact fun r t hr h ht hu hc => runDev_settles (exec_thermalReading r t s) on (fits hr (by omega) ht) (thermalReading_shuts hr h hu hc)
  case rearm => exact fun r hr hw hc => runDev_ends (exec_thermRearm r s) on (decide_eq_true hr) (thermRearm_rearms hr hw hc)
  case thermal =>
    exact fun n hn hi hs ht => runDev_settles (exec_sliceThermalRejoin n s) on (decide_eq_true hn) (thermRejoin_rejoins hn hi hs ht)
  case rejoin => exact fun n hn hs hi => runDev_settles (exec_regionRejoin n s) on (decide_eq_true hn) (regionRejoin_rejoins hn hs hi)
  case waits => exact fun n hn hs hi => runDev_settles (exec_regionRejoin n s) on (decide_eq_true hn) (regionRejoin_waits hn hs hi)
  case skew =>
    intro n v w hn ha far
    refine runDev_settles (exec_regionSkewAlarm 2 _ s) on ?_ (regionSkew_isolates hn ha (skewValue_at n v w) (skewValue_common hn v w) far)
    simp
    omega

end Sys2Proof.Proofs
end

section
/-! SUPPORT. The epoch boundary, commits in service, calendars, timeouts of reports. -/

namespace Sys2Proof.Proofs

open Sys2Proof.Machine Sys2Proof.Laws Sys2Proof.Spec

/-! ### The epoch boundary (R25, R65, R102) -/

/-- What follows Thino's service at an epoch boundary. -/
def blocksStep (w : Dev) : Dev :=
  let p := streamOctets (pmEpoch (missEpoch (esmcEvents (fecEpoch w))))
  refresh (alignReady (mateEpoch (timEpoch (timeoutsDue (each ((objs p.prov.serv 8).filter fun _ => domReady p 22) skewEpoch p)))))

theorem epochBoundary_eq (d : Dev) : epochBoundary d = blocksStep (serviceWdt (takeBudgets (freshEpoch (advance d)))) := rfl

theorem epochBoundary_of {d w : Dev} (h : serviceWdt (takeBudgets (freshEpoch (advance d))) = w) : epochBoundary d = blocksStep w := by
  rw [epochBoundary_eq, h]

/-! ### Commits that enter service (R24, R29, R30, R84) -/

section Commit

variable {e : Pend} {rest : List Pend} {d : Dev}

theorem commitEnter_empty (hp : d.prov.pend = []) : commitEnter d = d := by rw [commitEnter, hp]

theorem commitEnter_early (hp : d.prov.pend = e :: rest) (he : now d < e.epoch) : commitEnter d = d := by
  rw [commitEnter, hp]
  exact if_pos (by rw [decide_eq_true he]; rfl)

variable (hp : d.prov.pend = e :: rest) (he : e.epoch ≤ now d) (hf : isFatal d = false)
include hp he hf

theorem commitEnter_frozen (hz : isPfwFrozen d = true) :
    commitEnter d = markLeaving (commitCancelled e 3 { setRb .pwrPfwStat 4 true d with prov := { (setRb .pwrPfwStat 4 true d).prov with pend := rest } }) := by
  rw [commitEnter, hp]
  exact (if_neg (by rw [decide_eq_false (Nat.not_lt.mpr he), hf]; decide)).trans (if_pos hz)

theorem commitEnter_due (hz : isPfwFrozen d = false) :
    commitEnter d =
      (let d := pmSecond d
       if missing e d = 0 then
         enterService (if e.restore then { e with epoch := now d } else e) { d with prov := { d.prov with pend := rest } }
       else if e.restore then d
       else Machine.dropPending [] rest 1
         (postEvt 0x0006 0x0001 0 e.id (be 6 e.epoch ++ zeros 2 ++ be 3 (missing e d)) { d with prov := { d.prov with pend := [] } })) := by
  rw [commitEnter, hp]
  exact (if_neg (by rw [decide_eq_false (Nat.not_lt.mpr he), hf]; decide)).trans (if_neg (by rw [hz]; decide))

end Commit

/-- The event of a commit whose domains are not ready leaves no commit pending. -/
theorem dropPending_postEvt (ty src inst obj : Nat) (detail : Bytes) (rest : List Pend) (d : Dev) :
    Machine.dropPending [] rest 1 (postEvt ty src inst obj detail { d with prov := { d.prov with pend := [] } }) =
      markLeaving (rest.foldl (fun d e => commitCancelled e 1 d) (postEvt ty src inst obj detail { d with prov := { d.prov with pend := [] } })) := by
  rw [Machine.dropPending, clearedPend_of_nil (by rw [(postEvt_records _ _ _ _ _ _).prov])]

/-! ### Calendars (R251, R355) -/

theorem foldl_idle {σ β : Type} {f : σ → β → σ} {l : List β} (h : ∀ x ∈ l, ∀ d, f d x = d) (d : σ) : l.foldl f d = d := by
  induction l with
  | nil => rfl
  | cons x l ih => rw [List.foldl_cons, h x (.head _), ih fun y hy => h y (.tail _ hy)]

theorem filter_none {β : Type} {l : List β} {q : β → Bool} (h : ∀ x ∈ l, q x = false) : l.filter q = [] :=
  List.filter_eq_nil_iff.mpr fun x hx => by rw [h x hx]; decide

/-- What the change does once the calendar and the map are taken: the containers that start, those that connect, their sizes. -/
def connectConts (p : Nat) (xc : Bool) (d : Dev) : Dev :=
  let fresh := ((conts d.prov.serv).filter fun e => xc && lineOf e.1 == p && !(contOf d e.1).up).map (·.1)
  let d := fresh.foldl (fun d c => initNow c (contStart c d)) d
  let d := gate xc (each ((tkeys d.cont).filter fun c => lineOf c == p) fun c d =>
    modCont c (fun x => { x with conn := groupOf d.prov.serv c }) d) d
  (conts d.prov.serv).foldl (fun d e => gate (xc && lineOf e.1 == p) (setRf (.xcCsize e.1) 24 16 (ctSlots e.2)) d) d

section Calendar

variable {p : Nat} {d : Dev} (hc : ∀ c ∈ tkeys d.cont, lineOf c ≠ p) (hs : ∀ e ∈ conts d.prov.serv, lineOf e.1 ≠ p)
include hc hs

theorem connectConts_none (xc : Bool) : connectConts p xc d = d := by
  have fresh : ((conts d.prov.serv).filter fun e => xc && lineOf e.1 == p && !(contOf d e.1).up) = [] :=
    filter_none fun e he => by rw [beq_eq_false_iff_ne.mpr (hs e he), Bool.and_false, Bool.false_and]
  have mine : ((tkeys d.cont).filter fun c => lineOf c == p) = [] := filter_none fun c h => beq_eq_false_iff_ne.mpr (hc c h)
  rw [connectConts, fresh]
  simp only [List.map_nil, List.foldl_nil]
  have unconnected (f : Nat → Dev → Dev) : gate xc (each [] f) d = d := ite_self d
  rw [mine, unconnected]
  exact foldl_idle (fun e he d => by rw [beq_eq_false_iff_ne.mpr (hs e he), Bool.and_false, gate_false]) d

theorem calendarChange_alone (on : lineOn d p = true) :
    calendarChange p d =
      (let m := lrMap (lineRec d p)
       let e := modLn p (fun l => { l with cal := newCal d p }) d
       showRz p (followMap p (if m ≠ (rz d p).txMap ∧ (rz d p).st = 0 then modRz p (fun z => { z with txMap := m, rxMap := m }) e else e))) := by
  have gone : ((tkeys d.cont).filter fun c => domReady d 22 && lineOf c == p && (serv d 2 c).isNone) = [] :=
    filter_none fun c h => by rw [beq_eq_false_iff_ne.mpr (hc c h), Bool.and_false, Bool.false_and]
  have kept : rz (modLn p (fun l => { l with cal := newCal d p }) d) p = rz d p := by rw [rz, ln_modLn, if_pos rfl]; rfl
  have split_ : calendarChange p d =
      (let e := modLn p (fun l => { l with cal := newCal d p }) d
       showRz p (followMap p (connectConts p (domReady d 22)
         (gate (lrMap (lineRec e p) != (rz e p).txMap && (rz e p).st == 0)
           (modRz p fun z => { z with txMap := lrMap (lineRec e p), rxMap := lrMap (lineRec e p) }) e)))) := by
    rw [calendarChange, on, if_neg (by decide)]
    dsimp only
    rw [gone]
    rfl
  have changed (x : Dev) (hc : ∀ c ∈ tkeys x.cont, lineOf c ≠ p) (hs : ∀ e ∈ conts x.prov.serv, lineOf e.1 ≠ p) :
      showRz p (followMap p (connectConts p (domReady d 22) x)) = showRz p (followMap p x) := by rw [connectConts_none hc hs]
  rw [split_]
  dsimp only
  rw [kept, show lineRec (modLn p _ d) p = lineRec d p from rfl]
  by_cases h : lrMap (lineRec d p) ≠ (rz d p).txMap ∧ (rz d p).st = 0
  · rw [if_pos h, show (lrMap (lineRec d p) != (rz d p).txMap && (rz d p).st == 0) = true by simpa using h, gate_true]
    exact changed _ hc hs
  · rw [if_neg h, show (lrMap (lineRec d p) != (rz d p).txMap && (rz d p).st == 0) = false by simpa using h, gate_false]
    exact changed _ hc hs

end Calendar

/-! ### Timeouts of reports (R33, R35) -/

theorem assistTimeout_none {fn i ns : Nat} {d : Dev} (h : tfind d.asst.newest (akey fn i) = none) : assistTimeoutCmd fn i ns d = d := by
  rw [assistTimeoutCmd, assistTimeoutAt, h]
  exact ite_self d

section Timeout

variable {fn i ns : Nat} {r : _} {d : Dev} (hb : d.boot.thino = true) (hr : tfind d.asst.newest (akey fn i) = some r)
  (ho : r.opened = true) (hx : r.changeAt = none) (ha : assisted d fn i = true) (hz : isFrozen d fn i = false)
  (ht : assistTimeout d fn i ≠ 0) (hf : following d = false)
include hb hr ho hx ha hz ht hf

theorem assistTimeout_due {pair : Bool} (hp : (inStep d && d.mate.active) = pair) :
    assistTimeoutCmd fn i ns d =
      (let x := if pair then execEpoch d ns else now d + 1
       let e := gate pair (sendCommand x 0 0 0 (be 4 (akey fn i) ++ be 4 r.id)) d
       { e with asst := { e.asst with newest := tset e.asst.newest (akey fn i) { r with changeAt := some x } } }) := by
  rw [assistTimeoutCmd, if_pos hb, assistTimeoutAt, hr]
  dsimp only
  rw [if_neg (by simp [ho, hx, ha, hz, ht, hf]), hp]

end Timeout

/-- Settles O34. -/
theorem epochsCommitsCalendarsAndTimeouts : Obligations.EpochsCommitsCalendarsAndTimeouts := by
  unfold Obligations.EpochsCommitsCalendarsAndTimeouts
  refine ⟨fun s on => ⟨?epoch, ?due, ?frozen, ?empty, ?early⟩, fun s on => ⟨?calendar, ?timeout, ?none⟩⟩
  case epoch => exact runDev_ends (exec_epochBoundary s) on rfl (epochBoundary_of rfl)
  case due =>
    intro e rest hp he hf hz
    have settles {x : Dev} (h : commitEnter s.dev = x) : Settles .commitEnterService s x :=
      runDev_settles (exec_commitEnterService s) on rfl h
    have due := commitEnter_due hp he hf hz
    refine ⟨fun hm hr => settles ?_, fun hm hr => settles ?_, fun hm hr => settles ?_, fun hm hr => settles ?_⟩
    · rw [due]
      dsimp only
      rw [if_pos hm, hr]
      rfl
    · rw [due]
      dsimp only
      rw [if_pos hm, if_pos hr]
    · rw [due]
      dsimp only
      rw [if_neg hm, if_pos hr]
    · rw [due]
      dsimp only
      rw [if_neg hm, if_neg (by rw [hr]; decide), dropPending_postEvt]
  case frozen =>
    exact fun e rest hp he hf hz => runDev_settles (exec_commitEnterService s) on rfl (commitEnter_frozen hp he hf hz)
  case empty => exact fun hp => runDev_settles (exec_commitEnterService s) on rfl (commitEnter_empty hp)
  case early => exact fun e rest hp he => runDev_settles (exec_commitEnterService s) on rfl (commitEnter_early hp he)
  case calendar =>
    exact fun p hp ho hc hs => runDev_settles (exec_calendarChange p s) on (decide_eq_true hp) (calendarChange_alone hc hs ho)
  case timeout =>
    intro fn i ns r hns hb hr ho hx ha hz ht hf
    refine ⟨fun alone => runDev_ends (exec_assistTimeout fn i ns s) on (decide_eq_true hns) ?_,
      fun hi hm => runDev_ends (exec_assistTimeout fn i ns s) on (decide_eq_true hns) ?_⟩
    · have single : (inStep s.dev && s.dev.mate.active) = false := by
        rcases alone with h | h
        · rw [h]; rfl
        · rw [h, Bool.and_false]
      rw [assistTimeout_due hb hr ho hx ha hz ht hf single]
      rfl
    · rw [assistTimeout_due hb hr ho hx ha hz ht hf (show (inStep s.dev && s.dev.mate.active) = true by rw [hi, hm]; rfl), if_pos rfl, execEpoch]
      dsimp only
      rw [gate_true]
  case none =>
    exact fun fn i ns hns h => runDev_ends (exec_assistTimeout fn i ns s) on (decide_eq_true hns) (assistTimeout_none h)

end Sys2Proof.Proofs
end

section
/-! SUPPORT. Performance monitoring. -/

namespace Sys2Proof.Proofs

open Sys2Proof.Machine Sys2Proof.Laws Sys2Proof.Spec

/-! ### Failures (R394, R395) -/

section Failure

variable {i c : Nat} {d : Dev}

theorem integrates_point (h4 : domReady d 4 = true) (hp : hasPoint d i = true) (ha : assisted d 1 i = false) (hf : isFrozen d 1 i = false) :
    integrates d i = true := by rw [integrates, h4, hp, ha, hf]; rfl

theorem failureDeclare_long (hc : c < 8) (hi : integrates d i = true) (hd : (point d i).decl.testBit c = false)
    (hr : max 1 (mpIntSet (mpRec d i) c * 100) ≤ tget 0 (point d i).runSet c) :
    failureDeclare i c d = setDeclared i (nputBit (point d i).decl c true) d := by
  rw [failureDeclare, hi, decide_eq_true hc, hd, decide_eq_true (show tget 0 (point d i).runSet c ≥ needRun (mpIntSet (mpRec d i) c) from hr)]
  rfl

theorem failureDeclare_short (hr : tget 0 (point d i).runSet c < max 1 (mpIntSet (mpRec d i) c * 100)) : failureDeclare i c d = d := by
  rw [failureDeclare, decide_eq_false (show ¬ tget 0 (point d i).runSet c ≥ needRun (mpIntSet (mpRec d i) c) from Nat.not_le.mpr hr),
    Bool.and_false]
  rfl

theorem failureClear_long (hc : c < 8) (hi : integrates d i = true) (hd : (point d i).decl.testBit c = true)
    (hr : max 1 (mpIntClr (mpRec d i) c * 100) ≤ tget 0 (point d i).runClr c) :
    failureClear i c d = setDeclared i (nputBit (point d i).decl c false) d := by
  rw [failureClear, hi, decide_eq_true hc, hd, decide_eq_true (show tget 0 (point d i).runClr c ≥ needRun (mpIntClr (mpRec d i) c) from hr)]
  rfl

theorem failureClear_short (hr : tget 0 (point d i).runClr c < max 1 (mpIntClr (mpRec d i) c * 100)) : failureClear i c d = d := by
  rw [failureClear, decide_eq_false (show ¬ tget 0 (point d i).runClr c ≥ needRun (mpIntClr (mpRec d i) c) from Nat.not_le.mpr hr),
    Bool.and_false]
  rfl

theorem failureReport_reports {reason : Nat} (h4 : domReady d 4 = true) (hp : hasPoint d i = true) (ha : assisted d 1 i = true)
    (hf : isFrozen d 1 i = false)
    (hr : (reason = 1 ∧ (point d i).epochLast ≠ (point d i).repSet) ∨ (reason = 2 ∧ (point d i).epochLast ≠ (point d i).decl)) :
    failureReport i reason d = report 1 i reason (failureContent d i) (modPoint i (fun q => { q with repSet := (point d i).epochLast }) d) := by
  have due : (if reason = 1 then (point d i).epochLast != (point d i).repSet else reason == 2 && (point d i).epochLast != (point d i).decl)
      = true := by
    rcases hr with ⟨rfl, h⟩ | ⟨rfl, h⟩
    · exact bne_iff_ne.mpr h
    · exact bne_iff_ne.mpr h
  rw [failureReport, h4, hp, ha, hf, due]
  rfl

end Failure

/-! ### The PM second (R397 to R401) -/

theorem pmUas_epoch (i : Nat) (far un : Bool) (first : Nat) (d : Dev) : (pmUas i far un first d).time.epoch = d.time.epoch :=
  (postEvt_records _ _ _ _ _ d).epoch

theorem binSecond_epoch (i : Nat) (x : SecRes) (d : Dev) : (binSecond i x d).time.epoch = d.time.epoch := by
  rw [binSecond]
  dsimp only
  split
  · rw [pmUas_epoch]
    split
    · rw [pmUas_epoch]; rfl
    · rfl
  · split
    · rw [pmUas_epoch]; rfl
    · rfl

theorem evalSecond_epoch (from_ i : Nat) (x : Nat × Nat × Nat × Nat) (d : Dev) : (evalSecond from_ i x d).time.epoch = d.time.epoch := by
  rw [evalSecond]
  split
  · rfl
  · exact binSecond_epoch _ _ d

theorem stepDeg_prov (i : Nat) (r : Bytes) (x : Nat × Nat × Nat × Nat) (d : Dev) : (stepDeg i r x d).prov = d.prov := by
  rw [stepDeg]
  dsimp only
  split <;> rfl

theorem stepDeg_epoch (i : Nat) (r : Bytes) (x : Nat × Nat × Nat × Nat) (d : Dev) : (stepDeg i r x d).time.epoch = d.time.epoch := by
  rw [stepDeg]
  dsimp only
  split <;> rfl

theorem clearBins_none {from_ i : Nat} {d : Dev} (h : (point d i).clr = 0) : clearBins from_ i d = d := if_pos h

theorem pmSecond_done {d : Dev} (h : d.pm.secAt = now d) : pmSecond d = d := by
  rw [pmSecond]
  exact if_pos (by rw [beq_iff_eq.mpr h, Bool.or_true])

theorem pmSecond_within {d : Dev} (h : now d % 1000 ≠ 0) : pmSecond d = d := by
  rw [pmSecond]
  exact if_pos (by rw [bne_iff_ne.mpr h, Bool.or_true, Bool.true_or])

/-- A second of one point with nothing to clear. -/
theorem pmSecond_evaluates {i : Nat} {r : Bytes} {d : Dev} (h4 : domReady d 4 = true) (hn : now d % 1000 = 0) (hs : d.pm.secAt ≠ now d)
    (h0 : d.pm.secAt ≠ 0) (ha : assisted d 8 0 = false) (hp : points d.prov.serv = [(i, r)]) (hf : (point d i).fresh = false)
    (hc : (point d i).clr = 0) :
    pmSecond d =
      (let x := snapshot d (i, r)
       let e := modPm (fun m => { m with secAt := now d }) (evalSecond (now d - 1000) i x (stepDeg i r x d))
       newSecond (wrapCtr .pmonSec 31 0 1 (allPoints (fun _ p => if p.fresh then beginPoint false (rotate e) p else p) (rotate e)))) := by
  have alone (x : Nat × Nat × Nat × Nat) : assisted (stepDeg i r x d) 8 0 = false := by rw [assisted, stepDeg_prov]; exact ha
  have same (x : Nat × Nat × Nat × Nat) : now (evalSecond (now d - 1000) i x (stepDeg i r x d)) = now d := by
    rw [now, evalSecond_epoch, stepDeg_epoch, now]
  have live : ([(i, r)].filter fun e => !(point d e.1).fresh) = [(i, r)] := List.filter_cons_of_pos (by rw [hf]; rfl)
  have due : ¬ (!domReady d 4 || now d % 1000 != 0 || d.pm.secAt == now d) = true := by
    rw [h4, hn, beq_eq_false_iff_ne.mpr hs]
    decide
  unfold pmSecond
  refine (if_neg due).trans ?_
  simp only [show (d.pm.secAt == 0) = false from beq_eq_false_iff_ne.mpr h0, gate_false, hp, live, List.foldl_cons, List.foldl_nil, List.map_cons, List.map_nil]
  rw [clearBins_none hc, alone, if_neg Bool.false_ne_true, same]

theorem pmBinFinal_posts {day : Bool} {b : _} {l : List _} {d : Dev} (h4 : domReady d 4 = true)
    (hb : (if day then d.pm.fin24 else d.pm.fin15) = b :: l) (ha : assisted d 8 0 = false) (hn : b.end_ + 10000 ≤ now d)
    (hp : points d.prov.serv ≠ []) :
    pmBinFinal day d = evtPm 0x0A03 0xFFFFFFFF
      (be 6 b.start ++ be 1 day.toNat ++ zeros 1 ++ be 4 (b.n.getD (suspects d (if day then 3 else 1))))
      (modPm (fun m => if day then { m with fin24 := l } else { m with fin15 := l }) d) := by
  have some_ (f : PmSt → PmSt) : ¬ (points (modPm f d).prov.serv).isEmpty = true := by
    rw [List.isEmpty_iff]
    exact hp
  rw [pmBinFinal, hb]
  dsimp only
  refine (if_neg ?_).trans (if_neg (some_ _))
  rw [h4, ha, decide_eq_false (Nat.not_lt.mpr hn)]
  exact Bool.false_ne_true

/-- Settles O36. -/
theorem performanceIsMonitored : Obligations.PerformanceIsMonitored := by
  unfold Obligations.PerformanceIsMonitored
  intro s on h4
  refine ⟨?failures, ?report, ?second, ?done, ?within, ?final⟩
  case failures =>
    intro i c hi hc hp ha hf
    have fits : (isPoint i && isClass c) = true := by rw [isPoint, isClass, decide_eq_true hi, decide_eq_true hc]; rfl
    have runs := integrates_point h4 hp ha hf
    exact ⟨fun hd hr => runDev_settles (exec_failureDeclare i c s) on fits (failureDeclare_long hc runs hd hr),
      fun _ hr => runDev_settles (exec_failureDeclare i c s) on fits (failureDeclare_short hr),
      fun hd hr => runDev_settles (exec_failureClear i c s) on fits (failureClear_long hc runs hd hr),
      fun _ hr => runDev_settles (exec_failureClear i c s) on fits (failureClear_short hr)⟩
  case report =>
    intro i reason hi hp ha hf hr
    have known : (reason == 1 || reason == 2) = true := by
      rcases hr with ⟨rfl, _⟩ | ⟨rfl, _⟩ <;> rfl
    exact runDev_ends (exec_pmFailureReport i reason s) on (by rw [isPoint, decide_eq_true hi, known]; rfl)
      (failureReport_reports h4 hp ha hf hr)
  case second =>
    exact fun i r hn hs h0 ha hp hf hc => runDev_ends (exec_pmSecondBoundary s) on rfl (pmSecond_evaluates h4 hn hs h0 ha hp hf hc)
  case done => exact fun h => runDev_ends (exec_pmSecondBoundary s) on rfl (pmSecond_done h)
  case within => exact fun h => runDev_ends (exec_pmSecondBoundary s) on rfl (pmSecond_within h)
  case final =>
    exact fun day b l hb ha hn hp => runDev_ends (exec_pmBinFinal day s) on rfl (pmBinFinal_posts h4 hb ha hn hp)

end Sys2Proof.Proofs
end

section
/-! SUPPORT. Lanes and codewords. -/

namespace Sys2Proof.Proofs

open Sys2Proof.Machine Sys2Proof.Laws Sys2Proof.Spec

/-! ### Lanes (R193, R205, R211, R239) -/

section Line

variable {p k : Nat} {d : Dev} (hk : k < 8) (on : lineOn d p = true)
include hk on

theorem laneSignal_line (v : Bool) : laneSignal true p k v d =
    gate (!v) (fun d => setRb (.lineLstat p k) 1 false (setRb (.lineLstat p k) 2 false d)) (setRb (.lineLstat p k) 0 v d) := by
  rw [laneSignal, if_pos rfl, lineSignal, on, decide_eq_false (show ¬ 8 ≤ k by omega)]
  rfl

theorem laneCdr_line : laneCdr true p k d = if rb d (.lineLstat p k) 0 then setRb (.lineLstat p k) 1 true d else d := by
  rw [laneCdr, if_pos rfl, on, decide_eq_true hk]
  rfl

theorem laneAdapted_line : laneAdapted true p k d = if rb d (.lineLstat p k) 1 then setRb (.lineLstat p k) 2 true d else d := by
  rw [laneAdapted, if_pos rfl, on, decide_eq_true hk]
  rfl

end Line

section Client

variable {n k i : Nat} {d : Dev} (on : clientOn d n = true) (ho : laneOwner d n k = some i)
include on ho

/-- The lane's owner and its domain are not found in its status. -/
theorem laneSignal_client (v : Bool) : laneSignal false n k v d =
    showLol i (gate (!v) (fun d => setRb (.cliLstat n k) 1 false (setRb (.cliLstat n k) 2 false d)) (setRb (.cliLstat n k) 0 v d)) := by
  have signal : clientSignal n k v d =
      gate (!v) (fun d => setRb (.cliLstat n k) 1 false (setRb (.cliLstat n k) 2 false d)) (setRb (.cliLstat n k) 0 v d) := by
    rw [clientSignal, on, ho]
    rfl
  have owner : laneOwner (clientSignal n k v d) n k = some i := by
    rw [signal]
    cases v <;> exact ho
  have up : clientOn (clientSignal n k v d) n = true := by
    rw [signal]
    cases v <;> exact on
  rw [laneSignal, if_neg Bool.false_ne_true]
  dsimp only
  rw [owner, up]
  dsimp only
  rw [gate_true, signal]

theorem laneCdr_client (h : rb d (.cliLstat n k) 0 = true) : laneCdr false n k d = showLol i (setRb (.cliLstat n k) 1 true d) := by
  rw [laneCdr, if_neg Bool.false_ne_true, ho, on, h]
  rfl

theorem laneAdapted_client (h : rb d (.cliLstat n k) 1 = true) : laneAdapted false n k d = setRb (.cliLstat n k) 2 true d := by
  rw [laneAdapted, if_neg Bool.false_ne_true, ho, on, h]
  rfl

end Client

/-! ### Codewords (R183, R194, R214) -/

theorem lineCodeword_eq {p errs : Nat} {d : Dev} {fixed lost : Bool} (on : lineOn d p = true)
    (hf : (decide (0 < errs) && decide (errs ≤ 15) && !lrDetectOnly (rxFlexRec d p)) = fixed)
    (hl : (decide (0 < errs) && !fixed) = lost) :
    lineCodeword p errs d = gate fixed (count (6 + p) (ctrLine p 2) errs) (gate lost (count (6 + p) (ctrLine p 3) 1)
      (count (6 + p) (ctrLine p 0) 1 (gate fixed (count (6 + p) (ctrLine p 1) 1)
        (modLn p (fun l => { l with fecSyms := l.fecSyms + 544, fecErrs := l.fecErrs + (if fixed then errs else 0) }) d)))) := by
  subst hl hf
  rw [lineCodeword, on, if_neg (by decide)]

theorem portOn_listed {i : Nat} {d : Dev} (h : portOn d i = true) : hasPort d i = true ∧ domReady d (10 + i / 16) = true := by
  rw [portOn, Bool.and_eq_true, Bool.and_eq_true] at h
  exact ⟨h.1.2, h.2⟩

section Port

variable {i errs : Nat} {d : Dev} (on : portOn d i = true)
include on

theorem clientCodeword_plain (hc : cpFec (cpOf d i) = 0) : clientCodeword i errs d =
    countBlock 5 i (decide (0 < errs)) (if 0 < errs then count (10 + i / 16) (ctrClient i 15) 1 d else d) := by
  obtain ⟨listed, ready⟩ := portOn_listed on
  rw [clientCodeword, listed, ready, if_neg (by decide), if_pos hc, gate]
  simp only [decide_eq_true_eq]

/-- The symbols of a codeword and the errors found in it. -/
def codewordRead (i errs symbols : Nat) (d : Dev) : Dev :=
  modCli i (fun c => { c with fecSyms := c.fecSyms + symbols, fecErrs := c.fecErrs + errs }) d

theorem clientCodeword_coded {code : Nat × Nat} (hc : cpFec (cpOf d i) ≠ 0) (hk : fecCode (cpFec (cpOf d i)) = code) :
    clientCodeword i errs d =
      (let fixed := decide (0 < errs ∧ errs ≤ code.2)
       gate (cpEth (cpOf d i)) (countBlock 5 i (decide (code.2 < errs)))
        (gate fixed (count (10 + i / 16) (ctrClient i 13) errs) (gate (decide (code.2 < errs)) (count (10 + i / 16) (ctrClient i 14) 1)
          (count (10 + i / 16) (ctrClient i 11) 1 (gate fixed (count (10 + i / 16) (ctrClient i 12) 1) (codewordRead i errs code.1 d)))))) := by
  obtain ⟨listed, ready⟩ := portOn_listed on
  subst hk
  rw [clientCodeword, listed, ready, if_neg (by decide), if_neg hc]
  rfl

section Outcome

variable {code : Nat × Nat} (hc : cpFec (cpOf d i) ≠ 0) (hk : fecCode (cpFec (cpOf d i)) = code)
include hc hk

theorem clientCodeword_clean (h : errs = 0) : clientCodeword i errs d =
    gate (cpEth (cpOf d i)) (countBlock 5 i false) (count (10 + i / 16) (ctrClient i 11) 1 (codewordRead i errs code.1 d)) := by
  rw [clientCodeword_coded on hc hk, decide_eq_false (show ¬ (0 < errs ∧ errs ≤ code.2) by omega),
    decide_eq_false (show ¬ code.2 < errs by omega)]
  rfl

theorem clientCodeword_corrected (h : 1 ≤ errs) (h' : errs ≤ code.2) : clientCodeword i errs d =
    gate (cpEth (cpOf d i)) (countBlock 5 i false) (count (10 + i / 16) (ctrClient i 13) errs
      (count (10 + i / 16) (ctrClient i 11) 1 (count (10 + i / 16) (ctrClient i 12) 1 (codewordRead i errs code.1 d)))) := by
  rw [clientCodeword_coded on hc hk, decide_eq_true (show 0 < errs ∧ errs ≤ code.2 from ⟨h, h'⟩),
    decide_eq_false (show ¬ code.2 < errs by omega)]
  rfl

theorem clientCodeword_lost (h : code.2 < errs) : clientCodeword i errs d =
    gate (cpEth (cpOf d i)) (countBlock 5 i true) (count (10 + i / 16) (ctrClient i 14) 1
      (count (10 + i / 16) (ctrClient i 11) 1 (codewordRead i errs code.1 d))) := by
  rw [clientCodeword_coded on hc hk, decide_eq_false (show ¬ (0 < errs ∧ errs ≤ code.2) by omega), decide_eq_true h]
  rfl

end Outcome

end Port

/-- Settles O38. -/
theorem lanesAndCodewords : Obligations.LanesAndCodewords := by
  unfold Obligations.LanesAndCodewords
  intro s on
  refine ⟨?line, ?client, ?lineCodes, ?clientCodes⟩
  case line =>
    intro p k hp hk up
    have fits : (isSlice p && isLane true k) = true := by rw [isSlice, isLane, decide_eq_true hp, if_pos rfl, decide_eq_true hk]; rfl
    refine ⟨runDev_settles (exec_laneSignalDetect true p k true s) on fits (laneSignal_line hk up true),
      runDev_settles (exec_laneSignalDetect true p k false s) on fits (laneSignal_line hk up false),
      fun h => runDev_settles (exec_laneCdrLock true p k s) on fits ?_, fun h => runDev_settles (exec_laneCdrLock true p k s) on fits ?_,
      fun h => runDev_settles (exec_laneAdapted true p k s) on fits ?_, fun h => runDev_settles (exec_laneAdapted true p k s) on fits ?_⟩
    · rw [laneCdr_line hk up, if_pos h]
    · rw [laneCdr_line hk up, h, if_neg Bool.false_ne_true]
    · rw [laneAdapted_line hk up, if_pos h]
    · rw [laneAdapted_line hk up, h, if_neg Bool.false_ne_true]
  case client =>
    intro n k i hn hk up ho
    have fits : (isSlice n && isLane false k) = true := by rw [isSlice, isLane, decide_eq_true hn, if_neg Bool.false_ne_true, decide_eq_true hk]; rfl
    exact ⟨runDev_settles (exec_laneSignalDetect false n k true s) on fits (laneSignal_client up ho true),
      runDev_settles (exec_laneSignalDetect false n k false s) on fits (laneSignal_client up ho false),
      fun h => runDev_settles (exec_laneCdrLock false n k s) on fits (laneCdr_client up ho h),
      fun h => runDev_settles (exec_laneAdapted false n k s) on fits (laneAdapted_client up ho h)⟩
  case lineCodes =>
    intro p errs hp up
    have counted {d : Dev} (h : lineCodeword p errs s.dev = d) : Ends (.fecCodeword true p errs) s d :=
      runDev_ends (exec_fecCodeword true p errs s) on (by rw [if_pos rfl, isPort, decide_eq_true hp]) (by rw [if_pos rfl, h])
    refine ⟨fun h => counted ?_, fun h1 h2 h3 => counted ?_, fun h => counted ?_⟩
    · exact lineCodeword_eq (fixed := false) (lost := false) up (by simp [h]) (by simp [h])
    · exact lineCodeword_eq (fixed := true) (lost := false) up (by simp [h2, h3]; omega) (by simp)
    · exact lineCodeword_eq (fixed := false) (lost := true) up (by simp; omega) (by simp; omega)
  case clientCodes =>
    intro i errs hi up
    have counted {d : Dev} (h : clientCodeword i errs s.dev = d) : Ends (.fecCodeword false i errs) s d :=
      runDev_ends (exec_fecCodeword false i errs s) on (by rw [if_neg Bool.false_ne_true, isClient, decide_eq_true hi])
        (by rw [if_neg Bool.false_ne_true, h])
    refine ⟨fun h => counted (clientCodeword_plain up h), fun hc => ?_⟩
    have code : fecCode (cpFec (cpOf s.dev i)) = if cpFec (cpOf s.dev i) = 1 then (528, 7) else (544, 15) := by
      rw [fecCode]
      rcases hc with h | h
      · rw [if_pos h, if_pos h]
      · rw [h]; rfl
    have coded : cpFec (cpOf s.dev i) ≠ 0 := by omega
    exact ⟨fun h => counted (clientCodeword_clean up coded code h), fun h h' => counted (clientCodeword_corrected up coded code h h'),
      fun h => counted (clientCodeword_lost up coded code h)⟩

end Sys2Proof.Proofs
end

section
/-! SUPPORT. Line framing and the sent frame. -/

namespace Sys2Proof.Proofs

open Sys2Proof.Machine Sys2Proof.Laws Sys2Proof.Spec

/-! ### FlexO alignment (R212) -/

theorem amStep_walks (x : FlexO) (pos : Nat) (valid : Bool) : amStep x pos valid = match x.st with
    | .hunt => if valid then { x with st := .confirm, pos := pos, miss := 0 } else x
    | .confirm => if pos = x.pos + 696320 then
        if valid then { x with st := .lock, pos := pos, miss := 0 } else { x with st := .hunt } else x
    | .lock => if pos = x.pos + 696320 then
        if valid then { x with pos := pos, miss := 0 }
        else if x.miss < 4 then { x with pos := pos, miss := x.miss + 1 } else { x with st := .hunt, miss := 0 } else x := by
  rw [amStep]
  cases x.st
  case hunt => rfl
  case confirm => exact ite_not _ _ _
  case lock =>
    refine (ite_not _ _ _).trans ?_
    dsimp only
    by_cases h : x.miss < 4
    · rw [if_neg (show ¬ x.miss + 1 ≥ 5 by omega), if_pos h]
    · rw [if_pos (show x.miss + 1 ≥ 5 by omega), if_neg h]

theorem lineOn_of {p : Nat} {d : Dev} (hp : p < 4) (h : domReady d (6 + p) = true) : lineOn d p = true := by
  rw [lineOn, h, decide_eq_true (show p ≤ 3 by omega)]
  rfl

section Line

variable {p : Nat} {d : Dev} (on : lineOn d p = true)
include on

/-- A marker of a FlexO framer: what is kept of it, where `took` says that it moved the framer and `use` that its overhead counts. -/
theorem flexoMarker_eq {k pos bad id gid skew : Nat} {crcOk rpf took use : Bool} (hk : k < 16) (hg : laneGood d p (k / 2) = true)
    (ht : (amStep (flexO d p k) pos (decide (bad ≤ 4)) != flexO d p k && decide (bad ≤ 4)) = took)
    (hu : (crcOk && (took || ((flexO d p k).st == .lock && (amStep (flexO d p k) pos (decide (bad ≤ 4))).st == .lock &&
      amStep (flexO d p k) pos (decide (bad ≤ 4)) != flexO d p k))) = use) :
    flexoMarker p k pos bad crcOk id gid skew rpf d =
      (let y := amStep (flexO d p k) pos (decide (bad ≤ 4))
       showLine p (gate use (setLine p 15 rpf) (modFlexO p k (fun _ => { y with
         skew := if took then skew else y.skew
         id := if use then id % 32 else y.id, gid := if use then gid else y.gid })
         (modLn p (fun l => { l with rxRec := some (lineRec d p) }) d)))) := by
  subst hu ht
  rw [flexoMarker, on, hg, decide_eq_false (show ¬ 16 ≤ k by omega)]
  exact if_neg Bool.false_ne_true

theorem flexoLof_shows : flexoLof p d = setLine p 3 (!amLocked d p) d := by rw [flexoLof, if_pos on]

section Framer

variable {x : OtucRx} (hl : laneLost d p = false) (hf : flexHeld d p = false)
include hl hf

theorem otucFrameRx_hunts (hi : (framer d p).inFrame = false) : otucFrameRx p x d = huntFrame p x.obs d := by
  rw [otucFrameRx, on, hl, hf, hi]
  rfl

theorem otucFrameRx_framed (hi : (framer d p).inFrame = true) : otucFrameRx p x d =
    (let o := obsAt x.obs (framer d p).pos
     let bad := if o.ok then 0 else (framer d p).bad + 1
     let d := modFramer p (fun f => { f with bad := bad }) d
     if bad ≥ 5 then leaveFrame p true (count (6 + p) (ctrLine p 5) 1 d) else frameIn p x o d) := by
  rw [otucFrameRx, on, hl, hf]
  refine (if_neg Bool.false_ne_true).trans (if_pos hi)

theorem otucFrameRx_good (hi : (framer d p).inFrame = true) (ho : (obsAt x.obs (framer d p).pos).ok = true) :
    otucFrameRx p x d = frameIn p x (obsAt x.obs (framer d p).pos) (modFramer p (fun f => { f with bad := 0 }) d) := by
  rw [otucFrameRx_framed on hl hf hi]
  dsimp only
  rw [ho]
  rfl

theorem otucFrameRx_fifthBad (hi : (framer d p).inFrame = true) (ho : (obsAt x.obs (framer d p).pos).ok = false)
    (hb : 4 ≤ (framer d p).bad) :
    otucFrameRx p x d = leaveFrame p true (count (6 + p) (ctrLine p 5) 1 (modFramer p (fun f => { f with bad := (framer d p).bad + 1 }) d)) := by
  rw [otucFrameRx_framed on hl hf hi]
  dsimp only
  rw [ho]
  exact if_pos (show (framer d p).bad + 1 ≥ 5 by omega)

end Framer

theorem lofChange_follows (h : fstat d p 9 ≠ (!(framer d p).inFrame)) :
    lofChange p d = if (framer d p).inFrame then setLine p 9 false d else alignLost p (setLine p 9 true d) := by
  rw [lofChange, on, beq_eq_false_iff_ne.mpr h]
  cases (framer d p).inFrame <;> rfl

omit on in
theorem lofChange_same (h : fstat d p 9 = (!(framer d p).inFrame)) : lofChange p d = d := by
  rw [lofChange]
  exact if_pos (by rw [beq_iff_eq.mpr h, Bool.or_true])

theorem lomChange_follows (h : fstat d p 11 ≠ fstat d p 10) :
    lomChange p d = if fstat d p 10 then alignLost p (setLine p 11 true d) else setLine p 11 false d := by
  rw [lomChange, on, beq_eq_false_iff_ne.mpr h]
  cases fstat d p 10 <;> rfl

omit on in
theorem lomChange_same (h : fstat d p 11 = fstat d p 10) : lomChange p d = d := by
  rw [lomChange]
  exact if_pos (by rw [beq_iff_eq.mpr h, Bool.or_true])

end Line

/-! ### The sent frame (R209, R210, R221) -/

/-- What a frame takes with it where it starts: the FlexO position, the record of its FlexO frame, its messages. -/
def frameStarts (p m : Nat) (y : Dev) : Dev :=
  modLn p (fun l => { l with
    flexPos := ((ln y p).flexPos + flexStep) % flexLen
    txRec := if flexLen ≤ (ln y p).flexPos + flexStep ∨ l.txRec = none then some (lineRec y p) else l.txRec
    txMsg := if l.txMsg = [] then rszMessage y p else l.txMsg
    txBeacon := if m % 16 = 0 ∨ l.txBeacon = [] then beaconBytes y p else l.txBeacon }) y

/-- The frame of multiframe count m, of the device y where it starts and e once the containers' frames went out. -/
def sentFrame (p m : Nat) (ohx : Option Bytes) (y e : Dev) : TxFrame where
  mfas := m
  rec_ := lineRec y p
  exp1 := slice (ln e p).txMsg (2 * (m % 32)) 2
  exp2 := if lrBeaconTx (lineRec y p) then slice (ln e p).txBeacon (2 * (m % 16)) 2 else [0, 0]
  ohx := ohx
  msi := portMsi e p
  avail := (rz e p).txMap
  fill := portFill e p
  fatal := muted e
  fx := flexTx y p
  lanes := flexLanes y p
  fxNext := if flexLen ≤ (ln y p).flexPos + flexStep then some (flexTx e p, flexLanes e p) else none
  conts := ((contsNow e).filter fun x => lineOf x.1 == p && (tget {} e.cont x.1).up && !(tget {} e.cont x.1).pre).map fun x => contTx e x.1
  layers := portLayers e p

/-- The device y once the containers' frames went out. -/
def odusSent (p m : Nat) (odu : List OduTx) (y : Dev) : Dev :=
  (odu.filter fun x => lineOf x.cont == p).foldl (fun d x => oduSent x d) (frameStarts p m y)

/-- The device e once frame f of multiframe count m went out. -/
def frameGone (p m : Nat) (f : TxFrame) (e : Dev) : Dev :=
  modLn p (fun l => { l with tx := f, txMfas := (m + 1) % 256, txMf := if m = 255 then l.txMf + 1 else l.txMf })
    ((portLayers e p).foldl (fun d l => modLayer l.key (fun y => { y with bei := y.bei.drop 1 }) d) e)

theorem sentFrame_fxNext (p m : Nat) (ohx : Option Bytes) (y e : Dev) : (sentFrame p m ohx y e).fxNext =
    if flexLen ≤ (ln y p).flexPos + flexStep then some (flexTx e p, flexLanes e p) else none := by rw [sentFrame]

theorem rszTick_within {p ns : Nat} {d : Dev} (h : (ln d p).txMfas % 32 ≠ 0) : rszTick p ns d = d := if_pos h

theorem lineTxFrame_sends {p ns : Nat} {odu : List OduTx} {d : Dev} (on : lineOn d p = true) (hm : (ln d p).txMfas % 32 ≠ 0) :
    lineTxFrame p ns odu d =
      (let m := (ln d p).txMfas
       let y := ohxTake p d
       let e := odusSent p m odu y.2
       let g := frameGone p m (sentFrame p m y.1 y.2 e) e
       count (6 + p) (ctrLine p 11) (slotOctets (busySlots g p (rz g p).txMap) m) g) := by
  have starts (y : Dev) : modLn p (fun l => { l with
      flexPos := ((ln y p).flexPos + flexStep) % flexLen
      txRec := if decide (flexLen ≤ (ln y p).flexPos + flexStep) || l.txRec.isNone then some (lineRec y p) else l.txRec
      txMsg := if (ln d p).txMfas % 32 = 0 ∨ l.txMsg = [] then rszMessage y p else l.txMsg
      txBeacon := if (ln d p).txMfas % 16 = 0 ∨ l.txBeacon = [] then beaconBytes y p else l.txBeacon }) y
      = frameStarts p (ln d p).txMfas y := by
    simp only [frameStarts, Bool.or_eq_true, decide_eq_true_eq, Option.isNone_iff_eq_none, hm, false_or]
  rw [lineTxFrame, on, if_neg (by decide), rszTick_within hm]
  dsimp only
  rw [starts]
  simp only [decide_eq_true_eq, sentFrame, odusSent, frameGone]

theorem txOverhead_fas (f : TxFrame) (inst : Nat) {col : Nat} (h : col < 6) : txOverhead f inst 0 col = some (fasBytes.getD col 0) := by
  rw [txOverhead, if_neg (by omega), if_neg (by omega), if_neg (by omega), if_pos ⟨rfl, h⟩]

theorem txOverhead_mfas (f : TxFrame) (inst : Nat) : txOverhead f inst 0 6 = some (BitVec.ofNat 8 f.mfas) := by
  rw [txOverhead, if_neg (by omega), if_neg (by omega), if_neg (by omega), if_neg (by omega), if_pos ⟨rfl, rfl⟩]

theorem txOverhead_row1 (f : TxFrame) (inst : Nat) {col : Nat} (h : 4 ≤ col) (h' : col < 13) : txOverhead f inst 1 col = some 0 := by
  rw [txOverhead, if_neg (by omega), if_neg (by omega), if_pos (.inl ⟨rfl, h, h'⟩)]

theorem txOverhead_unused {f : TxFrame} {inst col : Nat} (hi : 2 ≤ inst) (ho : f.ohx = none) (hc : col = 12 ∨ col = 13)
    (h : ohxInOk inst 2 col = true) : txOverhead f inst 2 col = some 0 := by
  rw [txOverhead, if_neg (by omega), if_neg (by omega), if_neg (by omega), if_neg (by omega), if_neg (by omega), if_neg (by omega),
    if_pos h, ohxByte, ho]

/-- Settles O40. -/
theorem linesFrameAndAlign : Obligations.LinesFrameAndAlign := by
  unfold Obligations.LinesFrameAndAlign
  refine ⟨amStep_walks, fun s p os hp hr => ?_⟩
  have on := lineOn_of hp hr
  have port : isPort p = true := decide_eq_true hp
  refine ⟨?marker, ?lof, ?fifthBad, ?good, ?hunt, ?lofFollows, ?lofSame, ?lomFollows, ?lomSame, ?sent⟩
  case marker =>
    intro k pos bad crcOk id gid skew rpf hk hg
    have marked {d : Dev} (h : flexoMarker p k pos bad crcOk id gid skew rpf s.dev = d) :
        Settles (.flexoMarker p k pos bad crcOk id gid skew rpf) s d :=
      runDev_settles (exec_flexoMarker p k pos bad crcOk id gid skew rpf s) os (by rw [port, decide_eq_true hk]; rfl) h
    refine ⟨fun h => marked ?_, fun hy hb hc => marked ?_, fun hy hb hc => marked ?_, fun hy hb hc ho hn => marked ?_⟩
    · refine flexoMarker_eq (took := false) (use := false) on hk hg ?_ ?_
      · rcases h with h | ⟨h, -⟩
        · rw [h, bne_self_eq_false, Bool.false_and]
        · rw [decide_eq_false (Nat.not_le.mpr h), Bool.and_false]
      · rcases h with h | ⟨-, h | h | h⟩
        · rw [h, bne_self_eq_false, Bool.and_false, Bool.or_false, Bool.and_false]
        · rw [h, Bool.false_and]
        · rw [beq_eq_false_iff_ne.mpr h, Bool.false_and, Bool.false_and, Bool.or_false, Bool.and_false]
        · rw [beq_eq_false_iff_ne.mpr h, Bool.and_false, Bool.false_and, Bool.or_false, Bool.and_false]
    · refine flexoMarker_eq (took := true) (use := false) on hk hg ?_ (by rw [hc, Bool.false_and])
      rw [bne_iff_ne.mpr hy, decide_eq_true hb]
      rfl
    · refine flexoMarker_eq (took := true) (use := true) on hk hg ?_ (by rw [hc, Bool.true_or]; rfl)
      rw [bne_iff_ne.mpr hy, decide_eq_true hb]
      rfl
    · refine flexoMarker_eq (took := false) (use := true) on hk hg ?_ ?_
      · rw [decide_eq_false (Nat.not_le.mpr hb), Bool.and_false]
      · rw [hc, beq_iff_eq.mpr ho, beq_iff_eq.mpr hn, bne_iff_ne.mpr hy]
        rfl
  case lof => exact runDev_settles (exec_flexoLof p s) os port (flexoLof_shows on)
  case fifthBad => exact fun x hl hf hi ho hb => runDev_settles (exec_otucFrameRx p x s) os port (otucFrameRx_fifthBad on hl hf hi ho hb)
  case good => exact fun x hl hf hi ho => runDev_settles (exec_otucFrameRx p x s) os port (otucFrameRx_good on hl hf hi ho)
  case hunt => exact fun x hl hf hi => runDev_settles (exec_otucFrameRx p x s) os port (otucFrameRx_hunts on hl hf hi)
  case lofFollows => exact fun h => runDev_settles (exec_lofChange p s) os port (lofChange_follows on h)
  case lofSame => exact fun h => runDev_settles (exec_lofChange p s) os port (lofChange_same h)
  case lomFollows => exact fun h => runDev_settles (exec_lomChange p s) os port (lomChange_follows on h)
  case lomSame => exact fun h => runDev_settles (exec_lomChange p s) os port (lomChange_same h)
  case sent =>
    intro ns odu hns hm
    have sends := lineTxFrame_sends (ns := ns) (odu := odu) on hm
    have fits : (isPort p && isNs ns) = true := by rw [port, isNs, decide_eq_true hns]; rfl
    refine ⟨_, _, runDev_settles (exec_lineTxFrame p ns odu s) os fits sends, rfl, rfl, rfl, rfl, rfl, rfl, rfl, rfl, rfl, ?ids, ?groups, rfl,
      sentFrame_fxNext _ _ _ _ _, ?beacon, ?silent, ?overhead⟩
    case ids => exact (List.map_map ..).trans (List.map_id _)
    case groups =>
      intro x hx
      obtain ⟨k, -, rfl⟩ := List.mem_map.mp hx
      exact ⟨rfl, rfl⟩
    case beacon => exact fun h => if_pos h
    case silent => exact fun h => if_neg (by rw [h]; decide)
    case overhead =>
      exact fun inst _ => ⟨fun col h => txOverhead_fas _ inst h, txOverhead_mfas _ inst, fun col h h' => txOverhead_row1 _ inst h h',
        fun hi ho col hc h => txOverhead_unused hi ho hc h⟩

end Sys2Proof.Proofs
end

section
/-! SUPPORT. Beacons and the overhead exchange. -/

namespace Sys2Proof.Proofs

open Sys2Proof.Machine Sys2Proof.Laws Sys2Proof.Spec

theorem reg_pctr (x : PctrSt) (d : Dev) (r : Reg) : reg { d with pctr := x } r = reg d r := rfl

theorem reg_count {r : Reg} (h : r ∉ recordRegs) (hs : r ≠ .pctrWrapSum) (dm n k : Nat) (d : Dev) : reg (count dm n k d) r = reg d r := by
  rw [count]
  dsimp only
  split
  · rfl
  split
  · rfl
  split
  · exact reg_setRb_ne hs _ _ _
  · rw [postEvt, reg_postEvtAs h, reg_pctr, reg_setRb_ne hs, reg_pctr]

/-! ### The beacon (R223, R224) -/

theorem fstat_count (dm n k p b : Nat) (d : Dev) : fstat (count dm n k d) p b = fstat d p b :=
  rb_of_reg (r := .lineStat p) (reg_count (by simp [recordRegs]) (by simp) dm n k d) b

section Beacon

variable {p : Nat} {b : Bytes} {d : Dev} (on : lineOn d p = true)
include on

section Good

variable (hb : beaconOk b = true) (h8 : fstat d p 8 = false) (h10 : fstat d p 10 = false)
include hb h8 h10

theorem beaconRx_third (hn : (ln d p).beacon.n = 2) (hk : beaconKey b = beaconKey (ln d p).beacon.cand) (h14 : fstat d p 14 = false) :
    beaconRx p b d = showRz p (evtLine 0x0502 p p b (setLine p 14 true
      (modLn p (fun l => { l with beacon := { cand := b, n := 3, acc := some b, bad := 0 } }) d))) := by
  have three : (if (2 : Nat) ≠ 0 ∧ beaconKey b = beaconKey (ln d p).beacon.cand then 2 + 1 else 1) = 3 := if_pos ⟨by decide, hk⟩
  rw [beaconRx, on, hb, h8, h10]
  dsimp only
  rw [hn, three, h14, Bool.not_false, Bool.or_true]
  exact (if_neg Bool.false_ne_true).trans ((if_neg Bool.false_ne_true).trans (if_pos ⟨by decide, rfl⟩))

theorem beaconRx_first (hn : (ln d p).beacon.n = 0) :
    beaconRx p b d = modLn p (fun l => { l with beacon := { (ln d p).beacon with cand := b, n := 1, bad := 0 } }) d := by
  have one : (if (0 : Nat) ≠ 0 ∧ beaconKey b = beaconKey (ln d p).beacon.cand then 0 + 1 else 1) = 1 := if_neg fun h => h.1 rfl
  rw [beaconRx, on, hb, h8, h10]
  dsimp only
  rw [hn, one]
  exact (if_neg Bool.false_ne_true).trans ((if_neg Bool.false_ne_true).trans (if_neg fun h => absurd h.1 (by decide)))

end Good

theorem beaconRx_bad (hb : beaconOk b = false) (h : (ln d p).beacon.bad < 7 ∨ fstat d p 14 = false) :
    beaconRx p b d = modLn p (fun l => { l with beacon := { (ln d p).beacon with bad := (ln d p).beacon.bad + 1, n := 0 } })
      (count (6 + p) (ctrLine p 7) 1 d) := by
  rw [beaconRx, on, hb]
  dsimp only
  rw [fstat_count]
  refine (if_neg Bool.false_ne_true).trans ((if_pos rfl).trans (if_neg ?_))
  rcases h with h | h
  · rw [decide_eq_false (show ¬ (ln d p).beacon.bad + 1 ≥ 8 by omega), Bool.false_and]
    exact Bool.false_ne_true
  · rw [h, Bool.and_false]
    exact Bool.false_ne_true

theorem beaconRx_eighthBad (hb : beaconOk b = false) (h7 : 7 ≤ (ln d p).beacon.bad) (h14 : fstat d p 14 = true) :
    beaconRx p b d =
      (let y := count (6 + p) (ctrLine p 7) 1 d
       showRz p (setLine p 14 false (evtLine 0x0502 p p (farBeacon y p) (modLn p (fun l => { l with beacon := {} }) y)))) := by
  rw [beaconRx, on, hb]
  dsimp only
  rw [fstat_count, h14, decide_eq_true (show (ln d p).beacon.bad + 1 ≥ 8 by omega)]
  rfl

end Beacon

/-! ### Overhead exchange (R232 to R236) -/

section Exchange

variable {p : Nat} {d : Dev} (on : lineOn d p = true)

section On

include on

theorem ohxOut_reads {x : OhFrame} {rest : List OhFrame} (hr : (ln d p).ohx.rx = x :: rest) :
    ohxOut p d = modLn p (fun l => { l with ohx := { l.ohx with
      rx := rest, slipped := false, last := some x, count := ((ln d p).ohx.count + 1) % 65536
      out := if lrOhxEn (lineRec d p) then ohxFrame (lineRec d p) (some x) (framer d p).inFrame (ln d p).ohx.slipped (ln d p).ohx.count
        else (ln d p).ohx.out } }) d := by
  rw [ohxOut, on]
  dsimp only
  rw [hr]
  rfl

theorem ohxOut_slips {x : OhFrame} (hr : (ln d p).ohx.rx = []) (hl : (ln d p).ohx.last = some x) :
    ohxOut p d = ohxSlip p false (modLn p (fun l => { l with ohx := { l.ohx with
      rx := [], slipped := false, last := some x, count := ((ln d p).ohx.count + 1) % 65536
      out := if lrOhxEn (lineRec d p) then ohxFrame (lineRec d p) (some x) (framer d p).inFrame true (ln d p).ohx.count
        else (ln d p).ohx.out } }) d) := by
  rw [ohxOut, on]
  dsimp only
  rw [hr, hl]
  rfl

end On

theorem ohxIn_off {start : Bool} {b : Bytes} (h : lrOhxEn (lineRec d p) = false) : ohxIn p start b d = d := by
  rw [ohxIn]
  exact if_pos (by rw [h, Bool.not_false, Bool.or_true]; rfl)

theorem ohxIn_silent {b : Bytes} : ohxIn p false b d = d := by
  rw [ohxIn]
  exact if_pos (by rw [Bool.not_false, Bool.or_true]; rfl)

theorem ohxLos_early (h : (ln d p).ohx.idle < 16) : ohxLos p d = d := by
  rw [ohxLos]
  exact if_pos (by rw [decide_eq_true h, Bool.or_true])

theorem ohxTake_off (h : lrOhxEn (lineRec d p) = false) : (ohxTake p d).1 = none := by
  rw [ohxTake, h]
  rfl

section Enabled

variable (en : lrOhxEn (lineRec d p) = true)
include en

theorem ohxTake_frame {b : Bytes} {rest : List (Option Bytes)} (h : (ln d p).ohx.inq = some b :: rest) :
    (ohxTake p d).1 = if wbit b 1 0 && !fstat d p 13 then some b else none := by
  rw [ohxTake, en]
  dsimp only
  rw [h]
  rfl

theorem ohxTake_empty {rest : List (Option Bytes)} (h : (ln d p).ohx.inq = none :: rest) : (ohxTake p d).1 = none := by
  rw [ohxTake, en]
  dsimp only
  rw [h]
  rfl

include on

theorem ohxIn_wrong {b : Bytes} (hl : b.length = 40) (hc : u16 b 38 ≠ crcCcitt (b.take 38)) :
    ohxIn p true b d = satCtr (.lineOhxErr p) 15 0 1 (modLn p (fun l => { l with ohx := { l.ohx with
      inq := if l.ohx.inq.length < 2 then l.ohx.inq ++ [none] else l.ohx.inq } }) d) := by
  rw [ohxIn, on, en, hl]
  exact if_pos hc

theorem ohxIn_enters {b : Bytes} (hl : b.length = 40) (hc : u16 b 38 = crcCcitt (b.take 38)) (hq : (ln d p).ohx.inq.length < 2)
    (h13 : fstat d p 13 = false) :
    ohxIn p true b d = modLn p (fun l => { l with ohx := { l.ohx with inq := (ln d p).ohx.inq ++ [some b], idle := 0 } }) d := by
  have stat (f : LinePort → LinePort) : fstat (modLn p f d) p 13 = false := h13
  rw [ohxIn, on, en, hl]
  refine (if_neg (by decide)).trans ((if_neg (not_not.mpr hc)).trans ?_)
  dsimp only
  rw [decide_eq_false (show ¬ (ln d p).ohx.inq.length ≥ 2 by omega), gate_false, stat]
  rfl

theorem ohxLos_found (h13 : fstat d p 13 = false) (hi : 16 ≤ (ln d p).ohx.idle) :
    ohxLos p d = evtLine 0x0503 p p (be 4 (reg d (.lineOhxSlip p)).toNat) (setLine p 13 true d) := by
  rw [ohxLos, on, en, h13, decide_eq_false (show ¬ (ln d p).ohx.idle < 16 by omega)]
  rfl

end Enabled

end Exchange

/-- Settles O41. -/
theorem beaconsAndOverheadExchange : Obligations.BeaconsAndOverheadExchange := by
  unfold Obligations.BeaconsAndOverheadExchange
  intro s p os hp hr
  have on := lineOn_of hp hr
  have port : isPort p = true := decide_eq_true hp
  refine ⟨?third, ?first, ?bad, ?eighth, ?reads, ?slips, ?enabled, ?off⟩
  case third =>
    exact fun b hb h8 h10 hn hk h14 => runDev_settles (exec_beaconRx p b s) os port (beaconRx_third on hb h8 h10 hn hk h14)
  case first => exact fun b hb h8 h10 hn => runDev_settles (exec_beaconRx p b s) os port (beaconRx_first on hb h8 h10 hn)
  case bad => exact fun b hb h => ⟨_, runDev_settles (exec_beaconRx p b s) os port (beaconRx_bad on hb h), rfl⟩
  case eighth => exact fun b hb h7 h14 => ⟨_, _, runDev_settles (exec_beaconRx p b s) os port (beaconRx_eighthBad on hb h7 h14), rfl, rfl⟩
  case reads => exact fun x rest h => runDev_ends (exec_ohxOutFrame p s) os port (ohxOut_reads on h)
  case slips => exact fun x h hl => runDev_ends (exec_ohxOutFrame p s) os port (ohxOut_slips on h hl)
  case enabled =>
    intro en
    exact ⟨fun b hl hc => runDev_ends (exec_ohxInFrame p true b s) os port (ohxIn_wrong on en hl hc),
      fun b hl hc hq h13 => runDev_ends (exec_ohxInFrame p true b s) os port (ohxIn_enters on en hl hc hq h13),
      fun b => runDev_ends (exec_ohxInFrame p false b s) os port ohxIn_silent,
      fun h13 hi => runDev_ends (exec_ohxInLos p s) os port (ohxLos_found on en h13 hi),
      fun hi => runDev_ends (exec_ohxInLos p s) os port (ohxLos_early hi), fun b rest h => ohxTake_frame en h, fun rest h => ohxTake_empty en h⟩
  case off => exact fun h => ⟨ohxTake_off h, fun start b => runDev_ends (exec_ohxInFrame p start b s) os port (ohxIn_off h)⟩

end Sys2Proof.Proofs
end

section
/-! SUPPORT. Delineation. -/

namespace Sys2Proof.Proofs

open Sys2Proof.Machine Sys2Proof.Laws Sys2Proof.Spec

/-! ### Markers (R225, R227) -/

section Marker

variable {c : Nat} {d : Dev}

/-- The delineator examines what stands at its place. -/
theorem examines_running (ready : domReady d (14 + contSlice d c) = true) (hh : delinHeld d c = false) (hs : (pct d c).delin.st ≠ 0) :
    examines d c = true := by
  rw [examines, ready, hh, bne_iff_ne.mpr hs]
  rfl

theorem examines_hunt (hs : (pct d c).delin.st = 0) : examines d c = false := by rw [examines, hs, bne_self_eq_false, Bool.and_false]

theorem examines_held (hh : delinHeld d c = true) : examines d c = false := by rw [examines, hh, Bool.not_true, Bool.and_false, Bool.false_and]

section Received

variable {pos : Nat} {m : Bytes} (hz : zpcDelin d c = true) (hh : delinHeld d c = false) (hm : m.length = 8)
  (ready : domReady d (14 + contSlice d c) = true)
include hz hh hm ready

theorem markerCmd_hunt (hs : (pct d c).delin.st = 0) (ho : zmOk m = true) (hr : (pct d c).delin.resume ≤ pos) :
    markerCmd c pos m d = setDelin c { (pct d c).delin with
      st := 1, good := 0, err := 0, grid := pos + 2056, next := markHeader pos m, seq := zmSeq m, entry := pos } d := by
  have received : markerRx c pos m d = setDelin c { (pct d c).delin with
      st := 1, good := 0, err := 0, grid := pos + 2056, next := markHeader pos m, seq := zmSeq m, entry := pos } d := by
    rw [markerRx, hz, ready, hh, hm]
    refine (if_neg (by decide)).trans ((if_pos hs).trans (if_pos ?_))
    rw [ho, decide_eq_true hr]
    rfl
  rw [markerCmd, examines_hunt hs, Bool.and_false, Bool.false_and, Bool.false_and, gate_false, received]

theorem markerCmd_sync (hp : (pct d c).delin.grid = pos) (hs : (pct d c).delin.st = 2) (ho : zmOk m = true)
    (hq : zmSeq m = ((pct d c).delin.seq + 1) % 2 ^ 32) (ha : markAgrees pos m (pct d c).delin.next = true)
    (hn : (pct d c).delin.next ≠ none) :
    markerCmd c pos m d = countBlock 6 c false (setDelin c { (pct d c).delin with grid := pos + 2056, seq := zmSeq m } d) := by
  have inOrder : (zmSeq m != ((pct d c).delin.seq + 1) % 2 ^ 32 && !zmRestart m) = false := by rw [hq, bne_self_eq_false, Bool.false_and]
  have named : ¬ (pct d c).delin.next.isNone = true := fun h => hn (Option.isNone_iff_eq_none.mp h)
  have received : markerRx c pos m d = setDelin c { (pct d c).delin with grid := pos + 2056, seq := zmSeq m } d := by
    rw [markerRx, hz, ready, hh, hm]
    refine (if_neg (by decide)).trans ((if_neg (by rw [hs]; decide)).trans ((if_neg (by rw [hp]; exact not_not.mpr rfl)).trans
      ((if_neg (by rw [hs]; decide)).trans ((if_neg (by rw [ho]; decide)).trans ?_))))
    dsimp only
    rw [inOrder, gate_false]
    exact (if_neg named).trans (if_pos ha)
  rw [markerCmd, hz, examines_running ready hh (by rw [hs]; decide), hm, hp, received, ho]
  simp only [beq_self_eq_true, Bool.and_self, gate_true, Bool.not_true]

end Received

theorem markerCmd_held {pos : Nat} {m : Bytes} (hh : delinHeld d c = true) : markerCmd c pos m d = d := by
  have received : markerRx c pos m d = d := by
    rw [markerRx]
    exact if_pos (by rw [hh, Bool.or_true]; rfl)
  rw [markerCmd, examines_held hh, Bool.and_false, received]
  rfl

end Marker

/-! ### Headers (R227, R228) -/

theorem failHeader_eq (x : Delin) (next : Option Nat) (after : Nat) : failHeader x next after =
    if x.err < 2 then { x with err := x.err + 1, next := next, due := none }
    else { x with st := 0, good := 0, err := 0, next := none, due := none, resume := after } := by
  by_cases h : x.err < 2
  · rw [failHeader, if_neg (by omega), if_pos h]
  · rw [failHeader, if_pos (by omega), if_neg h, hunt]

section Header

variable {c pos : Nat} {skipped h : Bytes} {d : Dev} (hz : zpcDelin d c = true) (hh : delinHeld d c = false) (hl : h.length = 8)
  (hn : (pct d c).delin.next = some pos) (ready : domReady d (14 + contSlice d c) = true)
include hz hh hl hn ready

theorem headerRx_due (hs : (pct d c).delin.st ≠ 0) :
    ¬ (!zpcDelin d c || !domReady d (14 + contSlice d c) || delinHeld d c || h.length != 8 || (pct d c).delin.st == 0 ||
      (pct d c).delin.next != some pos) = true := by
  rw [hz, ready, hh, hl, beq_eq_false_iff_ne.mpr hs, hn, bne_self_eq_false (some pos)]
  decide

theorem headerRx_correct (ho : zhOk h = true) (hs : (pct d c).delin.st = 1 ∨ (pct d c).delin.st = 2) :
    headerRx c pos skipped h d =
      (let x := (pct d c).delin
       let e := skipBytes c skipped d
       let sync := x.st = 2 ∨ 1 ≤ x.good
       let y := { x with
         next := some (nextHeader x.grid pos (zhLen h)), good := x.good + 1, err := 0, st := if sync then 2 else 1
         due := if sync ∧ zhType h ≠ 0 ∧ zhLenOk h = true then some h else none }
       let i := if sync ∧ zhType h = 0 then countDelin c 7 1 e else e
       setDelin c y (if sync ∧ zhLenOk h = false then countDelin c 4 1 i else i)) := by
  have state : (if (pct d c).delin.st = 1 ∧ (pct d c).delin.good + 1 ≥ 2 then 2 else (pct d c).delin.st) =
      if (pct d c).delin.st = 2 ∨ 1 ≤ (pct d c).delin.good then 2 else 1 := by split <;> split <;> omega
  rw [headerRx]
  refine (if_neg (headerRx_due hz hh hl hn ready (by omega))).trans ((if_pos ho).trans ?_)
  dsimp only
  rw [state]
  by_cases sync : (pct d c).delin.st = 2 ∨ 1 ≤ (pct d c).delin.good
  · simp only [sync, if_true, gate, true_and, beq_iff_eq, bne_iff_ne, Bool.and_eq_true, Bool.not_eq_true']
  · simp only [sync, gate, false_and, if_false, show ((1 : Nat) == 2) = false from rfl, Bool.false_and, Bool.false_eq_true]

theorem headerRx_wrongInPresync (ho : zhOk h = false) (hs : (pct d c).delin.st = 1) :
    headerRx c pos skipped h d = setDelin c
      { (pct d c).delin with st := 0, good := 0, err := 0, next := none, due := none, resume := (pct d c).delin.entry + 8 }
      (skipBytes c skipped d) := by
  rw [headerRx]
  exact (if_neg (headerRx_due hz hh hl hn ready (by omega))).trans ((if_neg (by rw [ho]; decide)).trans (if_pos hs))

theorem headerRx_wrongInSync (ho : zhOk h = false) (hs : (pct d c).delin.st = 2) :
    headerRx c pos skipped h d = countDelin c 0 1 (countDelin c 3 1 (setDelin c
      (if (pct d c).delin.err < 2 then { (pct d c).delin with err := (pct d c).delin.err + 1, next := none, due := none }
       else { (pct d c).delin with st := 0, good := 0, err := 0, next := none, due := none, resume := pos + 8 })
      (skipBytes c skipped d))) := by
  rw [headerRx, ← failHeader_eq]
  exact (if_neg (headerRx_due hz hh hl hn ready (by omega))).trans ((if_neg (by rw [ho]; decide)).trans (if_neg (by omega)))

end Header

/-! ### GFP core headers (R231) -/

section Gfp

variable {c pos : Nat} {skipped h : Bytes} {d : Dev} (hg : gfpDelin d c = true) (hh : delinHeld d c = false) (hl : h.length = 4)
  (ready : domReady d (14 + contSlice d c) = true)
include hg hh hl ready

theorem gfpHeaderRx_due : ¬ (!gfpDelin d c || !domReady d (14 + contSlice d c) || delinHeld d c || h.length != 4) = true := by
  rw [hg, ready, hh, hl]
  decide

theorem gfpHeaderCmd_hunt (hs : (pct d c).delin.st = 0) (ho : gfpOk (gfpCore h) = true) (hr : (pct d c).delin.resume ≤ pos) :
    gfpHeaderCmd c pos skipped h d = setDelin c { (pct d c).delin with
      st := 1, good := 0, err := 0, next := some (pos + 4 + u16 (gfpCore h) 0), entry := pos } (skipBytes c skipped d) := by
  rw [gfpHeaderCmd, examines_hunt hs, Bool.and_false, gfpHeaderRx]
  refine (if_neg (gfpHeaderRx_due hg hh hl ready)).trans ((if_pos hs).trans (if_pos ?_))
  rw [ho, decide_eq_true hr]
  rfl

/-- Past HUNT a header at its place is a block of the ADAPT point. -/
theorem gfpHeaderCmd_placed {e : Dev} (hs : (pct d c).delin.st ≠ 0) (hn : (pct d c).delin.next = some pos)
    (he : gfpHeaderRx c pos skipped h d = e) : gfpHeaderCmd c pos skipped h d = countBlock 6 c (!gfpOk (gfpCore h)) e := by
  rw [gfpHeaderCmd, hg, examines_running ready hh hs, hl, hn, he]
  simp only [beq_self_eq_true, Bool.and_self, gate_true]

theorem gfpHeaderCmd_second (hs : (pct d c).delin.st = 1) (hn : (pct d c).delin.next = some pos) (ho : gfpOk (gfpCore h) = true) :
    gfpHeaderCmd c pos skipped h d = countBlock 6 c false (setDelin c { (pct d c).delin with
      good := (pct d c).delin.good + 1, next := some (pos + 4 + u16 (gfpCore h) 0), st := if 1 ≤ (pct d c).delin.good then 2 else 1
      due := if 1 ≤ (pct d c).delin.good then gfpDue (gfpCore h) else none } (skipBytes c skipped d)) := by
  have sync : ((pct d c).delin.good + 1 ≥ 2) = (1 ≤ (pct d c).delin.good) := propext (by omega)
  rw [gfpHeaderCmd_placed hg hh hl ready (by omega) hn rfl, ho, gfpHeaderRx, ho]
  simp only [sync]
  exact congrArg (countBlock 6 c false) ((if_neg (gfpHeaderRx_due hg hh hl ready)).trans ((if_neg (by omega)).trans
    ((if_neg (not_not.mpr hn)).trans ((if_pos hs).trans (if_neg Bool.false_ne_true)))))

theorem gfpHeaderCmd_sync (hs : (pct d c).delin.st = 2) (hn : (pct d c).delin.next = some pos) (ho : gfpOk (gfpCore h) = true) :
    gfpHeaderCmd c pos skipped h d = countBlock 6 c false (setDelin c { (pct d c).delin with
      err := 0, next := some (pos + 4 + u16 (gfpCore h) 0), due := gfpDue (gfpCore h) } (skipBytes c skipped d)) := by
  rw [gfpHeaderCmd_placed hg hh hl ready (by omega) hn rfl, ho, gfpHeaderRx, ho]
  exact congrArg (countBlock 6 c false) ((if_neg (gfpHeaderRx_due hg hh hl ready)).trans ((if_neg (by omega)).trans
    ((if_neg (not_not.mpr hn)).trans ((if_neg (by omega)).trans (if_pos rfl)))))

theorem gfpHeaderCmd_wrong (hs : (pct d c).delin.st = 1) (hn : (pct d c).delin.next = some pos) (ho : gfpOk (gfpCore h) = false) :
    gfpHeaderCmd c pos skipped h d = countBlock 6 c true (setDelin c
      { (pct d c).delin with st := 0, good := 0, err := 0, next := none, due := none, resume := (pct d c).delin.entry + 1 }
      (skipBytes c skipped d)) := by
  rw [gfpHeaderCmd_placed hg hh hl ready (by omega) hn rfl, ho, gfpHeaderRx, ho]
  exact congrArg (countBlock 6 c true) ((if_neg (gfpHeaderRx_due hg hh hl ready)).trans ((if_neg (by omega)).trans
    ((if_neg (not_not.mpr hn)).trans ((if_pos hs).trans (if_pos rfl)))))

end Gfp

/-! ### The payload type (R275) -/

theorem rxPtChange_restarts {c pt : Nat} {d : Dev} (hp : pt < 256) (hz : isZpc (ctRec d c) = true) (hn : (pct d c).rxPt ≠ pt) :
    rxPtChange c pt d = setDelin c {} (modPct c (fun p => { p with rxPt := pt }) d) := by
  rw [rxPtChange, hz, beq_eq_false_iff_ne.mpr hn, Nat.mod_eq_of_lt hp]
  rfl

theorem rxPtChange_same {c pt : Nat} {d : Dev} (h : (pct d c).rxPt = pt) : rxPtChange c pt d = d := by
  rw [rxPtChange]
  exact if_pos (by rw [beq_iff_eq.mpr h, Bool.or_true])

/-- Settles O42. -/
theorem delineatorsHuntAndSynchronise : Obligations.DelineatorsHuntAndSynchronise := by
  unfold Obligations.DelineatorsHuntAndSynchronise
  intro s c on hc ready
  have cont : isCont c = true := decide_eq_true hc
  refine ⟨?hunt, ?held, ?sync, ?header, ?gfp, ?changed, ?same⟩
  case hunt =>
    exact fun pos m hz hh hm hs ho hr => runDev_settles (exec_zpcMarkerRx c pos m s) on cont (markerCmd_hunt hz hh hm ready hs ho hr)
  case held => exact fun pos m _ hh => runDev_settles (exec_zpcMarkerRx c pos m s) on cont (markerCmd_held hh)
  case sync =>
    exact fun m hz hh hm hs ho hq ha hn => runDev_settles (exec_zpcMarkerRx c _ m s) on cont
      (markerCmd_sync hz hh hm ready rfl hs ho hq ha hn)
  case header =>
    intro pos skipped h hz hh hl hn
    exact ⟨fun ho hs => runDev_settles (exec_zpcHeaderRx c pos ⟨skipped, h⟩ s) on cont (headerRx_correct hz hh hl hn ready ho hs),
      fun ho hs => runDev_settles (exec_zpcHeaderRx c pos ⟨skipped, h⟩ s) on cont (headerRx_wrongInPresync hz hh hl hn ready ho hs),
      fun ho hs => runDev_settles (exec_zpcHeaderRx c pos ⟨skipped, h⟩ s) on cont (headerRx_wrongInSync hz hh hl hn ready ho hs)⟩
  case gfp =>
    intro pos skipped h hg hh hl
    exact ⟨fun hs ho hr => runDev_settles (exec_gfpCoreHeaderRx c pos ⟨skipped, h⟩ s) on cont (gfpHeaderCmd_hunt hg hh hl ready hs ho hr),
      fun hs hn ho => runDev_settles (exec_gfpCoreHeaderRx c pos ⟨skipped, h⟩ s) on cont (gfpHeaderCmd_second hg hh hl ready hs hn ho),
      fun hs hn ho => runDev_settles (exec_gfpCoreHeaderRx c pos ⟨skipped, h⟩ s) on cont (gfpHeaderCmd_sync hg hh hl ready hs hn ho),
      fun hs hn ho => runDev_settles (exec_gfpCoreHeaderRx c pos ⟨skipped, h⟩ s) on cont (gfpHeaderCmd_wrong hg hh hl ready hs hn ho)⟩
  case changed =>
    exact fun pt hp hz hn => runDev_settles (exec_rxPtChange c pt s) on (by rw [cont, isByte, decide_eq_true hp]; rfl)
      (rxPtChange_restarts hp hz hn)
  case same =>
    exact fun pt hp h => runDev_settles (exec_rxPtChange c pt s) on (by rw [cont, isByte, decide_eq_true hp]; rfl) (rxPtChange_same h)

end Sys2Proof.Proofs
end

section
/-! SUPPORT. Containers that run. -/

namespace Sys2Proof.Proofs

open Sys2Proof.Machine Sys2Proof.Laws Sys2Proof.Spec

section Running

variable {c : Nat} {d : Dev} (on : contOn d c = true)
include on

/-! ### Justification (R246, R253, R270) -/

section Justification

variable {cm cnd : Nat} {crc : JcCrc} (hl : domReady d (6 + lineOf c) = true)
include hl

theorem gmpJcRx_gmp (hs : crc.stage ≤ 1) (hg : gmpStage d c crc.stage = true) : gmpJcRx c cm cnd crc none d = gmpJc c cm cnd crc d := by
  rw [gmpJcRx, on, hl, hg, decide_eq_false (show ¬ 1 < crc.stage by omega)]
  rfl

theorem gmpJcRx_amp {l : List Nat} (h1 : crc.stage = 1) (ha : byAmp d c = true) : gmpJcRx c cm cnd crc (some l) d = ampJc c l d := by
  have other : gmpStage d c crc.stage = false := by rw [gmpStage, h1, ha]; rfl
  rw [gmpJcRx, on, hl, other, decide_eq_false (show ¬ 1 < crc.stage by omega)]
  exact if_pos h1

end Justification

omit on in
theorem gmpStage_of {st : Nat} (h : (st = 0 ∧ ctPayload (ctRec d c) = 0 ∧ ctType (ctRec d c) = 5) ∨ (st = 1 ∧ byAmp d c = false)) :
    gmpStage d c st = true := by
  rw [gmpStage]
  rcases h with ⟨rfl, hp, ht⟩ | ⟨rfl, ha⟩
  · rw [hp, ht]; rfl
  · rw [ha]; rfl

omit on in
/-- The failures in a row count where Cm fails: the third one is JC_ERR. -/
theorem jcStep_eq (cm cnd : Nat) (cmOk cndOk : Bool) (st : Nat) (x : Jc) : jcStep cm cnd ⟨cmOk, cndOk, st⟩ x = {
    cm := if cmOk then cm else x.cm, cnd := if cndOk then cnd else x.cnd
    bad := if cmOk && cndOk then 0 else x.bad + 1, err := !cmOk && (x.err || decide (2 ≤ x.bad)) } := by
  rw [jcStep]
  cases cmOk
  · have third : decide (x.bad + 1 ≥ 3) = decide (2 ≤ x.bad) := decide_eq_decide.mpr (by omega)
    simp only [Bool.false_and, Bool.false_eq_true, if_false, third]
  · rfl

omit on in
theorem ampJc_one {l : List Nat} (h : ampVote l = some 1) : ampJc c l d = cctrAdd (c * 8 + 4) 1 d := by rw [ampJc, h]; rfl
omit on in
theorem ampJc_two {l : List Nat} (h : ampVote l = some 2) : ampJc c l d = cctrAdd (c * 8 + 3) 2 d := by rw [ampJc, h]; rfl
omit on in
theorem ampJc_three {l : List Nat} (h : ampVote l = some 3) : ampJc c l d = cctrAdd (c * 8 + 3) 1 d := by rw [ampJc, h]; rfl
omit on in
theorem ampJc_split {l : List Nat} (h : ampVote l = none) : ampJc c l d = cctrAdd (c * 8 + 2) 1 d := by rw [ampJc, h]

/-! ### The extended counter (R256) -/

section Extended

variable {b : Bytes} {mfas : Nat} (hm : mfas < 256) (hcut : extCut d c = false) (hlock : extLock d c = false) (hl : b.length = 8)
  (hcrc : u16 b 6 = crcCcitt (b.take 6)) (hfc : u32 b 0 % 256 = mfas)
include hm hcut hlock hl hcrc hfc

theorem extRecord_valid {n : Nat}
    (hn : (if (contOf d c).ext.good ≠ 0 ∧ u32 b 0 = ((contOf d c).ext.rxFc + 4) % 2 ^ 32 then (contOf d c).ext.good + 1 else 1) = n) :
    extRecord c b mfas d = gate (decide (n ≥ 2)) (setExtLock c true) (modCont c (fun x => { x with ext :=
      { (contOf d c).ext with rxFc := u32 b 0, rxTag := u16 b 4, good := n, bad := 0, cand := none } }) d) := by
  have valid : (b.length == 8 && u16 b 6 == crcCcitt (b.take 6) && u32 b 0 % 256 == mfas % 256) = true := by
    rw [hl, beq_iff_eq.mpr hcrc, hfc, Nat.mod_eq_of_lt hm, beq_self_eq_true mfas]
    rfl
  rw [extRecord, on, hcut, if_neg (by decide)]
  dsimp only
  rw [hlock, valid, hn]
  rfl

theorem extRecord_first (hg : (contOf d c).ext.good = 0) : extRecord c b mfas d = modCont c (fun x => { x with ext :=
    { (contOf d c).ext with rxFc := u32 b 0, rxTag := u16 b 4, good := 1, bad := 0, cand := none } }) d := by
  rw [extRecord_valid on hm hcut hlock hl hcrc hfc (if_neg fun h => h.1 hg)]
  rfl

theorem extRecord_locks (hg : (contOf d c).ext.good = 1) (hnext : u32 b 0 = ((contOf d c).ext.rxFc + 4) % 2 ^ 32) :
    extRecord c b mfas d = setExtLock c true (modCont c (fun x => { x with ext :=
      { (contOf d c).ext with rxFc := u32 b 0, rxTag := u16 b 4, good := 2, bad := 0, cand := none } }) d) := by
  rw [extRecord_valid on hm hcut hlock hl hcrc hfc (n := 2) ((if_pos ⟨by rw [hg]; decide, hnext⟩).trans (by rw [hg]))]
  rfl

end Extended

/-! ### Client signal fail of GFP-F (R255, R267) -/

theorem csfTxFrame_sends (hp : ctPayload (ctRec d c) = 3) (he : ctCsfEn (ctRec d c) = true) (hr : domReady d (14 + contSlice d c) = true)
    (hf : ∃ e ∈ flowsOf d c, clientFailed d (ctxSlice e.1 * 16 + flPort e.2) = true) :
    csfTxFrame c d = emitGfp c (gfpMgmt 1) (modCont c (fun x => { x with csfSent := x.csfSent + 1 }) d) := by
  have failed : ((flowsOf d c).any fun e => clientFailed d (ctxSlice e.1 * 16 + flPort e.2)) = true := List.any_eq_true.mpr hf
  rw [csfTxFrame, on, hp, he, hr, failed]
  rfl

omit on in
/-- Taking a frame that is due changes the packet engine alone. -/
theorem takeDue_eq (c q : Nat) (h body : Bytes) (d : Dev) : ∃ k, takeDue c q h body d = { d with pkt := k } := by
  have each_pkt (f : Nat → PktCont → PktCont) (l : List Nat) (d : Dev) : ∃ k, each l (fun k => modPct k (f k)) d = { d with pkt := k } := by
    induction l generalizing d with
    | nil => exact ⟨d.pkt, rfl⟩
    | cons x l ih => exact ih (modPct x (f x) d)
  exact each_pkt (fun _ p => if p.delin.due = some h then { p with delin := { p.delin with due := none } } else p) (streamsOf d c)
    (skipBytes q body d)

omit on in
theorem received_due {q : Nat} {h body : Bytes} {fits : Bytes → Bool} {f : Bytes → Bytes → Dev → Dev} (hd : frameDue d c = some (q, h))
    (hf : fits h = true) :
    received c fits body f d = f h (descramble (pct d q).des body).1 (takeDue c q h body d) := by
  rw [received, hd]
  exact if_pos hf

theorem csfRxFrame_fails {b : Bytes} (hp : ctPayload (ctRec d c) = 3) (ht : gfpTypeOk b = true) (hi : gfpPti b = 4)
    (hu : gfpUpi b = 1 ∨ gfpUpi b = 2) : csfRxFrame c b d = modCont c (fun x => { x with csf := true }) d := by
  have indicates : (gfpUpi b == 1 || gfpUpi b == 2) = true := by simpa using hu
  rw [csfRxFrame, on, hp, ht, hi, indicates]
  rfl

theorem csfClear_clears : csfClear c d = modCont c (fun x => { x with csf := false }) d := if_pos on

/-! ### Resizing (R263) -/

section Resize

variable (hx : (contOf d c).flex = .lcrInc ∨ (contOf d c).flex = .lcrDec)
include hx

omit on in
theorem lcr_running : ((contOf d c).flex == .lcrInc || (contOf d c).flex == .lcrDec) = true := by
  rcases hx with h | h <;> rw [h] <;> rfl

theorem lcrAck_acked : lcrAck c true d = modCont c (fun x => { x with acked := true }) d := by
  rw [lcrAck, on, lcr_running hx]
  rfl

theorem lcrAck_refused : lcrAck c false d = setFlex c .idle 2 d := by
  rw [lcrAck, on, lcr_running hx]
  rfl

theorem lcrTimeout_ends (ha : (contOf d c).acked = false) : lcrTimeout c d = setFlex c .idle 3 d := by
  rw [lcrTimeout, on, lcr_running hx, ha]
  rfl

end Resize

section Switch

variable (ha : (contOf d c).acked = true)
include ha

theorem lcrSwitch_inc (hx : (contOf d c).flex = .lcrInc) : lcrSwitch c d = setFlex c .bwrUp 0 (setNow c (contOf d c).s2 (moveSlots c d)) := by
  rw [lcrSwitch, on, ha]
  exact (if_neg Bool.false_ne_true).trans (if_pos hx)

theorem lcrSwitch_dec (hx : (contOf d c).flex = .lcrDec) : lcrSwitch c d = setFlex c .idle 1 (setNow c (contOf d c).s2 (moveSlots c d)) := by
  rw [lcrSwitch, on, ha]
  exact (if_neg Bool.false_ne_true).trans ((if_neg (by rw [hx]; decide)).trans (if_pos hx))

end Switch

omit on in
theorem lcrSwitch_waits (ha : (contOf d c).acked = false) : lcrSwitch c d = d := by
  rw [lcrSwitch]
  exact if_pos (by rw [ha, Bool.not_false, Bool.or_true])

theorem bwrDone_up (hx : (contOf d c).flex = .bwrUp) : bwrDone c d = setFlex c .idle 1 d := by
  rw [bwrDone, on]
  exact (if_neg Bool.false_ne_true).trans (if_pos hx)

theorem bwrDone_down (hx : (contOf d c).flex = .bwrDown) : bwrDone c d = setFlex c .lcrDec 0 d := by
  rw [bwrDone, on]
  exact (if_neg Bool.false_ne_true).trans ((if_neg (by rw [hx]; decide)).trans (if_pos hx))

theorem mirrorMiss_counts (hf : following d = true) (hi : inStep d = true) (hj : ∃ g ∈ justStages d c, justRec d c g.1 = none) :
    mirrorMiss c d =
      (let e := setLive (.xcCstat c) 24 2 true (modCont c (fun x => { x with missSeen := true }) (mateMiss (cctrAdd (c * 8 + 7) 1 d)))
       if (contOf d c).missSeen then e else evtXc 0x0705 c (be 4 (tget {} e.cctr (c * 8 + 7)).v) e) := by
  have open_ : ((justStages d c).all fun g => (justRec d c g.1).isSome) = false := by
    obtain ⟨g, hg, hn⟩ := hj
    exact List.all_eq_false.mpr ⟨g, hg, by rw [hn]; decide⟩
  rw [mirrorMiss, on, hf, hi, open_]
  cases (contOf d c).missSeen <;> rfl

end Running

/-- Settles O43. -/
theorem containersJustifyAndResize : Obligations.ContainersJustifyAndResize := by
  unfold Obligations.ContainersJustifyAndResize
  intro s c os hc on
  have cont : isCont c = true := decide_eq_true hc
  refine ⟨?just, ?ext, ?csfTx, ?csfRx, ?csfClear, ?lcr, ?inc, ?dec, ?waits, ?up, ?down, ?miss⟩
  case just =>
    intro cm cnd cmOk cndOk hl
    have takes {st : Nat} {amp : Option (List Nat)} {d : Dev} (h : gmpJcRx c cm cnd ⟨cmOk, cndOk, st⟩ amp s.dev = d) :
        Settles (.gmpJcRx c cm cnd ⟨cmOk, cndOk, st⟩ amp) s d := runDev_settles (exec_gmpJcRx c cm cnd _ amp s) os cont h
    refine ⟨fun st hst => takes ?_, fun ha l => ⟨fun h => takes ?_, fun h => takes ?_, fun h => takes ?_, fun h => takes ?_⟩⟩
    · have stage : st ≤ 1 := by omega
      rw [gmpJcRx_gmp on hl stage (gmpStage_of hst), gmpJc, jcStep_eq]
      rfl
    · rw [gmpJcRx_amp on hl rfl ha, ampJc_one h]
    · rw [gmpJcRx_amp on hl rfl ha, ampJc_two h]
    · rw [gmpJcRx_amp on hl rfl ha, ampJc_three h]
    · rw [gmpJcRx_amp on hl rfl ha, ampJc_split h]
  case ext =>
    intro b mfas hm hcut hlock hl hcrc hfc
    have fits : (isCont c && isByte mfas) = true := by rw [cont, isByte, decide_eq_true hm]; rfl
    exact ⟨fun hg => runDev_settles (exec_extfcRecordRx c b mfas s) os fits (extRecord_first on hm hcut hlock hl hcrc hfc hg),
      fun hg hn => runDev_settles (exec_extfcRecordRx c b mfas s) os fits (extRecord_locks on hm hcut hlock hl hcrc hfc hg hn)⟩
  case csfTx => exact fun hp he hr hf => runDev_ends (exec_csfMgmtFrameTx c s) os cont (csfTxFrame_sends on hp he hr hf)
  case csfRx =>
    intro q h area hd ha hp b ht hi hu
    obtain ⟨k, hk⟩ := takeDue_eq c q h area s.dev
    refine runDev_settles (exec_csfMgmtFrameRx c area s) os cont ((received_due hd ha).trans ?_)
    rw [hk]
    exact csfRxFrame_fails (d := { s.dev with pkt := k }) on hp ht hi hu
  case csfClear => exact runDev_settles (exec_csfClearTimeout c s) os cont (csfClear_clears on)
  case lcr =>
    exact fun hx => ⟨runDev_settles (exec_lcrAckRx c true s) os cont (lcrAck_acked on hx),
      runDev_settles (exec_lcrAckRx c false s) os cont (lcrAck_refused on hx),
      fun ha => runDev_settles (exec_lcrTimeout c s) os cont (lcrTimeout_ends on hx ha)⟩
  case inc => exact fun ha hx => runDev_settles (exec_lcrSwitch c s) os cont (lcrSwitch_inc on ha hx)
  case dec => exact fun ha hx => runDev_settles (exec_lcrSwitch c s) os cont (lcrSwitch_dec on ha hx)
  case waits => exact fun ha => runDev_settles (exec_lcrSwitch c s) os cont (lcrSwitch_waits ha)
  case up => exact fun hx => runDev_settles (exec_bwrRampComplete c s) os cont (bwrDone_up on hx)
  case down => exact fun hx => runDev_settles (exec_bwrRampComplete c s) os cont (bwrDone_down on hx)
  case miss => exact fun hf hi hj => runDev_ends (exec_mirrorMiss c s) os cont (mirrorMiss_counts on hf hi hj)

end Sys2Proof.Proofs
end

section
/-! SUPPORT. Control frames of the context protocol. -/

namespace Sys2Proof.Proofs

open Sys2Proof.Machine Sys2Proof.Laws Sys2Proof.Spec

/-- Counting records, but for the counters. -/
theorem count_records (dm n k : Nat) (d : Dev) : Records d { count dm n k d with pctr := d.pctr } := by
  have posted (x : Dev) (ty src inst obj : Nat) (detail : Bytes) (h : Records d { x with pctr := d.pctr }) :
      Records d { postEvt ty src inst obj detail x with pctr := d.pctr } := by
    have r := postEvt_records ty src inst obj detail x
    exact ⟨r.epoch.trans h.epoch, r.rtc.trans h.rtc, r.fuse.trans h.fuse, r.pin.trans h.pin, r.pwr.trans h.pwr, r.mbx.trans h.mbx,
      r.prov.trans h.prov, r.boot.trans h.boot, r.cli.trans h.cli, rfl, r.line.trans h.line, r.cont.trans h.cont, r.cctr.trans h.cctr,
      r.pm.trans h.pm, r.pkt.trans h.pkt, r.prot.trans h.prot, r.merge.trans h.merge, r.mate.trans h.mate, r.groom.trans h.groom,
      r.tim.trans h.tim, r.nvm.trans h.nvm⟩
  rw [count]
  dsimp only
  split
  · exact records_refl d
  split
  · constructor <;> rfl
  split
  · constructor <;> rfl
  · exact posted _ _ _ _ _ _ (by constructor <;> rfl)

/-! ### What the handling of a frame reads -/

/-- `e` holds the tables, the containers, the mate and the slices of the packet engine of `d`. -/
structure SameTables (d e : Dev) : Prop where
  prov : e.prov = d.prov
  cont : e.cont = d.cont
  mate : e.mate = d.mate
  slice : e.pkt.slice = d.pkt.slice

namespace SameTables

variable {d e : Dev}

theorem trans {x : Dev} (h : SameTables d e) (k : SameTables e x) : SameTables d x :=
  ⟨k.prov.trans h.prov, k.cont.trans h.cont, k.mate.trans h.mate, k.slice.trans h.slice⟩

theorem count (dm n k : Nat) (d : Dev) : SameTables d (count dm n k d) :=
  have r := count_records dm n k d
  ⟨r.prov, r.cont, r.mate, congrArg PktSt.slice r.pkt⟩

variable (h : SameTables d e)
include h

theorem following : following e = following d := by rw [Machine.following, h.mate, Machine.following]
theorem assisted (fn i : Nat) : assisted e fn i = assisted d fn i := by rw [Machine.assisted, h.prov, Machine.assisted]
theorem learnHost (n : Nat) : learnHost e n = learnHost d n := h.assisted 4 n
theorem serv (ty i : Nat) : serv e ty i = serv d ty i := by rw [Machine.serv, h.prov, Machine.serv]
theorem psl (n : Nat) : psl e n = psl d n := by rw [Machine.psl, h.slice, Machine.psl]
theorem ctRec (c : Nat) : ctRec e c = ctRec d c := by
  rw [Machine.ctRec, h.serv, h.cont, Machine.ctRec]
theorem contSlice (c : Nat) : contSlice e c = contSlice d c := by rw [Machine.contSlice, h.ctRec, Machine.contSlice]
theorem sndOf (f : Nat) : sndOf e f = sndOf d f := by rw [Machine.sndOf, h.psl, Machine.sndOf]
theorem wdrOf (c f : Nat) : wdrOf e c f = wdrOf d c f := by rw [Machine.wdrOf, h.psl, Machine.wdrOf]

theorem rxOwner (c : Nat) : rxOwner e c = rxOwner d c := by
  rw [Machine.rxOwner, Machine.rxOwner, connOf, connOf, h.cont]
  simp only [servRec, h.serv]

theorem rxKey (c f : Nat) : rxKey e c f = rxKey d c f := by rw [Machine.rxKey, h.rxOwner, Machine.rxKey]
theorem rxOf (c f : Nat) : rxOf e c f = rxOf d c f := by rw [Machine.rxOf, h.contSlice, h.psl, h.rxKey, Machine.rxOf]

end SameTables

/-- Taking a frame changes what is due and the descramblers alone. -/
theorem takeDue_cont (c q : Nat) (h body : Bytes) (d : Dev) :
    ∃ t, takeDue c q h body d = { d with pkt := { d.pkt with cont := t } } := by
  have each_cont (f : Nat → PktCont → PktCont) (l : List Nat) (d : Dev) :
      ∃ t, each l (fun k => modPct k (f k)) d = { d with pkt := { d.pkt with cont := t } } := by
    induction l generalizing d with
    | nil => exact ⟨d.pkt.cont, rfl⟩
    | cons x l ih => exact ih (modPct x (f x) d)
  exact each_cont (fun _ p => if p.delin.due = some h then { p with delin := { p.delin with due := none } } else p) (streamsOf d c)
    (skipBytes q body d)

theorem takeDue_same (c q : Nat) (h body : Bytes) (d : Dev) : SameTables d (takeDue c q h body d) := by
  obtain ⟨t, ht⟩ := takeDue_cont c q h body d
  rw [ht]
  exact ⟨rfl, rfl, rfl, rfl⟩

theorem modPct_keeps {β : Type} (p : PktCont → β) {f : PktCont → PktCont} (h : ∀ x, p (f x) = p x) (k c : Nat) (d : Dev) :
    p (pct (modPct k f d) c) = p (pct d c) := by
  rw [pct_modPct]
  split
  next e => rw [h, e]
  next => rfl

/-- What neither the descrambler nor the delineator holds stays as a frame is taken. -/
theorem takeDue_keeps {β : Type} (p : PktCont → β) (hdes : ∀ x v, p { x with des := v } = p x) (hdelin : ∀ x v, p { x with delin := v } = p x)
    (c q k : Nat) (h body : Bytes) (d : Dev) : p (pct (takeDue c q h body d) k) = p (pct d k) := by
  rw [takeDue, each_keeps (fun d => p (pct d k)) fun j d => modPct_keeps p (fun x => ?_) j k d]
  · exact modPct_keeps p (f := fun x => { x with des := (descramble x.des body).2 }) (fun x => hdes x _) q k d
  · split
    · exact hdelin x _
    · rfl

/-! ### The handlers (R288, R294, R296 to R298, R305) -/

/-- A control frame is counted. -/
def ctlCounted (n : Nat) (d : Dev) : Dev := count (14 + n) (ctrSlice n 10) 1 d

theorem sndFull_prov (f : Nat) (d : Dev) : (sndFull f d).prov = d.prov := by
  rw [sndFull, fwdSnd]
  obtain ⟨m, hm⟩ := fwd_eq kContext f (mfnOf (modSnd f (fun s => { s with st := .full, sends := 0, queued := false }) d)
    (sndOf (modSnd f (fun s => { s with st := .full, sends := 0, queued := false }) d) f).cont) _ _
  rw [hm]
  rfl

section Handlers

variable {c f g : Nat} {b : Bytes} {d t : Dev} (h : SameTables d t)
include h

theorem ctlCounted_same : SameTables d (count (14 + contSlice d c) (ctrSlice (contSlice d c) 10) 1 t) := h.trans (SameTables.count _ _ _ _)

theorem announceRx_wrong (hb : cbOk ccAnnounce b = false) :
    announceRx c f g b t = count (14 + contSlice d c) (ctrSlice (contSlice d c) 12) 1 (ctlCounted (contSlice d c) t) := by
  rw [announceRx, hb, h.contSlice]
  rfl

theorem ackRx_wrong (hb : cbOk ccAck b = false) :
    ackRx c f g b t = count (14 + contSlice d c) (ctrSlice (contSlice d c) 12) 1 (ctlCounted (contSlice d c) t) := by
  rw [ackRx, hb, h.contSlice]
  rfl

theorem withdrawRx_wrong (hb : cbOk ccWithdraw b = false) :
    withdrawRx c f g b t = count (14 + contSlice d c) (ctrSlice (contSlice d c) 12) 1 (ctlCounted (contSlice d c) t) := by
  rw [withdrawRx, hb, h.contSlice]
  rfl

theorem resyncRx_wrong (hb : cbOk ccResync b = false) :
    resyncRx c f g b t = count (14 + contSlice d c) (ctrSlice (contSlice d c) 12) 1 (ctlCounted (contSlice d c) t) := by
  rw [resyncRx, hb, h.contSlice]
  rfl

theorem faultRx_wrong (hb : cbOk ccFault b = false) :
    faultRx c b t = count (14 + contSlice d c) (ctrSlice (contSlice d c) 12) 1 (ctlCounted (contSlice d c) t) := by
  rw [faultRx, hb, h.contSlice]
  rfl

theorem announceRx_fills (hb : cbOk ccAnnounce b = true) (hf : following d = false) (h14 : 14 ≤ cbTlen b) (h26 : cbTlen b ≤ 26)
    (hr : (rxOf d c f).isSome = true) :
    announceRx c f g b t = pushLossy c f g (ctlBody ccAck false 0 [] 0 0)
      (fwdRx 3 c f g (cbTemplate b) (setRx c f g (cbTemplate b) (ctlCounted (contSlice d c) t))) := by
  have same := ctlCounted_same (c := c) h
  have held : (rxOf (count (14 + contSlice d c) (ctrSlice (contSlice d c) 10) 1 t) c f).isNone = false := by
    rw [same.rxOf, ← Option.not_isSome, hr]
    rfl
  rw [announceRx, hb, h.contSlice]
  refine (if_neg Bool.false_ne_true).trans ((if_neg (by rw [same.following, hf]; decide)).trans ((if_neg ?_).trans (if_neg ?_)))
  · rw [decide_eq_true ⟨h14, h26⟩]
    decide
  · rw [held, Bool.false_and]
    decide

theorem announceRx_refuses (hb : cbOk ccAnnounce b = true) (hf : following d = false) (hl : cbTlen b < 14 ∨ 26 < cbTlen b) :
    announceRx c f g b t = pushLossy c f g (ctlBody ccAck false 2 [] 0 0) (ctlCounted (contSlice d c) t) := by
  have same := ctlCounted_same (c := c) h
  rw [announceRx, hb, h.contSlice]
  refine (if_neg Bool.false_ne_true).trans ((if_neg (by rw [same.following, hf]; decide)).trans (if_pos ?_))
  rw [decide_eq_false (by omega)]
  rfl

section Ack

variable (hb : cbOk ccAck b = true)
include hb

section Announcing

variable (hf : following d = false) (hs : (sndOf d f).st = .announcing) (hg : (sndOf d f).gen = g) (hc : (sndOf d f).cont = c)
include hf hs hg hc

theorem ackRx_active (h0 : cbStatus b = 0) : ackRx c f g b t =
    fwdSnd 1 f (modSnd f (fun s => { s with st := .active, sends := 0 }) (ctlCounted (contSlice d c) t)) := by
  have same := ctlCounted_same (c := c) h
  rw [ackRx, hb, h.contSlice, h.sndOf]
  refine (if_neg Bool.false_ne_true).trans ((if_pos ⟨hs, hg, hc, by omega⟩).trans ((if_pos h0).trans ?_))
  rw [same.following, hf]
  rfl

theorem ackRx_refused (h12 : cbStatus b = 1 ∨ cbStatus b = 2) (hl : learnHost d (contSlice d c) = false) : ackRx c f g b t =
    modSnd f (fun s => { s with delay := true }) (sndFull f (ctlCounted (contSlice d c) t)) := by
  have same := ctlCounted_same (c := c) h
  have hardware : learnHost (sndFull f (count (14 + contSlice d c) (ctrSlice (contSlice d c) 10) 1 t)) (contSlice d c) = false := by
    rw [learnHost, assisted, sndFull_prov, ← assisted, ← learnHost, same.learnHost, hl]
  rw [ackRx, hb, h.contSlice, h.sndOf]
  refine (if_neg Bool.false_ne_true).trans ((if_pos ⟨hs, hg, hc, by omega⟩).trans ((if_neg (by omega)).trans ?_))
  rw [same.following, hf]
  exact if_neg (Bool.eq_false_iff.mp hardware)

end Announcing

section Other

variable (hs : (sndOf d f).st ≠ .announcing)
include hs

theorem ackRx_other : ackRx c f g b t =
    (let e := ctlCounted (contSlice d c) t
     let stale := count (14 + contSlice d c) (ctrSlice (contSlice d c) 13) 1 e
     match wdrOf d c f with
     | some w => if w.gen = g ∧ cbStatus b = 3 then gate (!following d) (release c f w) e else stale
     | none => stale) := by
  have same := ctlCounted_same (c := c) h
  rw [ackRx, hb, h.contSlice, h.sndOf]
  refine (if_neg Bool.false_ne_true).trans ((if_neg fun x => hs x.1).trans ?_)
  rw [same.wdrOf, same.following]
  rfl

theorem ackRx_stale (hw : wdrOf d c f = none) : ackRx c f g b t =
    count (14 + contSlice d c) (ctrSlice (contSlice d c) 13) 1 (ctlCounted (contSlice d c) t) := by
  rw [ackRx_other h hb hs, hw]

theorem ackRx_releases {w : Wdr} (hf : following d = false) (hw : wdrOf d c f = some w) (hg : w.gen = g) (h3 : cbStatus b = 3) :
    ackRx c f g b t = release c f w (ctlCounted (contSlice d c) t) := by
  rw [ackRx_other h hb hs, hw, hf]
  exact if_pos ⟨hg, h3⟩

end Other

end Ack

section Withdraw

variable (hb : cbOk ccWithdraw b = true) (hf : following d = false) (ha : cbAll b = false)
include hb hf ha

theorem withdrawRx_one : withdrawRx c f g b t =
    (let e := ctlCounted (contSlice d c) t
     let holds := match rxOf d c f with
       | some e => e.gen == g
       | none => false
     pushLossy c f g (ctlBody ccAck false 3 [] 0 0) (gate holds (fun e => fwdRx 4 c f g [] (updRxFull c
       (modPsl (contSlice d c) (fun s => { s with rx := tdel s.rx (rxKey e c f) }) e))) e)) := by
  have same := ctlCounted_same (c := c) h
  rw [withdrawRx, hb, h.contSlice]
  refine (if_neg Bool.false_ne_true).trans ((if_neg (by rw [same.following, hf]; decide)).trans ((if_neg (by rw [ha]; decide)).trans ?_))
  rw [same.rxOf]
  rfl

theorem withdrawRx_unknown (hr : rxOf d c f = none) :
    withdrawRx c f g b t = pushLossy c f g (ctlBody ccAck false 3 [] 0 0) (ctlCounted (contSlice d c) t) := by
  rw [withdrawRx_one h hb hf ha, hr]
  rfl

theorem withdrawRx_frees {x : Bytes} (hr : rxOf d c f = some { gen := g, tpl := x }) :
    withdrawRx c f g b t = pushLossy c f g (ctlBody ccAck false 3 [] 0 0) (fwdRx 4 c f g [] (updRxFull c
      (modPsl (contSlice d c) (fun s => { s with rx := tdel s.rx (rxKey d c f) }) (ctlCounted (contSlice d c) t)))) := by
  have key : rxKey (ctlCounted (contSlice d c) t) c f = rxKey d c f := (ctlCounted_same h).rxKey c f
  rw [withdrawRx_one h hb hf ha, hr]
  dsimp only
  rw [beq_self_eq_true, gate_true, key]

end Withdraw

section Resync

variable (hb : cbOk ccResync b = true) (ha : cbAll b = false)
include hb ha

theorem resyncRx_one : resyncRx c f g b t =
    (let e := ctlCounted (contSlice d c) t
     if (sndOf d f).st = .active ∧ (sndOf d f).gen = g ∧ (sndOf d f).cont = c then gate (!following d) (resyncFlow f) e
     else count (14 + contSlice d c) (ctrSlice (contSlice d c) 13) 1 e) := by
  have same := ctlCounted_same (c := c) h
  rw [resyncRx, hb, h.contSlice]
  refine (if_neg Bool.false_ne_true).trans ((if_neg (by rw [ha]; decide)).trans ?_)
  rw [same.sndOf, same.following]
  rfl

theorem resyncRx_full (hs : (sndOf d f).st = .full) : resyncRx c f g b t =
    count (14 + contSlice d c) (ctrSlice (contSlice d c) 13) 1 (ctlCounted (contSlice d c) t) := by
  rw [resyncRx_one h hb ha]
  exact if_neg fun x => absurd (hs.symm.trans x.1) (by decide)

theorem resyncRx_active (hf : following d = false) (hs : (sndOf d f).st = .active) (hg : (sndOf d f).gen = g) (hc : (sndOf d f).cont = c) :
    resyncRx c f g b t = resyncFlow f (ctlCounted (contSlice d c) t) := by
  rw [resyncRx_one h hb ha, hf]
  exact if_pos ⟨hs, hg, hc⟩

end Resync

theorem faultRx_applies (hb : cbOk ccFault b = true) (hz : (pct t c).zpcOk = true) :
    faultRx c b t = applyFault c (cbFarPort b) (cbFault b) (ctlCounted (contSlice d c) t) := by
  have kept : (pct (count (14 + contSlice d c) (ctrSlice (contSlice d c) 10) 1 t) c).zpcOk = true := by
    rw [pct, (count_keeps _ _ _ t).1]
    exact hz
  rw [faultRx, hb, h.contSlice]
  exact (if_neg Bool.false_ne_true).trans (if_neg (by rw [kept]; decide))

end Handlers

/-- Settles O44. -/
theorem controlFramesActOnContexts : Obligations.ControlFramesActOnContexts := by
  unfold Obligations.ControlFramesActOnContexts
  intro s c f g q h body on hc hf hg hd hfit
  have fits : (isCont c && isFlow f && isByte g) = true := by rw [isCont, isFlow, isByte, decide_eq_true hc, decide_eq_true hf, decide_eq_true hg]; rfl
  have same := takeDue_same c q h body s.dev
  have announce {d : Dev} (x : announceRx c f g (descramble (pct s.dev q).des body).1 (takeDue c q h body s.dev) = d) :
      Ends (.ctxAnnounceRx c f g body) s d := runDev_ends (exec_ctxAnnounceRx c f g body s) on fits ((received_due hd hfit).trans x)
  have ack {d : Dev} (x : ackRx c f g (descramble (pct s.dev q).des body).1 (takeDue c q h body s.dev) = d) :
      Ends (.ctxAckRx c f g body) s d := runDev_ends (exec_ctxAckRx c f g body s) on fits ((received_due hd hfit).trans x)
  have withdraw {d : Dev} (x : withdrawRx c f g (descramble (pct s.dev q).des body).1 (takeDue c q h body s.dev) = d) :
      Ends (.ctxWithdrawRx c f g body) s d := runDev_ends (exec_ctxWithdrawRx c f g body s) on fits ((received_due hd hfit).trans x)
  have resync {d : Dev} (x : resyncRx c f g (descramble (pct s.dev q).des body).1 (takeDue c q h body s.dev) = d) :
      Ends (.ctxResyncReqRx c f g body) s d := runDev_ends (exec_ctxResyncReqRx c f g body s) on fits ((received_due hd hfit).trans x)
  have fault {d : Dev} (x : faultRx c (descramble (pct s.dev q).des body).1 (takeDue c q h body s.dev) = d) :
      Settles (.clientFaultFrameRx c body) s d := by
    have own : headerFits 3 (zhCtx h) body h = true := by
      rw [ctlFits, headerFits, Bool.and_eq_true, Bool.and_eq_true, Bool.and_eq_true] at hfit
      obtain ⟨⟨⟨typed, -⟩, sized⟩, -⟩ := hfit
      rw [headerFits, typed, sized, beq_self_eq_true]
      rfl
    exact runDev_settles (exec_clientFaultFrameRx c body s) on (decide_eq_true hc)
      ((received_due (fits := fun h => headerFits 3 (zhCtx h) body h) (f := fun _ => faultRx c) hd own).trans x)
  refine ⟨fun hb => announce (announceRx_wrong same hb), fun hb => ack (ackRx_wrong same hb),
    fun hb => withdraw (withdrawRx_wrong same hb), fun hb => resync (resyncRx_wrong same hb), fun hb => fault (faultRx_wrong same hb),
    ?fills, ?refuses, ?acked, ?stale, ?releases, ?unknown, ?frees, ?active, ?full, ?applies⟩
  case fills => exact fun hb hf h14 h26 hr => announce (announceRx_fills same hb hf h14 h26 hr)
  case refuses => exact fun hb hf hl => announce (announceRx_refuses same hb hf hl)
  case acked =>
    exact fun hb hf hs hg hc => ⟨fun h0 => ack (ackRx_active same hb hf hs hg hc h0),
      fun h12 hl => ack (ackRx_refused same hb hf hs hg hc h12 hl)⟩
  case stale => exact fun hb hs hw => ack (ackRx_stale same hb hs hw)
  case releases => exact fun w hb hf hs hw hg h3 => ack (ackRx_releases same hb hs hf hw hg h3)
  case unknown => exact fun hb hf ha hr => withdraw (withdrawRx_unknown same hb hf ha hr)
  case frees => exact fun t hb hf ha hr => withdraw (withdrawRx_frees same hb hf ha hr)
  case active => exact fun hb ha hf hs hg hc => resync (resyncRx_active same hb ha hf hs hg hc)
  case full => exact fun hb ha hs => resync (resyncRx_full same hb ha hs)
  case applies => exact fun hb hz => fault (faultRx_applies same hb ((takeDue_keeps (·.zpcOk) (fun _ _ => rfl) (fun _ _ => rfl) c q c h body s.dev).trans hz))

end Sys2Proof.Proofs
end

section
/-! SUPPORT. Data frames and timers of the context protocol. -/

namespace Sys2Proof.Proofs

open Sys2Proof.Machine Sys2Proof.Laws Sys2Proof.Spec

namespace SameTables

variable {d e : Dev} (h : SameTables d e)
include h

theorem pcRec (c : Nat) : pcRec e c = pcRec d c := by rw [Machine.pcRec, servRec, h.serv, h.prov, Machine.pcRec, servRec]
theorem rangeOf (c f : Nat) : rangeOf e c f = rangeOf d c f := by rw [Machine.rangeOf, h.pcRec, h.ctRec, Machine.rangeOf]

omit h in
theorem countRange (o e k n : Nat) (d : Dev) : SameTables d (countRange o e k n d) := by
  rw [Machine.countRange, countFlow]
  dsimp only
  split
  · exact ⟨rfl, rfl, rfl, rfl⟩
  · exact ⟨rfl, rfl, rfl, rfl⟩

end SameTables

/-! ### Delivery (R282, R292, R304) -/

/-- A frame of range entry e is counted and enters its egress queue. -/
def entersEgress (d : Dev) (c e : Nat) (fromC : Bool) (b : Bytes) (x : Dev) : Dev :=
  writeEgress (contSlice d c) (rgPort (pcRec d c) e) (rgClass (pcRec d c) e) b
    (gate fromC (countRange (rxOwner d c) e 2 1) (countRange (rxOwner d c) e 0 1 (countRange (rxOwner d c) e 1 b.length x)))

section Deliver

variable {c f e : Nat} {fromC efcs damaged : Bool} {b : Bytes} {d t : Dev} (h : SameTables d t)
include h

theorem deliver_unmatched (hr : rangeOf d c f = none) : deliver c f fromC efcs damaged b t = dropUnmatched c t := by
  rw [deliver, h.rangeOf, hr]

section Ranged

variable (hr : rangeOf d c f = some e)
include hr

theorem deliver_ranged {bad : Bool} (hb : (!efcs && (damaged || !fcsGood b)) = bad) : deliver c f fromC efcs damaged b t =
    (let x := gate bad (countRange (rxOwner d c) e 4 1) (gate efcs (countRange (rxOwner d c) e 3 1) t)
     if rgDrop (pcRec d c) e then countRange (rxOwner d c) e 5 1 x
     else if bad && !pcLineFcsFwd (pcRec d c) then x
     else entersEgress d c e fromC (if efcs || bad then fcsInvert b else b) x) := by
  rw [deliver, h.rangeOf, hr, h.contSlice, h.rxOwner, h.pcRec]
  dsimp only
  rw [hb]
  rfl

section Sound

variable (hg : damaged = false) (hf : efcs = true ∨ fcsGood b = true)
include hg hf

omit h hr in
theorem fcs_sound : (!efcs && (damaged || !fcsGood b)) = false := by
  rcases hf with h | h <;> rw [h, hg]
  · rfl
  · rw [Bool.not_true, Bool.or_self, Bool.and_false]

theorem deliver_enters (hd : rgDrop (pcRec d c) e = false) : deliver c f fromC efcs damaged b t =
    entersEgress d c e fromC (if efcs then fcsInvert b else b) (gate efcs (countRange (rxOwner d c) e 3 1) t) := by
  rw [deliver_ranged h hr (fcs_sound hg hf), hd, Bool.or_false]
  rfl

theorem deliver_drops (hd : rgDrop (pcRec d c) e = true) : deliver c f fromC efcs damaged b t =
    countRange (rxOwner d c) e 5 1 (gate efcs (countRange (rxOwner d c) e 3 1) t) := by
  rw [deliver_ranged h hr (fcs_sound hg hf), hd]
  rfl

end Sound

theorem deliver_errored (he : efcs = false) (hb : fcsGood b = false) (hd : rgDrop (pcRec d c) e = false) :
    deliver c f fromC efcs damaged b t =
      if pcLineFcsFwd (pcRec d c) then entersEgress d c e fromC (fcsInvert b) (countRange (rxOwner d c) e 4 1 t)
      else countRange (rxOwner d c) e 4 1 t := by
  rw [deliver_ranged h hr (show (!efcs && (damaged || !fcsGood b)) = true by rw [he, hb, Bool.not_false, Bool.or_true]; rfl), hd, he]
  cases pcLineFcsFwd (pcRec d c) <;> rfl

end Ranged

omit h in
theorem dataFRx_gfp (ht : gfpTypeOk b = true) (hp : gfpPti b = 0) (hu : gfpUpi b = 1) :
    dataFRx c f efcs true b t = deliver c f false false (gfpClient b).2 (gfpClient b).1 t := by
  rw [dataFRx, ht, hp, hu]
  rfl

omit h in
theorem dataFRx_zpc : dataFRx c f efcs false b t = deliver c f false efcs false b t := rfl

omit h in
theorem dataFRx_other (ht : gfpTypeOk b = false) : dataFRx c f efcs true b t = t := by
  rw [dataFRx, ht]
  rfl

/-! ### Restored frames and misses (R292, R296) -/

theorem dataCRx_restores {g : Nat} {x : Bytes} (hx : rxOf d c f = some { gen := g, tpl := x }) :
    dataCRx c f g efcs b t = deliver c f true efcs false (x ++ b) t := by
  rw [dataCRx, h.rxOf, hx]
  exact if_pos rfl

/-- A miss, counted under its range entry. -/
def missCounted (d : Dev) (c f : Nat) (t : Dev) : Dev :=
  modPct c (fun p => { p with missed := true }) (match rangeOf d c f with
    | some e => countRange (rxOwner d c) e 6 1 t
    | none => dropUnmatched c t)

theorem missCounted_same : SameTables d (missCounted d c f t) := by
  refine h.trans ?_
  rw [missCounted]
  split
  · exact (SameTables.countRange _ _ _ _ t).trans ⟨rfl, rfl, rfl, rfl⟩
  · exact ⟨rfl, rfl, rfl, rfl⟩

omit h in
theorem missCounted_now : now (missCounted d c f t) = now t := by
  rw [missCounted]
  split
  · rw [countRange, countFlow]
    dsimp only
    split <;> rfl
  · rfl

omit h in
theorem missCounted_resyncCtx : (pct (missCounted d c f t) c).resyncCtx = (pct t c).resyncCtx := by
  rw [missCounted]
  refine (modPct_keeps (·.resyncCtx) (f := fun p => { p with missed := true }) (fun _ => rfl) c c _).trans ?_
  split
  · rw [countRange, countFlow]
    dsimp only
    split <;> rfl
  · exact modPct_keeps (·.resyncCtx) (f := fun p => { p with unmatched := p.unmatched + 1 }) (fun _ => rfl) c c t

/-- The context is asked for once in its hold. -/
def asksOnce (c f g : Nat) (m : Dev) : Dev :=
  if (tfind (pct m c).resyncCtx f).any fun x => decide (now m ≤ x + pcHold (pcRec m c)) then m
  else
    let x := modPct c (fun p => { p with resyncCtx := tset p.resyncCtx f (now m) }) m
    gate (!following x) (pushLossy c f g (ctlBody ccResync false 0 [] 0 0)) x

section Miss

variable {g : Nat} (hg : ∀ y, rxOf d c f = some y → y.gen ≠ g)
include hg

theorem dataCRx_misses : dataCRx c f g efcs b t = asksOnce c f g (missCounted d c f t) := by
  have missed : dataCRx c f g efcs b t = dataCRx.missC (contSlice d c) c f g t := by
    rw [dataCRx, h.rxOf, h.contSlice]
    split
    next y hy => exact if_neg (hg y hy)
    next => rfl
  rw [missed, dataCRx.missC, h.rangeOf, h.rxOwner]
  rfl

theorem dataCRx_held {x : Nat} (hx : tfind (pct t c).resyncCtx f = some x) (hn : now t ≤ x + pcHold (pcRec d c)) :
    dataCRx c f g efcs b t = missCounted d c f t := by
  rw [dataCRx_misses h hg, asksOnce, missCounted_resyncCtx, missCounted_now, (missCounted_same h).pcRec, hx]
  exact if_pos (decide_eq_true hn)

theorem dataCRx_asks (hx : tfind (pct t c).resyncCtx f = none) (hf : following d = false) :
    dataCRx c f g efcs b t = pushLossy c f g (ctlBody ccResync false 0 [] 0 0)
      (modPct c (fun p => { p with resyncCtx := tset p.resyncCtx f (now t) }) (missCounted d c f t)) := by
  have leads (u : PktCont → PktCont) : following (modPct c u (missCounted d c f t)) = false := (missCounted_same h).following.trans hf
  rw [dataCRx_misses h hg, asksOnce, missCounted_resyncCtx, missCounted_now, hx]
  dsimp only
  rw [leads]
  rfl

end Miss

end Deliver

theorem received_none {c : Nat} {fits : Bytes → Bool} {body : Bytes} {f : Bytes → Bytes → Dev → Dev} {d : Dev} (h : frameDue d c = none) :
    received c fits body f d = d := by rw [received, h]

/-! ### Timers (R294, R297, R305) -/

section Timers

variable {c f : Nat} {d : Dev}

section Announce

variable (hf : following d = false) (hs : (sndOf d f).st = .announcing) (hl : learnFrozen d (ctxSlice f) = false)
include hf hs hl

omit hf in
theorem annRetry_running : ¬ ((sndOf d f).st ≠ .announcing ∨ learnFrozen d (ctxSlice f) = true) := by
  rw [hl]
  simpa using hs

theorem annRetry_repeats (hn : (sndOf d f).sends < 8) : annRetry f none d = sendCtx f d := by
  rw [annRetry, hf]
  exact (if_neg Bool.false_ne_true).trans ((if_neg (annRetry_running hs hl)).trans (if_pos hn))

theorem annRetry_ends (hn : 8 ≤ (sndOf d f).sends) (hh : learnHost d (ctxSlice f) = false) :
    annRetry f none d = modSnd f (fun s => { s with delay := true }) (evtPkt 0x0803 (ctxSlice f) f [] (sndFull f d)) := by
  have hardware : learnHost (evtPkt 0x0803 (ctxSlice f) f [] (sndFull f d)) (ctxSlice f) = false := by
    rw [learnHost, assisted, evtPkt, (postEvt_records _ _ _ _ _ _).prov, sndFull_prov]
    exact hh
  rw [annRetry, hf]
  exact (if_neg Bool.false_ne_true).trans ((if_neg (annRetry_running hs hl)).trans ((if_neg (by omega)).trans
    (if_neg (Bool.eq_false_iff.mp hardware))))

end Announce

theorem annRetry_active (hs : (sndOf d f).st = .active) : annRetry f none d = d := by
  have done : (sndOf d f).st ≠ .announcing := by rw [hs]; decide
  rw [annRetry]
  split
  · rfl
  · exact if_pos (.inl done)

section Withdrawn

variable {w : Wdr} (hf : following d = false) (hw : wdrOf d c f = some w)
include hf hw

theorem annRetry_withdraws (hn : w.sends < 8) : annRetry f (some c) d = sendWdr c f d := by
  rw [annRetry, hf, hw]
  exact (if_neg Bool.false_ne_true).trans (if_pos hn)

theorem annRetry_releases (hn : 8 ≤ w.sends) : annRetry f (some c) d = release c f w d := by
  rw [annRetry, hf, hw]
  exact (if_neg Bool.false_ne_true).trans (if_neg (by omega))

end Withdrawn

theorem annReattempt_due (h : (sndOf d f).delay = true) :
    annReattempt f d = tryAnnounce f 1 (modSnd f (fun s => { s with delay := false }) d) := by
  rw [annReattempt, h]
  rfl

theorem annReattempt_idle (h : (sndOf d f).delay = false) : annReattempt f d = d := by
  rw [annReattempt, h]
  rfl

theorem resyncRepeat_idle (h : (pct d c).resync = false) : resyncRepeat c d = d := by
  rw [resyncRepeat, h]
  rfl

theorem resyncRepeat_repeats (h : (pct d c).resync = true) (hm : (pct d c).missed = true) : resyncRepeat c d = resyncAll c d := by
  rw [resyncRepeat, h, hm]
  rfl

theorem resyncRepeat_ends (h : (pct d c).resync = true) (hm : (pct d c).missed = false) :
    resyncRepeat c d = zLive c 3 false (modPct c (fun p => { p with resync := false }) d) := by
  rw [resyncRepeat, h, hm]
  rfl

theorem refreshFault_repeats {i : Nat} (hp : cpMode (servRec d 1 i) = 1) (hf : faultOf d i ≠ 0) (hc : contsOfPort d i = [c]) :
    refreshFault i d = pushLossy c 0 0 (ctlBody ccFault false 0 [] (faultOf d i) i) d := by
  rw [refreshFault, hp, bne_iff_ne.mpr hf]
  show sendFault i (faultOf d i) d = _
  rw [sendFault, hc, each_cons, each_nil]

theorem refreshFault_idle {i : Nat} (h : faultOf d i = 0 ∨ contsOfPort d i = []) : refreshFault i d = d := by
  rw [refreshFault]
  rcases h with h | h
  · rw [h, bne_self_eq_false, Bool.and_false, gate_false]
  · have none_ : sendFault i (faultOf d i) d = d := by rw [sendFault, h, each_nil]
    rw [gate, none_, ite_self]

theorem applyFault_ends {far i : Nat} (hp : portsOfFar d c far = [i]) (hi : tget 0 (pct d c).faultRx i ≠ 0) :
    applyFault c far 0 d =
      (let e := modPct c (fun p => { p with faultRx := tdel p.faultRx i }) d
       let any (v : Nat) : Bool := (pct e c).faultRx.any fun x => x.2 == v
       evtPkt 0x0806 (contSlice d c) i [] (zLive c 6 (any 1) (zLive c 7 (any 2) e))) := by
  rw [applyFault, hp, List.foldl_cons, List.foldl_nil]
  exact if_neg hi

end Timers

/-- Settles O45. -/
theorem dataFramesAndContextTimers : Obligations.DataFramesAndContextTimers := by
  unfold Obligations.DataFramesAndContextTimers
  intro s c f on hc hf
  have flow : (isCont c && isFlow f) = true := by rw [isCont, isFlow, decide_eq_true hc, decide_eq_true hf]; rfl
  refine ⟨?dataF, ?dataC, ?none, ?announce, ?withdraw, ?active, ?due, ?undue, ?noResync, ?resync, ?resynced, ?fault, ?noFault, ?timeout⟩
  case dataF =>
    intro q h body efcs gfp hd hfit
    have same := takeDue_same c q h body s.dev
    have takes {d : Dev} (x : dataFRx c f efcs gfp (descramble (pct s.dev q).des body).1 (takeDue c q h body s.dev) = d) :
        Ends (.dataFRx c f efcs gfp body) s d := runDev_ends (exec_dataFRx c f efcs gfp body s) on flow ((received_due hd hfit).trans x)
    refine ⟨fun e hg hr hs => ⟨fun hd => takes ?_, fun hd => takes ?_⟩, fun e hg hr he hb hd => takes ?_, fun hg hr => takes ?_,
      fun e hg ht hp hu hr hd hc hs => takes ?_, fun hg ht => takes ?_⟩
    · subst hg
      exact (deliver_enters same hr rfl hs hd).trans (by cases efcs <;> rfl)
    · subst hg
      exact (deliver_drops same hr rfl hs hd).trans (by cases efcs <;> rfl)
    · subst hg
      exact deliver_errored same hr he hb hd
    · subst hg
      exact deliver_unmatched same hr
    · subst hg
      exact (dataFRx_gfp ht hp hu).trans (deliver_enters same hr hc (.inr hs) hd)
    · subst hg
      exact dataFRx_other ht
  case dataC =>
    intro q h body g efcs hg hd hfit
    have same := takeDue_same c q h body s.dev
    have fits : (isCont c && isFlow f && isByte g) = true := by rw [flow, isByte, decide_eq_true hg]; rfl
    have takes {d : Dev} (x : dataCRx c f g efcs (descramble (pct s.dev q).des body).1 (takeDue c q h body s.dev) = d) :
        Ends (.dataCRx c f g efcs body) s d := runDev_ends (exec_dataCRx c f g efcs body s) on fits ((received_due hd hfit).trans x)
    have asked : (pct (takeDue c q h body s.dev) c).resyncCtx = (pct s.dev c).resyncCtx :=
      takeDue_keeps (·.resyncCtx) (fun _ _ => rfl) (fun _ _ => rfl) c q c h body s.dev
    have clock : now (takeDue c q h body s.dev) = now s.dev := by
      obtain ⟨t, ht⟩ := takeDue_cont c q h body s.dev
      rw [ht]
      rfl
    refine ⟨fun e t hx hr hdr hs => takes ?_, fun hm => ⟨fun t ht hn => takes ?_, fun ht hf => takes ?_⟩⟩
    · rw [dataCRx_restores same hx, deliver_enters same hr rfl hs hdr]
      cases efcs <;> rfl
    · exact dataCRx_held same hm (by rw [asked]; exact ht) (by rw [clock]; exact hn)
    · rw [dataCRx_asks same hm (by rw [asked]; exact ht) hf, clock]
      rfl
  case none =>
    intro hd g efcs gfp b hg
    have fits : (isCont c && isFlow f && isByte g) = true := by rw [flow, isByte, decide_eq_true hg]; rfl
    exact ⟨runDev_ends (exec_dataFRx c f efcs gfp b s) on flow (received_none hd),
      runDev_ends (exec_dataCRx c f g efcs b s) on fits (received_none hd)⟩
  case announce =>
    have fits : (isFlow f && (none : Option Nat).all isCont) = true := by rw [isFlow, decide_eq_true hf]; rfl
    exact fun hn hs hl => ⟨fun h => runDev_ends (exec_annRetryExpiry ⟨f, none⟩ s) on fits (annRetry_repeats hn hs hl h),
      fun h hh => runDev_ends (exec_annRetryExpiry ⟨f, none⟩ s) on fits (annRetry_ends hn hs hl h hh)⟩
  case withdraw =>
    have fits : (isFlow f && (some c).all isCont) = true := by rw [isFlow, decide_eq_true hf]; exact decide_eq_true hc
    exact fun w hn hw => ⟨fun h => runDev_ends (exec_annRetryExpiry ⟨f, some c⟩ s) on fits (annRetry_withdraws hn hw h),
      fun h => runDev_ends (exec_annRetryExpiry ⟨f, some c⟩ s) on fits (annRetry_releases hn hw h)⟩
  case active =>
    have fits : (isFlow f && (none : Option Nat).all isCont) = true := by rw [isFlow, decide_eq_true hf]; rfl
    exact fun hs => runDev_ends (exec_annRetryExpiry ⟨f, none⟩ s) on fits (annRetry_active hs)
  case due => exact fun h => runDev_ends (exec_annReattemptExpiry f s) on (decide_eq_true hf) (annReattempt_due h)
  case undue => exact fun h => runDev_ends (exec_annReattemptExpiry f s) on (decide_eq_true hf) (annReattempt_idle h)
  case noResync => exact fun h => runDev_ends (exec_resyncHoldRepeat c s) on (decide_eq_true hc) (resyncRepeat_idle h)
  case resync => exact fun h hm => runDev_ends (exec_resyncHoldRepeat c s) on (decide_eq_true hc) (resyncRepeat_repeats h hm)
  case resynced => exact fun h hm => runDev_ends (exec_resyncHoldRepeat c s) on (decide_eq_true hc) (resyncRepeat_ends h hm)
  case fault =>
    exact fun i hi hp hf hc => runDev_ends (exec_clientFaultRefreshTx i s) on (decide_eq_true hi) (refreshFault_repeats hp hf hc)
  case noFault => exact fun i hi h => runDev_ends (exec_clientFaultRefreshTx i s) on (decide_eq_true hi) (refreshFault_idle h)
  case timeout =>
    exact fun far i hfar hp hi => runDev_settles (exec_clientFaultRxTimeout c far s) on
      (by rw [isCont, isByte, decide_eq_true hc, decide_eq_true hfar]; rfl) (applyFault_ends hp hi)

end Sys2Proof.Proofs
end

section
/-! SUPPORT. Queues and the line assembler. -/

namespace Sys2Proof.Proofs

open Sys2Proof.Machine Sys2Proof.Laws Sys2Proof.Spec

/-! ### The encapsulator and the line assembler (R287, R289, R315, R316, R321) -/

section Assembler

variable {c n : Nat} {d : Dev}

theorem zpcEncapFrame_gone (h : (serv d 2 c).isSome = false) : zpcEncapFrame c d = d := by
  rw [zpcEncapFrame, h, Bool.and_false, Bool.false_and]
  rfl

theorem assembleUnit_gone (h : (serv d 2 c).isSome = false) : assembleUnit c n d = d := by
  rw [assembleUnit, h, Bool.and_false, Bool.false_and]
  rfl

theorem assembleUnit_ahead (h : 2 ≤ (pct d c).units.length) : assembleUnit c n d = d := by
  rw [assembleUnit]
  exact if_pos (by rw [decide_eq_true (show (pct d c).units.length ≥ 2 from h), Bool.or_true]; rfl)

section Runs

variable (hp : isPkt (ctRec d c) = true) (hs : (serv d 2 c).isSome = true) (hr : domReady d (14 + contSlice d c) = true)
include hp hs hr

theorem zpcEncapFrame_runs : zpcEncapFrame c d =
    match (pct (encapFrame c 0 d).2 c).cur with
    | some f => flushBoundary f (modPct c (fun p => { p with cur := none }) (encapFrame c 0 d).2)
    | none => (encapFrame c 0 d).2 := by
  rw [zpcEncapFrame, hp, hs, hr]
  rfl

theorem zpcEncapFrame_whole (h : (pct (encapFrame c 0 d).2 c).cur = none) : zpcEncapFrame c d = (encapFrame c 0 d).2 := by
  rw [zpcEncapFrame_runs hp hs hr, h]

theorem zpcEncapFrame_boundary {f : Nat} (h : (pct (encapFrame c 0 d).2 c).cur = some f) :
    zpcEncapFrame c d = flushBoundary f (modPct c (fun p => { p with cur := none }) (encapFrame c 0 d).2) := by
  rw [zpcEncapFrame_runs hp hs hr, h]

/-- What the assembler keeps of a unit to come back to it. -/
def unitMark (c : Nat) (d : Dev) : AsmUnit where
  deficits := (flowsOf d c).map fun e => (e.1, (flowQ d e.1).deficit)
  round := (pct d c).round
  rest := (pct d c).rest
  cur := (pct d c).cur
  seq := (pct d c).seq
  left := (pct d c).left
  restart := (pct d c).restart
  ctlInBlock := (pct d c).ctlInBlock
  scr := (pct d c).scr

/-- A unit has been assembled: its stalls are gone and the multiframe is counted. -/
def unitCounted (c : Nat) (x : Dev) : Dev :=
  modMate (fun m => { m with stall := tdel m.stall (stallKey c (mfnOf x c)), mfn := tmod 0 m.mfn c fun k => (k + 1) % 2 ^ 32 }) x

theorem assembleUnit_runs (hu : (pct d c).units.length < 2) (hn : partnerOf d.prov.serv c = none) : assembleUnit c n d =
    (let e := modPct c (fun p => { p with units := p.units ++ [unitMark c d] }) (sendStalls c d)
     unitCounted c (if n ≤ (pct d c).rest then modPct c (fun p => { p with rest := p.rest - n }) e
       else fillUnit c (n / 4 + 2) (n - (pct d c).rest) (modPct c (fun p => { p with rest := 0 }) e))) := by
  have runs : ¬ (!(isPkt (ctRec d c) && (serv d 2 c).isSome && domReady d (14 + contSlice d c)) || (pct d c).units.length ≥ 2
      || (partnerOf d.prov.serv c).isSome) = true := by
    rw [hp, hs, hr, hn, decide_eq_false (show ¬ (pct d c).units.length ≥ 2 by omega)]
    decide
  rw [assembleUnit]
  exact (if_neg runs).trans rfl

end Runs

theorem unitHandoff_none (h : (pct d c).units = []) : unitHandoff c d = d := by rw [unitHandoff, h]

theorem unitHandoff_releases {u : AsmUnit} {rest : List AsmUnit} {f k : Nat} (hu : (pct d c).units = u :: rest) (hm : u.marks = [(f, k)])
    (hr : ∀ v ∈ rest, tfind v.marks f = none) : unitHandoff c d = releaseFlow f (modPct c (fun p => { p with units := rest }) d) := by
  have last : (rest.any fun v => (tfind v.marks f).isSome) = false := List.any_eq_false.mpr fun v hv => by rw [hr v hv]; decide
  rw [unitHandoff, hu]
  dsimp only
  rw [hm, List.foldl_cons, List.foldl_nil]
  exact if_neg (Bool.eq_false_iff.mp last)

end Assembler

/-! ### Spilled blocks (R326) -/

theorem blockArrives_back {n i : Nat} {eg : Bool} {b : _} {l : List _} {d : Dev} (hf : (queueAt d n eg i).inFlight ≠ 0)
    (hb : (queueAt d n eg i).blocks = b :: l) :
    blockArrives n eg i d = refillQueue n eg i (updPools n (settleQueue n eg i (count (14 + n) (ctrSlice n 2) 1
      (modQueue n eg i (fun q => { q with
        blocks := l, inFlight := q.inFlight - 1, head := if l.isEmpty then 0 else q.head + b.bytes }) d)))) := by
  rw [blockArrives]
  dsimp only
  rw [if_neg hf, hb]

theorem blockArrives_none {n i : Nat} {eg : Bool} {d : Dev} (h : (queueAt d n eg i).inFlight = 0 ∨ (queueAt d n eg i).blocks = []) :
    blockArrives n eg i d = d := by
  rw [blockArrives]
  dsimp only
  rcases h with h | h
  · exact if_pos h
  · rw [h]
    exact ite_self d

/-! ### Flushes (R322) -/

theorem flushBoundary_takes {f : Nat} {j : FlushJob} {d : Dev} (h : ((pct d (flowCont d f)).jobs.filter fun j => j.wait.contains f) = [j]) :
    flushBoundary f d =
      (let x := modPct (flowCont d f) (fun p => { p with
         cur := if p.cur == some f then none else p.cur
         jobs := p.jobs.filter fun j => !j.wait.contains f }) (flushFlow f d)
       flushDone (contSlice x (flowCont d f)) (flowCont d f) j x) := by
  rw [flushBoundary]
  dsimp only
  rw [h, List.isEmpty_cons, List.foldl_cons, List.foldl_nil]
  exact if_neg Bool.false_ne_true

theorem flushBoundary_none {f : Nat} {d : Dev} (h : ∀ j ∈ (pct d (flowCont d f)).jobs, f ∉ j.wait) : flushBoundary f d = d := by
  have idle : ((pct d (flowCont d f)).jobs.filter fun j => j.wait.contains f) = [] := filter_none fun j hj => by simpa using h j hj
  rw [flushBoundary]
  dsimp only
  rw [idle]
  exact if_pos List.isEmpty_nil

/-! ### Stale timers (R333) -/

section Stale

variable {n i : Nat} {d : Dev}

theorem staleExpiry_empty (h : qBytes (egQ d n i) = 0) : staleExpiry n 2 i d = d := by
  rw [staleExpiry]
  exact if_pos (by simp [h])

theorem staleExpiry_egress (hm : mqEgStale (mqRec d n) ≠ 0) (hq : 0 < qBytes (egQ d n i)) :
    staleExpiry n 2 i d = evtQm 0x0903 n i [] (modWm n 2 i (fun w => { w with stale := true, staleSticky := true }) d) := by
  rw [staleExpiry]
  exact if_neg (by simp [hm, hq])

theorem staleExpiry_class (hm : qcStaleMs (qcRec d (i / 8) (i % 8)) ≠ 0) (hn : contSlice d (i / 8) = n) (hq : 0 < cqBytes d (i / 8) (i % 8)) :
    staleExpiry n 1 i d =
      (let e := evtQm 0x0903 n i [] (modWm n 1 i (fun w => { w with stale := true, staleSticky := true }) d)
       if qcStaleAct (qcRec d (i / 8) (i % 8)) then startFlush (i / 8) false (i % 8) e else e) := by
  have kept (x : Dev) : qcRec (evtQm 0x0903 n i [] x) (i / 8) (i % 8) = qcRec x (i / 8) (i % 8) := by
    rw [qcRec, evtQm, (postEvt_records _ _ _ _ _ _).prov, qcRec]
  rw [staleExpiry]
  refine (if_neg (by simp [hm, hn, hq])).trans ?_
  dsimp only
  rw [kept]
  rfl

end Stale

theorem sweepDone_blocks (n : Nat) (d : Dev) : sweepDone n true d = updPools n (modPsl n (fun s => { s with leaked := [] }) d) := rfl

theorem sweepDone_cells (n : Nat) (d : Dev) : sweepDone n false d = updPools n (modPsl n (fun s => { s with leakCells := 0 }) d) := rfl

/-- Settles O46. -/
theorem queuesAndUnitsMove : Obligations.QueuesAndUnitsMove := by
  unfold Obligations.QueuesAndUnitsMove
  intro s on
  have stale {n i space : Nat} (hn : n < 4) (hi : i < 65536) (hs : space = 1 ∨ space = 2) :
      (isSlice n && (space == 1 || space == 2) && isHalf i) = true := by
    rw [isSlice, isHalf, decide_eq_true hn, decide_eq_true hi]
    rcases hs with rfl | rfl <;> rfl
  refine ⟨?encap, ?gone, ?unit, ?ahead, ?handoff, ?noUnit, ?arrives, ?noBlock, ?flush, ?noFlush, ?staleEgress, ?staleClass, ?staleEmpty,
    ?sweep⟩
  case encap =>
    intro c hc hp hs hr
    exact ⟨fun h => runDev_ends (exec_zpcEncapFrame c s) on (decide_eq_true hc) (zpcEncapFrame_whole hp hs hr h),
      fun f h => runDev_ends (exec_zpcEncapFrame c s) on (decide_eq_true hc) (zpcEncapFrame_boundary hp hs hr h)⟩
  case gone =>
    exact fun c hc h => ⟨runDev_ends (exec_zpcEncapFrame c s) on (decide_eq_true hc) (zpcEncapFrame_gone h),
      fun n => runDev_ends (exec_lineAssemblyUnit c n s) on (decide_eq_true hc) (assembleUnit_gone h)⟩
  case unit =>
    intro c n hc hp hs hr hu hn
    have runs {d : Dev} (h : assembleUnit c n s.dev = d) : Ends (.lineAssemblyUnit c n) s d :=
      runDev_ends (exec_lineAssemblyUnit c n s) on (decide_eq_true hc) h
    have unit := assembleUnit_runs (n := n) hp hs hr hu hn
    exact ⟨fun h => runs (unit.trans (congrArg (unitCounted c) (if_pos h))),
      fun h => runs (unit.trans (congrArg (unitCounted c) (if_neg (by omega))))⟩
  case ahead => exact fun c n hc h => runDev_ends (exec_lineAssemblyUnit c n s) on (decide_eq_true hc) (assembleUnit_ahead h)
  case handoff =>
    exact fun c u rest f k hc hu hm hr => runDev_ends (exec_assemblyUnitHandoff c s) on (decide_eq_true hc) (unitHandoff_releases hu hm hr)
  case noUnit => exact fun c hc h => runDev_ends (exec_assemblyUnitHandoff c s) on (decide_eq_true hc) (unitHandoff_none h)
  case arrives =>
    exact fun n eg i b l hn hq hf hb => runDev_ends (exec_prefetchBlockArrive n eg i s) on (by rw [hn, hq]; rfl) (blockArrives_back hf hb)
  case noBlock =>
    exact fun n eg i hn hq h => runDev_ends (exec_prefetchBlockArrive n eg i s) on (by rw [hn, hq]; rfl) (blockArrives_none h)
  case flush =>
    exact fun f j hf h => ⟨_, runDev_ends (exec_flushBoundary f s) on (decide_eq_true hf) (flushBoundary_takes h), rfl⟩
  case noFlush => exact fun f hf h => runDev_ends (exec_flushBoundary f s) on (decide_eq_true hf) (flushBoundary_none h)
  case staleEgress =>
    exact fun n i hn hi hm hq => runDev_ends (exec_staleTimerExpiry n 2 i s) on (stale hn hi (.inr rfl)) (staleExpiry_egress hm hq)
  case staleClass =>
    exact fun n i hn hi hm hc hq => runDev_ends (exec_staleTimerExpiry n 1 i s) on (stale hn hi (.inl rfl)) (staleExpiry_class hm hc hq)
  case staleEmpty =>
    exact fun n i hn hi h => runDev_ends (exec_staleTimerExpiry n 2 i s) on (stale hn hi (.inr rfl)) (staleExpiry_empty h)
  case sweep =>
    exact fun n hn => ⟨runDev_ends (exec_queueSweepDone n true s) on (decide_eq_true hn) (sweepDone_blocks n s.dev),
      runDev_ends (exec_queueSweepDone n false s) on (decide_eq_true hn) (sweepDone_cells n s.dev)⟩

end Sys2Proof.Proofs
end

section
/-! SUPPORT. The resize handshake on a line port. -/

namespace Sys2Proof.Proofs

open Sys2Proof.Machine Sys2Proof.Laws Sys2Proof.Spec

/-! ### What a message does once it is heard (R358) -/

section Resize

variable {p : Nat} {b : Bytes} {d : Dev}

section Heard

variable {msgs : List Nat} {act : Dev → Dev} (hp : p < 4) (hr : domReady d (6 + p) = true)
include hp hr

theorem rszRx_port : rszRx d p msgs b = (rmOk b && msgs.contains (rmMsg b) && !fstat d p 8 && !fstat d p 10) := by
  rw [rszRx, hr, decide_eq_true (show p ≤ 3 by omega), Bool.and_self, Bool.true_and]

theorem rszHear_bad (h : rmOk b = false ∨ fstat d p 8 = true ∨ fstat d p 10 = true) :
    rszHear p msgs b act d = count (6 + p) (ctrLine p 8) 1 (modRz p (fun z => { z with heard := none }) d) := by
  have port : decide (p ≤ 3) = true := decide_eq_true (by omega)
  have bad : (!rszRx d p msgs b) = true := by
    rw [rszRx_port hp hr]
    rcases h with h | h | h <;> simp [h]
  have wrong : (!(rmOk b && !fstat d p 8 && !fstat d p 10)) = true := by rcases h with h | h | h <;> simp [h]
  have kept (x : Nat) : fstat (modRz p (fun z => { z with heard := none }) d) p x = fstat d p x := rfl
  rw [rszHear, if_pos bad, rszBad, port, gate_true, kept, kept, wrong, Bool.and_self, gate_true]

section Valid

variable (hok : rmOk b = true) (hm : rmMsg b ∈ msgs) (h8 : fstat d p 8 = false) (h10 : fstat d p 10 = false)
include hok hm h8 h10

theorem rszHear_valid : rszHear p msgs b act d =
    if (rz d p).heard = some ((ln d p).rxMf, b) then act d else modRz p (fun z => { z with heard := some ((ln d p).rxMf, b) }) d := by
  have good : ¬ (!rszRx d p msgs b) = true := by
    rw [rszRx_port hp hr, hok, List.contains_iff_mem.mpr hm, h8, h10]
    decide
  rw [rszHear]
  exact if_neg good

theorem rszHear_first (h : (rz d p).heard ≠ some ((ln d p).rxMf, b)) :
    rszHear p msgs b act d = modRz p (fun z => { z with heard := some ((ln d p).rxMf, b) }) d :=
  (rszHear_valid hp hr hok hm h8 h10).trans (if_neg h)

theorem rszHear_twice (h : (rz d p).heard = some ((ln d p).rxMf, b)) : rszHear p msgs b act d = act d :=
  (rszHear_valid hp hr hok hm h8 h10).trans (if_pos h)

end Valid

end Heard

/-! ### The responder (R361, R362, R371) -/

/-- The proposal as the responder takes it. -/
def proposalTaken (p : Nat) (b : Bytes) (d : Dev) : Dev :=
  modRz p (fun z => { z with
    responder := true, propId := rmId b, newMap := rmMap b, preempt := rmPreempt b, pred := none, txDone := false, rxDone := false
    oldM := slotCount z.txMap, nPre := 0, nRes := 0, left := 0, sched := none, cd := 0 }) d

/-- The proposal under evaluation, posted. -/
def proposalPosted (p : Nat) (b : Bytes) (d : Dev) : Dev :=
  evtLine 0x0510 p p (be 4 (rmId b) ++ be 2 (slotCount (rmMap b)) ++ [1]) (modRz p (fun z => { z with st := 2, msg := 0 }) d)

section Propose

variable (hs : (rz d p).st = 0) (hf : following d = false)
include hs hf

theorem proposeRx_incapable (hv : verdict d p (rmMap b) (rmPreempt b) (rmCrc b) = 1) :
    proposeRx p b d = refuseProp p 1 (proposalTaken p b d) := by
  rw [proposeRx]
  refine (if_pos hs).trans ?_
  rw [respond]
  dsimp only
  rw [hv]
  exact (if_neg (Bool.eq_false_iff.mp hf)).trans (if_pos rfl)

theorem proposeRx_evaluated (ha : assisted d 5 p = false) (hv : verdict d p (rmMap b) (rmPreempt b) (rmCrc b) ≠ 1) :
    proposeRx p b d = if verdict d p (rmMap b) (rmPreempt b) (rmCrc b) = 0 then acceptProp p (proposalPosted p b (proposalTaken p b d))
      else refuseProp p (verdict d p (rmMap b) (rmPreempt b) (rmCrc b)) (proposalPosted p b (proposalTaken p b d)) := by
  have hw : assisted (proposalPosted p b (proposalTaken p b d)) 5 p = false := by
    rw [proposalPosted, evtLine, assisted, (postEvt_records _ _ _ _ _ _).prov]
    exact ha
  rw [proposeRx]
  refine (if_pos hs).trans ?_
  rw [respond]
  exact (if_neg (Bool.eq_false_iff.mp hf)).trans ((if_neg hv).trans (if_neg (Bool.eq_false_iff.mp hw)))

end Propose

/-! ### The proposer (R363 to R366) -/

theorem rszAckRx_takes (hs : (rz d p).st = 1) (hi : rmId b = (rz d p).propId) (hc : rmCrc b = calCrc d p (rz d p).newMap)
    (hf : following d = false) : rszAckRx p b d =
      showRz p (evtLine 0x0511 p p [] (modRz p (fun z => { z with st := 4, sched := some (lrLead (lineRec d p)) }) d)) := by
  rw [rszAckRx]
  exact if_pos (by simp [hs, hi, hc, hf])

theorem rszNakRx_takes (hs : (rz d p).st = 1) (hi : rmId b = (rz d p).propId) (hf : following d = false) :
    rszNakRx p b d = fwdRz p (modRz p (fun z => { z with st := 0, msg := 0, left := 0 }) (rszRefused p (rmReason b) d)) := by
  rw [rszNakRx]
  exact if_pos (by simp [hs, hi, hf])

theorem rszAbortRx_takes (hs : (rz d p).st = 2 ∨ (rz d p).st = 3) (hi : rmId b = (rz d p).propId) (hf : following d = false) :
    rszAbortRx p b d = fwdRz p (modRz p (fun z => { z with st := 0, msg := 0, left := 0 }) (rszAborted p (rmReason b) d)) := by
  rw [rszAbortRx]
  exact if_pos (by rcases hs with hs | hs <;> simp [hs, hi, hf])

section Other

variable (h : rmId b ≠ (rz d p).propId)
include h

theorem rszAckRx_other : rszAckRx p b d = d := by
  rw [rszAckRx]
  exact if_neg (by simp [h])

theorem rszNakRx_other : rszNakRx p b d = d := by
  rw [rszNakRx]
  exact if_neg (by simp [h])

theorem rszAbortRx_other : rszAbortRx p b d = d := by
  rw [rszAbortRx]
  exact if_neg (by simp [h])

end Other

/-! ### The switches (R367, R368, R374 to R376) -/

theorem rszSwitchRx_predicts (hk : rmCd b ≠ 0) (hs : (rz d p).st = 4) (hi : rmId b = (rz d p).propId) (hp : (rz d p).pred = none)
    (hx : (rz d p).rxDone = false) : rszSwitchRx p b d =
      fwdRz p (evtLine 0x0513 p p (be 6 (u48 b 12) ++ be 1 (rmCd b) ++ be 1 (switchDir true))
        (modRz p (fun z => { z with pred := some ((ln d p).rxMf + rmCd b, rmMap b) }) d)) := by
  have mine : (((rz d p).st == 3 || (rz d p).st == 4) && rmId b == (rz d p).propId) = true := by simp [hs, hi]
  have four : ¬ ((decide ((rz d p).st = 3) && !following (evtLine 0x0513 p p (be 6 (u48 b 12) ++ be 1 (rmCd b) ++ be 1 (switchDir true))
      (modRz p (fun z => { z with pred := some ((ln d p).rxMf + rmCd b, rmMap b) }) d))) = true) := by
    rw [hs]
    exact Bool.false_ne_true
  rw [rszSwitchRx]
  refine (if_neg hk).trans ?_
  dsimp only
  rw [mine]
  refine (if_neg (by rw [Bool.true_or]; decide)).trans ?_
  rw [hp]
  refine (if_neg (by rw [hx]; decide)).trans ?_
  rw [if_neg four]

theorem txSwitchCmd_due (hr : domReady d (6 + p) = true) (hm : (rz d p).msg = 4) (hc : (rz d p).cd = 1) (hx : (rz d p).txDone = false)
    (h0 : (ln d p).txMfas = 0) (hs : (rz d p).st = 4) : txSwitchCmd p d =
      rszComplete p (followMap p (writeMap p (rz d p).newMap
        (modRz p (fun z => { z with txMap := z.newMap, txDone := true, cd := 0, sched := none }) d))) := by
  rw [txSwitchCmd]
  refine (if_pos (by rw [hr, txDue, hm, hc, hx, h0]; rfl)).trans ?_
  rw [txSwitch]
  exact if_pos hs

theorem txSwitchCmd_early (h : (ln d p).txMfas ≠ 0) : txSwitchCmd p d = d := by
  rw [txSwitchCmd]
  exact if_neg (by rw [txDue, beq_eq_false_iff_ne.mpr h, Bool.and_false, Bool.and_false]; exact Bool.false_ne_true)

theorem rxSwitchCmd_due {r m : Nat} (hr : domReady d (6 + p) = true) (hp : (rz d p).pred = some (r, m)) (h : r ≤ (ln d p).rxMf) :
    rxSwitchCmd p d = rszComplete p (modRz p (fun z => { z with rxMap := m, rxDone := true, pred := none }) d) := by
  have due : rxDue d p = true := by
    rw [rxDue, hp]
    exact decide_eq_true h
  rw [rxSwitchCmd, if_pos (by rw [hr, due]; rfl), rxSwitch, hp]

theorem rxSwitchCmd_none (h : (rz d p).pred = none) : rxSwitchCmd p d = d := by
  rw [rxSwitchCmd]
  exact if_neg (by rw [rxDue, h, Bool.and_false]; exact Bool.false_ne_true)

/-! ### Maps shown and timeouts (R365, R377, R378) -/

theorem rszDoneRx_same (hf : (rz d p).fresh = false) (hm : rmMap b = (rz d p).rxMap) :
    rszDoneRx p b d = showRz p (modRz p (fun z => { z with farMap := some (rmMap b), farFresh := rmFresh b }) d) := by
  rw [rszDoneRx]
  dsimp only
  rw [hf, show (rmMap b != (rz d p).rxMap) = false by rw [hm, bne_self_eq_false], Bool.false_and, gate_false, Bool.and_false]
  exact if_neg Bool.false_ne_true

theorem rszAckTmo_ends (hp : p < 4) (hs : (rz d p).st = 1) (hf : following d = false) :
    rszAckTmo p d = showRz p (rszAborted p 11 (rszEnd p 5 11 d)) := by
  rw [rszAckTmo]
  exact if_pos (by rw [decide_eq_true (show p ≤ 3 by omega), hs, hf]; rfl)

theorem rszAckTmo_idle (h : (rz d p).st ≠ 1) : rszAckTmo p d = d := by
  rw [rszAckTmo]
  exact if_neg (by simp [h])

theorem rszRespTmo_ends (hp : p < 4) (hs : (rz d p).st = 3) (hd : (rz d p).pred = none) (hf : following d = false)
    (hm : (rz d p).farMap ≠ some (rz d p).newMap) :
    rszRespTmo p d = fwdRz p (modRz p (fun z => { z with st := 0, msg := 0, left := 0 }) d) := by
  rw [rszRespTmo]
  exact (if_pos (by rw [decide_eq_true (show p ≤ 3 by omega), hs, hd, hf]; rfl)).trans (if_neg hm)

theorem rszRespTmo_idle (h : (rz d p).st ≠ 3) : rszRespTmo p d = d := by
  rw [rszRespTmo]
  exact if_neg (by simp [h])

theorem freshClear_ends (hp : p < 4) (hr : domReady d (6 + p) = true) (hf : (rz d p).fresh = true)
    (hm : (rz d p).farMap = some (rz d p).txMap) (hx : (rz d p).rxMap = (rz d p).txMap) :
    freshClear p d = showRz p (modRz p (fun z => { z with fresh := false }) d) := by
  rw [freshClear]
  exact if_pos (by simp [show p ≤ 3 by omega, hr, hf, hm, hx])

theorem freshClear_idle (h : (rz d p).fresh = false) : freshClear p d = d := by
  rw [freshClear]
  exact if_neg (by simp [h])

end Resize

/-- A command of the resize engine on a port that is READY: what it does, and then the registers of R378 show it. -/
theorem resize_shows {c : Instr} {s : State} {p : Nat} {f : Dev → Dev} {d : Dev} (h : Machine.exec c s =
    runDev (isPort p) (fun d => refresh (rszCmd p f d)) s) (on : On s) (hp : p < 4) (hr : domReady s.dev (6 + p) = true)
    (hd : f s.dev = d) : Settles c s (showRz p d) :=
  runDev_settles h on (decide_eq_true hp) (by rw [rszCmd, hr, gate_true, hd])

/-- Settles O48. -/
theorem resizesRunTheirHandshake : Obligations.ResizesRunTheirHandshake := by
  unfold Obligations.ResizesRunTheirHandshake
  intro s p on hp hr
  have shows {c : Instr} {f : Dev → Dev} {d : Dev} (h : Machine.exec c s = runDev (isPort p) (fun d => refresh (rszCmd p f d)) s)
      (hd : f s.dev = d) : Settles c s (showRz p d) := resize_shows h on hp hr hd
  have propose (b : Bytes) := exec_resizeProposeRx p b s
  have ack (b : Bytes) := exec_resizeAckRx p b s
  have nak (b : Bytes) := exec_resizeNakRx p b s
  have abort (b : Bytes) := exec_resizeAbortRx p b s
  have switch (b : Bytes) := exec_resizeSwitchRx p b s
  have done (b : Bytes) := exec_resizeDoneRx p b s
  have twice {b : Bytes} {k : Nat} {msgs : List Nat} {act : Dev → Dev} {d : Dev} (hm : k ∈ msgs)
      (h : (rmOk b = true ∧ rmMsg b = k ∧ fstat s.dev p 8 = false ∧ fstat s.dev p 10 = false) ∧
        (rz s.dev p).heard = some ((ln s.dev p).rxMf, b))
      (hd : act s.dev = d) : rszHear p msgs b act s.dev = d := by
    obtain ⟨⟨hok, hk, h8, h10⟩, hh⟩ := h
    exact (rszHear_twice hp hr hok (hk ▸ hm) h8 h10 hh).trans hd
  refine ⟨?bad, ?first, ?proposed, ?acked, ?other, ?refused, ?aborted, ?switched, ?mapShown, ?ackTmo, ?ackIdle, ?respTmo, ?respIdle,
    ?txSwitch, ?txEarly, ?rxSwitch, ?rxNone, ?fresh, ?notFresh⟩
  case bad =>
    exact fun b h => ⟨shows (propose b) (rszHear_bad hp hr h), shows (ack b) (rszHear_bad hp hr h), shows (nak b) (rszHear_bad hp hr h),
      shows (abort b) (rszHear_bad hp hr h), shows (switch b) (rszHear_bad hp hr h), shows (done b) (rszHear_bad hp hr h)⟩
  case first =>
    rintro b kind c hc ⟨hok, hk, h8, h10⟩ hh
    have first {msgs : List Nat} {act : Dev → Dev} (hm : rmMsg b ∈ msgs) := rszHear_first (act := act) hp hr hok hm h8 h10 hh
    simp only [List.mem_cons, Prod.mk.injEq, List.not_mem_nil, or_false] at hc
    rcases hc with ⟨rfl, rfl⟩ | ⟨rfl, rfl⟩ | ⟨rfl, rfl⟩ | ⟨rfl, rfl⟩ | ⟨rfl, rfl⟩ | ⟨rfl, rfl⟩
    · exact shows (propose b) (first (by simp [hk]))
    · exact shows (ack b) (first (by simp [hk]))
    · exact shows (nak b) (first (by simp [hk]))
    · exact shows (abort b) (first (by simp [hk]))
    · exact shows (switch b) (first (by simp [hk]))
    · exact shows (done b) (first (by simp [hk]))
  case proposed =>
    rintro b ⟨ht, hf⟩ hs ha
    exact ⟨fun hv => shows (propose b) (twice (by simp) ht
        ((proposeRx_evaluated hs hf ha (by rw [hv]; decide)).trans (if_pos hv))),
      fun hv => shows (propose b) (twice (by simp) ht (proposeRx_incapable hs hf hv)),
      fun hv => shows (propose b) (twice (by simp) ht ((proposeRx_evaluated hs hf ha (by omega)).trans (if_neg (by omega))))⟩
  case acked => exact fun b ⟨ht, hf⟩ hs hi hc => shows (ack b) (twice (by simp) ht (rszAckRx_takes hs hi hc hf))
  case other =>
    exact fun b h => ⟨fun ht => shows (ack b) (twice (by simp) ht (rszAckRx_other h)),
      fun ht => shows (nak b) (twice (by simp) ht (rszNakRx_other h)), fun ht => shows (abort b) (twice (by simp) ht (rszAbortRx_other h))⟩
  case refused => exact fun b ⟨ht, hf⟩ hs hi => shows (nak b) (twice (by simp) ht (rszNakRx_takes hs hi hf))
  case aborted => exact fun b ⟨ht, hf⟩ hs hi => shows (abort b) (twice (by simp) ht (rszAbortRx_takes hs hi hf))
  case switched =>
    exact fun b ⟨ht, _⟩ hk hs hi hpr hx => shows (switch b) (twice (by simp) ht (rszSwitchRx_predicts hk hs hi hpr hx))
  case mapShown => exact fun b ⟨ht, _⟩ hf hm => shows (done b) (twice (by simp) ht (rszDoneRx_same hf hm))
  case ackTmo => exact fun hs hf => shows (exec_resizeAckTmo p s) (rszAckTmo_ends hp hs hf)
  case ackIdle => exact fun h => shows (exec_resizeAckTmo p s) (rszAckTmo_idle h)
  case respTmo => exact fun hs hd hf hm => shows (exec_resizeResponderTmo p s) (rszRespTmo_ends hp hs hd hf hm)
  case respIdle => exact fun h => shows (exec_resizeResponderTmo p s) (rszRespTmo_idle h)
  case txSwitch => exact fun hm hc hx h0 hs => shows (exec_resizeTxSwitch p s) (txSwitchCmd_due hr hm hc hx h0 hs)
  case txEarly => exact fun h => shows (exec_resizeTxSwitch p s) (txSwitchCmd_early h)
  case rxSwitch => exact fun r m hd h => shows (exec_resizeRxSwitch p s) (rxSwitchCmd_due hr hd h)
  case rxNone => exact fun h => shows (exec_resizeRxSwitch p s) (rxSwitchCmd_none h)
  case fresh => exact fun hf hm hx => shows (exec_freshClear p s) (freshClear_ends hp hr hf hm hx)
  case notFresh => exact fun h => shows (exec_freshClear p s) (freshClear_idle h)

end Sys2Proof.Proofs
end

section
/-! SUPPORT. Linear protection. -/

namespace Sys2Proof.Proofs

open Sys2Proof.Machine Sys2Proof.Laws Sys2Proof.Spec

/-! ### The state machine (R417, R418) -/

section Requests

variable {r : Bytes} {p : ProtGrp}

theorem apsOutcome_local (h : bidirectional r p = false) : apsOutcome r p = ((localReq r p).1, (localReq r p).2.toNat, (localReq r p).2) := by
  rw [apsOutcome]
  exact if_neg (by rw [h, Bool.false_and, Bool.false_and]; exact Bool.false_ne_true)

theorem apsOutcome_far (h : bidirectional r p = true) (hf : farCode p ≠ 0) (hl : (localReq r p).1 < farCode p) :
    apsOutcome r p = (if farCode p = 1 then 1 else 2, (decide (apsRequested p.far = 1)).toNat,
      if farCode p = 4 then p.sel else decide (apsRequested p.far = 1)) := by
  rw [apsOutcome]
  refine (if_pos (by simp [h, hf, hl.le])).trans ?_
  rw [if_neg hl.ne]

theorem localReq_lockout (h : p.cmds.testBit 1 = true) : localReq r p = (15, false) := if_pos h

theorem localReq_sfProtection (h : p.cmds.testBit 1 = false) (hs : p.raised.testBit 1 = true) : localReq r p = (14, false) :=
  (if_neg (Bool.eq_false_iff.mp h)).trans (if_pos hs)

theorem localReq_forced (h : p.cmds.testBit 1 = false) (hs : p.raised.testBit 1 = false) (hf : p.cmds.testBit 2 = true) :
    localReq r p = (13, true) :=
  (if_neg (Bool.eq_false_iff.mp h)).trans ((if_neg (Bool.eq_false_iff.mp hs)).trans (if_pos hf))

theorem localReq_sfWorking (h : p.cmds.testBit 1 = false) (hs : p.raised.testBit 1 = false) (hf : p.cmds.testBit 2 = false)
    (hw : p.cmds.testBit 3 = false) (h0 : p.raised.testBit 0 = true) : localReq r p = (11, true) :=
  (if_neg (Bool.eq_false_iff.mp h)).trans ((if_neg (Bool.eq_false_iff.mp hs)).trans
    ((if_neg (Bool.eq_false_iff.mp hf)).trans ((if_neg (Bool.eq_false_iff.mp hw)).trans (if_pos h0))))

end Requests

/-! ### Conditions and timers (R415, R418) -/

section Group

variable {g : Nat} {d : Dev} (hg : hasPg d g = true)
include hg

section Change

variable (hc : condOf d g = 1) (h0 : (pg d g).cond = 0) (hr : (pg d g).raised = 0) (hh : (pg d g).hold = [])
include hc h0 hr hh

omit hg hc h0 hr hh in
theorem rise_sfWorking : (List.range 4).filter (fun b => Nat.testBit 1 b && !Nat.testBit 0 b) = [0] := rfl

omit hg hc h0 hr hh in
theorem fall_none : (List.range 4).filter (fun b => !Nat.testBit 1 b && Nat.testBit 0 b) = [] := rfl

theorem sfSdChange_raised (hz : pgHoldoff (pgRec d g) = 0) : sfSdChange g d =
    evalPg (pg d g) g 0 (each [0, 1, 2, 3] (fun b => pgLive g b (decide (b = 0)))
      (modPg g (fun _ => { pg d g with cond := 1, reinitSf := false, hold := [], raised := 1 }) d)) := by
  rw [sfSdChange]
  refine (if_neg (by rw [hg]; decide)).trans ?_
  dsimp only
  rw [hc, h0, hr, hh, hz, rise_sfWorking, fall_none]
  simp only [Nat.zero_testBit, Bool.false_and, Bool.or_self, if_neg Bool.false_ne_true, Bool.and_not_self]
  rfl

theorem sfSdChange_held (hz : pgHoldoff (pgRec d g) ≠ 0) : sfSdChange g d =
    evalPg (pg d g) g 1 (each [0, 1, 2, 3] (fun b => pgLive g b (decide (b = 0)))
      (modPg g (fun _ => { pg d g with cond := 1, reinitSf := false, hold := [(0, now d)], raised := 0 }) d)) := by
  rw [sfSdChange]
  refine (if_neg (by rw [hg]; decide)).trans ?_
  dsimp only
  rw [hc, h0, hr, hh, bne_iff_ne.mpr hz, rise_sfWorking, fall_none]
  simp only [if_neg hz, Nat.zero_testBit, Bool.false_and, Bool.or_self, if_neg Bool.false_ne_true, Bool.and_not_self]
  rfl

end Change

theorem holdoffExpiry_due {l : List Nat} (hl : holdDue d g = l) (h : l ≠ []) :
    holdoffExpiry g d = evalPg (pg d g) g 2 (modPg g (raiseHeld l) d) := by
  rw [holdoffExpiry, hl]
  exact if_neg (by simp [hg, h])

omit hg in
theorem holdoffExpiry_none (h : holdDue d g = []) : holdoffExpiry g d = d := by
  rw [holdoffExpiry, h]
  exact if_pos (Bool.or_true _)

theorem wtrExpiry_ends (hw : (pg d g).wtr = true) (hf : following d = false) :
    wtrExpiry g d = evalPg (pg d g) g 4 (modPg g (fun p => { p with wtr := false, wtrDone := true }) d) := by
  rw [wtrExpiry]
  exact if_neg (by rw [hg, hw, hf]; decide)

omit hg in
theorem wtrExpiry_idle (h : (pg d g).wtr = false) : wtrExpiry g d = d := by
  rw [wtrExpiry]
  exact if_pos (by rw [h]; simp)

theorem fopExpiry_judges : fopExpiry g d = evalPg (pg d g) g 0 (setFop g
    ((pg d g).fopPm || (pg d g).pmSince.any fun e => decide (e + 50 ≤ now d))
    ((pg d g).fopNr || (pg d g).nrSince.any fun e => decide (e + 50 ≤ now d)) d) := by
  rw [fopExpiry]
  exact if_neg (by rw [hg]; decide)

/-! ### APS received (R418) -/

theorem apsRx_noted {b : Bytes} (hb : b.length = 4) (h : b ≠ (pg d g).cand ∨ (pg d g).candN < 2) : apsRx g b d =
    modPg g (fun p => { p with
      cand := b, candN := if b = (pg d g).cand ∧ (pg d g).candN ≠ 0 then (pg d g).candN + 1 else 1 }) d := by
  have few : (if b = (pg d g).cand ∧ (pg d g).candN ≠ 0 then (pg d g).candN + 1 else 1) < 3 := by
    split
    · rename_i same
      have := h.resolve_left (not_not.mpr same.1)
      omega
    · decide
  rw [apsRx]
  refine (if_neg (by rw [hg]; decide)).trans ?_
  dsimp only
  rw [fit_of_length hb]
  exact if_pos (by rw [decide_eq_true few, Bool.true_or])

theorem apsRx_accepts {b : Bytes} (hb : b.length = 4) (hc : b = (pg d g).cand) (hn : (pg d g).candN = 2) (hs : (pg d g).farSeen = false) :
    apsRx g b d = evalPg (pg d g) g 0 (judgeFop g (modPg g
      (fun p => { p with far := b, farSeen := true, farOut := false, reinitAps := false })
      (cctrAdd (pgCtr g 2) 1 (modPg g (fun p => { p with cand := b, candN := 3 }) d)))) := by
  have three : (if b = (pg d g).cand ∧ (pg d g).candN ≠ 0 then (pg d g).candN + 1 else 1) = 3 := by
    rw [if_pos ⟨hc, by omega⟩, hn]
  rw [apsRx]
  refine (if_neg (by rw [hg]; decide)).trans ?_
  dsimp only
  rw [fit_of_length hb, three, hs]
  refine (if_neg (by rw [Bool.false_and, Bool.false_and]; decide)).trans ?_
  rw [Bool.not_false, Bool.or_true, gate_true]

end Group

/-- Settles O49. -/
theorem protectionFollowsConditions : Obligations.ProtectionFollowsConditions := by
  unfold Obligations.ProtectionFollowsConditions
  refine ⟨fun r p => apsOutcome_local, ?far, fun r p => localReq_lockout, fun r p => localReq_sfProtection, fun r p => localReq_forced,
    fun r p => localReq_sfWorking, ?step⟩
  case far =>
    intro r p h hf hl
    rw [apsOutcome_far h hf hl]
    exact ⟨rfl, by by_cases v : apsRequested p.far = 1 <;> simp [v]⟩
  case step =>
    intro s g on hb hg
    have grp : isPg g = true := decide_eq_true hb
    refine ⟨?raised, ?held, ?holdoff, ?wtr, ?noWtr, ?noted, ?accepted, ?fop⟩
    case raised => exact fun hz hc h0 hr hh => runDev_settles (exec_sfSdChange g s) on grp (sfSdChange_raised hg hc h0 hr hh hz)
    case held => exact fun hz hc h0 hr hh => runDev_settles (exec_sfSdChange g s) on grp (sfSdChange_held hg hc h0 hr hh hz)
    case holdoff =>
      intro l hl
      have due : holdDue s.dev g = l := hl.symm
      exact ⟨fun h => runDev_settles (exec_apsHoldoffExpiry g s) on grp (holdoffExpiry_due hg due h),
        fun h => runDev_settles (exec_apsHoldoffExpiry g s) on grp (holdoffExpiry_none (due.trans h))⟩
    case wtr => exact fun hw hf => runDev_settles (exec_apsWtrExpiry g s) on grp (wtrExpiry_ends hg hw hf)
    case noWtr => exact fun h => runDev_settles (exec_apsWtrExpiry g s) on grp (wtrExpiry_idle h)
    case noted =>
      exact fun b hl h => runDev_settles (exec_apsRxAccept g b s) on (by rw [grp, hl]; rfl) (apsRx_noted hg hl h)
    case accepted =>
      exact fun b hl hc hn hs => runDev_settles (exec_apsRxAccept g b s) on (by rw [grp, hl]; rfl) (apsRx_accepts hg hl hc hn hs)
    case fop =>
      intro due hdue
      rw [hdue, hdue]
      exact runDev_settles (exec_fopTimerExpiry g s) on grp (fopExpiry_judges hg)

end Sys2Proof.Proofs
end

section
/-! SUPPORT. Slalom. -/

namespace Sys2Proof.Proofs

open Sys2Proof.Machine Sys2Proof.Laws Sys2Proof.Spec

section Merge

variable {g : Nat} {d : Dev}

/-! ### Units in order (R428, R433, R434) -/

theorem newer_self (u : Nat) : newer u u = false := by
  have zero : subMod (2 ^ 32) u u = 0 := by
    rw [subMod, Nat.add_sub_cancel' (Nat.mod_lt u (by decide)).le, Nat.mod_self]
  rw [newer, zero]
  rfl

/-- The skew notes change nothing else of the group. -/
theorem noteSkew_group (g p : Nat) (x : UnitCopy) (d : Dev) : (mg (noteSkew g p x d) g).discard = (mg d g).discard ∧
    (mg (noteSkew g p x d) g).last = (mg d g).last ∧ (mg (noteSkew g p x d) g).cmd = (mg d g).cmd := by
  rw [noteSkew]
  dsimp only
  split
  · rw [mg_modMg, if_pos rfl]
    exact ⟨rfl, rfl, rfl⟩
  · split
    · rw [mg_modMg, if_pos rfl]
      exact ⟨rfl, rfl, rfl⟩
    · rw [mg_modMg, if_pos rfl]
      exact ⟨rfl, rfl, rfl⟩

theorem noteSkew_prov (g p : Nat) (x : UnitCopy) (d : Dev) : (noteSkew g p x d).prov = d.prov := by
  rw [noteSkew]
  dsimp only
  split
  · rfl
  · split <;> rfl

/-- What a copy of a unit is that arrives on a path (R428). -/
def arrivedCopy (d : Dev) (g path unit ns : Nat) (intact : Bool) (content : Bytes) : UnitCopy where
  num := unit
  at_ := now d * 1000000 + ns
  clean := intact && !rxFailed d (pathCont (mgRec d g) path) && !(mg d g).spoilt.testBit path
  content := content
  restart := mgZpc d g && unitRestarts content
  era := tget 0 (mg d g).era path + (mgZpc d g && unitRestarts content).toNat

/-- The group after an arrival is noted. -/
def arrivalNoted (d : Dev) (g path : Nat) (x : UnitCopy) : Dev :=
  noteSkew g path x (modMg g (fun m => { m with
    era := tset m.era path x.era, spoilt := nputBit m.spoilt path (rxFailed d (pathCont (mgRec d g) path)) }) d)

section Has

variable (hg : hasMg d g = true)
include hg

theorem unitArrival_kept {path unit ns : Nat} {intact : Bool} {content : Bytes} (hp : path < 2) (hm : mgMode (mgRec d g) = 1)
    (hs : (mg d g).st = 0) (hu : unit < 2 ^ 32)
    (hd : delivered (mg d g) (tget 0 (mg d g).era path + (mgZpc d g && unitRestarts content).toNat) unit = false) :
    unitArrival g path unit ns intact content d =
      (let x := arrivedCopy d g path unit ns intact content
       bufferBursts g 1 path x (modMg g (fun m => { m with copies := tmod [] m.copies path (· ++ [x]) }) (arrivalNoted d g path x))) := by
  rw [unitArrival]
  refine (if_neg (by rw [hg, hm]; decide)).trans ?_
  dsimp only
  rw [Nat.mod_eq_of_lt hp, Nat.mod_eq_of_lt hu, hs, hd]
  rfl

/-! ### Due delivery (R429) -/

/-- The group once a unit is due: it is the newest delivered, and older copies are dropped. -/
def unitDue (g k u : Nat) (d : Dev) : Dev :=
  modMg g (fun m => { m with
    last := some u, lastEra := k, gap := false
    copies := tmap m.copies fun _ l => l.filter fun x => decide (k < x.era) || (k == x.era && newer x.num u) }) d

/-- A copy is delivered. -/
def deliverCopy (g p : Nat) (x : UnitCopy) (d : Dev) : Dev :=
  bufferBursts g 0 p x (cctrAdd (mgCtr g p) 1 (modMg g (fun m => { m with out := some (p, x) }) d))

section Due

variable {u : Nat} {a b : UnitCopy} (hm : mgMode (mgRec d g) = 1) (hs : (mg d g).st ≠ 0)
  (hd : delivered (mg d g) (dueEra (mg d g) u) u = false) (h3 : (mg d g).set_ = 3) (hl : (mg d g).lag = 0)
  (ha : (tget [] (mg d g).copies 0).find? (fun x => x.era == dueEra (mg d g) u && x.num == u) = some a)
  (hb : (tget [] (mg d g).copies 1).find? (fun x => x.era == dueEra (mg d g) u && x.num == u) = some b)
include hm hs hd h3 hl ha hb

theorem dueDelivery_both : dueDelivery g u d =
    (let e := unitDue g (dueEra (mg d g) u) u d
     if (a.clean && b.clean) = true then if mgPref (mgRec d g) = 0 then deliverCopy g 0 a e else deliverCopy g 1 b e
     else if a.clean = true then deliverCopy g 0 a (cctrAdd (mgCtr g 2) 1 e)
     else if b.clean = true then deliverCopy g 1 b (cctrAdd (mgCtr g 2) 1 e)
     else if (mg d g).timing = 0 then deliverCopy g 0 a (cctrAdd (mgCtr g 3) 1 e) else deliverCopy g 1 b (cctrAdd (mgCtr g 3) 1 e)) := by
  rw [dueDelivery]
  refine (if_neg (by rw [hg, hm, hd, beq_eq_false_iff_ne.mpr hs]; decide)).trans ?_
  dsimp only
  rw [h3, hl, ha, hb]
  rfl

theorem dueDelivery_clean (ca : a.clean = true) (cb : b.clean = true) : dueDelivery g u d =
    if mgPref (mgRec d g) = 0 then deliverCopy g 0 a (unitDue g (dueEra (mg d g) u) u d)
    else deliverCopy g 1 b (unitDue g (dueEra (mg d g) u) u d) :=
  (dueDelivery_both hg hm hs hd h3 hl ha hb).trans (if_pos (by rw [ca, cb]; rfl))

theorem dueDelivery_first (ca : a.clean = true) (cb : b.clean = false) :
    dueDelivery g u d = deliverCopy g 0 a (cctrAdd (mgCtr g 2) 1 (unitDue g (dueEra (mg d g) u) u d)) :=
  (dueDelivery_both hg hm hs hd h3 hl ha hb).trans ((if_neg (by rw [ca, cb]; decide)).trans (if_pos ca))

theorem dueDelivery_second (ca : a.clean = false) (cb : b.clean = true) :
    dueDelivery g u d = deliverCopy g 1 b (cctrAdd (mgCtr g 2) 1 (unitDue g (dueEra (mg d g) u) u d)) :=
  (dueDelivery_both hg hm hs hd h3 hl ha hb).trans
    ((if_neg (by rw [ca, cb]; decide)).trans ((if_neg (Bool.eq_false_iff.mp ca)).trans (if_pos cb)))

theorem dueDelivery_spoilt (ca : a.clean = false) (cb : b.clean = false) : dueDelivery g u d =
    if (mg d g).timing = 0 then deliverCopy g 0 a (cctrAdd (mgCtr g 3) 1 (unitDue g (dueEra (mg d g) u) u d))
    else deliverCopy g 1 b (cctrAdd (mgCtr g 3) 1 (unitDue g (dueEra (mg d g) u) u d)) :=
  (dueDelivery_both hg hm hs hd h3 hl ha hb).trans
    ((if_neg (by rw [ca, cb]; decide)).trans ((if_neg (Bool.eq_false_iff.mp ca)).trans (if_neg (Bool.eq_false_iff.mp cb))))

end Due

omit hg in
theorem dueDelivery_again {u : Nat} (h : delivered (mg d g) (dueEra (mg d g) u) u = true) : dueDelivery g u d = d := by
  rw [dueDelivery]
  exact if_pos (by rw [h, Bool.or_true])

/-! ### Rejoin (R430) -/

theorem rejoinExpiry_dual (hs : (mg d g).st = 1) (hr : (mg d g).rejoin = true) (hq : (mg d g).qual = 3) (hl : (mg d g).lag = 0)
    (hc : (mg d g).cmd = 0) (ha : assisted d 3 g = false) (hf : following d = false) :
    rejoinExpiry g d = setMg g 2 (mg d g).timing 3 (mg d g).due false d := by
  rw [rejoinExpiry]
  exact if_pos (by rw [hg, hs, hr, hq, hl, hc, ha, hf]; rfl)

omit hg in
theorem rejoinExpiry_idle (h : (mg d g).rejoin = false) : rejoinExpiry g d = d := by
  rw [rejoinExpiry]
  exact if_neg (by simp [h])

/-! ### First arrival (R433) -/

section First

variable {path seq ns : Nat} {content : Bytes} {x : UnitCopy} (hp : path < 2) (hm : mgMode (mgRec d g) = 0) (hu : seq < 2 ^ 32)
  (ha : assisted d 3 g = false) (hc : (mg d g).cmd = 0) (hd : (mg d g).discard = none)
include hp hm hu ha hc hd

theorem firstArrival_block (hx : x = { num := seq, at_ := now d * 1000000 + ns, clean := true, content := content, restart := false }) :
    firstArrival g path seq ns false true content d =
      (let e := noteSkew g path x d
       if (!(match (mg d g).last with
         | some l => newer seq l
         | none => true)) = true then cctrAdd (mgCtr g 6) 1 e
       else cctrAdd (mgCtr g path) 1 (modMg g (fun m => { m with last := some seq, out := some (path, x) }) e)) := by
  obtain ⟨sameDiscard, sameLast, sameCmd⟩ := noteSkew_group g path x d
  have may : mayDeliver (noteSkew g path x d) g path = true := by
    have mode : assisted (noteSkew g path x d) 3 g = false := by
      rw [assisted, noteSkew_prov]
      exact ha
    rw [mayDeliver, mode, sameCmd, hc]
    rfl
  subst hx
  rw [firstArrival]
  refine (if_neg (by rw [hg, hm]; decide)).trans ?_
  dsimp only
  rw [Nat.mod_eq_of_lt hp, Nat.mod_eq_of_lt hu, sameDiscard, hd, sameLast, Bool.and_false, gate_false, may]
  rfl

theorem firstArrival_first (hx : x = { num := seq, at_ := now d * 1000000 + ns, clean := true, content := content, restart := false })
    (hl : (mg d g).last = none) : firstArrival g path seq ns false true content d =
      cctrAdd (mgCtr g path) 1 (modMg g (fun m => { m with last := some seq, out := some (path, x) }) (noteSkew g path x d)) := by
  refine (firstArrival_block hg hp hm hu ha hc hd hx).trans ?_
  rw [hl]
  exact if_neg Bool.false_ne_true

theorem firstArrival_again (hx : x = { num := seq, at_ := now d * 1000000 + ns, clean := true, content := content, restart := false })
    (hl : (mg d g).last = some seq) :
    firstArrival g path seq ns false true content d = cctrAdd (mgCtr g 6) 1 (noteSkew g path x d) := by
  refine (firstArrival_block hg hp hm hu ha hc hd hx).trans ?_
  rw [hl]
  exact if_pos (by simp only [newer_self, Bool.not_false])

end First

omit hg in
theorem firstArrival_unmarked (path seq ns : Nat) (restart : Bool) (content : Bytes) :
    firstArrival g path seq ns restart false content d = d := by
  rw [firstArrival]
  exact if_pos (by rw [Bool.not_false, Bool.or_true])

end Has

end Merge

/-- Settles O50. -/
theorem mergesDeliverEachUnitOnce : Obligations.MergesDeliverEachUnitOnce := by
  unfold Obligations.MergesDeliverEachUnitOnce
  intro s g on hb hg
  have grp : isMg g = true := decide_eq_true hb
  have path {p : Nat} (hp : p < 2) : (isMg g && decide (p < 2)) = true := by rw [grp, decide_eq_true hp]; rfl
  refine ⟨?arrival, ?due, ?again, ?rejoin, ?noRejoin, ?first, ?unmarked, ?timeout⟩
  case arrival =>
    exact fun p u ns intact content hp hm hs hu hd =>
      runDev_settles (exec_slalomUnitArrival g p u ns intact content s) on (path hp) (unitArrival_kept hg hp hm hs hu hd)
  case due =>
    rintro u k a b rfl hm hs hd h3 hl ha hb
    have due {d : Dev} (h : dueDelivery g u s.dev = d) : Settles (.slalomDueDelivery g u) s d :=
      runDev_settles (exec_slalomDueDelivery g u s) on grp h
    exact ⟨fun ca cb => due (dueDelivery_clean hg hm hs hd h3 hl ha hb ca cb), fun ca cb => due (dueDelivery_first hg hm hs hd h3 hl ha hb ca cb),
      fun ca cb => due (dueDelivery_second hg hm hs hd h3 hl ha hb ca cb), fun ca cb => due (dueDelivery_spoilt hg hm hs hd h3 hl ha hb ca cb)⟩
  case again => exact fun u h => runDev_settles (exec_slalomDueDelivery g u s) on grp (dueDelivery_again h)
  case rejoin =>
    exact fun hs hr hq hl hc ha hf => runDev_settles (exec_rejoinHoldExpiry g s) on grp (rejoinExpiry_dual hg hs hr hq hl hc ha hf)
  case noRejoin => exact fun h => runDev_settles (exec_rejoinHoldExpiry g s) on grp (rejoinExpiry_idle h)
  case first =>
    intro p q ns content hp hm hu ha hc hd
    have block {d : Dev} (h : firstArrival g p q ns false true content s.dev = d) : Settles (.firstArrivalBlock g p q ns false true content) s d :=
      runDev_settles (exec_firstArrivalBlock g p q ns false true content s) on (path hp) h
    exact ⟨fun hl => block (firstArrival_first hg hp hm hu ha hc hd rfl hl), fun hl => block (firstArrival_again hg hp hm hu ha hc hd rfl hl)⟩
  case unmarked =>
    exact fun p q ns restart content hp =>
      runDev_settles (exec_firstArrivalBlock g p q ns restart false content s) on (path hp) (firstArrival_unmarked p q ns restart content)
  case timeout => exact runDev_ends (exec_restartDiscardTimeout g s) on grp (if_pos hg)

end Sys2Proof.Proofs
end

section
/-! SUPPORT. The mate link and its heartbeats. -/

namespace Sys2Proof.Proofs

open Sys2Proof.Machine Sys2Proof.Laws Sys2Proof.Spec

/-! ### Cells (R445, R446) -/

theorem u16_be (v : Nat) (b : Bytes) : u16 (be 2 v ++ b) 0 = v % 65536 := by
  simp only [u16, u8, be, List.cons_append, List.getD_cons_zero, List.getD_cons_succ, BitVec.toNat_ofNat]
  omega

theorem u32_be (v : Nat) (b : Bytes) : u32 (be 4 v ++ b) 0 = v % 2 ^ 32 := by
  simp only [u32, u16, u8, be, List.cons_append, List.getD_cons_zero, List.getD_cons_succ, BitVec.toNat_ofNat]
  omega

theorem u32_append (a b : Bytes) : u32 (a ++ b) a.length = u32 b 0 := by
  simp only [u32, u16, u8, List.getD_append_right, Nat.le_add_right, Nat.sub_self, Nat.add_assoc, Nat.add_sub_cancel_left, le_refl]

section Cells

variable {c : Cell}

theorem cellHead_length : (cellHead c).length = 60 := by
  simp only [cellHead, zeros, List.length_append, length_be, List.length_replicate, List.length_take]
  omega

theorem cellBytes_length : (cellBytes c).length = 64 := by
  rw [cellBytes, List.length_append, cellHead_length, length_be]

theorem cellBytes_front (h : c.payload.length ≤ 52) : cellBytes c =
    [BitVec.ofNat 8 c.ty, BitVec.ofNat 8 (c.first.toNat * 128 + c.last.toNat * 64), BitVec.ofNat 8 (c.seq / 256), BitVec.ofNat 8 c.seq,
      BitVec.ofNat 8 c.payload.length, 0, 0, 0] ++ c.payload
      ++ (zeros (52 - c.payload.length) ++ be 4 (crc32 (cellHead c)).toNat) := by
  rw [cellBytes, ← List.append_assoc]
  refine congrArg (· ++ _) ?_
  rw [cellHead, List.take_of_length_le h, min_eq_right h]
  simp [be, zeros]

/-- The fields of a cell (R445). -/
theorem cellBytes_fields (h : c.payload.length ≤ 52) : u8 (cellBytes c) 0 = c.ty % 256 ∧ wbit (cellBytes c) 1 0 = c.first ∧
    wbit (cellBytes c) 1 1 = c.last ∧ u16 (cellBytes c) 2 = c.seq % 65536 ∧ u8 (cellBytes c) 4 = c.payload.length := by
  have flags : ∀ first last : Bool, ((first.toNat * 128 + last.toNat * 64) % 256).testBit 7 = first ∧
    ((first.toNat * 128 + last.toNat * 64) % 256).testBit 6 = last := by decide
  rw [cellBytes_front h]
  simp only [u8, u16, wbit, List.cons_append, List.getD_cons_zero, List.getD_cons_succ, BitVec.toNat_ofNat]
  exact ⟨trivial, (flags c.first c.last).1, (flags c.first c.last).2, by omega, Nat.mod_eq_of_lt (by omega)⟩

theorem cellBytes_payload (h : c.payload.length ≤ 52) : slice (cellBytes c) 8 c.payload.length = c.payload := by
  rw [slice_of_le (by rw [cellBytes_length]; omega), cellBytes_front h, List.append_assoc]
  exact List.take_left' rfl

theorem cellBytes_take : (cellBytes c).take 60 = cellHead c := by
  rw [cellBytes]
  exact List.take_left' cellHead_length

theorem cellBytes_crc : u32 (cellBytes c) 60 = (crc32 ((cellBytes c).take 60)).toNat := by
  have last : u32 (cellHead c ++ be 4 (crc32 (cellHead c)).toNat) (cellHead c).length = (crc32 (cellHead c)).toNat := by
    have := u32_be (crc32 (cellHead c)).toNat []
    rw [List.append_nil] at this
    rw [u32_append, this]
    exact Nat.mod_eq_of_lt (crc32 (cellHead c)).isLt
  rw [cellBytes_take, cellBytes]
  rwa [cellHead_length] at last

end Cells

/-- The cells that wait, in the priority order of R446. -/
theorem queueCell_pairwise {c : Cell} {l : List Cell} (h : l.Pairwise fun x y => cellRank x.ty ≤ cellRank y.ty) :
    (queueCell c l).Pairwise fun x y => cellRank x.ty ≤ cellRank y.ty := by
  have mem : ∀ {l : List Cell} {y : Cell}, y ∈ queueCell c l → y = c ∨ y ∈ l := by
    intro l y hy
    induction l with
    | nil => exact .inl (List.mem_singleton.mp hy)
    | cons x l ih =>
      rw [queueCell] at hy
      split at hy
      · exact List.mem_cons.mp hy
      · rcases List.mem_cons.mp hy with rfl | hy
        · exact .inr List.mem_cons_self
        · exact (ih hy).imp_right (List.mem_cons_of_mem _)
  induction l with
  | nil => exact List.pairwise_singleton _ _
  | cons x l ih =>
    obtain ⟨hx, hl⟩ := List.pairwise_cons.mp h
    rw [queueCell]
    split
    · rename_i before
      refine List.pairwise_cons.mpr ⟨fun y hy => ?_, h⟩
      rcases List.mem_cons.mp hy with rfl | hy
      · exact before.le
      · exact before.le.trans (hx y hy)
    · rename_i after
      refine List.pairwise_cons.mpr ⟨fun y hy => ?_, ih hl⟩
      rcases mem hy with rfl | hy
      · exact not_lt.mp after
      · exact hx y hy

/-! ### Pairing (R449, R452) -/

section Pair

variable {b : Bytes} {d : Dev}

/-- The device joins or leaves ALONE when an acceptable mate shows itself: the refusal is over. -/
def refusalOver (d : Dev) : Dev := setMateLive mRefused false (modMate (fun m => { m with refuse := 0 }) d)

theorem setMateLive_mate (k : Nat) (v : Bool) (d : Dev) : (setMateLive k v d).mate = d.mate := (setLive_records _ _ _ _ d).mate

theorem enterJoining_st (d : Dev) : (enterJoining d).mate.st = 2 := setMateSt_st 2 _

theorem tryPair_accepts (hr : refusal d b = none) (hs : (!(d.mate.st == 1 && !d.mate.active) && !(d.mate.st == 6 && d.mate.active)) = false) :
    tryPair b d = if d.mate.active = true then
        if (!d.mate.mateActive) = true ∧ d.mate.mateSt = 1 then enterJoining (refusalOver d) else refusalOver d
      else if d.mate.mateActive = true then enterJoining (refusalOver d) else refusalOver d := by
  rw [tryPair]
  refine (if_neg (Bool.eq_false_iff.mp hs)).trans ?_
  rw [hr]
  rfl

theorem tryPair_standby (hs : d.mate.st = 1) (ha : d.mate.active = false) (hm : d.mate.mateActive = true) (hr : refusal d b = none) :
    (tryPair b d).mate.st = 2 := by
  rw [tryPair_accepts hr (by rw [hs, ha]; rfl), if_neg (Bool.eq_false_iff.mp ha), if_pos hm, enterJoining_st]

theorem tryPair_active (hs : d.mate.st = 6) (ha : d.mate.active = true) (hm : d.mate.mateActive = false) (h1 : d.mate.mateSt = 1)
    (hr : refusal d b = none) : (tryPair b d).mate.st = 2 := by
  rw [tryPair_accepts hr (by rw [hs, ha]; rfl), if_pos ha, if_pos ⟨by rw [hm]; rfl, h1⟩, enterJoining_st]

theorem tryPair_refused {r : Nat} (hr : refusal d b = some r) :
    (tryPair b d).mate.st = d.mate.st ∧ (tryPair b d).mate.active = d.mate.active := by
  rw [tryPair]
  dsimp only
  split
  · exact ⟨rfl, rfl⟩
  · rw [hr]
    dsimp only
    split
    · exact ⟨rfl, rfl⟩
    · rw [(evtMate_records _ _ _ _).mate, setMateLive_mate]
      exact ⟨rfl, rfl⟩

theorem tryPair_other (h1 : d.mate.st ≠ 1) (h6 : d.mate.st ≠ 6) : tryPair b d = d := by
  rw [tryPair]
  exact if_pos (by rw [beq_eq_false_iff_ne.mpr h1, beq_eq_false_iff_ne.mpr h6]; rfl)

end Pair

/-! ### Heartbeats (R447 to R449) -/

section Beat

variable {d : Dev} (hr : domReady d 5 = true) (hs : d.mate.st ≠ 0)

theorem heartbeat_fields (d : Dev) :
    wbit (heartbeat d) 0 1 = d.mate.active ∧ u8 (heartbeat d) 1 = d.mate.st % 256 ∧ (heartbeat d).length = 52 := by
  have flag : ∀ b7 b6 b5 b4 b3 b2 : Bool, ((b7.toNat * 128 + b6.toNat * 64 + b5.toNat * 32 + b4.toNat * 16 + b3.toNat * 8
      + b2.toNat * 4) % 256).testBit 6 = b6 := by decide
  refine ⟨?_, ?_, ?_⟩
  · simp only [wbit, u8, heartbeat, be, List.cons_append, List.nil_append, List.getD_cons_zero, BitVec.toNat_ofNat, Nat.pow_zero, Nat.div_one]
    exact flag _ _ _ _ _ _
  · simp only [u8, heartbeat, be, List.cons_append, List.nil_append, List.getD_cons_succ, List.getD_cons_zero, BitVec.toNat_ofNat, Nat.pow_zero,
      Nat.div_one]
  · simp only [heartbeat, zeros, List.length_append, length_be, List.length_replicate]

include hr hs

theorem heartbeatTx_sends : heartbeatTx d = flushCells (sendCell 1 (heartbeat d) (modMate (fun m => { m with
    hbSeq := (m.hbSeq + 1) % 65536, hbOut := heartbeat d }) { d with time := { d.time with stamps := d.time.stamps + 2 } })) := by
  rw [heartbeatTx]
  exact if_neg (by rw [hr, beq_eq_false_iff_ne.mpr hs]; decide)

/-- What a heartbeat leads to after it is heard and the pairing is tried. -/
def afterHeartbeat (old : Nat) (d : Dev) : Dev :=
  if d.mate.active && d.mate.mateActive then if roleB d then yieldRole d else d
  else if d.mate.active && d.mate.mateFatal then setMateSt 6 d
  else if !d.mate.active && d.mate.st == 5 then enterJoining d
  else checkTakeover (followMate old d)

omit hr hs in
theorem gate_and_decide {σ : Type} {c : Bool} {P : Prop} [Decidable P] (f : σ → σ) (s : σ) :
    gate (c && decide P) f s = if c = true ∧ P then f s else s := by
  by_cases h : P <;> cases c <;> simp [h]

omit hr hs in
/-- What a valid heartbeat says is taken as the model takes it. -/
theorem heard_eq (b : Bytes) (t1 t4 : Nat) (d : Dev) : heard b t1 t4 d =
    (let gap := subMod 65536 (u16 b 2) d.mate.echo
     let t3 : Int := u48 b 4 * 1000000 + u32 b 10
     let e := gate (d.mate.hbOk && decide (1 < gap ∧ gap < 32768)) (satCtr .mateCnt 15 0 (gap - 1)) d
     setMateLive mHbLoss false (modMate (fun m => { m with
       hbOk := true, echo := u16 b 2, mateActive := wbit b 0 1, matePfw := wbit b 0 2, mateFatal := wbit b 0 3, mateSt := u8 b 1 })
       (gate (!d.mate.active) (setReg .matePhase (BitVec.ofNat 32 (satFreq (((t3 - u32 b 16 - t1) - (t4 - t3)) / 2)))) e))) := by
  have same (c : Bool) (n : Nat) : (gate c (satCtr .mateCnt 15 0 n) d).mate = d.mate :=
    gate_keeps Dev.mate (satCtr_mate .mateCnt 15 0 n) c d
  rw [heard]
  dsimp only
  rw [← gate_and_decide, same]
  cases d.mate.active <;> rfl

theorem heartbeatRx_heard {b : Bytes} {t1 t4 : Nat} (hb : b.length = 52) :
    heartbeatRx b t1 t4 d = showMate (checkPin (afterHeartbeat d.mate.mateSt (tryPair b (heard b t1 t4 d)))) := by
  rw [heartbeatRx]
  refine (if_neg (by rw [hr, beq_eq_false_iff_ne.mpr hs, hb]; decide)).trans ?_
  rw [heard_eq]
  rfl

section Heard

variable {b : Bytes} {t1 t4 : Nat} (hb : b.length = 52)
include hb

theorem heartbeatRx_yields (ha : (tryPair b (heard b t1 t4 d)).mate.active = true) (hm : (tryPair b (heard b t1 t4 d)).mate.mateActive = true)
    (hB : roleB (tryPair b (heard b t1 t4 d)) = true) :
    heartbeatRx b t1 t4 d = showMate (checkPin (yieldRole (tryPair b (heard b t1 t4 d)))) := by
  rw [heartbeatRx_heard hr hs hb, afterHeartbeat, if_pos (by rw [ha, hm]; rfl), if_pos hB]

theorem heartbeatRx_stays (ha : (tryPair b (heard b t1 t4 d)).mate.active = true) (hm : (tryPair b (heard b t1 t4 d)).mate.mateActive = true)
    (hA : roleB (tryPair b (heard b t1 t4 d)) = false) : heartbeatRx b t1 t4 d = showMate (checkPin (tryPair b (heard b t1 t4 d))) := by
  rw [heartbeatRx_heard hr hs hb, afterHeartbeat, if_pos (by rw [ha, hm]; rfl), if_neg (Bool.eq_false_iff.mp hA)]

theorem heartbeatRx_fatal (ha : (tryPair b (heard b t1 t4 d)).mate.active = true) (hm : (tryPair b (heard b t1 t4 d)).mate.mateActive = false)
    (hf : (tryPair b (heard b t1 t4 d)).mate.mateFatal = true) :
    heartbeatRx b t1 t4 d = showMate (checkPin (setMateSt 6 (tryPair b (heard b t1 t4 d)))) := by
  rw [heartbeatRx_heard hr hs hb, afterHeartbeat, if_neg (by rw [ha, hm]; decide), if_pos (by rw [ha, hf]; rfl)]

theorem heartbeatRx_partition (ha : (tryPair b (heard b t1 t4 d)).mate.active = false) (h5 : (tryPair b (heard b t1 t4 d)).mate.st = 5) :
    heartbeatRx b t1 t4 d = showMate (checkPin (enterJoining (tryPair b (heard b t1 t4 d)))) := by
  rw [heartbeatRx_heard hr hs hb, afterHeartbeat, ha, h5]
  rfl

theorem heartbeatRx_standby (ha : (tryPair b (heard b t1 t4 d)).mate.active = false) (h5 : (tryPair b (heard b t1 t4 d)).mate.st ≠ 5) :
    heartbeatRx b t1 t4 d = showMate (checkPin (checkTakeover (followMate d.mate.mateSt (tryPair b (heard b t1 t4 d))))) := by
  rw [heartbeatRx_heard hr hs hb, afterHeartbeat, ha, beq_eq_false_iff_ne.mpr h5]
  rfl

theorem heartbeatRx_active (ha : (tryPair b (heard b t1 t4 d)).mate.active = true) (hm : (tryPair b (heard b t1 t4 d)).mate.mateActive = false)
    (hf : (tryPair b (heard b t1 t4 d)).mate.mateFatal = false) :
    heartbeatRx b t1 t4 d = showMate (checkPin (checkTakeover (followMate d.mate.mateSt (tryPair b (heard b t1 t4 d))))) := by
  rw [heartbeatRx_heard hr hs hb, afterHeartbeat, ha, hm, hf]
  rfl

end Heard

/-! ### Heartbeat loss and the link (R448, R463) -/

/-- What the loss of the heartbeats leads to. -/
def afterLoss (d : Dev) : Dev :=
  if d.mate.active then setMateSt 6 d
  else if 2 ≤ d.mate.st ∧ d.mate.st ≤ 4 ∧ !d.mate.actFree then setMateSt 5 d
  else checkTakeover d

omit hr hs in
theorem unheard_eq (d : Dev) : unheard d = setMateLive mHbLoss true (modMate (fun m => { m with hbOk := false })
    (satCtr .mateCnt 15 0 (gate d.mate.hbOk (fun _ => 8) 0) d)) := by
  rw [unheard]
  cases d.mate.hbOk <;> rfl

omit hr hs in
theorem unheard_mate (d : Dev) : (unheard d).mate = { d.mate with hbOk := false } := by
  rw [unheard_eq, setMateLive_mate]
  rfl

omit hr in
theorem loseHeartbeat_eq : loseHeartbeat d = showMate (checkPin (afterLoss (unheard d))) := by
  rw [loseHeartbeat, unheard_eq]
  exact if_neg hs

section Loss

omit hr hs

theorem afterLoss_active (ha : d.mate.active = true) : afterLoss (unheard d) = setMateSt 6 (unheard d) := by
  rw [afterLoss, if_pos (by rw [unheard_mate]; exact ha)]

variable (ha : d.mate.active = false) (h4 : d.mate.st ≤ 4)
include ha h4

theorem afterLoss_partition (h2 : 2 ≤ d.mate.st) (hf : d.mate.actFree = false) : afterLoss (unheard d) = setMateSt 5 (unheard d) := by
  rw [afterLoss, if_neg (by rw [unheard_mate]; exact Bool.eq_false_iff.mp ha),
    if_pos (by rw [unheard_mate]; exact ⟨h2, h4, by rw [hf]; rfl⟩)]

theorem afterLoss_takeover (h3 : 3 ≤ d.mate.st) (hf : d.mate.actFree = true) : afterLoss (unheard d) = takeover 2 (unheard d) := by
  have may : (d.mate.active || !decide (3 ≤ d.mate.st ∧ d.mate.st ≤ 4) || !d.mate.actFree) = false := by
    rw [ha, hf, decide_eq_true (⟨h3, h4⟩ : 3 ≤ d.mate.st ∧ d.mate.st ≤ 4)]
    rfl
  rw [afterLoss, if_neg (by rw [unheard_mate]; exact Bool.eq_false_iff.mp ha),
    if_neg (by rw [unheard_mate]; simp [hf]), checkTakeover, unheard_mate]
  exact (if_neg (Bool.eq_false_iff.mp may)).trans (if_pos rfl)

end Loss

omit hs in
theorem heartbeatLoss_eq : heartbeatLoss d = loseHeartbeat d := by
  rw [heartbeatLoss, if_pos hr]

omit hr in
theorem mateLinkDown_eq : mateLinkDown d = loseHeartbeat (setMateLive mLinkUp false d) := by
  rw [mateLinkDown, if_neg hs]

/-! ### Errored cells (R446, R466) -/

theorem cellError_reliable {ty : Nat} (seq : Nat) (h : reliable ty = true) : cellError ty seq d = sendControl 3 ty seq 0 d := by
  rw [cellError]
  exact if_pos (by rw [hr, h, bne_iff_ne.mpr hs]; rfl)

omit hr hs in
theorem cellError_unreliable {ty : Nat} (seq : Nat) (h : reliable ty = false) : cellError ty seq d = d := by
  rw [cellError]
  exact if_neg (by rw [h, Bool.and_false, Bool.false_and]; exact Bool.false_ne_true)

omit hr hs in
theorem nakRx_unreliable {ty : Nat} (seq : Nat) (h : reliable ty = false) : nakRx ty seq d = d := by
  rw [nakRx]
  exact if_pos (by rw [h, Bool.not_false, Bool.or_true])

theorem nakRx_found {ty seq k : Nat} (h : reliable ty = true) (hk : (tget [] d.mate.kept ty).findIdx? (fun c => c.seq == seq) = some k) :
    nakRx ty seq d = satCtr .mateReplay 31 0 (k + 1) (resend ((tget [] d.mate.kept ty).take (k + 1)).reverse d) := by
  rw [nakRx]
  refine (if_neg (by rw [hr, h, beq_eq_false_iff_ne.mpr hs]; decide)).trans ?_
  dsimp only
  rw [hk]

theorem nakRx_broken {ty seq : Nat} (h : reliable ty = true) (hk : (tget [] d.mate.kept ty).findIdx? (fun c => c.seq == seq) = none)
    (hf : following d = true) : nakRx ty seq d = enterJoining (evtMate 0x030A 0 (be 1 ty) d) := by
  have still : following (evtMate 0x030A 0 (be 1 ty) d) = true := by
    rw [following, (evtMate_records _ _ _ _).mate]
    exact hf
  rw [nakRx]
  refine (if_neg (by rw [hr, h, beq_eq_false_iff_ne.mpr hs]; decide)).trans ?_
  dsimp only
  rw [hk]
  exact if_pos still

end Beat

/-- Settles O51. -/
theorem heartbeatsPairTheMates : Obligations.HeartbeatsPairTheMates := by
  unfold Obligations.HeartbeatsPairTheMates
  refine ⟨?cell, fun c l => queueCell_pairwise, fun b d hs ha hm hr => tryPair_standby hs ha hm hr,
    fun b d hs ha hm h1 hr => tryPair_active hs ha hm h1 hr, fun b d r hr => tryPair_refused hr, fun b d => tryPair_other, ?step⟩
  case cell =>
    intro c h
    obtain ⟨ty, first, last, seq, len⟩ := cellBytes_fields h
    exact ⟨cellBytes_length, ty, first, last, seq, len, cellBytes_payload h, cellBytes_crc⟩
  case step =>
    intro s on hr hs
    obtain ⟨role, st, len⟩ := heartbeat_fields s.dev
    have link : (setMateLive mLinkUp false s.dev).mate = s.dev.mate := setMateLive_mate _ _ _
    have hsl : (setMateLive mLinkUp false s.dev).mate.st ≠ 0 := by rwa [link]
    have loss {d : Dev} (h : afterLoss (unheard s.dev) = d) : Settles .heartbeatLoss s (showMate (checkPin d)) :=
      runDev_settles (exec_heartbeatLoss s) on rfl (by rw [heartbeatLoss_eq hr, loseHeartbeat_eq hs, h])
    have down {d : Dev} (h : afterLoss (unheard (setMateLive mLinkUp false s.dev)) = d) :
        Settles .mateLinkDown s (showMate (checkPin d)) :=
      runDev_settles (exec_mateLinkDown s) on rfl (by rw [mateLinkDown_eq hs, loseHeartbeat_eq hsl, h])
    have cell {ty seq : Nat} (ht : ty < 256) (hq : seq < 65536) : (isByte ty && isHalf seq) = true := by
      rw [isByte, isHalf, decide_eq_true ht, decide_eq_true hq]
      rfl
    refine ⟨runDev_ends (exec_heartbeatTx s) on rfl (heartbeatTx_sends hr hs), role, st, len, ?heard, fun ha => loss (afterLoss_active ha),
      fun ha h2 h4 hf => loss (afterLoss_partition ha h4 h2 hf), fun ha h3 h4 hf => loss (afterLoss_takeover ha h4 h3 hf),
      runDev_ends (exec_mateLinkUp s) on rfl (if_pos ⟨hr, hs⟩), fun ha => down (afterLoss_active (by rwa [link])),
      fun ha h3 h4 hf => down (afterLoss_takeover (by rwa [link]) (by rwa [link]) (by rwa [link]) (by rwa [link])),
      ?error, ?unreliable, ?replay, ?broken⟩
    case heard =>
      intro b t1 t4 hb
      have beat {d : Dev} (h : heartbeatRx b t1 t4 s.dev = d) : Settles (.heartbeatRx b t1 t4) s d :=
        runDev_settles (exec_heartbeatRx b t1 t4 s) on (beq_iff_eq.mpr hb) h
      exact ⟨fun ha hm hB => beat (heartbeatRx_yields hr hs hb ha hm hB), fun ha hm hA => beat (heartbeatRx_stays hr hs hb ha hm hA),
        fun ha hm hf => beat (heartbeatRx_fatal hr hs hb ha hm hf), fun ha h5 => beat (heartbeatRx_partition hr hs hb ha h5),
        fun ha h5 => beat (heartbeatRx_standby hr hs hb ha h5), fun ha hm hf => beat (heartbeatRx_active hr hs hb ha hm hf)⟩
    case error =>
      exact fun ty seq ht hq h => runDev_ends (exec_mateCellError ty seq s) on (cell ht hq) (cellError_reliable hr hs seq h)
    case unreliable =>
      exact fun ty seq ht hq h => ⟨runDev_ends (exec_mateCellError ty seq s) on (cell ht hq) (cellError_unreliable seq h),
        runDev_settles (exec_mateNakRx ty seq s) on (cell ht hq) (nakRx_unreliable seq h)⟩
    case replay =>
      exact fun ty seq k ht hq h hk => runDev_settles (exec_mateNakRx ty seq s) on (cell ht hq) (nakRx_found hr hs h hk)
    case broken =>
      exact fun ty seq ht hq h hk hf => runDev_settles (exec_mateNakRx ty seq s) on (cell ht hq) (nakRx_broken hr hs h hk hf)

end Sys2Proof.Proofs
end

section
/-! SUPPORT. The active role. -/

namespace Sys2Proof.Proofs

open Sys2Proof.Machine Sys2Proof.Laws Sys2Proof.Spec

variable {d : Dev}

/-! ### Switch-over (R462) -/

theorem handoverRx_takes (hr : domReady d 5 = true) (hs : d.mate.st = 4) (ha : d.mate.active = false) :
    handoverRx d = sendControl 2 0 0 0 (takeRole 1 d) := by
  rw [handoverRx]
  exact if_pos (by rw [hr, inStep, hs, ha]; rfl)

theorem handoverRx_ignored (h : d.mate.st ≠ 4 ∨ d.mate.active = true) : handoverRx d = d := by
  rw [handoverRx]
  exact if_neg (by rcases h with h | h <;> simp [inStep, h])

theorem handoverAckRx_yields {cause k : Nat} (hr : domReady d 5 = true) (hh : d.mate.handover = some (cause, k)) (ha : d.mate.active = true) :
    handoverAckRx d = setRole false cause d := by
  rw [handoverAckRx, hh]
  exact if_pos (by rw [hr, ha]; rfl)

theorem handoverAckRx_none (hh : d.mate.handover = none) : handoverAckRx d = d := by rw [handoverAckRx, hh]

theorem handoverReqRx_starts (hr : domReady d 5 = true) (hs : d.mate.st = 4) (ha : d.mate.active = true) (hh : d.mate.handover = none) :
    handoverReqRx d = sendControl 1 0 0 0 (modMate (fun m => { m with handover := some (1, 1) }) d) := by
  rw [handoverReqRx, if_pos hr, startSwitch]
  exact if_neg (by rw [inStep, hs, ha, hh]; decide)

theorem handoverTimeout_none (hh : d.mate.handover = none) : handoverTimeout d = d := by rw [handoverTimeout, hh]

theorem handoverTimeout_first {cause : Nat} (hh : d.mate.handover = some (cause, 1)) :
    handoverTimeout d = sendControl 1 0 0 0 (modMate (fun m => { m with handover := some (cause, 2) }) d) := by
  rw [handoverTimeout, hh]
  rfl

theorem handoverTimeout_second {cause : Nat} (hh : d.mate.handover = some (cause, 2)) :
    handoverTimeout d = evtMate 0x0306 0 [] (modMate (fun m => { m with handover := none }) d) := by
  rw [handoverTimeout, hh]
  rfl

/-- No reset waits for the switch-over. -/
theorem afterHandover_none {s : Sys} (h : s.dev.mate.thenReset = none) : afterHandover s = s := by rw [afterHandover, h]

theorem setRole_thenReset (v : Bool) (cause : Nat) (d : Dev) : (setRole v cause d).mate.thenReset = d.mate.thenReset := by
  rw [setRole]
  split
  · rfl
  · rw [showMate_mate, (evtMate_records _ _ _ _).mate]
    rfl

theorem evtMate_thenReset (ty obj : Nat) (detail : Bytes) (d : Dev) : (evtMate ty obj detail d).mate.thenReset = d.mate.thenReset := by
  rw [(evtMate_records _ _ _ _).mate]

/-- A command of the switch-over after which no reset waits. -/
theorem handover_runs {c : Instr} {s : State} {f : Dev → Dev} {d : Dev}
    (h : Machine.exec c s = runSys true (fun s => onDev refresh (afterHandover (onDev f s))) s) (on : On s) (hd : f s.dev = d)
    (ht : d.mate.thenReset = none) : SettlesSys c s { dev := d, mem := s.mem } :=
  runSys_settles h on (by subst hd; exact afterHandover_none ht)

theorem handover_settles {c : Instr} {s : State} {f : Dev → Dev} {d : Dev}
    (h : Machine.exec c s = runSys true (fun s => onDev refresh (afterHandover (onDev f s))) s) (on : On s) (hd : f s.dev = d)
    (ht : d.mate.thenReset = none) : Settles c s d :=
  runSys_settlesDev h on (by subst hd; exact afterHandover_none ht)

/-! ### ACT_N (R450, R451) -/

theorem checkTakeover_silent (ha : d.mate.active = false) (h3 : 3 ≤ d.mate.st) (h4 : d.mate.st ≤ 4) (hf : d.mate.actFree = true)
    (hb : d.mate.hbOk = false) : checkTakeover d = takeover 2 d := by
  have may : (d.mate.active || !decide (3 ≤ d.mate.st ∧ d.mate.st ≤ 4) || !d.mate.actFree) = false := by simp [ha, hf, h3, h4]
  rw [checkTakeover]
  exact (if_neg (Bool.eq_false_iff.mp may)).trans (if_pos (by rw [hb]; rfl))

theorem checkTakeover_standby (ha : d.mate.active = false) (h3 : 3 ≤ d.mate.st) (h4 : d.mate.st ≤ 4) (hf : d.mate.actFree = true)
    (hb : d.mate.hbOk = true) (hm : d.mate.mateActive = false) : checkTakeover d = takeover 3 d := by
  have may : (d.mate.active || !decide (3 ≤ d.mate.st ∧ d.mate.st ≤ 4) || !d.mate.actFree) = false := by simp [ha, hf, h3, h4]
  rw [checkTakeover]
  exact (if_neg (Bool.eq_false_iff.mp may)).trans ((if_neg (by rw [hb]; decide)).trans (if_pos (by rw [hm]; rfl)))

theorem checkTakeover_sound (hb : d.mate.hbOk = true) (hm : d.mate.mateActive = true) (hf : d.mate.mateFatal = false) : checkTakeover d = d := by
  rw [checkTakeover, hb, hm, hf]
  exact (if_congr Iff.rfl rfl rfl).trans (ite_self d)

theorem checkTakeover_out (h : 4 < d.mate.st) : checkTakeover d = d := by
  rw [checkTakeover]
  exact if_pos (by simp [show ¬ d.mate.st ≤ 4 by omega])

theorem checkPin_raises (ha : d.mate.active = false) (hf : d.mate.actFree = true) (hb : d.mate.hbOk = true) (hm : d.mate.mateActive = true)
    (hp : mateLive d mPinFault = false) : checkPin d = evtMate 0x0309 0 [] (setMateLive mPinFault true d) := by
  rw [checkPin, ha, hf, hb, hm, hp]
  rfl

/-- The device with the state of ACT_N noted. -/
def pinNoted (v : Bool) (d : Dev) : Dev := modMate (fun m => { m with actFree := v }) d

theorem actReleased_active (v : Bool) (ha : d.mate.active = true) : actReleased v d = d := by
  rw [actReleased]
  exact if_pos (.inr ha)

section Standby

variable (hs : d.mate.st ≠ 0) (ha : d.mate.active = false)
include hs ha

theorem actReleased_free : actReleased true d = showMate (checkPin (checkTakeover (pinNoted true d))) := by
  rw [actReleased]
  exact if_neg (by simp [hs, ha])

theorem actReleased_fault (hb : d.mate.hbOk = true) (hm : d.mate.mateActive = true) (hf : d.mate.mateFatal = false)
    (hp : mateLive d mPinFault = false) :
    actReleased true d = showMate (evtMate 0x0309 0 [] (setMateLive mPinFault true (pinNoted true d))) := by
  rw [actReleased_free hs ha, checkTakeover_sound (d := pinNoted true d) hb hm hf, checkPin_raises (d := pinNoted true d) ha rfl hb hm hp]

theorem actReleased_silent (hb : d.mate.hbOk = false) (h3 : 3 ≤ d.mate.st) (h4 : d.mate.st ≤ 4) :
    actReleased true d = showMate (checkPin (takeover 2 (pinNoted true d))) := by
  rw [actReleased_free hs ha, checkTakeover_silent (d := pinNoted true d) ha h3 h4 rfl hb]

theorem actReleased_standby (hb : d.mate.hbOk = true) (hm : d.mate.mateActive = false) (h3 : 3 ≤ d.mate.st) (h4 : d.mate.st ≤ 4) :
    actReleased true d = showMate (checkPin (takeover 3 (pinNoted true d))) := by
  rw [actReleased_free hs ha, checkTakeover_standby (d := pinNoted true d) ha h3 h4 rfl hb hm]

theorem actReleased_partition (hb : d.mate.hbOk = false) (h2 : 2 ≤ d.mate.st) (h4 : d.mate.st ≤ 4) :
    actReleased false d = showMate (checkPin (setMateSt 5 (pinNoted false d))) := by
  have five : (setMateSt 5 (pinNoted false d)).mate.st = 5 := setMateSt_st 5 _
  have split : (!false && !(pinNoted false d).mate.hbOk &&
      decide (2 ≤ (pinNoted false d).mate.st ∧ (pinNoted false d).mate.st ≤ 4)) = true := by
    simp [pinNoted, hb, h2, h4]
  rw [actReleased]
  refine (if_neg (by simp [hs, ha])).trans ?_
  show showMate (checkPin (checkTakeover (gate (!false && !(pinNoted false d).mate.hbOk &&
    decide (2 ≤ (pinNoted false d).mate.st ∧ (pinNoted false d).mate.st ≤ 4)) (setMateSt 5) (pinNoted false d)))) = _
  rw [split, gate_true, checkTakeover_out (by rw [five]; decide)]

end Standby

theorem actProbe_yields (hs : d.mate.st ≠ 0) (ha : d.mate.active = true) (hB : roleB d = true) (hl : mateLive d mLinkUp = false) :
    actProbe true d = yieldRole d := by
  rw [actProbe]
  exact if_pos ⟨hs, ha, hB, by rw [hl]; rfl, rfl⟩

theorem actProbe_keeps (h : d.mate.active = false ∨ roleB d = false ∨ mateLive d mLinkUp = true) : actProbe true d = d := by
  rw [actProbe]
  exact if_neg (by rcases h with h | h | h <;> simp [h])

theorem actProbe_high (d : Dev) : actProbe false d = d := by
  rw [actProbe]
  exact if_neg (by simp)

/-! ### The claim timer (R466) -/

section Claim

variable (ha : d.mate.active = false) (hs : d.mate.st = 1 ∨ d.mate.st = 2) (hb : rf d .glbBootStat 3 0 = 7)
include ha hs hb

theorem claimExpiry_alone (hf : d.mate.actFree = true) (hm : d.mate.hbOk = false ∨ d.mate.mateActive = false) :
    claimExpiry d = setMateSt 6 (takeRole 4 d) := by
  rw [claimExpiry]
  exact if_neg (by rcases hs with h | h <;> rcases hm with k | k <;> simp [ha, hb, hf, h, k])

theorem claimExpiry_both (hh : d.mate.hbOk = true) (hm : d.mate.mateActive = false) (hl : mateLive d mLinkUp = true) (hA : roleB d = false) :
    claimExpiry d = setMateSt 6 (takeRole 4 d) := by
  rw [claimExpiry]
  exact if_neg (by rcases hs with h | h <;> simp [ha, hb, hh, hm, hl, hA, h])

end Claim

theorem claimExpiry_keeps (h : d.mate.active = true ∨ rf d .glbBootStat 3 0 ≠ 7) : claimExpiry d = d := by
  rw [claimExpiry]
  exact if_pos (by rcases h with h | h <;> simp [h])

/-! ### The phase alarm (R473) -/

theorem phaseAlarm_active (v : Bool) (ha : d.mate.active = true) : phaseAlarm v d = d := by
  rw [phaseAlarm]
  exact if_pos (by rw [ha, Bool.true_or, Bool.true_or, Bool.true_or])

theorem phaseAlarm_changes {v : Bool} (ha : d.mate.active = false) (hl : mateLive d mPhase = !v)
    (ho : decide (100 < (s32 (reg d .matePhase).toNat).natAbs) = v) : phaseAlarm v d =
      gate (v && d.mate.st == 4) (setMateSt 3) (evtMate 0x0307 0 [] (setMateLive mPhase v d)) := by
  have same : (evtMate 0x0307 0 [] (setMateLive mPhase v d)).mate = d.mate := by rw [(evtMate_records _ _ _ _).mate, setMateLive_mate]
  rw [phaseAlarm]
  refine (if_neg ?_).trans ?_
  · subst ho
    rw [ha, hl]
    by_cases h : 100 < (s32 (reg d .matePhase).toNat).natAbs
    · simp [h]
    · simp [h]
  · dsimp only
    rw [same]

theorem phaseAlarm_raises (ha : d.mate.active = false) (hl : mateLive d mPhase = false) (ho : 100 < (s32 (reg d .matePhase).toNat).natAbs) :
    phaseAlarm true d = if d.mate.st = 4 then setMateSt 3 (evtMate 0x0307 0 [] (setMateLive mPhase true d))
      else evtMate 0x0307 0 [] (setMateLive mPhase true d) := by
  rw [phaseAlarm_changes (v := true) ha hl (decide_eq_true ho), Bool.true_and]
  by_cases h : d.mate.st = 4
  · rw [if_pos h, beq_iff_eq.mpr h, gate_true]
  · rw [if_neg h, beq_eq_false_iff_ne.mpr h, gate_false]

theorem phaseAlarm_clears (ha : d.mate.active = false) (hl : mateLive d mPhase = true) (ho : (s32 (reg d .matePhase).toNat).natAbs ≤ 100) :
    phaseAlarm false d = evtMate 0x0307 0 [] (setMateLive mPhase false d) := by
  rw [phaseAlarm_changes (v := false) ha hl (decide_eq_false (not_lt.mpr ho)), Bool.false_and, gate_false]

/-- Settles O52. -/
theorem theActiveRoleIsHandedOver : Obligations.TheActiveRoleIsHandedOver := by
  unfold Obligations.TheActiveRoleIsHandedOver
  intro s on hr hs
  have released {v : Bool} {d : Dev} (h : actReleased v s.dev = d) : Settles (.actNReleased v) s d :=
    runDev_settles (exec_actNReleased v s) on rfl h
  have probe {v : Bool} {d : Dev} (h : actProbe v s.dev = d) : Settles (.actNProbe v) s d := runDev_settles (exec_actNProbe v s) on rfl h
  have claim {d : Dev} (h : claimExpiry s.dev = d) : Settles .claimTimerExpiry s d := runDev_settles (exec_claimTimerExpiry s) on rfl h
  have raise {d : Dev} (h : phaseAlarm true s.dev = d) : Settles .phaseAlarmRaise s d := runDev_settles (exec_phaseAlarmRaise s) on rfl h
  have clear {d : Dev} (h : phaseAlarm false s.dev = d) : Settles .phaseAlarmClear s d := runDev_settles (exec_phaseAlarmClear s) on rfl h
  refine ⟨fun h4 ha => runDev_settles (exec_handoverRx s) on rfl (handoverRx_takes hr h4 ha),
    fun h => runDev_settles (exec_handoverRx s) on rfl (handoverRx_ignored h), ?acked, ?idle,
    fun h4 ha hh => runDev_ends (exec_handoverReqRx s) on rfl (handoverReqRx_starts hr h4 ha hh), ?again, ?kept,
    fun v ha => released (actReleased_active v ha), fun ha hb hm hf hp => released (actReleased_fault hs ha hb hm hf hp),
    fun ha hb h3 h4 => released (actReleased_silent hs ha hb h3 h4), fun ha hb hm h3 h4 => released (actReleased_standby hs ha hb hm h3 h4),
    fun ha hb h2 h4 => released (actReleased_partition hs ha hb h2 h4), fun ha hB hl => probe (actProbe_yields hs ha hB hl),
    fun h => probe (actProbe_keeps h), probe (actProbe_high s.dev), fun ha h12 hb hf hm => claim (claimExpiry_alone ha h12 hb hf hm),
    fun ha h12 hb hh hm hl hA => claim (claimExpiry_both ha h12 hb hh hm hl hA), fun h => claim (claimExpiry_keeps h), ?raised,
    fun ha hl ho => clear (phaseAlarm_clears ha hl ho), fun ha => ⟨raise (phaseAlarm_active true ha), clear (phaseAlarm_active false ha)⟩⟩
  case acked =>
    exact fun cause k hh ha ht => handover_runs (exec_handoverAckRx s) on (handoverAckRx_yields hr hh ha)
      ((setRole_thenReset false cause s.dev).trans ht)
  case idle =>
    exact fun hh ht => ⟨handover_settles (exec_handoverAckRx s) on (handoverAckRx_none hh) ht,
      handover_settles (exec_handoverAckTimeout s) on (handoverTimeout_none hh) ht⟩
  case again => exact fun cause hh ht => handover_settles (exec_handoverAckTimeout s) on (handoverTimeout_first hh) ht
  case kept =>
    exact fun cause hh ht => handover_settles (exec_handoverAckTimeout s) on (handoverTimeout_second hh) ((evtMate_thenReset _ _ _ _).trans ht)
  case raised =>
    exact fun ha hl ho => ⟨fun h4 => raise ((phaseAlarm_raises ha hl ho).trans (if_pos h4)),
      fun h4 => raise ((phaseAlarm_raises ha hl ho).trans (if_neg h4))⟩

end Sys2Proof.Proofs
end

section
/-! SUPPORT. The standby: decision records, mirrored commands and the join. -/

namespace Sys2Proof.Proofs

open Sys2Proof.Machine Sys2Proof.Laws Sys2Proof.Spec

variable {d : Dev}

/-! ### Decision records (R455, R460) -/

section Decision

variable {kind : Nat} {r : Bytes}

theorem decisionRx_ignored (h : following d = false ∨ u8 r 0 ≠ kind) : decisionRx kind r d = d := by
  rw [decisionRx]
  exact if_pos (by rcases h with h | h <;> simp [h])

variable (hr : domReady d 5 = true) (hf : following d = true) (hk : u8 r 0 = kind)
include hr hf hk

theorem decisionRx_held (h : d.mate.st = 2 ∨ d.mate.joinAt ≠ none) :
    decisionRx kind r d = modMate (fun m => { m with held := m.held ++ [r] }) d := by
  rw [decisionRx]
  exact (if_neg (by simp [hr, hf, hk])).trans (if_pos (h.imp_right Option.isSome_iff_ne_none.mpr))

theorem decisionRx_applied (h2 : d.mate.st ≠ 2) (hj : d.mate.joinAt = none) : decisionRx kind r d = applyRecord r d := by
  rw [decisionRx]
  exact (if_neg (by simp [hr, hf, hk])).trans (if_neg (by simp [h2, hj]))

end Decision

/-! ### Mirrored commands (R453) -/

theorem commandRx_ignored {msg : Bytes} (h : following d = false ∨ msg.length < 264) : commandRx msg d = d := by
  rw [commandRx]
  exact if_pos (by rcases h with h | h <;> simp [h])

theorem commandRx_mirrored {msg : Bytes} (hr : domReady d 5 = true) (hf : following d = true) (hl : 264 ≤ msg.length) :
    commandRx msg d = { d with mbx := { d.mbx with mir := d.mbx.mir ++ [{
      opcode := u16 (msg.drop 8) 0
      req := { ch := u8 msg 6, tag := BitVec.ofNat 16 (u16 (msg.drop 8) 2), chField := u8 (msg.drop 8) 10
               payload := slice (msg.drop 8) 16 (min 240 (u16 (msg.drop 8) 4)), ns := 0 }
      x := u48 msg 0, own := false, ahead := decide (now d < u48 msg 0) }] } } := by
  rw [commandRx]
  exact if_neg (by simp [hr, hf, not_lt.mpr hl])

section Result

variable {cell : Bytes} (hr : domReady d 5 = true) (ha : d.mate.active = true) (h2 : 2 ≤ d.mate.st) (h4 : d.mate.st ≤ 4)
include hr ha h2 h4

theorem resultRx_paired : resultRx cell d =
    match d.mate.statuses.find? (sameResult (u48 cell 0, u8 cell 6, u16 cell 8, u16 cell 12)) with
    | some e => meetStatus e (u48 cell 0, u8 cell 6, u16 cell 8, u16 cell 12) (modMate (fun m => { m with statuses := m.statuses.erase e }) d)
    | none => modMate (fun m => { m with results := m.results ++ [(u48 cell 0, u8 cell 6, u16 cell 8, u16 cell 12)] }) d := by
  rw [resultRx]
  exact if_neg (by simp [hr, ha, h2, h4])

theorem resultRx_meets {e : Nat × Nat × Nat × Nat}
    (he : d.mate.statuses.find? (sameResult (u48 cell 0, u8 cell 6, u16 cell 8, u16 cell 12)) = some e) : resultRx cell d =
      if e.2.2.2 = u16 cell 12 then modMate (fun m => { m with statuses := m.statuses.erase e }) d
      else enterJoining (modMate (fun m => { m with statuses := m.statuses.erase e }) d) := by
  rw [resultRx_paired hr ha h2 h4, he]
  rfl

theorem resultRx_first (he : d.mate.statuses.find? (sameResult (u48 cell 0, u8 cell 6, u16 cell 8, u16 cell 12)) = none) :
    resultRx cell d = modMate (fun m => { m with results := m.results ++ [(u48 cell 0, u8 cell 6, u16 cell 8, u16 cell 12)] }) d := by
  rw [resultRx_paired hr ha h2 h4, he]

end Result

/-! ### The join (R458 to R460) -/

section Join

variable {epoch : Nat} {mfas : List Nat} (hr : domReady d 5 = true) (hs : d.mate.st = 2)
include hr hs

theorem joinBoundary_active (hj : d.mate.joinS = false) (ha : d.mate.active = true) :
    joinBoundary epoch mfas d = modMate (fun m => { m with joinS := true }) d := by
  rw [joinBoundary]
  exact (if_neg (by rw [hr, hs, hj]; decide)).trans (if_pos ha)

theorem joinBoundary_standby (hj : d.mate.joinS = false) (ha : d.mate.active = false) :
    joinBoundary epoch mfas d = showMate { modMate (fun m => { m with joinS := true }) d with
      time := { d.time with epoch := BitVec.ofNat 48 epoch }
      line := tmap d.line fun p l => { l with txMfas := mfas.getD p l.txMfas } } := by
  rw [joinBoundary]
  exact (if_neg (by rw [hr, hs, hj]; decide)).trans (if_neg (Bool.eq_false_iff.mp ha))

theorem joinAtRx_learns (j : Nat) (ha : d.mate.active = true) :
    joinAtRx j d = setMateSt 3 (modMate (fun m => { m with joinAt := some j }) d) := by
  rw [joinAtRx]
  exact if_pos (by rw [hr, ha, hs]; rfl)

end Join

section EpochJ

variable {j : Nat} (hj : d.mate.joinAt = some j) (hn : j ≤ now d) (hs : d.mate.st = 3)

theorem restartIndices_mate (d : Dev) : (restartIndices d).mate = d.mate := by
  rw [restartIndices]
  exact each_keeps Dev.mate (fun n d => modPsl_mate n _ d) _ d

/-- The device once the frame indices begin anew at J. -/
def joinedAt (j : Nat) (d : Dev) : Dev := modMate (fun m => { m with joinAt := none, joinEpoch := j, equal := 0, bad := [] }) (restartIndices d)

theorem joinedAt_active (j : Nat) (d : Dev) : (joinedAt j d).mate.active = d.mate.active := by
  rw [joinedAt, modMate_mate, restartIndices_mate]

include hj hn hs

theorem joinEpoch_reached : joinEpoch d = if d.mate.active = true then joinedAt j d else applyHeld (joinedAt j d) := by
  rw [joinEpoch, hj, ← joinedAt_active j d]
  exact if_neg (by omega)

theorem joinJ_active {s : Sys} (hd : s.dev = d) (ha : d.mate.active = true) : joinJ s = { dev := joinedAt j d, mem := s.mem } := by
  subst hd
  have due : ¬ (decide (now s.dev < j) || s.dev.mate.st != 3) = true := by simp [hs, not_lt.mpr hn]
  rw [joinJ, hj]
  refine (if_neg due).trans ?_
  dsimp only
  rw [if_pos ha, onDev, joinEpoch_reached hj hn hs, if_pos ha]

theorem joinJ_standby {s : Sys} (hd : s.dev = d) (ha : d.mate.active = false)
    (hm : d.mbx.mir.filter (fun i => !i.own && decide (i.x ≤ now d)) = []) : joinJ s = { dev := applyHeld (joinedAt j d), mem := s.mem } := by
  subst hd
  have due : ¬ (decide (now s.dev < j) || s.dev.mate.st != 3) = true := by simp [hs, not_lt.mpr hn]
  rw [joinJ, hj]
  refine (if_neg due).trans ?_
  dsimp only
  rw [if_neg (Bool.eq_false_iff.mp ha), hm, List.foldl_nil, onDev, joinEpoch_reached hj hn hs, if_neg (Bool.eq_false_iff.mp ha)]

end EpochJ

theorem joinJ_none {s : Sys} (hj : s.dev.mate.joinAt = none) : joinJ s = s := by rw [joinJ, hj]

/-! ### The image (R460) -/

/-- The tables and the groups of two devices agree. -/
structure SameService (d e : Dev) : Prop where
  prov : e.prov = d.prov
  prot : e.prot = d.prot
  merge : e.merge = d.merge

theorem SameService.refl (d : Dev) : SameService d d := ⟨rfl, rfl, rfl⟩

theorem SameService.trans {a b c : Dev} (h : SameService a b) (k : SameService b c) : SameService a c :=
  ⟨k.prov.trans h.prov, k.prot.trans h.prot, k.merge.trans h.merge⟩

theorem SameService.of_records {d e : Dev} (h : Records d e) : SameService d e := ⟨h.prov, h.prot, h.merge⟩

theorem SameService.gate {f : Dev → Dev} (h : ∀ d, SameService d (f d)) (c : Bool) (d : Dev) : SameService d (gate c f d) := by
  cases c
  · exact .refl d
  · exact h d

theorem SameService.each {f : Nat → Dev → Dev} (h : ∀ k d, SameService d (f k d)) (l : List Nat) (d : Dev) : SameService d (each l f d) :=
  ⟨each_keeps Dev.prov (fun k d => (h k d).prov) l d, each_keeps Dev.prot (fun k d => (h k d).prot) l d,
    each_keeps Dev.merge (fun k d => (h k d).merge) l d⟩

theorem modDp_service (i : Nat) (f : Dpll → Dpll) (d : Dev) : SameService d (modDp i f d) := ⟨rfl, rfl, rfl⟩

theorem showDpll_records (i : Nat) (d : Dev) : Records d (showDpll i d) := by
  rw [showDpll]
  exact records_trans (records_trans (records_trans (records_trans (setRf_records _ _ _ _ d) (setRf_records _ _ _ _ _))
    (setRf_records _ _ _ _ _)) (setRf_records _ _ _ _ _)) (setRf_records _ _ _ _ _)

theorem showRef_records (r : Nat) (d : Dev) : Records d (showRef r d) := by
  rw [showRef]
  exact records_trans (records_trans (setRf_records _ _ _ _ d) (setRf_records _ _ _ _ _)) (setRf_records _ _ _ _ _)

theorem steer_service (d : Dev) : SameService d (showDpll 0 (modDp 0 (fun x => { x with mateSteer := following d }) d)) :=
  .trans (modDp_service 0 _ d) (.of_records (showDpll_records 0 _))

theorem showMate_service (d : Dev) : SameService d (showMate d) :=
  ⟨gate_keeps Dev.prov (fun d => (steer_service d).prov) _ _, gate_keeps Dev.prot (fun d => (steer_service d).prot) _ _,
    gate_keeps Dev.merge (fun d => (steer_service d).merge) _ _⟩

theorem modMate_service (f : MateSt → MateSt) (d : Dev) : SameService d (modMate f d) := ⟨rfl, rfl, rfl⟩

theorem setPktStep_service (c : Nat) (v : Bool) (d : Dev) : SameService d (setPktStep c v d) := by
  rw [setPktStep]
  split
  · exact .refl d
  · exact .of_records (records_trans (setRb_records _ _ _ _) (evtMate_records _ _ _ _))

theorem setMateSt_service (v : Nat) (d : Dev) : SameService d (setMateSt v d) := by
  rw [setMateSt]
  dsimp only
  split
  · exact .refl d
  · refine .trans ?_ (showMate_service _)
    refine .trans ?_ (.gate (fun d => .each (fun c d => setPktStep_service c false d) _ d) _ _)
    refine .trans ?_ (.gate (fun d => .of_records (records_trans (setLive_records _ _ _ _ d) (evtMate_records _ _ _ _))) _ _)
    exact .trans (modMate_service _ d) (.of_records (evtMate_records _ _ _ _))

theorem setMateSt_join (v : Nat) (d : Dev) : (setMateSt v d).mate.mfn = d.mate.mfn ∧ (setMateSt v d).mate.joinAt = d.mate.joinAt := by
  rw [setMateSt]
  dsimp only
  split
  · exact ⟨rfl, rfl⟩
  · rw [showMate_mate,
      gate_keeps (f := fun d => each (packetConts d) (fun c => setPktStep c false) d) Dev.mate
        (fun d => each_keeps Dev.mate (fun k d => setPktStep_mate k false d) _ d),
      gate_keeps (f := fun d => evtMate 0x0304 0 [] (setMateLive mPartition (v == 5) d)) Dev.mate
        (fun d => (evtMate_records _ _ _ _).mate.trans (setMateLive_mate _ _ _)), (evtMate_records _ _ _ _).mate]
    exact ⟨rfl, rfl⟩

theorem showTiming_service (d : Dev) : SameService d (showTiming d) :=
  .trans (.each (fun i d => .of_records (showDpll_records i d)) (List.range 4) d)
    (.each (fun r d => .of_records (showRef_records r d)) (List.range 24) _)

theorem showTiming_mate (d : Dev) : (showTiming d).mate = d.mate :=
  (each_keeps Dev.mate (fun r d => (showRef_records r d).mate) (List.range 24) _).trans
    (each_keeps Dev.mate (fun i d => (showDpll_records i d).mate) (List.range 4) d)

/-- The registers of the groups and of the resize engines show the state installed. -/
def showInstalled (im : JoinImage) (d : Dev) : Dev := each (tkeys im.prot) pgRegs (each (tkeys im.merge) mgRegs (each (tkeys im.rsz) showRz d))

theorem pgRegs_records (g : Nat) (d : Dev) : Records d (pgRegs g d) :=
  records_trans (records_trans (records_trans (records_trans (setRb_records _ _ _ d) (setRb_records _ _ _ _)) (setRf_records _ _ _ _ _))
    (setRf_records _ _ _ _ _)) (setLive_records _ _ _ _ _)

theorem mgRegs_records (g : Nat) (d : Dev) : Records d (mgRegs g d) := by constructor <;> rfl

theorem showRz_records (p : Nat) (d : Dev) : Records d (showRz p d) := by
  rw [showRz]
  exact records_trans (records_trans (records_trans (records_trans (records_trans (records_trans (setRf_records _ _ _ _ d)
    (setRb_records _ _ _ _)) (setRb_records _ _ _ _)) (setRf_records _ _ _ _ _)) (setRf_records _ _ _ _ _)) (setRf_records _ _ _ _ _))
    (setReg_records _ _ _)

theorem showInstalled_service (im : JoinImage) (d : Dev) : SameService d (showInstalled im d) :=
  .trans (.each (fun p d => .of_records (showRz_records p d)) _ _) (.trans (.each (fun g d => .of_records (mgRegs_records g d)) _ _)
    (.each (fun g d => .of_records (pgRegs_records g d)) _ _))

theorem showInstalled_mate (im : JoinImage) (d : Dev) : (showInstalled im d).mate = d.mate :=
  (each_keeps Dev.mate (fun g d => (pgRegs_records g d).mate) _ _).trans
    ((each_keeps Dev.mate (fun g d => (mgRegs_records g d).mate) _ _).trans (each_keeps Dev.mate (fun p d => (showRz_records p d).mate) _ _))

/-- The device once the state of an image has taken the place of its own, before it enters CATCHUP. -/
def imageTaken (im : JoinImage) (j : Nat) (d : Dev) : Dev :=
  modMate (fun m => { m with image := true, mfn := im.mfn, joinAt := some j }) (each (List.range 4) (fun n => modPsl n fun s => { s with
    snd := im.snd.filter fun e => ctxSlice e.1 == n
    wdr := im.wdr.filter fun e => ctxSlice (e.1 % 2 ^ 18) == n
    gens := im.gens.filter fun e => ctxSlice e.1 == n
    rx := tget [] im.rx n }) { d with
      prov := { d.prov with serv := im.serv, shadow := im.serv, parts := [], pend := im.pend, lastId := im.lastId, doneId := im.doneId }
      prot := im.prot, merge := im.merge
      line := tmap d.line fun p x => { x with rsz := tget x.rsz im.rsz p }
      cont := (tkeys im.fill).foldl (fun t c => tmod {} t c fun x => { x with jc := tget [] im.fill c }) d.cont
      tim := { d.tim with dpll := im.dpll }
      pkt := { d.pkt with cont := tmap d.pkt.cont fun _ p => { p with ctl := [] } } })

theorem imageState_eq (im : JoinImage) (j : Nat) (d : Dev) :
    imageState im j d = showTiming (setMateSt 3 (sendControl 5 0 0 j (showInstalled im (imageTaken im j d)))) := rfl

theorem imageTaken_service (im : JoinImage) (j : Nat) (d : Dev) : (imageTaken im j d).prov.serv = im.serv ∧
    (imageTaken im j d).prov.pend = im.pend ∧ (imageTaken im j d).prot = im.prot ∧ (imageTaken im j d).merge = im.merge := by
  rw [imageTaken, modMate_prov, modMate_prot, modMate_merge]
  have kept (l : List Nat) (f : Nat → PktSlice → PktSlice) (e : Dev) : SameService e (each l (fun n => modPsl n (f n)) e) :=
    .each (f := fun n => modPsl n (f n)) (fun n d => ⟨rfl, rfl, rfl⟩) l e
  rw [(kept _ _ _).prov, (kept _ _ _).prot, (kept _ _ _).merge]
  exact ⟨rfl, rfl, rfl, rfl⟩

theorem imageTaken_mate (im : JoinImage) (j : Nat) (d : Dev) :
    (imageTaken im j d).mate.mfn = im.mfn ∧ (imageTaken im j d).mate.joinAt = some j := by
  rw [imageTaken, modMate_mate]
  exact ⟨rfl, rfl⟩

theorem sendControl_service (code ty seq epoch : Nat) (d : Dev) : SameService d (sendControl code ty seq epoch d) := ⟨rfl, rfl, rfl⟩

theorem imageState_service (im : JoinImage) (j : Nat) (d : Dev) : SameService (imageTaken im j d) (imageState im j d) := by
  rw [imageState_eq]
  exact .trans (.trans (.trans (showInstalled_service im _) (sendControl_service 5 0 0 j _)) (setMateSt_service 3 _)) (showTiming_service _)

theorem imageState_mate (im : JoinImage) (j : Nat) (d : Dev) : (imageState im j d).mate.mfn = im.mfn ∧
    (imageState im j d).mate.joinAt = some j ∧ (imageState im j d).mate.st = 3 := by
  obtain ⟨mfn, joinAt⟩ := setMateSt_join 3 (sendControl 5 0 0 j (showInstalled im (imageTaken im j d)))
  have sent (e : Dev) : (sendControl 5 0 0 j e).mate.mfn = e.mate.mfn ∧ (sendControl 5 0 0 j e).mate.joinAt = e.mate.joinAt := ⟨rfl, rfl⟩
  obtain ⟨taken, at_⟩ := imageTaken_mate im j d
  rw [imageState_eq, showTiming_mate]
  refine ⟨?_, ?_, setMateSt_st 3 _⟩
  · rw [mfn, (sent _).1, showInstalled_mate, taken]
  · rw [joinAt, (sent _).2, showInstalled_mate, at_]

theorem imageInstalled_due {im : JoinImage} (hr : domReady d 5 = true) (hs : d.mate.st = 2) (ha : d.mate.active = false)
    (hj : d.mate.joinS = true) : imageInstalled im d =
      imageState im (now d + 2) (changeTables im.serv (im.pend.foldl (fun d p => wakeFor p.tables d) (wakeFor im.serv d))) := by
  rw [imageInstalled]
  exact if_pos (by rw [imageDue, hr, hs, ha, hj]; rfl)

/-! ### Digests (R458, R469) -/

theorem digestRx_out {digests : List Word} {conts : Tbl Word} (h : d.mate.st < 3 ∨ 4 < d.mate.st) : digestRx digests conts d = d := by
  rw [digestRx]
  exact if_pos (by simp [show ¬ (3 ≤ d.mate.st ∧ d.mate.st ≤ 4) by omega])

/-- The comparison of the digests is counted. -/
def digestCounted (n : Nat) (d : Dev) : Dev :=
  { d with groom := { d.groom with
    digestCmp := satAdd (2 ^ 32 - 1) d.groom.digestCmp 1, digestMis := satAdd (2 ^ 32 - 1) d.groom.digestMis n } }

section Digest

variable {digests : List Word} {conts : Tbl Word} (hr : domReady d 5 = true) (h3 : 3 ≤ d.mate.st) (h4 : d.mate.st ≤ 4)
include hr h3 h4

theorem digestRx_equal (h : d.mate.digest = digests) : digestRx digests conts d =
    checkInStep (setMateLive mDigest false (digestCounted 0 (modMate (fun m => { m with
      mateDigest := digests, contDigest := conts, bad := (List.range 12).map fun k => (k, 0), equal := m.equal + 1 }) d))) := by
  have none : ((List.range 12).filter fun k => d.mate.digest.getD k 0 != digests.getD k 0) = [] := filter_none fun k _ => by
    rw [h, bne_self_eq_false]
  have few : ((List.range 12).filter fun k => decide (3 ≤ tget 0 ((List.range 12).map fun k => (k, 0)) k)) = [] := by decide
  have still (e : Dev) : digestAction conts [] e = e := by
    rw [digestAction]
    exact (if_congr Iff.rfl rfl rfl).trans (ite_self e)
  rw [digestRx]
  refine (if_neg (by simp [hr, h3, h4])).trans ?_
  dsimp only
  rw [none]
  have bad : (tmap ((List.range 12).map fun k => (k, 0)) fun k _ => if ([] : List Nat).contains k then tget 0 d.mate.bad k + 1 else 0) =
      (List.range 12).map fun k => (k, 0) := rfl
  rw [bad, few, still]
  rfl

/-- What a difference of component 8 alone leaves, for the third time in a row. -/
def justificationDiffers (digests : List Word) (conts : Tbl Word) (d : Dev) : Dev :=
  evtMate 0x0305 0 (be 2 (bitmap 12 [8].contains)) (setMateLive mDigest true { modMate (fun m => { m with
      mateDigest := digests, contDigest := conts, equal := 0
      bad := (List.range 12).map fun k => (k, if k = 8 then 3 else 0) }) d with
    groom := { d.groom with
      digestCmp := satAdd (2 ^ 32 - 1) d.groom.digestCmp 1, digestMis := satAdd (2 ^ 32 - 1) d.groom.digestMis 1
      misEpoch := now d, misMap := bitmap 12 [8].contains } })

omit hr h3 h4 in
theorem justificationDiffers_mate : (justificationDiffers digests conts d).mate.active = d.mate.active ∧
    (justificationDiffers digests conts d).mate.st = d.mate.st := by
  rw [justificationDiffers, (evtMate_records _ _ _ _).mate, setMateLive_mate]
  exact ⟨rfl, rfl⟩

theorem digestRx_third (h : (List.range 12).filter (fun k => d.mate.digest.getD k 0 != digests.getD k 0) = [8])
    (ha : d.mate.active = false) (hb : tget 0 d.mate.bad 8 = 2) : digestRx digests conts d =
      checkInStep (if d.mate.st = 4 then setMateSt 3 (justificationDiffers digests conts d) else justificationDiffers digests conts d) := by
  have bad : (tmap ((List.range 12).map fun k => (k, 0)) fun k _ => if [8].contains k then tget 0 d.mate.bad k + 1 else 0) =
      (List.range 12).map fun k => (k, if k = 8 then 3 else 0) := by
    have third : (if [8].contains 8 then tget 0 d.mate.bad 8 + 1 else 0) = 3 := by rw [hb]; rfl
    show [(0, 0), (1, 0), (2, 0), (3, 0), (4, 0), (5, 0), (6, 0), (7, 0), (8, if [8].contains 8 then tget 0 d.mate.bad 8 + 1 else 0), (9, 0),
      (10, 0), (11, 0)] = _
    rw [third]
    rfl
  have often : ((List.range 12).filter fun k => decide (3 ≤ tget 0 ((List.range 12).map fun k => (k, if k = 8 then 3 else 0)) k)) = [8] := by
    decide
  obtain ⟨standby, st⟩ := justificationDiffers_mate (digests := digests) (conts := conts) (d := d)
  have acts : digestAction conts [8] (justificationDiffers digests conts d) =
      if d.mate.st = 4 then setMateSt 3 (justificationDiffers digests conts d) else justificationDiffers digests conts d := by
    rw [digestAction, standby, ha, st]
    by_cases h : d.mate.st = 4
    · rw [if_pos h, beq_iff_eq.mpr h]
      rfl
    · rw [if_neg h, beq_eq_false_iff_ne.mpr h]
      rfl
  rw [← acts, digestRx]
  refine (if_neg (by simp [hr, h3, h4])).trans ?_
  dsimp only
  rw [h, bad, often]
  rfl

end Digest

/-- Settles O53. -/
theorem theStandbyFollowsTheActive : Obligations.TheStandbyFollowsTheActive := by
  unfold Obligations.TheStandbyFollowsTheActive
  refine ⟨fun kind r d hr hf hk => ⟨decisionRx_held hr hf hk, decisionRx_applied hr hf hk⟩, fun kind r d => decisionRx_ignored, ?step⟩
  intro s on hr
  refine ⟨?records, ?command, ?noCommand, ?result, ?firstResult, ?boundary, ?image, ?joinAt, ?joinedActive, ?joinedStandby, ?noJoin,
    ?digestOut, ?digestEqual, ?digestThird⟩
  case records =>
    exact fun r => ⟨runDev_settles (exec_decisionJust r s) on rfl rfl, runDev_settles (exec_decisionAdmit r s) on rfl rfl,
      runDev_settles (exec_decisionStall r s) on rfl rfl, runDev_settles (exec_decisionContext r s) on rfl rfl,
      runDev_settles (exec_decisionAlign r s) on rfl rfl, runDev_settles (exec_decisionProt r s) on rfl rfl,
      runDev_settles (exec_decisionMerge r s) on rfl rfl, runDev_settles (exec_decisionResize r s) on rfl rfl,
      runDev_settles (exec_decisionTiming r s) on rfl rfl⟩
  case command => exact fun msg hf hl => runDev_ends (exec_commandMsgRx msg s) on rfl (commandRx_mirrored hr hf hl)
  case noCommand => exact fun msg h => runDev_ends (exec_commandMsgRx msg s) on rfl (commandRx_ignored h)
  case result =>
    exact fun cell e ha h2 h4 he =>
      ⟨fun same => runDev_settles (exec_resultRx cell s) on rfl ((resultRx_meets hr ha h2 h4 he).trans (if_pos same)),
        fun differ => runDev_settles (exec_resultRx cell s) on rfl ((resultRx_meets hr ha h2 h4 he).trans (if_neg differ))⟩
  case firstResult => exact fun cell ha h2 h4 he => runDev_settles (exec_resultRx cell s) on rfl (resultRx_first hr ha h2 h4 he)
  case boundary =>
    intro epoch mfas he hl hs hj
    have ok : (decide (epoch < 2 ^ 48) && mfas.length == 4) = true := by rw [decide_eq_true he, hl]; rfl
    exact ⟨fun ha => runDev_settles (exec_joinBoundaryS epoch mfas s) on ok (joinBoundary_active hr hs hj ha),
      fun ha => runDev_settles (exec_joinBoundaryS epoch mfas s) on ok (joinBoundary_standby hr hs hj ha)⟩
  case image =>
    intro im hs ha hj
    refine ⟨runDev_settles (exec_stateImageInstalled im s) on rfl rfl, ?_⟩
    rw [imageInstalled_due hr hs ha hj, (imageState_service im _ _).prov, (imageState_service im _ _).prot, (imageState_service im _ _).merge]
    obtain ⟨serv, pend, prot, merge⟩ := imageTaken_service im (now s.dev + 2)
      (changeTables im.serv (im.pend.foldl (fun d p => wakeFor p.tables d) (wakeFor im.serv s.dev)))
    exact ⟨serv, pend, prot, merge, imageState_mate im _ _⟩
  case joinAt => exact fun j hj ha hs => runDev_settles (exec_joinAtRx j s) on (decide_eq_true hj) (joinAtRx_learns hr hs j ha)
  case joinedActive => exact fun j hj hn hs ha => runSys_settlesDev (exec_joinEpochJ s) on (joinJ_active hj hn hs rfl ha)
  case joinedStandby => exact fun j hj hn hs ha hm => runSys_settlesDev (exec_joinEpochJ s) on (joinJ_standby hj hn hs rfl ha hm)
  case noJoin => exact fun hj => runSys_settlesDev (exec_joinEpochJ s) on (joinJ_none hj)
  case digestOut =>
    exact fun digests conts hl h => runDev_settles (exec_digestRx digests conts s) on (beq_iff_eq.mpr hl) (digestRx_out h)
  case digestEqual =>
    exact fun digests conts hl h h3 h4 => runDev_settles (exec_digestRx digests conts s) on (beq_iff_eq.mpr hl) (digestRx_equal hr h3 h4 h)
  case digestThird =>
    exact fun digests conts hl h h3 h4 ha hb =>
      runDev_settles (exec_digestRx digests conts s) on (beq_iff_eq.mpr hl) (digestRx_third hr h3 h4 h ha hb)

end Sys2Proof.Proofs
end

section
/-! SUPPORT. The groomer. -/

namespace Sys2Proof.Proofs

open Sys2Proof.Machine Sys2Proof.Laws Sys2Proof.Spec

/-! ### A pass over the SRAM (R335, R468) -/

section Sram

/-- The groomer once a pass over the SRAM is counted. -/
def sramCounted (ms corr bad : Nat) (g : Groomer) : Groomer :=
  { g with
    sramPass := true, sramMs := ms, sramCorr := satAdd (2 ^ 32 - 1) g.sramCorr corr, sramUncorr := satAdd (2 ^ 32 - 1) g.sramUncorr bad }

variable (src block ms : Nat) (d : Dev)

theorem sramPass_clean {corr : Nat} (h : corr = 0) : sramPass src block ms corr [] [] d = { d with groom := sramCounted ms corr 0 d.groom } := by
  rw [sramPass, h]
  rfl

theorem sramPass_corrected {corr : Nat} (h : corr ≠ 0) : sramPass src block ms corr [] [] d =
    raiseErr 1 src block 0x0020 (min 65535 corr) 0 { d with groom := sramCounted ms corr 0 d.groom } := by
  rw [sramPass, bne_iff_ne.mpr h]
  rfl

theorem sramPass_uncorrectable (a : Nat) : sramPass src block ms 0 [a] [] d =
    raiseErr 2 src block 0x0021 (a / 65536 % 65536) (a % 65536) { d with groom := sramCounted ms 0 1 d.groom } := rfl

theorem sramPass_queue (e : QueueErr) : sramPass src block ms 0 [] [e] d = queueError e { d with groom := sramCounted ms 0 0 d.groom } := rfl

end Sram

section Queue

variable {e : QueueErr} {d : Dev}

theorem count_nothing (dm n : Nat) (d : Dev) : count dm n 0 d = d := by
  rw [count]
  exact if_pos (Bool.or_true _)

theorem queueError_pointer (h : e.kind = 0) :
    queueError e d = raiseErr 1 0x0014 e.slice 0x0030 1 1 (count (14 + e.slice) (ctrSlice e.slice 5) 1 d) := by
  rw [queueError]
  dsimp only
  rw [h]
  rfl

theorem queueError_corrected (h : e.kind = 2) (hp : queueProt d e ≠ 1) :
    queueError e d = raiseErr 1 0x0014 e.slice 0x0030 2 1 (count (14 + e.slice) (ctrSlice e.slice 7) 1 d) := by
  rw [queueError]
  dsimp only
  rw [h, if_pos (c := 2 ≤ 1 ∨ _) (.inr (.inl ⟨rfl, hp⟩))]
  exact (if_neg (by decide)).trans ((if_neg (by decide)).trans (if_pos ⟨rfl, hp⟩))

theorem queueError_reset (h : e.kind = 3) (hp : queueProt d e ≠ 2) : queueError e d =
    raiseErr 2 0x0014 e.slice 0x0031 (if queueProt d e = 0 then 2 else 3) (e.queue % 65536) (resetQueue e.slice e.eg e.queue d) := by
  rw [queueError]
  dsimp only
  rw [h, if_neg (c := 3 ≤ 1 ∨ _) (by simp [hp]), count_nothing]
  exact (if_neg (by decide)).trans ((if_neg (by decide)).trans ((if_neg (by simp)).trans (if_neg (by simp [hp]))))

end Queue

/-! ### A pass over spill blocks, and BIST (R468, R470) -/

section Spill

variable {g : Nat} {d : Dev} (corr : Nat) (bad : List QueueErr)

theorem scrubPassCmd_ready (hr : domReady d (18 + g) = true) : scrubPassCmd g corr bad d =
    (let y := spreadBursts 6 corr (ifaces g) d
     scrubEnds g (bad.foldl (fun d e => dropBlock e.slice e.eg e.queue e.pos d) { y with groom := { y.groom with
       memPass := true, memPasses := satAdd (2 ^ 32 - 1) y.groom.memPasses 1, memCorr := satAdd (2 ^ 32 - 1) y.groom.memCorr corr
       memUncorr := satAdd (2 ^ 32 - 1) y.groom.memUncorr bad.length } })) := by
  rw [scrubPassCmd, spillPass, hr]
  rfl

theorem scrubPassCmd_asleep (hr : domReady d (18 + g) = false) : scrubPassCmd g corr bad d = scrubEnds g d := by
  rw [scrubPassCmd, spillPass, hr]
  rfl

end Spill

theorem bistRun_fails (ty block : Nat) (d : Dev) : bistRun ty block true d = raiseErr 3 ty block 0x0022 ty block { d with
    groom := { d.groom with
      bistRuns := satAdd (2 ^ 32 - 1) d.groom.bistRuns 1, bistFails := satAdd (2 ^ 32 - 1) d.groom.bistFails 1
      bistFail := true, bistType := ty, bistInst := block } } := rfl

theorem bistRun_passes (ty block : Nat) (d : Dev) : bistRun ty block false d = { d with
    groom := { d.groom with
      bistRuns := satAdd (2 ^ 32 - 1) d.groom.bistRuns 1, bistFails := satAdd (2 ^ 32 - 1) d.groom.bistFails 0
      bistFail := d.groom.bistFail && !(d.groom.bistType == ty && d.groom.bistInst == block) } } := rfl

/-- Settles O54. -/
theorem groomerReportsItsPasses : Obligations.GroomerReportsItsPasses := by
  unfold Obligations.GroomerReportsItsPasses
  intro s on
  have unit {ty block : Nat} (ht : ty < 65536) (hb : block < 256) : (isHalf ty && isByte block) = true := by
    rw [isHalf, isByte, decide_eq_true ht, decide_eq_true hb]
    rfl
  have pass {src block ms corr : Nat} {bad : List Nat} {qs : List QueueErr} {d : Dev} (hs : src < 65536) (hb : block < 256)
      (h : sramPass src block ms corr bad qs s.dev = d) : Ends (.sramScrubPass src block ms corr bad qs) s d :=
    runDev_ends (exec_sramScrubPass src block ms corr bad qs s) on (unit hs hb) h
  refine ⟨?sram, ?uncorrectable, ?queue, fun e x => queueError_pointer, fun e x => queueError_corrected, fun e x => queueError_reset,
    ?spill, ?asleep, ?bist⟩
  case sram =>
    intro src block ms corr hs hb
    exact ⟨fun h => pass hs hb (sramPass_clean src block ms s.dev h), fun h => pass hs hb (sramPass_corrected src block ms s.dev h)⟩
  case uncorrectable => exact fun src block ms a hs hb => pass hs hb (sramPass_uncorrectable src block ms s.dev a)
  case queue => exact fun src block ms e hs hb => pass hs hb (sramPass_queue src block ms s.dev e)
  case spill =>
    exact fun g corr bad hg hr => runDev_ends (exec_spillScrubPass g corr bad s) on (decide_eq_true hg) (scrubPassCmd_ready corr bad hr)
  case asleep =>
    exact fun g corr bad hg hr => runDev_ends (exec_spillScrubPass g corr bad s) on (decide_eq_true hg) (scrubPassCmd_asleep corr bad hr)
  case bist =>
    exact fun ty block ht hb => ⟨runDev_ends (exec_bistRun ty block true s) on (unit ht hb) (bistRun_fails ty block s.dev),
      runDev_ends (exec_bistRun ty block false s) on (unit ht hb) (bistRun_passes ty block s.dev)⟩

end Sys2Proof.Proofs
end

section
/-! SUPPORT. References and DPLLs. -/

namespace Sys2Proof.Proofs

open Sys2Proof.Machine Sys2Proof.Laws Sys2Proof.Spec

/-! ### What the steps of timing leave (R483 to R487) -/

/-- The newest mean of a reference: its frequency and its drift. -/
def measured (r : Nat) (d : Dev) : Int × Int := ((tr d r).f, (tr d r).d)

theorem measured_of_records {r : Nat} {d e : Dev} (h : Records d e) : measured r e = measured r d := by
  rw [measured, tr, h.tim]
  rfl

theorem measured_modRef {r : Nat} {f : TimRef → TimRef} (h : ∀ x, (f x).f = x.f ∧ (f x).d = x.d) (d : Dev) :
    measured r (modRef r f d) = measured r d := by
  rw [measured, tr_modRef, if_pos rfl, (h _).1, (h _).2]
  rfl

theorem measured_modDp (r k : Nat) (f : Dpll → Dpll) (d : Dev) : measured r (modDp k f d) = measured r d := rfl

theorem measured_disqualify (r cause : Nat) (d : Dev) : measured r (disqualify r cause d) = measured r d := by
  rw [disqualify]
  split
  · rfl
  · rw [refQual, measured_of_records (evtTim_records _ _ _ _)]
    refine (gate_keeps (f := stickRef r 2) (measured r) (fun _ => rfl) _ _).trans ?_
    refine (each_keeps (measured r) (by exact fun k d => gate_keeps (measured r) (measured_modDp r k _) _ d) _ _).trans ?_
    exact measured_modRef (by exact fun _ => ⟨rfl, rfl⟩) d

theorem measured_enterBad (r cause : Nat) (d : Dev) : measured r (enterBad r cause d) = measured r d := by
  have bad (c : Bool) : measured r (gate c (stickRef r 0) (modRef r (fun x => { x with
      los := x.los || cause == 2, oor := x.oor || cause == 3, wtr := false }) d)) = measured r d :=
    (gate_keeps (f := stickRef r 0) (measured r) (fun _ => rfl) _ _).trans (measured_modRef (by exact fun _ => ⟨rfl, rfl⟩) d)
  rw [enterBad]
  dsimp only
  split
  · exact bad _
  · split
    · exact (measured_disqualify r cause _).trans (bad _)
    · exact ((each_keeps (f := fun i d => stickDp i 2 (modDp i (fun x => { x with frozen := true }) d)) (measured r) (fun _ _ => rfl) _ _).trans
        (measured_modRef (by exact fun _ => ⟨rfl, rfl⟩) _)).trans (bad _)

theorem measured_leaveBad (r cause : Nat) (d : Dev) : measured r (leaveBad r cause d) = measured r d := by
  have good : measured r (modRef r (fun x => { x with los := x.los && cause != 2, oor := x.oor && cause != 3 }) d) = measured r d :=
    measured_modRef (by exact fun _ => ⟨rfl, rfl⟩) d
  rw [leaveBad]
  dsimp only
  split
  · exact good
  · rw [wtrCheck, measured_modRef (by exact fun _ => ⟨rfl, rfl⟩), measured_modRef (by exact fun _ => ⟨rfl, rfl⟩)]
    refine (gate_keeps (measured r) (by
      exact fun d => each_keeps (measured r) (by exact fun k d => gate_keeps (measured r) (measured_modDp r k _) _ d) _ d) _ _).trans good

theorem measured_takeMean (r : Nat) (v : Int) (d : Dev) :
    measured r (takeMean r v d) = (v, v - expectP d (driftDpll (tr d r).rec_)) := by
  have taken : measured r (modRef r (fun x => { x with f := v, d := v - expectP d (driftDpll (tr d r).rec_), epoch := now d }) d) =
      (v, v - expectP d (driftDpll (tr d r).rec_)) := by
    rw [measured, tr_modRef, if_pos rfl]
  rw [takeMean]
  split
  · rw [measured_enterBad, taken]
  · split
    · rw [measured_leaveBad, taken]
    · exact taken

/-! ### Means (R483, R492) -/

section Means

variable {d : Dev}

/-- A MODE 1 ALIGN that waits sees one more edge of its reference. -/
def edgeSeen (d : Dev) : Dev :=
  modTim (fun t => { t with pend := t.pend.map fun p =>
    if p.mode = 1 ∧ !(tr d p.ref).los then { p with edges := min 10 (p.edges + 1) } else p }) d

/-- A DPLL takes its 1 s means. -/
def takeDpll (m : DpllMeas) (d : Dev) : Dev :=
  modDp m.dpll (fun x =>
    let live := x.st = 2 ∧ !x.frozen
    { x with
      freq := if x.st = 1 ∨ x.st = 2 then m.freq else x.freq, phase := m.phase, p := expectP d m.dpll,
      lockRun := if x.st = 1 ∧ m.err.natAbs < 1000 then x.lockRun + 1 else 0,
      anchorF := if live then (m.anchor.map (·.1)).getD x.anchorF else x.anchorF,
      anchorT := if live then (m.anchor.map (·.2.1)).getD x.anchorT else x.anchorT,
      anchorAt := if live then (m.anchor.map (·.2.2)).getD x.anchorAt else x.anchorAt }) d

variable (hr : domReady d 3 = true)
include hr

theorem refMeasurement_dplls (ds : List DpllMeas) : refMeasurement [] ds d =
    showTiming (each (List.range 4) syncTrust (ds.foldl (fun d m => takeDpll m d) (edgeSeen d))) := by
  rw [refMeasurement, hr]
  rfl

theorem refMeasurement_one {r : Nat} (v : Int) (h : r < 24) (hs : selectable r (tr d r).rec_ = true) : refMeasurement [(r, v)] [] d =
    showTiming (each (List.range 4) syncTrust (edgeSeen (wtrCheck r (driftRef r (firstMeasure r (takeMean r v d)))))) := by
  have kept : [(r, v)].filter (fun e => decide (e.1 < 24) && selectable e.1 (tr d e.1).rec_) = [(r, v)] := by
    rw [List.filter_cons_of_pos (by rw [decide_eq_true h, hs]; rfl), List.filter_nil]
  rw [refMeasurement, hr]
  refine (if_neg (by decide)).trans ?_
  dsimp only
  rw [kept]
  rfl

end Means

/-- What a lock turns on: D3 and the mate, and each DPLL's state, freeze and record. -/
structure SameLocks (d e : Dev) : Prop where
  pwr : e.pwr = d.pwr
  mate : e.mate = d.mate
  dpll : ∀ i, (dp e i).st = (dp d i).st ∧ (dp e i).frozen = (dp d i).frozen ∧ (dp e i).rec_ = (dp d i).rec_

namespace SameLocks

theorem refl (d : Dev) : SameLocks d d := ⟨rfl, rfl, fun _ => ⟨rfl, rfl, rfl⟩⟩

theorem trans {a b c : Dev} (h : SameLocks a b) (k : SameLocks b c) : SameLocks a c := by
  refine ⟨k.pwr.trans h.pwr, k.mate.trans h.mate, fun i => ?_⟩
  obtain ⟨st, frozen, rec_⟩ := h.dpll i
  obtain ⟨st', frozen', rec'⟩ := k.dpll i
  exact ⟨st'.trans st, frozen'.trans frozen, rec'.trans rec_⟩

theorem of_records {d e : Dev} (h : Records d e) : SameLocks d e :=
  ⟨h.pwr, h.mate, fun i => by rw [dp, h.tim]; exact ⟨rfl, rfl, rfl⟩⟩

theorem of_modDp {i : Nat} {f : Dpll → Dpll} (h : ∀ x, (f x).st = x.st ∧ (f x).frozen = x.frozen ∧ (f x).rec_ = x.rec_) (d : Dev) :
    SameLocks d (modDp i f d) := by
  refine ⟨rfl, rfl, fun k => ?_⟩
  rw [dp_modDp]
  split
  · rename_i same
    rw [same]
    exact h _
  · exact ⟨rfl, rfl, rfl⟩

theorem forEach {f : Nat → Dev → Dev} (h : ∀ k d, SameLocks d (f k d)) (l : List Nat) (d : Dev) : SameLocks d (each l f d) := by
  induction l generalizing d with
  | nil => exact refl d
  | cons k l ih => exact trans (h k d) (ih (f k d))

variable {d e : Dev} (h : SameLocks d e)
include h

theorem ready : domReady e 3 = domReady d 3 := by rw [domReady, dom, h.pwr]; rfl

theorem following : Machine.following e = Machine.following d := by rw [Machine.following, h.mate]; rfl

theorem dpRec (i : Nat) : Machine.dpRec e i = Machine.dpRec d i := by rw [Machine.dpRec, (h.dpll i).2.2]; rfl

end SameLocks

theorem showTiming_locks (d : Dev) : SameLocks d (showTiming d) :=
  .trans (.forEach (fun i d => .of_records (showDpll_records i d)) (List.range 4) d)
    (.forEach (fun r d => .of_records (showRef_records r d)) (List.range 24) _)

theorem syncTrust_locks (i : Nat) (d : Dev) : SameLocks d (syncTrust i d) := by
  rw [syncTrust]
  split
  · exact .refl d
  · exact .trans (.of_modDp (by exact fun _ => ⟨rfl, rfl, rfl⟩) d) (.of_records (evtTim_records _ _ _ _))

theorem takeDpll_locks (m : DpllMeas) (d : Dev) : SameLocks d (takeDpll m d) := .of_modDp (by exact fun _ => ⟨rfl, rfl, rfl⟩) d

theorem edgeSeen_locks (d : Dev) : SameLocks d (edgeSeen d) := by
  have kept (i : Nat) : dp (edgeSeen d) i = dp d i := rfl
  exact ⟨rfl, rfl, fun i => by rw [kept]; exact ⟨rfl, rfl, rfl⟩⟩

theorem refMeasurement_locks {d : Dev} (hr : domReady d 3 = true) (m : DpllMeas) : SameLocks d (refMeasurement [] [m] d) := by
  rw [refMeasurement_dplls hr]
  exact .trans (.trans (.trans (edgeSeen_locks d) (takeDpll_locks m _)) (.forEach syncTrust_locks _ _)) (showTiming_locks _)

theorem enterState_st (i st : Nat) (sel : Option Nat) (d : Dev) : (dp (enterState i st sel d) i).st = st := by
  rw [enterState, dp, (evtTim_records _ _ _ _).tim]
  show (dp (modDp i _ d) i).st = st
  rw [dp_modDp, if_pos rfl]

theorem timingRecord_dp (i k : Nat) (d : Dev) : dp (timingRecord i d) k = dp d k := by
  obtain ⟨m, h⟩ := fwd_eq kTiming i (epoch32 d) (be 1 ((dp d i).sel.getD 0x1F) ++ be 1 (dp d i).st ++ be 1 (dp d i).qlTx) d
  rw [timingRecord]
  rw [h]
  rfl

/-- A second beyond 100 ppb ends the lock (R492). -/
theorem lockLost_acquires {d : Dev} {m : DpllMeas} (hr : domReady d 3 = true) (hm : m.dpll < 4) (h1 : m.dpll ≠ 1 ∨ drFollow (dpRec d 1) = false)
    (hf : following d = false) (hs : (dp d m.dpll).st = 2) (hz : (dp d m.dpll).frozen = false) (he : 10000 < m.err.natAbs) :
    (dp (refMeasured [] [m] d) m.dpll).st = 1 := by
  have same := refMeasurement_locks hr m
  obtain ⟨st, frozen, _⟩ := same.dpll m.dpll
  have kept : [m].filter (fun m => decide (m.dpll < 4)) = [m] := by simp [hm]
  have free : (!(m.dpll == 1 && drFollow (dpRec (refMeasurement [] [m] d) 1))) = true := by
    rw [same.dpRec]
    rcases h1 with h | h
    · rw [beq_eq_false_iff_ne.mpr h]
      rfl
    · rw [h, Bool.and_false]
      rfl
  rw [refMeasured, kept, lockLost, if_neg (by rw [same.ready, same.following, hr, hf]; decide), List.foldl_cons, List.foldl_nil,
    if_pos ⟨st.trans hs, he, by rw [frozen, hz]; rfl, free⟩, ((showTiming_locks _).dpll m.dpll).1, timingRecord_dp, enterState_st]

end Sys2Proof.Proofs
end

section
/-! SUPPORT. Qualification, locks and the holdover model. -/

namespace Sys2Proof.Proofs

open Sys2Proof.Machine Sys2Proof.Laws Sys2Proof.Spec

variable {d : Dev}

/-! ### LOS and wait-to-restore (R485, R487) -/

section Ref

variable {r : Nat}

/-- A reference with LOS. -/
def losNoted (r : Nat) (d : Dev) : Dev := stickRef r 0 (modRef r (fun x => { x with los := true, oor := x.oor, wtr := false }) d)

theorem enterBad_los (r : Nat) (d : Dev) : enterBad r 2 d =
    if ((tr d r).los || (tr d r).oor || !(tr d r).qualified) = true then losNoted r d
    else
      let sel := (List.range 4).filter fun i => selBy (losNoted r d) i r && !drFollow (dpRec (losNoted r d) i)
      if sel.isEmpty = true then disqualify r 2 (losNoted r d)
      else each sel (fun i d => stickDp i 2 (modDp i (fun x => { x with frozen := true }) d))
        (modRef r (fun x => { x with hold := true }) (losNoted r d)) := by
  have noted : modRef r (fun x => { x with los := x.los || (2 : Nat) == 2, oor := x.oor || (2 : Nat) == 3, wtr := false }) d =
      modRef r (fun x => { x with los := true, oor := x.oor, wtr := false }) d := by
    simp only [beq_self_eq_true, Bool.or_true, show ((2 : Nat) == 3) = false from rfl, Bool.or_false]
  have qualified : (tr (losNoted r d) r).qualified = (tr d r).qualified := by
    show (tr (modRef r _ d) r).qualified = _
    rw [tr_modRef, if_pos rfl]
  rw [enterBad]
  dsimp only
  rw [noted, beq_self_eq_true, gate_true, ← qualified]
  rfl

section Sound

variable (hl : (tr d r).los = false) (ho : (tr d r).oor = false) (hq : (tr d r).qualified = true)
include hl ho hq

theorem enterBad_unselected (h : ((List.range 4).filter fun i => selBy (losNoted r d) i r && !drFollow (dpRec (losNoted r d) i)) = []) :
    enterBad r 2 d = disqualify r 2 (losNoted r d) := by
  rw [enterBad_los, hl, ho, hq]
  dsimp only
  rw [h]
  rfl

theorem enterBad_selected (h : ((List.range 4).filter fun i => selBy (losNoted r d) i r && !drFollow (dpRec (losNoted r d) i)) ≠ []) :
    enterBad r 2 d = each ((List.range 4).filter fun i => selBy (losNoted r d) i r && !drFollow (dpRec (losNoted r d) i))
      (fun i d => stickDp i 2 (modDp i (fun x => { x with frozen := true }) d)) (modRef r (fun x => { x with hold := true }) (losNoted r d)) := by
  rw [enterBad_los, hl, ho, hq]
  refine (if_neg (by decide)).trans ?_
  exact if_neg (by rwa [List.isEmpty_iff])

end Sound

theorem enterBad_unqualified (hq : (tr d r).qualified = false) : enterBad r 2 d = losNoted r d := by
  rw [enterBad_los, hq]
  exact if_pos (by rw [Bool.not_false, Bool.or_true])

section Ready

variable (hr : domReady d 3 = true)
include hr

theorem refLosEnter_lost (h : r < 8) (he : rrEn (tr d r).rec_ = true) (hp : d.tim.pend = none) :
    refLosEnter r none d = showTiming (enterBad r 2 d) := by
  have still : modTim (fun t => { t with pend := t.pend.map fun p => { p with lost := p.lost || (p.mode == 1 && p.ref == r) } }) d = d := by
    rw [modTim, hp, Option.map_none, ← hp]
  rw [refLosEnter]
  refine (if_neg (by rw [hr, he]; decide)).trans ?_
  refine (if_neg (by rw [decide_eq_false (by omega)]; exact Bool.false_ne_true)).trans ?_
  rw [still]

theorem refLosEnter_sound {v : Int} (he : rrEn (tr d r).rec_ = true) (hv : v.natAbs ≤ 5000000) : refLosEnter r (some v) d = d := by
  rw [refLosEnter]
  exact (if_neg (by rw [hr, he]; decide)).trans (if_pos hv)

theorem refLosClear_ends (h : r < 8) (hl : (tr d r).los = true) : refLosClear r d = showTiming (leaveBad r 2 d) := by
  rw [refLosClear]
  exact if_neg (by rw [hr, hl, decide_eq_false (show ¬ 8 ≤ r by omega)]; exact Bool.false_ne_true)

end Ready

theorem refLosClear_idle (hl : (tr d r).los = false) : refLosClear r d = d := by
  rw [refLosClear]
  exact if_pos (by rw [hl]; simp)

theorem refHoldoff_los (hh : (tr d r).hold = true) (hl : (tr d r).los = true) : refHoldoff r d = showTiming (disqualify r 2 d) := by
  rw [refHoldoff, hh, hl]
  rfl

theorem refHoldoff_oor (hh : (tr d r).hold = true) (hl : (tr d r).los = false) (ho : (tr d r).oor = true) :
    refHoldoff r d = showTiming (disqualify r 3 d) := by
  rw [refHoldoff, hh, hl, ho]
  rfl

theorem refHoldoff_idle (hh : (tr d r).hold = false) : refHoldoff r d = d := by
  rw [refHoldoff]
  exact if_neg (by rw [hh, Bool.false_and]; exact Bool.false_ne_true)

theorem refWtr_restores (hw : (tr d r).wtr = true) (hm : mayRestore (tr d r) = true) : refWtr r d =
    showTiming (refQual r 1 (modRef r (fun x => { x with qualified := true, hardDisq := false, wtr := false }) d)) := by
  rw [refWtr]
  exact if_pos (by rw [hw, hm]; rfl)

theorem refWtr_idle (hw : (tr d r).wtr = false) : refWtr r d = d := by
  rw [refWtr]
  exact if_neg (by rw [hw, Bool.false_and]; exact Bool.false_ne_true)

end Ref

/-! ### Locks and anchors (R492, R495) -/

section Lock

variable {i : Nat}

theorem dpllLocked_locks (hr : domReady d 3 = true) (hf : following d = false) (h1 : i = 1 → drFollow (dpRec d 1) = false)
    (hs : (dp d i).st = 1) (hl : 3 ≤ (dp d i).lockRun) : dpllLocked i d = showTiming (timingRecord i (enterState i 2 (dp d i).sel d)) := by
  have own : (i == 1 && drFollow (dpRec d 1)) = false := by
    by_cases h : i = 1
    · rw [h1 h, Bool.and_false]
    · rw [beq_eq_false_iff_ne.mpr h, Bool.false_and]
  rw [dpllLocked]
  exact (if_neg (by rw [hr, hf, own]; decide)).trans (if_pos ⟨hs, hl⟩)

theorem dpllLocked_idle (h : (dp d i).st ≠ 1 ∨ (dp d i).lockRun < 3) : dpllLocked i d = d := by
  rw [dpllLocked]
  split
  · rfl
  · exact if_neg (by omega)

theorem anchorValid_valid (hr : domReady d 3 = true) (hs : (dp d i).st = 2) (ht : 60000 ≤ now d - (dp d i).since) :
    anchorValid i d = showTiming (modDp i (fun x => { x with anchor := true, model := if x.model = 0 then 1 else x.model }) d) := by
  rw [anchorValid]
  exact if_pos (by rw [hr, hs, decide_eq_true ht]; rfl)

theorem anchorValid_idle (h : (dp d i).st ≠ 2 ∨ now d - (dp d i).since < 60000) : anchorValid i d = d := by
  rw [anchorValid]
  refine if_neg ?_
  rcases h with h | h
  · rw [beq_eq_false_iff_ne.mpr h, Bool.and_false, Bool.false_and]
    exact Bool.false_ne_true
  · rw [decide_eq_false (by omega), Bool.and_false]
    exact Bool.false_ne_true

end Lock

/-! ### The holdover model (R496) -/

section Glide

variable {i r : Nat}

theorem glideMinute_takes {f t : Int} (hr : domReady d 3 = true) (hf : following d = false) (hz : isFrozen d 7 i = false)
    (hs : (dp d i).st = 2) (hsel : (dp d i).sel = some r) (hl : (tr d r).softLive = false) (hu : (tr d r).hardUnconf = false) :
    glideMinute i f t d = modDp i (fun x => { x with mins := ((f, t) :: x.mins).take 43200 }) d := by
  rw [glideMinute]
  rw [hsel]
  exact if_pos (by rw [hr, hf, hz, hs, hl, hu]; rfl)

theorem glideMinute_idle {f t : Int} (h : (dp d i).sel = none ∨ (dp d i).st ≠ 2 ∨ isFrozen d 7 i = true) : glideMinute i f t d = d := by
  rw [glideMinute]
  cases hsel : (dp d i).sel with
  | none => rfl
  | some r =>
    refine if_neg ?_
    rcases h with h | h | h
    · exact absurd (hsel.symm.trans h) (Option.some_ne_none r)
    · simp [h]
    · simp [h]

theorem glideFit_idle {m : Bytes} {resid : Nat} (h : (dp d i).mins.length < 1440 ∨ isFrozen d 7 i = true) : glideFit i m resid d = d := by
  rw [glideFit]
  exact if_pos (by rcases h with h | h <;> simp [h])

section Fit

variable {m : Bytes} {resid : Nat} (hr : domReady d 3 = true) (hf : following d = false) (hz : isFrozen d 7 i = false)
  (hn : 1440 ≤ (dp d i).mins.length)
include hr hf hz hn

theorem glideFit_adopts (ha : assisted d 7 i = false) : glideFit i m resid d = adoptFit i (fitModel (minuteSpan (dp d i).mins) m) d := by
  rw [glideFit]
  exact (if_neg (by simp [hr, hf, hz, hn])).trans (if_neg (Bool.eq_false_iff.mp ha))

theorem glideFit_reports (ha : assisted d 7 i = true) : glideFit i m resid d = report 7 i 1
    (slice (fitModel (minuteSpan (dp d i).mins) m) 12 12 ++ be 2 resid ++ be 2 (minuteSpan (dp d i).mins) ++ be 2 ((dp d i).mins.length / 60))
    (modDp i (fun x => { x with fit := some (fitModel (minuteSpan (dp d i).mins) m) }) d) := by
  rw [glideFit]
  exact (if_neg (by simp [hr, hf, hz, hn])).trans (if_pos ha)

end Fit

theorem glideStale_demotes {q : Nat} (hr : domReady d 3 = true) (hf : following d = false) (hz : isFrozen d 7 i = false)
    (hs : (dp d i).st = 2) (hsel : (dp d i).sel = some r) (hx : xoTrusted d i = true) (hq : q < 24) (hne : q ≠ r)
    (hqual : (tr d q).qualified = true) (hg : gap (tr d q).d (tr d r).d ≤ drAgree (dpRec d i))
    (hsoft : rrSoft (tr d r).rec_ < gap (tr d r).f (expectP d i)) (ha : assisted d 7 i = false) :
    glideStale i d = demote i (stickDp i 1 d) := by
  have second : ((List.range 24).any fun q => q != r && (tr d q).qualified && decide (gap (tr d q).d (tr d r).d ≤ drAgree (dpRec d i))) = true :=
    List.any_eq_true.mpr ⟨q, List.mem_range.mpr hq, by rw [bne_iff_ne.mpr hne, hqual, decide_eq_true hg]; rfl⟩
  rw [glideStale]
  dsimp only
  rw [hsel]
  dsimp only
  rw [second]
  refine (if_pos (by rw [hr, hf, hz, hs, hx, decide_eq_true hsoft]; rfl)).trans ?_
  exact if_neg (Bool.eq_false_iff.mp ha)

theorem glideStale_idle (h : (dp d i).sel = none ∨ (dp d i).st ≠ 2 ∨ xoTrusted d i = false ∨ isFrozen d 7 i = true) : glideStale i d = d := by
  rw [glideStale]
  dsimp only
  cases hsel : (dp d i).sel with
  | none => rfl
  | some r =>
    refine if_neg ?_
    rcases h with h | h | h | h
    · exact absurd (hsel.symm.trans h) (Option.some_ne_none r)
    · simp [h]
    · simp [h]
    · simp [h]

end Glide

/-- Settles O55. -/
theorem referencesQualifyAndDpllsLock : Obligations.ReferencesQualifyAndDpllsLock := by
  unfold Obligations.ReferencesQualifyAndDpllsLock
  intro s on hr
  have none_ (d : Dev) : lockLost [] d = d := ite_self d
  have los {r : Nat} {v : Option Int} {d : Dev} (h : r < 24) (hd : refLosEnter r v s.dev = d) : Ends (.refLos r v) s d :=
    runDev_ends (exec_refLos r v s) on (decide_eq_true h) hd
  have clear {r : Nat} {d : Dev} (h : r < 24) (hd : refLosClear r s.dev = d) : Ends (.refLosClear r) s d :=
    runDev_ends (exec_refLosClear r s) on (decide_eq_true h) hd
  have holdoff {r : Nat} {d : Dev} (h : r < 24) (hd : refHoldoff r s.dev = d) : Ends (.refHoldoffExpiry r) s d :=
    runDev_ends (exec_refHoldoffExpiry r s) on (decide_eq_true h) hd
  have wtr {r : Nat} {d : Dev} (h : r < 24) (hd : refWtr r s.dev = d) : Ends (.refWtrExpiry r) s d :=
    runDev_ends (exec_refWtrExpiry r s) on (decide_eq_true h) hd
  have locked {i : Nat} {d : Dev} (h : i < 4) (hd : dpllLocked i s.dev = d) : Ends (.dpllLocked i) s d :=
    runDev_ends (exec_dpllLocked i s) on (decide_eq_true h) hd
  have anchor {i : Nat} {d : Dev} (h : i < 4) (hd : anchorValid i s.dev = d) : Ends (.anchorValid i) s d :=
    runDev_ends (exec_anchorValid i s) on (decide_eq_true h) hd
  have minute {i : Nat} {f t : Int} {d : Dev} (h : i < 4) (hd : glideMinute i f t s.dev = d) : Ends (.glideMinuteRecord i f t) s d :=
    runDev_ends (exec_glideMinuteRecord i f t s) on (decide_eq_true h) hd
  have fit {i resid : Nat} {m : Bytes} {d : Dev} (h : i < 4) (hm : m.length = 36) (hd : glideFit i m resid s.dev = d) :
      Ends (.glideFit i m resid) s d :=
    runDev_ends (exec_glideFit i m resid s) on (by rw [isDpll, decide_eq_true h, hm]; rfl) hd
  have stale {i : Nat} {d : Dev} (h : i < 4) (hd : glideStale i s.dev = d) : Ends (.glideStale i) s d :=
    runDev_ends (exec_glideStale i s) on (decide_eq_true h) hd
  refine ⟨?noMeans, ?mean, ?lost, ?los, fun r v h he hv => los h (refLosEnter_sound hr he hv),
    fun r h hl => clear (by omega) (refLosClear_ends hr h hl), fun r h hl => clear h (refLosClear_idle hl),
    fun r h hh hl => holdoff h (refHoldoff_los hh hl), fun r h hh hl ho => holdoff h (refHoldoff_oor hh hl ho),
    fun r h hh => holdoff h (refHoldoff_idle hh), fun r h hw hm => wtr h (refWtr_restores hw hm), fun r h hw => wtr h (refWtr_idle hw),
    fun i h hf h1 hs hl => locked h (dpllLocked_locks hr hf h1 hs hl), fun i h hi => locked h (dpllLocked_idle hi),
    fun i h hs ht => anchor h (anchorValid_valid hr hs ht), fun i h hi => anchor h (anchorValid_idle hi),
    fun i f t r h hf hz hs hsel hl hu => minute h (glideMinute_takes hr hf hz hs hsel hl hu), fun i f t h hi => minute h (glideMinute_idle hi),
    ?fitted, fun i m resid h hm hi => fit h hm (glideFit_idle hi),
    fun i r q h hf hz hs hsel hx hq hne hqual hg hsoft ha => stale h (glideStale_demotes hr hf hz hs hsel hx hq hne hqual hg hsoft ha),
    fun i h hi => stale h (glideStale_idle hi), ?warm⟩
  case noMeans =>
    refine runDev_ends (exec_refMeasurement [] [] s) on rfl ?_
    rw [refMeasured, List.filter_nil, none_, refMeasurement_dplls hr]
    rfl
  case mean =>
    intro r v h hs
    refine ⟨runDev_ends (exec_refMeasurement [(r, v)] [] s) on rfl ?_, ?_⟩
    · rw [refMeasured, List.filter_nil, none_, refMeasurement_one hr v h hs]
      rfl
    · have mean := measured_takeMean r v s.dev
      exact ⟨congrArg Prod.fst mean, congrArg Prod.snd mean⟩
  case lost =>
    exact fun m hm h1 hf hs hz he => ⟨_, runDev_ends (exec_refMeasurement [] [m] s) on rfl rfl, lockLost_acquires hr hm h1 hf hs hz he⟩
  case los =>
    intro r h he hp
    have lost {d : Dev} (hd : enterBad r 2 s.dev = d) : Ends (.refLos r none) s (showTiming d) :=
      los (by omega) ((refLosEnter_lost hr h he hp).trans (congrArg showTiming hd))
    exact ⟨fun hl ho hq hsel => lost (enterBad_unselected hl ho hq hsel), fun hl ho hq hsel => lost (enterBad_selected hl ho hq hsel),
      fun hq => lost (enterBad_unqualified hq)⟩
  case fitted =>
    exact fun i m resid h hm hf hz hn =>
      ⟨fun ha => fit h hm (glideFit_adopts hr hf hz hn ha), fun ha => fit h hm (glideFit_reports hr hf hz hn ha)⟩
  case warm => exact fun i h => runDev_ends (exec_xoWarmupExpiry i s) on (decide_eq_true h) (if_neg (by rw [hr]; decide))

end Sys2Proof.Proofs
end

section
/-! SUPPORT. Pulse outputs and ALIGN. -/

namespace Sys2Proof.Proofs

open Sys2Proof.Machine Sys2Proof.Laws Sys2Proof.Spec

variable {d : Dev}

/-! ### Pulses (R500) -/

theorem ppsPulse_sent (h : pulseOn d tPps = true) (hs : d.tim.skipPps = false) :
    ppsPulse d = { d with tim := { d.tim with pps := d.tim.pps + 1 } } := by
  rw [ppsPulse, h]
  refine (if_neg (by decide)).trans ?_
  exact congrArg (fun t => { d with tim := t }) (if_neg (Bool.eq_false_iff.mp hs))

theorem ppsPulse_skipped (h : pulseOn d tPps = true) (hs : d.tim.skipPps = true) :
    ppsPulse d = { d with tim := { d.tim with skipPps := false } } := by
  rw [ppsPulse, h]
  refine (if_neg (by decide)).trans ?_
  exact congrArg (fun t => { d with tim := t }) (if_pos hs)

theorem ppsPulse_off (h : pulseOn d tPps = false) : ppsPulse d = d := by
  rw [ppsPulse, h]
  rfl

theorem fpPulse_sent (h : pulseOn d tFp = true) (hs : d.tim.skipFp = false) :
    fpPulse d = { d with tim := { d.tim with fp := d.tim.fp + 1 } } := by
  rw [fpPulse, h]
  refine (if_neg (by decide)).trans ?_
  exact congrArg (fun t => { d with tim := t }) (if_neg (Bool.eq_false_iff.mp hs))

theorem fpPulse_skipped (h : pulseOn d tFp = true) (hs : d.tim.skipFp = true) :
    fpPulse d = { d with tim := { d.tim with skipFp := false } } := by
  rw [fpPulse, h]
  refine (if_neg (by decide)).trans ?_
  exact congrArg (fun t => { d with tim := t }) (if_pos hs)

theorem fpPulse_off (h : pulseOn d tFp = false) : fpPulse d = d := by
  rw [fpPulse, h]
  rfl

/-! ### ALIGN (R501) -/

theorem foldOffset_self {v : Int} (hlo : -500000000 ≤ v) (hhi : v < 500000000) : foldOffset v = v := by
  rw [foldOffset]
  omega

/-- An output takes its new offset, and leaves a pulse out that would come too soon. -/
def offsetTaken (off : Int) (o : Nat) (d : Dev) : Dev :=
  modTim (fun t => { t with
    offset := tset t.offset o off
    skipPps := if o = tPps then tooSoon (outPeriod o (outRec d o)) (tget 0 d.tim.offset o) off else t.skipPps
    skipFp := if o = tFp then tooSoon (outPeriod o (outRec d o)) (tget 0 d.tim.offset o) off else t.skipFp }) d

theorem offsetTaken_pps (off : Int) (d : Dev) : offsetTaken off tPps d = { d with tim := { d.tim with
    offset := tset d.tim.offset tPps off, skipPps := tooSoon (10 ^ 9) (tget 0 d.tim.offset tPps) off } } := by
  have period : outPeriod tPps (outRec d tPps) = 10 ^ 9 := if_neg (by decide)
  rw [offsetTaken, period, modTim]
  rfl

theorem offsetTaken_fp (off : Int) (d : Dev) : offsetTaken off tFp d = { d with tim := { d.tim with
    offset := tset d.tim.offset tFp off, skipFp := tooSoon (outPeriod tFp (outRec d tFp)) (tget 0 d.tim.offset tFp) off } } := by
  rw [offsetTaken, modTim]
  rfl

theorem alignApply_none (v : Int) (hp : d.tim.pend = none) : alignApply v d = d := by rw [alignApply, hp]

section Pending

variable {p : AlignPend} (hp : d.tim.pend = some p)
include hp

theorem alignApply_early (v : Int) (h : now d < p.epoch ∨ now d % 1000 ≠ 0) : alignApply v d = d := by
  rw [alignApply, hp]
  refine if_pos ?_
  rcases h with h | h
  · rw [decide_eq_true h, Bool.or_true, Bool.true_or]
  · rw [bne_iff_ne.mpr h, Bool.or_true]

section Due

variable (hr : domReady d 3 = true) (he : p.epoch ≤ now d) (hn : now d % 1000 = 0)
include hr he hn

theorem alignApply_due (v : Int) : alignApply v d =
    if p.mode = 1 ∧ following d then d
    else if p.lost then alignDone p.target 1 0 { d with tim := { d.tim with pend := none } }
    else if p.mode = 1 ∧ p.edges < 10 then d
    else
      let off := foldOffset (if p.mode = 1 then v + p.offset else p.offset)
      let e := each (if p.target = 0x1A then [tPps, tFp] else [p.target]) (offsetTaken off) { d with tim := { d.tim with pend := none } }
      alignDone p.target 0 off (setRb .timOutStat 16 true (gate (p.mode == 1) (selfCommand 0x0304
        (be 1 p.target ++ zeros 3 ++ zeros 4 ++ be 4 (twos 32 off) ++ be 6 (now e) ++ zeros 2)) e)) := by
  have due : (!domReady d 3 || decide (now d < p.epoch) || now d % 1000 != 0) = false := by
    rw [hr, decide_eq_false (not_lt.mpr he), hn]
    rfl
  rw [alignApply, hp]
  exact if_neg (Bool.eq_false_iff.mp due)

theorem alignApply_follows (v : Int) (h1 : p.mode = 1) (hf : following d = true) : alignApply v d = d :=
  (alignApply_due hp hr he hn v).trans (if_pos ⟨h1, hf⟩)

theorem alignApply_lost (v : Int) (hf : following d = false) (hl : p.lost = true) :
    alignApply v d = alignDone p.target 1 0 { d with tim := { d.tim with pend := none } } :=
  (alignApply_due hp hr he hn v).trans ((if_neg fun h => Bool.eq_false_iff.mp hf h.2).trans (if_pos hl))

theorem alignApply_waits (v : Int) (h1 : p.mode = 1) (hf : following d = false) (hl : p.lost = false) (h10 : p.edges < 10) :
    alignApply v d = d :=
  (alignApply_due hp hr he hn v).trans ((if_neg fun h => Bool.eq_false_iff.mp hf h.2).trans
    ((if_neg (Bool.eq_false_iff.mp hl)).trans (if_pos ⟨h1, h10⟩)))

theorem alignApply_pulse (v : Int) (hf : p.mode = 1 → following d = false) (hl : p.lost = false) (h10 : p.mode = 1 → 10 ≤ p.edges)
    (ht : p.target ≠ 0x1A) : alignApply v d =
      (let off := foldOffset (if p.mode = 1 then v + p.offset else p.offset)
       let e := offsetTaken off p.target { d with tim := { d.tim with pend := none } }
       alignDone p.target 0 off (setRb .timOutStat 16 true (gate (p.mode == 1) (selfCommand 0x0304
         (be 1 p.target ++ zeros 3 ++ zeros 4 ++ be 4 (twos 32 off) ++ be 6 (now e) ++ zeros 2)) e))) := by
  refine (alignApply_due hp hr he hn v).trans ((if_neg fun h => Bool.eq_false_iff.mp (hf h.1) h.2).trans
    ((if_neg (Bool.eq_false_iff.mp hl)).trans ((if_neg fun h => ?_).trans ?_)))
  · have := h10 h.1
    omega
  · dsimp only
    rw [if_neg ht, each_cons, each_nil]

theorem alignApply_measured (v : Int) (h1 : p.mode = 1) (hf : following d = false) (hl : p.lost = false) (h10 : 10 ≤ p.edges)
    (ht : p.target = tPps) : alignApply v d =
      (let off := foldOffset (v + p.offset)
       let e : Dev := { d with tim := { d.tim with
         pend := none, offset := tset d.tim.offset tPps off, skipPps := tooSoon (10 ^ 9) (tget 0 d.tim.offset tPps) off } }
       alignDone tPps 0 off (setRb .timOutStat 16 true (selfCommand 0x0304
         (be 1 tPps ++ zeros 3 ++ zeros 4 ++ be 4 (twos 32 off) ++ be 6 (now d) ++ zeros 2) e))) := by
  rw [alignApply_pulse hp hr he hn v (fun _ => hf) hl (fun _ => h10) (by rw [ht]; decide), ht, h1]
  dsimp only
  rw [if_pos rfl, beq_self_eq_true, gate_true, offsetTaken_pps]
  rfl

section Given

variable (h0 : p.mode = 0) (hl : p.lost = false)
include h0 hl

theorem alignApply_pps (v : Int) (ht : p.target = tPps) : alignApply v d =
    (let off := foldOffset p.offset
     alignDone tPps 0 off (setRb .timOutStat 16 true { d with tim := { d.tim with
       pend := none, offset := tset d.tim.offset tPps off, skipPps := tooSoon (10 ^ 9) (tget 0 d.tim.offset tPps) off } })) := by
  rw [alignApply_pulse hp hr he hn v (fun h => by omega) hl (fun h => by omega) (by rw [ht]; decide), ht, h0]
  dsimp only
  rw [if_neg (show ¬ (0 : Nat) = 1 by decide), show ((0 : Nat) == 1) = false from rfl, gate_false, offsetTaken_pps]

theorem alignApply_fp (v : Int) (ht : p.target = tFp) : alignApply v d =
    (let off := foldOffset p.offset
     alignDone tFp 0 off (setRb .timOutStat 16 true { d with tim := { d.tim with
       pend := none, offset := tset d.tim.offset tFp off
       skipFp := tooSoon (outPeriod tFp (outRec d tFp)) (tget 0 d.tim.offset tFp) off } })) := by
  rw [alignApply_pulse hp hr he hn v (fun h => by omega) hl (fun h => by omega) (by rw [ht]; decide), ht, h0]
  dsimp only
  rw [if_neg (show ¬ (0 : Nat) = 1 by decide), show ((0 : Nat) == 1) = false from rfl, gate_false, offsetTaken_fp]
  rfl

end Given

end Due

end Pending

/-- Settles O56. -/
theorem pulsesFollowTheirAlignment : Obligations.PulsesFollowTheirAlignment := by
  unfold Obligations.PulsesFollowTheirAlignment
  intro s on hr
  have pps {d : Dev} (h : ppsPulse s.dev = d) : Ends .ppsOutPulse s d := runDev_ends (exec_ppsOutPulse s) on rfl h
  have fp {d : Dev} (h : fpPulse s.dev = d) : Ends .fpOutPulse s d := runDev_ends (exec_fpOutPulse s) on rfl h
  have align {v : Int} {d : Dev} (h : alignApply v s.dev = d) : Ends (.alignApply v) s d := runDev_ends (exec_alignApply v s) on rfl h
  refine ⟨fun h hs => pps (ppsPulse_sent h hs), fun h hs => pps (ppsPulse_skipped h hs), fun h => pps (ppsPulse_off h),
    fun h hs => fp (fpPulse_sent h hs), fun h hs => fp (fpPulse_skipped h hs), fun h => fp (fpPulse_off h),
    fun v hp => align (alignApply_none v hp), fun v p hp h => align (alignApply_early hp v h), ?due, fun v => foldOffset_self⟩
  intro v p hp he hn
  exact ⟨fun h1 hf => align (alignApply_follows hp hr he hn v h1 hf), fun hf hl => align (alignApply_lost hp hr he hn v hf hl),
    fun h1 hf hl h10 => align (alignApply_waits hp hr he hn v h1 hf hl h10),
    fun h1 hf hl h10 ht => align (alignApply_measured hp hr he hn v h1 hf hl h10 ht),
    fun h0 hl ht => align (alignApply_pps hp hr he hn h0 hl v ht), fun h0 hl ht => align (alignApply_fp hp hr he hn h0 hl v ht)⟩

end Sys2Proof.Proofs
end

section
/-! SUPPORT. The reset state and the balls. -/

namespace Sys2Proof.Proofs

open Sys2Proof.Machine Sys2Proof.Laws Sys2Proof.Spec

/-! ### Reset (R60, R99) -/

/-- After reset D0 alone is READY. -/
theorem reset_domReady (n : Nat) : domReady State.reset.dev n = decide (n = 0) := by
  cases n with
  | zero => rfl
  | succ n => rfl

/-- Settles O4. -/
theorem resetLeavesTheManualsValues : Obligations.ResetLeavesTheManualsValues := by
  unfold Obligations.ResetLeavesTheManualsValues
  exact ⟨fun _ => rfl, reset_domReady, rfl, rfl, fun _ _ => rfl, rfl, rfl, rfl, rfl, rfl, fun _ => ite_self none, fun _ => rfl, rfl⟩

/-! ### Balls (R48, R49, R52, R56) -/

section Balls

variable {d : Dev}

theorem running_of_held (h : held d = true) : running d = false := by
  rw [running, h]
  rfl

theorem running_of_warm (h : d.pin.warmRstN = false) : running d = false := by rw [running, h, Bool.and_false]

theorem serdesTx_stopped (n : Nat) (h : running d = false) : serdesTx d n = .idle := by
  rw [serdesTx, h]
  rfl

theorem serdesTx_asleep {n : Nat} (h : domReady d n = false) : serdesTx d n = .idle := by
  rw [serdesTx, h, Bool.and_false]
  rfl

theorem ohxBall_stopped (n : Nat) (h : running d = false) : ohxBall d n = .low := by
  rw [ohxBall, h]
  rfl

theorem actBall_stopped (h : running d = false) : actBall d = .hiZ := by
  rw [actBall, h]
  rfl

theorem tokenBall_stopped (h : running d = false) : tokenBall d = .hiZ := by
  rw [tokenBall, h]
  rfl

theorem serdesTerm_warm (n : Nat) (h : held d = false) (hw : d.pin.warmRstN = false) : serdesTerm d n = true := by
  rw [serdesTerm, h, hw]
  rfl

section Held

variable (h : held d = true)
include h

theorem serdesTerm_held (n : Nat) : serdesTerm d n = false := by
  rw [serdesTerm, h]
  rfl

theorem memResetN_held (i : Nat) : memResetN d i = .low := if_pos h

theorem clkOutBall_held (k : Nat) : clkOutBall d k = .hiZ := by
  rw [clkOutBall, h]
  rfl

theorem pulseBall_held (t : Nat) : pulseBall d t = .low := by
  rw [pulseBall, h]
  rfl

theorem tapAnswers_held (k : TapInstr) : tapAnswers d k = false := by
  cases k <;> simp [tapAnswers, h]

theorem pcieTx_held : pcieTx d = .idle := by
  rw [pcieTx, h]
  rfl

theorem mgmtIntBall_held : mgmtIntBall d = .hiZ := by
  rw [mgmtIntBall, h]
  rfl

theorem misoBall_held (b : Bool) : misoBall d b = .hiZ := by
  rw [misoBall, h]
  rfl

theorem tdoBall_held (b : Bool) : tdoBall d b = .hiZ := by
  rw [tdoBall, h]
  rfl

end Held

/-- What self-refresh is kept through (R48). -/
theorem memKept_iff (g : Nat) : memKept d g = true ↔ (dom d (18 + g)).st = .selfRefresh ∨
    ((dom d (18 + g)).untrained = false ∧ ((dom d (18 + g)).st = .deferred ∨ (dom d (18 + g)).st = .ramping)) := by
  simp [memKept]

theorem memResetN_kept {i : Nat} (h : held d = false) (hk : memKept d (i / 4) = true) : memResetN d i = .high :=
  (if_neg (Bool.eq_false_iff.mp h)).trans (if_pos hk)

theorem memCke_kept {i : Nat} (h : held d = false) (hk : memKept d (i / 4) = true) : memCke d i = .selfRefresh :=
  (if_neg (Bool.eq_false_iff.mp h)).trans (if_pos hk)

theorem memResetN_off {i : Nat} (h : (dom d (18 + i / 4)).st = .off) : memResetN d i = .low := by
  have notKept : ¬ memKept d (i / 4) = true := by simp [memKept_iff, h]
  rw [memResetN, if_neg notKept, h]
  exact ite_self _

theorem pcieTx_warm (hw : d.pin.warmRstN = false) (hk : d.boot.keptPcie = false) : pcieTx d = .idle := by
  have down : pcieUp d = false := by
    rw [pcieUp, hw, hk]
    rfl
  rw [pcieTx, down, Bool.and_false]
  rfl

theorem tapAnswers_locked (h : d.nvm.jtagLeft = none) : tapAnswers d .scan = false ∧ tapAnswers d .debug = false := by
  simp [tapAnswers, h]

theorem tapAnswers_bypass (h : held d = false) : tapAnswers d .bypass = true ∧ tapAnswers d .idcode = true := by
  simp [tapAnswers, h]

end Balls

/-- Settles O59. -/
theorem ballsTakeTheStatesOfTheirGroups : Obligations.BallsTakeTheStatesOfTheirGroups := by
  unfold Obligations.BallsTakeTheStatesOfTheirGroups
  intro d
  refine ⟨?held, rfl, ?warm, fun n _ hn => serdesTx_asleep hn, fun i h hk => ⟨memResetN_kept h hk, memCke_kept h hk⟩, memKept_iff,
    fun _ hw hk => pcieTx_warm hw hk, fun i h => memResetN_off h, tapAnswers_bypass, tapAnswers_locked⟩
  case held =>
    intro h
    have stopped := running_of_held h
    exact ⟨fun n k => ⟨serdesTx_stopped n stopped, serdesTerm_held h n, memResetN_held h n, clkOutBall_held h n, pulseBall_held h n,
        ohxBall_stopped n stopped, tapAnswers_held h k⟩, pcieTx_held h, actBall_stopped stopped, tokenBall_stopped stopped,
      mgmtIntBall_held h, fun b => ⟨misoBall_held h b, tdoBall_held h b⟩, if_pos h⟩
  case warm =>
    intro h hw
    have stopped := running_of_warm hw
    exact ⟨fun n => ⟨serdesTx_stopped n stopped, serdesTerm_warm n h hw, ohxBall_stopped n stopped⟩, actBall_stopped stopped,
      tokenBall_stopped stopped, if_neg (Bool.eq_false_iff.mp h)⟩

end Sys2Proof.Proofs
end

section
/-! SUPPORT. Client ports: defects, received frames, ESMC and patterns. -/

namespace Sys2Proof.Proofs

open Sys2Proof.Machine Sys2Proof.Laws Sys2Proof.Spec

/-! ### Defects (R194, R199) -/

section Defect

variable {i : Nat} {d : Dev}

theorem setDefect_changes {b : Nat} {v : Bool} (h : pstat d i b ≠ v) :
    setDefect i b v d = gate (v && decide (b < 4)) (qlFail i 4) (setPort i b v d) := if_neg (by simpa using h)

theorem setDefect_same {b : Nat} {v : Bool} (h : pstat d i b = v) : setDefect i b v d = d := if_pos (by simpa using h)

theorem setDefect_failing {b : Nat} {v : Bool} (hb : b < 4) (h : pstat d i b ≠ v) :
    setDefect i b v d = if v then qlFail i 4 (setPort i b v d) else setPort i b v d := by
  rw [setDefect_changes h, decide_eq_true hb, Bool.and_true, gate]

theorem setDefect_live {b : Nat} {v : Bool} (hb : 4 ≤ b) (h : pstat d i b ≠ v) : setDefect i b v d = setPort i b v d := by
  rw [setDefect_changes h, decide_eq_false (by omega), Bool.and_false, gate_false]

/-- The frames of an OTN client set LOBL where its framer is out of frame (R216, R217). -/
theorem otnFrames_framed {l : List (List FasObs)} {f : Framer} (hm : 2 ≤ cpMode (cpOf d i)) (hl : l ≠ [])
    (hf : l.foldl (otnStep (otuInstances (cpOf d i))) (if pstat d i 0 || pstat d i 1 then {} else (cliOf d i).fr) = f) :
    otnFrames i l d = setDefect i 2 (!f.inFrame) (modCli i (fun c => { c with fr := f }) d) := by
  subst hf
  refine if_neg ?_
  rw [List.isEmpty_eq_false_iff.mpr hl, decide_eq_false (by omega)]
  decide

theorem otnFrames_unframed {l : List (List FasObs)} (h : l = [] ∨ cpMode (cpOf d i) < 2) : otnFrames i l d = d := by
  refine if_pos ?_
  rcases h with rfl | h
  · rfl
  · rw [decide_eq_true h, Bool.or_true]

/-- What a client receives before its defect is judged. -/
def rxTaken (i : Nat) (x : ClientRx) (d : Dev) : Dev := otnFrames i x.frames (x.layers.foldl (fun d x => layerRx x d) d)

section On

variable (on : portOn d i = true)
include on

theorem portOn_passes : ¬ (!portOn d i) = true := by rw [on]; decide

theorem clientLos_sets (v : Bool) : clientLos i v d = setDefect i 0 v d := if_pos on

theorem clientDefect_sets {b : Nat} (v : Bool) (x : ClientRx) (hb : b ∈ [2, 3, 4, 13]) :
    clientDefect i b v x d = setDefect i b v (rxTaken i x d) :=
  (if_neg (portOn_passes on)).trans (if_pos (List.contains_iff_mem.mpr hb))

/-- The defects of R386 that an OTN client alone has are kept apart. -/
theorem clientDefect_otn {b : Nat} (v : Bool) (x : ClientRx) (hlo : 3 ≤ b) (hhi : b < 8) :
    clientDefect i (b + 32) v x d = modCli i (fun c => { c with otn := nputBit c.otn b v }) (rxTaken i x d) := by
  have listed : [3 + 32, 4 + 32, 5 + 32, 6 + 32, 7 + 32, 24 + 32].contains (b + 32) = true := by
    interval_cases b <;> decide
  have apart : ¬ [2, 3, 4, 13].contains (b + 32) = true := by
    interval_cases b <;> decide
  refine (if_neg (portOn_passes on)).trans ((if_neg apart).trans ((if_neg (by omega)).trans ((if_pos listed).trans ?_)))
  rw [Nat.add_sub_cancel]
  rfl

theorem clientFault_noted {lf rf_ : Bool} (hm : cpMode (cpOf d i) = 1) : clientFault i lf rf_ d =
    modCli i (fun c => { c with faultSeen := nputBit (nputBit c.faultSeen 6 lf) 7 rf_ }) d := by
  refine if_neg ?_
  rw [on, hm]
  decide

end On

end Defect

/-! ### Received frames (R185) -/

section Ingress

variable {i ns : Nat} {f : Bytes} {d : Dev}

theorem macFrameRx_looped (h : cpLoop (cpOf d i) = 2) : macFrameRx i f ns d = d := if_pos h

theorem esmcRx_looped (h : cpLoop (cpOf d i) = 2) : esmcRx i f d = d := if_pos h

/-- The octets and the frame are counted. -/
def frameCounted (i : Nat) (f : Bytes) (d : Dev) : Dev :=
  count (10 + i / 16) (ctrClient i 0) 1 (count (10 + i / 16) (ctrClient i 1) f.length d)

section On

variable (on : portOn d i = true) (hm : cpMode (cpOf d i) = 1) (hc : clientFailed d i = false)
include on hm hc

theorem ingress_open : ¬ (!portOn d i || cpMode (cpOf d i) != 1 || clientFailed d i) = true := by
  rw [on, hm, hc]
  decide

theorem macIngress_short (h : f.length < 64) : macIngress i f ns d = count (10 + i / 16) (ctrClient i 4) 1 (frameCounted i f d) :=
  (if_neg (ingress_open on hm hc)).trans (if_pos h)

theorem macIngress_long (h : 64 ≤ f.length) (h' : cpMaxFrame (cpOf d i) < f.length) :
    macIngress i f ns d = count (10 + i / 16) (ctrClient i 5) 1 (frameCounted i f d) :=
  (if_neg (ingress_open on hm hc)).trans ((if_neg (by omega)).trans (if_pos h'))

section Good

variable (h : 64 ≤ f.length) (h' : f.length ≤ cpMaxFrame (cpOf d i)) (hg : fcsGood f = true)
include h h' hg

theorem macIngress_esmc (he : isEsmc f = true) : macIngress i f ns d = frameCounted i f d := by
  refine (if_neg (ingress_open on hm hc)).trans ((if_neg (by omega)).trans ((if_neg (by omega)).trans ?_))
  rw [hg, he]
  rfl

theorem macIngress_admits {flow : Nat} (he : isEsmc f = false) (hr : domReady d (14 + i / 16) = true)
    (hf : classify (count (14 + i / 16) (ctrSlice (i / 16) 0) 1 (frameCounted i f d)) (i / 16) (i % 16) f = some flow) :
    macIngress i f ns d = admitFrame i flow false (now d * 1000000 + ns) f
      (count (14 + i / 16) (ctrSlice (i / 16) 0) 1 (frameCounted i f d)) := by
  have ready : domReady (frameCounted i f d) (14 + i / 16) = true := by
    rw [frameCounted, domReady, dom, (count_records _ _ _ _).pwr, (count_records _ _ _ _).pwr]
    exact hr
  have clock : now (count (14 + i / 16) (ctrSlice (i / 16) 0) 1 (frameCounted i f d)) = now d := by
    rw [frameCounted, now, (count_records _ _ _ _).epoch, (count_records _ _ _ _).epoch, (count_records _ _ _ _).epoch]
    rfl
  refine (if_neg (ingress_open on hm hc)).trans ((if_neg (by omega)).trans ((if_neg (by omega)).trans ?_))
  rw [hg, he]
  refine (if_neg Bool.false_ne_true).trans ((if_neg (by rw [Bool.not_true, gate_false, ← frameCounted, ready]; decide)).trans ?_)
  rw [Bool.not_true, gate_false, ← frameCounted]
  dsimp only
  rw [hf]
  dsimp only
  rw [clock]

end Good

end On

end Ingress

/-! ### ESMC (R198 to R200) -/

section Records

/-- An event leaves the host-assisted functions as they are. -/
theorem raiseInt_asst (k : Nat) (d : Dev) : (raiseInt k d).asst = d.asst := by
  rw [raiseInt, gate_keeps Dev.asst (f := msixPf1 1) fun _ => rfl, gate_keeps Dev.asst (f := msixPf1 0) fun _ => rfl,
    gate_keeps Dev.asst (f := msixPf0 k) fun _ => rfl, setRb_asst]

theorem postEvents_asst (d : Dev) : (postEvents d).asst = d.asst := by
  rw [postEvents]
  split
  · rfl
  split
  · exact raiseInt_asst 0 _
  · rfl

theorem stageEvt_asst (e : EvtRec) (d : Dev) : (stageEvt e d).asst = d.asst := by
  rw [stageEvt]
  split
  · rfl
  split
  · rfl
  · exact gate_keeps Dev.asst postEvents_asst _ _

theorem postEvt_asst (ty src inst obj : Nat) (detail : Bytes) (d : Dev) : (postEvt ty src inst obj detail d).asst = d.asst :=
  stageEvt_asst _ _

theorem count_asst (dm n k : Nat) (d : Dev) : (count dm n k d).asst = d.asst := by
  rw [count]
  dsimp only
  split
  · rfl
  split
  · rfl
  split
  · rfl
  · exact postEvt_asst _ _ _ _ _ _

theorem setLive_asst (r : Reg) (off b : Nat) (v : Bool) (d : Dev) : (setLive r off b v d).asst = d.asst :=
  gate_keeps Dev.asst (f := setRb r (b + off) true) (fun _ => rfl) _ _

theorem setPort_asst (i b : Nat) (v : Bool) (d : Dev) : (setPort i b v d).asst = d.asst := by
  rw [setPort]
  split
  · rfl
  · exact (postEvt_asst _ _ _ _ _ _).trans (setLive_asst _ _ _ _ _)

theorem setPort_prov (i b : Nat) (v : Bool) (d : Dev) : (setPort i b v d).prov = d.prov := by
  rw [setPort]
  split
  · rfl
  · exact (postEvt_records _ _ _ _ _ _).prov.trans (setLive_records _ _ _ _ _).prov

theorem count_prov (dm n k : Nat) (d : Dev) : (count dm n k d).prov = d.prov := (count_records dm n k d).prov

theorem cpOf_of_prov {d e : Dev} (h : e.prov = d.prov) (i : Nat) : cpOf e i = cpOf d i := by rw [cpOf, servRec, serv, h]; rfl

end Records

section Esmc

variable {i : Nat} {d : Dev}

/-- A valid PDU is counted and ends ESMC_TMO. -/
def pduCounted (i : Nat) (d : Dev) : Dev :=
  setPort i 11 false (count (10 + i / 16) (ctrClient i 8) 1 (modCli i (fun c => { c with pdus := c.pdus + 1 }) d))

theorem pduCounted_prov : (pduCounted i d).prov = d.prov := (setPort_prov _ _ _ _).trans (count_prov _ _ _ _)
theorem pduCounted_asst : (pduCounted i d).asst = d.asst := (setPort_asst _ _ _ _).trans (count_asst _ _ _ _)

section On

variable (on : portOn d i = true) (hen : cpEsmc (cpOf d i) = true)
include on hen

theorem esmcTimeout_fails : esmcTimeout i d = qlFail i 2 (setPort i 11 true d) := by
  refine if_neg ?_
  rw [on, hen]
  decide

theorem esmcParse_sets {f : Bytes} {q : Ql} (hc : clientFailed d i = false) (he : isEsmc f = true) (hg : fcsGood f = true)
    (hq : esmcQl f = some q) (ha : assisted d 9 i = false) (hz : isFrozen d 9 i = false) :
    esmcParse i f d = setQl i q (pduCounted i d) := by
  have hardware : assisted (pduCounted i d) 9 i = false := by rw [assisted, pduCounted_prov]; exact ha
  have thawed : isFrozen (pduCounted i d) 9 i = false := by rw [isFrozen, pduCounted_asst]; exact hz
  rw [esmcParse, on, hen, hc, he, hg]
  refine (if_neg (by decide)).trans ?_
  rw [hq]
  dsimp only
  rw [← pduCounted]
  exact (if_neg (by rw [hardware]; decide)).trans (if_neg (by rw [thawed]; decide))

end On

end Esmc

/-! ### Patterns (R201) -/

section Pattern

variable {k j i : Nat} {d : Dev}

/-- The errored bits of a lane count while its checker is locked. -/
def errsCounted (k j errs : Nat) (d : Dev) : Dev := if rb d (.cliLstat k j) 3 then satCtr (.cliPrbsCnt k j) 31 0 errs d else d

theorem errsCounted_lock (errs : Nat) : rb (errsCounted k j errs d) (.cliLstat k j) 3 = rb d (.cliLstat k j) 3 := by
  have apart : Reg.cliLstat k j ≠ .cliPrbsCnt k j := nofun
  rw [errsCounted]
  split
  · exact rb_of_reg (reg_setRf_ne apart 31 0 _ d) 3
  · rfl

theorem prbsLock_checks {v : Bool} {errs : Nat} (up : clientOn d k = true) (ho : laneOwner d k j = some i) (hp : cpPatRx (cpOf d i) ≠ 0) :
    prbsLock k j v errs d = if rb d (.cliLstat k j) 3 = v then errsCounted k j errs d
      else evtCli 0x0606 k i (be 1 j) (setRb (.cliLstat k j) 3 v (errsCounted k j errs d)) := by
  rw [prbsLock, ho, up]
  refine (if_neg (by simpa using hp)).trans ?_
  dsimp only
  rw [gate, ← errsCounted, errsCounted_lock]
  simp only [beq_iff_eq]

end Pattern

end Sys2Proof.Proofs
end

section
/-! SUPPORT. Frames that a client port sends. -/

namespace Sys2Proof.Proofs

open Sys2Proof.Machine Sys2Proof.Laws Sys2Proof.Spec

/-! ### What reading a queue leaves -/

theorem evtQm_prov (ty n obj : Nat) (detail : Bytes) (d : Dev) : (evtQm ty n obj detail d).prov = d.prov := (postEvt_records _ _ _ _ _ _).prov

theorem evtPwr_prov (ty obj : Nat) (detail : Bytes) (d : Dev) : (evtPwr ty obj detail d).prov = d.prov := (postEvt_records _ _ _ _ _ _).prov

theorem admitDom_prov (rank n : Nat) (d : Dev) : (admitDom rank n d).prov = d.prov := by
  rw [admitDom]
  split
  · rfl
  · exact gate_keeps Dev.prov (f := setRail _ true) (fun _ => rfl) _ _

theorem decide1_prov (exempt : Bool) (rank n : Nat) (d : Dev) : (decide1 exempt rank n d).prov = d.prov := by
  rw [decide1]
  dsimp only
  split
  · rfl
  split
  · exact (gate_keeps Dev.prov (evtPwr_prov _ _ _) _ _).trans (each_keeps Dev.prov (admitDom_prov _) _ _)
  · exact (gate_keeps Dev.prov (fun _ => (raiseInt_records 11 _).prov.trans (evtPwr_prov _ _ _ _)) _ _).trans
      (each_keeps Dev.prov (fun k d => modDom_prov k _ d) _ _)

theorem requestOne_prov (rank n : Nat) (d : Dev) : (requestOne rank n d).prov = d.prov := by
  rw [requestOne]
  split
  · rfl
  split
  · rfl
  split
  · rfl
  · rfl
  · rfl
  · split
    · exact decide1_prov _ _ _ _
    · rfl
  · exact decide1_prov _ _ _ _
  · exact decide1_prov _ _ _ _
  · exact decide1_prov _ _ _ _

theorem requestWake_prov (rank n : Nat) (d : Dev) : (requestWake rank n d).prov = d.prov := by
  rw [requestWake, requestOne_prov, each_keeps Dev.prov fun _ _ => requestOne_prov _ _ _, each_keeps Dev.prov fun _ _ => requestOne_prov _ _ _,
    each_keeps Dev.prov fun _ _ => requestOne_prov _ _ _]

theorem spillPressure_prov (n : Nat) (d : Dev) : (spillPressure n d).prov = d.prov := by
  rw [spillPressure]
  split
  · exact requestWake_prov _ _ _
  · rfl

theorem spreadBursts_prov (ev k : Nat) (l : List Nat) (d : Dev) : (spreadBursts ev k l d).prov = d.prov := by
  induction l generalizing k d with
  | nil => rfl
  | cons i l ih =>
    cases l with
    | nil => exact count_prov _ _ _ _
    | cons j l => exact (ih _ _).trans (count_prov _ _ _ _)

theorem askBlocks_prov (n : Nat) (eg : Bool) (i k : Nat) (d : Dev) : (askBlocks n eg i k d).prov = d.prov := by
  induction k generalizing d with
  | zero => rfl
  | succ k ih =>
    rw [askBlocks]
    dsimp only
    split
    · split
      · exact ih _
      split
      · exact spillPressure_prov _ _
      split
      · rfl
      · exact (ih _).trans (spreadBursts_prov _ _ _ _)
    · rfl

theorem updWm_prov (n space i : Nat) (d : Dev) : (updWm n space i d).prov = d.prov := by
  rw [updWm]
  dsimp only
  split
  · exact gate_keeps Dev.prov (fun _ => evtQm_prov _ _ _ _ _) _ _
  · rfl

theorem updPools_prov (n : Nat) (d : Dev) : (updPools n d).prov = d.prov := by
  have posted (c : Bool) (b : Bytes) (d : Dev) : (gate c (evtQm 0x090A n n b) d).prov = d.prov :=
    gate_keeps Dev.prov (fun _ => evtQm_prov _ _ _ _ _) _ _
  rw [updPools, modPsl_prov, posted, posted, posted, each_keeps Dev.prov (updWm_prov n 3)]

theorem updLevels_prov (n : Nat) (eg : Bool) (i : Nat) (d : Dev) : (updLevels n eg i d).prov = d.prov := by
  cases eg <;> exact (updPools_prov _ _).trans (updWm_prov _ _ _ _)

theorem countLost_prov (n : Nat) (eg : Bool) (i k : Nat) (d : Dev) : (countLost n eg i k d).prov = d.prov := by
  cases eg
  · exact count_prov _ _ _ _
  · rfl

theorem settleQueue_prov (n : Nat) (eg : Bool) (i : Nat) (d : Dev) : (settleQueue n eg i d).prov = d.prov := by
  rw [settleQueue, gate_keeps Dev.prov (countLost_prov n eg i _)]
  rfl

/-- Reading a queue leaves the tables as they are. -/
theorem afterRead_prov (n : Nat) (eg : Bool) (i : Nat) (d : Dev) : (afterRead n eg i d).prov = d.prov := by
  rw [afterRead, refillQueue, gate_keeps Dev.prov (askBlocks_prov n eg i _), updLevels_prov, settleQueue_prov]
  rfl

/-! ### A frame leaves the MAC (R200, R202) -/

section Sent

variable {i : Nat} {d : Dev}

/-- A frame has left the MAC of a port. -/
def macGone (i : Nat) (b : Bytes) (d : Dev) : Dev :=
  count (10 + i / 16) (ctrClient i 2) 1 (count (10 + i / 16) (ctrClient i 3) b.length (modCli i (fun c => { c with sent := b }) d))

theorem macGone_prov (i : Nat) (b : Bytes) (d : Dev) : (macGone i b d).prov = d.prov := (count_prov _ _ _ _).trans (count_prov _ _ _ _)

/-- A sent frame that a DEVICE loopback makes ingress, ns into the epoch. -/
def loopedBack (i : Nat) (b : Bytes) (ns : Nat) (e : Dev) : Dev := macIngress i b ns (esmcParse i b e)

/-- The time of the ingress is that of the next stamp after the counting. -/
theorem macSend_eq (b : Bytes) {l : Nat} (hl : cpLoop (cpOf d i) = l) : macSend i b d =
    if l = 2 then loopedBack i b (Config.freeNs (macGone i b d).time.stamps % 1000000) (macGone i b d) else macGone i b d := by
  have loop : cpLoop (cpOf (macGone i b d) i) = l := by rw [cpOf_of_prov (macGone_prov i b d), hl]
  rw [macSend, ← macGone, loop, gate]
  simp only [beq_iff_eq]
  rfl

/-! ### The MAC sends (R319, R326) -/

theorem egressClass_highest {n p k : Nat} {x : QFrame} (hk : k < 8) (hx : qReadable (egQ d n (p * 8 + k)) = some x)
    (hi : ∀ j, k < j → j < 8 → qReadable (egQ d n (p * 8 + j)) = none) : egressClass d n p = some k := by
  refine List.find?_eq_some_iff_append.mpr ⟨by rw [hx]; rfl, (List.range (7 - k)).map (7 - ·), (List.range k).map (k - 1 - ·), ?_, ?_⟩
  · interval_cases k <;> rfl
  · intro j hj
    obtain ⟨m, hm, rfl⟩ := List.mem_map.mp hj
    rw [hi _ (by have := List.mem_range.mp hm; omega) (by omega)]
    rfl

theorem egressClass_none {n p : Nat} (h : ∀ j, j < 8 → qReadable (egQ d n (p * 8 + j)) = none) : egressClass d n p = none := by
  refine List.find?_eq_none.mpr fun j hj => ?_
  obtain ⟨m, -, rfl⟩ := List.mem_map.mp hj
  rw [h _ (by omega)]
  decide

/-- The frame at the head of an egress queue has been read. -/
def egressRead (n j : Nat) (d : Dev) : Dev :=
  count (14 + n) (ctrEgq (n * 128 + j) 0) 1 (afterRead n true j (modQueue n true j qRead d))

theorem egressRead_prov (n j : Nat) (d : Dev) : (egressRead n j d).prov = d.prov := (count_prov _ _ _ _).trans (afterRead_prov _ _ _ _)

/-- An information PDU of level q is counted and noted as sent. -/
def pduNoted (i : Nat) (q : Ql) (d : Dev) : Dev := count (10 + i / 16) (ctrClient i 10) 1 (modCli i (fun c => { c with lastTx := some q }) d)

theorem pduNoted_prov (i : Nat) (q : Ql) (d : Dev) : (pduNoted i q d).prov = d.prov := count_prov _ _ _ _

section On

variable (on : portOn d i = true) (hm : cpMode (cpOf d i) = 1) (hs : (cliOf d i).txSig = 0)
include on hm hs

section Egress

variable (hr : domReady d (14 + i / 16) = true)
include hr

theorem egress_open :
    ¬ (!portOn d i || cpMode (cpOf d i) != 1 || !domReady d (14 + i / 16) || (cliOf d i).txSig != 0) = true := by
  rw [on, hm, hs, hr]
  decide

theorem egressTx_stalls (h : ∀ j, j < 8 → qReadable (egQ d (i / 16) (i % 16 * 8 + j)) = none) :
    egressTx i d = count (14 + i / 16) (ctrSlice (i / 16) 4) 1 d := by
  refine (if_neg (egress_open on hm hs hr)).trans ?_
  rw [egressClass_none h]

theorem egressTx_sends {k : Nat} {x : QFrame} (hk : k < 8) (hx : qReadable (egQ d (i / 16) (i % 16 * 8 + k)) = some x)
    (hi : ∀ j, k < j → j < 8 → qReadable (egQ d (i / 16) (i % 16 * 8 + j)) = none) :
    egressTx i d = macSend i x.bytes (egressRead (i / 16) (i % 16 * 8 + k) d) := by
  refine (if_neg (egress_open on hm hs hr)).trans ?_
  rw [egressClass_highest hk hx hi]
  dsimp only
  rw [hx]
  rfl

end Egress

theorem esmcInfo_sends (hen : cpEsmc (cpOf d i) = true) (hr : domReady d 3 = true) (hd : (cliOf d i).eventDue = false) :
    esmcInfo i d = macSend i (esmcPdu (esmcLevel d i) false) (pduNoted i (esmcLevel d i) d) := by
  rw [esmcInfo, hd, gate_false, esmcSend, on, hm, hen, hr, hs]
  refine (if_neg (by decide)).trans ?_
  simp only [Bool.not_false, Bool.and_true]
  rfl

end On

end Sent

end Sys2Proof.Proofs
end

section
/-! SUPPORT. What the statement on client ports turns on: the time of a frame that a DEVICE loopback makes ingress. -/

namespace Sys2Proof.Proofs

open Sys2Proof.Machine Sys2Proof.Laws Sys2Proof.Spec

/-! ### With one time for all stamps -/

/-- No settlement of O39, but all of it under one hypothesis: it holds if every stamp has the same sub-epoch time. `Config.freeNs` has no
body (log entry 4), so nothing proves the hypothesis and nothing refutes it. -/
theorem clientPortsReceiveAndSend_of_oneTime (time : ∀ m n, Config.freeNs m % 1000000 = Config.freeNs n % 1000000) :
    Obligations.ClientPortsReceiveAndSend := by
  unfold Obligations.ClientPortsReceiveAndSend
  intro s i on hi up
  have port : isClient i = true := decide_eq_true hi
  have sent (b : Bytes) {d : Dev} (hp : d.prov = s.dev.prov) : macSend i b d = if cpLoop (cpOf s.dev i) = 2
      then loopedBack i b (Config.freeNs s.dev.time.stamps % 1000000) (macGone i b d) else macGone i b d := by
    rw [macSend_eq b (congrArg cpLoop (cpOf_of_prov hp i)), time]
  refine ⟨?los, ?sameLos, ?defect, ?frames, ?fault, ?looped, ?received, ?pdu, ?timeout, ?info, ?pattern, ?sends, ?stalls⟩
  case los =>
    intro v h
    exact runDev_settles (exec_clientLosChange i v s) on port ((clientLos_sets up v).trans (setDefect_failing (by omega) h))
  case sameLos =>
    intro v h
    exact runDev_settles (exec_clientLosChange i v s) on port ((clientLos_sets up v).trans (setDefect_same h))
  case defect =>
    intro b v x
    have fits {k : Nat} (hk : k < 64) : (isClient i && decide (k < 64)) = true := by rw [port, decide_eq_true hk]; rfl
    refine ⟨fun hb h => ?_, fun hb h => ?_, fun hlo hhi => ?_⟩
    · exact runDev_settles (exec_clientDefectChange i b v x s) on (fits (by omega))
        ((clientDefect_sets up v x (by rcases hb with rfl | rfl <;> decide)).trans (setDefect_failing (by omega) h))
    · exact runDev_settles (exec_clientDefectChange i b v x s) on (fits (by omega))
        ((clientDefect_sets up v x (by rcases hb with rfl | rfl <;> decide)).trans (setDefect_live (by omega) h))
    · exact runDev_settles (exec_clientDefectChange i (b + 32) v x s) on (fits (by omega)) (clientDefect_otn up v x hlo hhi)
  case frames =>
    intro l
    refine ⟨otnFrames_unframed (.inl rfl), fun h => otnFrames_unframed (.inr h), fun hm hl => ?_⟩
    dsimp only
    rw [otnFrames_framed hm hl rfl]
    generalize List.foldl _ _ l = f
    split
    next h => exact setDefect_same h
    next h =>
      rw [setDefect_failing (by omega) h]
      cases f.inFrame <;> rfl
  case fault => exact fun lf rf_ hm => runDev_settles (exec_clientFaultRx i lf rf_ s) on port (clientFault_noted up hm)
  case looped =>
    intro hl f ns hns
    exact ⟨runDev_ends (exec_macFrameRx i f ns s) on (by rw [port, isNs, decide_eq_true hns]; rfl) (macFrameRx_looped hl),
      runDev_settles (exec_esmcPduRx i f s) on port (esmcRx_looped hl)⟩
  case received =>
    intro f ns hns hl hm hc
    have takes {d : Dev} (h : macIngress i f ns s.dev = d) : Ends (.macFrameRx i f ns) s d :=
      runDev_ends (exec_macFrameRx i f ns s) on (by rw [port, isNs, decide_eq_true hns]; rfl) ((if_neg hl).trans h)
    exact ⟨fun h => takes (macIngress_short up hm hc h), fun h h' => takes (macIngress_long up hm hc h h'),
      fun h h' hg he => takes (macIngress_esmc up hm hc h h' hg he),
      fun h h' hg he hr flow hf => takes (macIngress_admits up hm hc h h' hg he hr hf)⟩
  case pdu =>
    intro f q hl hen hc he hg hq ha hz
    exact ⟨_, runDev_settles (exec_esmcPduRx i f s) on port ((if_neg hl).trans (esmcParse_sets up hen hc he hg hq ha hz)), rfl⟩
  case timeout => exact fun hen => runDev_settles (exec_esmcTimeout i s) on port (esmcTimeout_fails up hen)
  case info =>
    intro hm hen hr hs hd
    exact runDev_ends (exec_esmcInfoPduTx i s) on port ((esmcInfo_sends up hm hs hen hr hd).trans (sent _ (pduNoted_prov _ _ _)))
  case pattern =>
    intro k j v errs hk hj ho hs hp
    have fits : (isSlice k && isLane false j) = true := by rw [isSlice, isLane, decide_eq_true hk, if_neg Bool.false_ne_true, decide_eq_true hj]; rfl
    have running : clientOn s.dev k = true := by rw [clientOn, decide_eq_true (show k ≤ 3 by omega), ← hs, (portOn_listed up).2]; rfl
    exact ⟨fun h => runDev_ends (exec_prbsCheckerLock k j v errs s) on fits ((prbsLock_checks running ho hp).trans (if_pos h)),
      fun h => runDev_ends (exec_prbsCheckerLock k j v errs s) on fits ((prbsLock_checks running ho hp).trans (if_neg h))⟩
  case sends =>
    intro k x hm hr hs hk hx hnone
    exact runDev_ends (exec_egressFrameTx i s) on port ((egressTx_sends up hm hs hr hk hx hnone).trans (sent _ (egressRead_prov _ _ _)))
  case stalls => exact fun hm hr hs h => runDev_ends (exec_egressFrameTx i s) on port (egressTx_stalls up hm hs hr h)

/-! ### A policed frame shows its time (R280) -/

/-- A policer's buckets as they stand after a frame. -/
def bucketSet (f : Nat) (x : Bucket) (d : Dev) : Dev := modPsl (ctxSlice f) (fun s => { s with buckets := tset s.buckets f x }) d

theorem bucketSet_reads (f : Nat) (x : Bucket) (d : Dev) : tfind (psl (bucketSet f x d) (ctxSlice f)).buckets f = some x := by
  rw [bucketSet, psl_modPsl, if_pos rfl, tfind_tset, if_pos rfl]

theorem settleVerdict_own {d : Dev} (i own : Nat) (h : following d = false) :
    ∃ m, settleVerdict i own d = (own, { d with mate := m }) := by
  obtain ⟨m, hm⟩ := fwd_eq kAdmit i (tget (0, []) d.mate.admission i).1 (be 1 1 ++ be 1 (own * 64) ++ zeros 36) d
  rw [settleVerdict, h, Bool.false_and, if_neg Bool.false_ne_true]
  dsimp only
  rw [hm]
  exact ⟨_, rfl⟩

section Policed

variable {f l t : Nat} {r : Bytes} {d : Dev} (hr : serv d 5 f = some r) (hp : flPolice (flowRec d f) = true)
  (hb : tfind (psl d (ctxSlice f)).buckets f = none) (h0 : plTwoRate r = false) (hc : plCbs r = 0)
include hr hp hb h0 hc

/-- A bucket without room lets no frame through. -/
theorem police_red (hl : 0 < plBytes r l) : police f l t d = (2, bucketSet f (fillBucket r none t) d) := by
  have red : policeOn r (fillBucket r none t) l = (2, fillBucket r none t) := by
    rw [policeOn, h0, fillBucket, hc]
    exact (if_pos rfl).trans (if_neg (by dsimp only; omega))
  rw [police, hr]
  refine (if_neg (by rw [hp]; decide)).trans ?_
  dsimp only
  rw [hb, red]
  rfl

theorem admitFrame_red {i : Nat} {b : Bytes} (hl : 0 < plBytes r b.length) (hm : flMode (flowRec d f) ≠ 2) (hf : following d = false) :
    tfind (psl (admitFrame i f false t b d) (ctxSlice f)).buckets f = some (fillBucket r none t) := by
  obtain ⟨m, settled⟩ := settleVerdict_own (d := bucketSet f (fillBucket r none t) d) i 2 hf
  have learnt : learn f b d = d := if_pos (.inl hm)
  have admitted : admitFrame i f false t b d = countFlow f 2 1 { bucketSet f (fillBucket r none t) d with mate := m } := by
    rw [admitFrame]
    refine (if_neg Bool.false_ne_true).trans ?_
    rw [gate_false]
    dsimp only
    rw [learnt, police_red hr hp hb h0 hc hl]
    dsimp only
    rw [if_pos rfl, settled]
    exact if_pos rfl
  rw [admitted]
  exact bucketSet_reads f (fillBucket r none t) d

/-- The bucket of a looped frame's flow holds the frame's time. -/
theorem loopedBack_red {i ns : Nat} {b : Bytes} {e : Dev} (on : portOn e i = true) (mode : cpMode (cpOf e i) = 1)
    (sound : clientFailed e i = false) (hmin : 64 ≤ b.length) (hmax : b.length ≤ cpMaxFrame (cpOf e i)) (hg : fcsGood b = true)
    (he : isEsmc b = false) (ready : domReady e (14 + i / 16) = true)
    (entered : count (14 + i / 16) (ctrSlice (i / 16) 0) 1 (frameCounted i b e) = d)
    (flow : classify d (i / 16) (i % 16) b = some f) (hl : 0 < plBytes r b.length) (hm : flMode (flowRec d f) ≠ 2)
    (hf : following d = false) :
    tfind (psl (loopedBack i b ns e) (ctxSlice f)).buckets f = some (fillBucket r none (now e * 1000000 + ns)) := by
  subst entered
  have parsed : esmcParse i b e = e := if_pos (by rw [he]; simp)
  rw [loopedBack, parsed, macIngress_admits on mode sound hmin hmax hg he ready flow]
  exact admitFrame_red hr hp hb h0 hc hl hm hf

end Policed

/-! ### A port in DEVICE loopback whose frame counter wraps as it sends -/

/-- 60 octets and their FCS. -/
def shortFrame : Bytes := zeros 60 ++ fcsOf (zeros 60)

/-- A PACKET port in DEVICE loopback, a policed flow of all its frames, and a policer without a burst. -/
def loopedRecords : Tbl Bytes :=
  [(okey 1 0, [1, 1, 0, 0, 0xFF, 0xFF] ++ be 2 1518 ++ [0, 0, 2] ++ zeros 21), (okey 4 0, [0, 0, 0, 0x40] ++ zeros 52), (okey 5 0, zeros 24)]

/-- Every domain is READY, and a frame waits at port 0, whose counter of sent frames stands at its last value. -/
@[irreducible] def loopedDev : Dev where
  pin := { porN := true }
  pwr := { doms := (List.range 24).map fun n => (n, { st := .ready }) }
  regs := [(.cliLstat 0 0, 4)]
  prov := { serv := loopedRecords }
  pctr := { ctr := [(ctrClient 0 2, { v := 2 ^ 48 - 1 })] }
  pkt := { slice := [(0, { egq := [(7, { unread := [{ bytes := shortFrame }] })] })] }

/-- The device as the frame has left the MAC, and as it is classified on its way in. -/
@[irreducible] def loopedSent : Dev := macGone 0 shortFrame (egressRead (0 / 16) (0 % 16 * 8 + 7) loopedDev)
@[irreducible] def loopedIn : Dev := count (14 + 0 / 16) (ctrSlice (0 / 16) 0) 1 (frameCounted 0 shortFrame loopedSent)

theorem shortFrame_good : 64 ≤ shortFrame.length ∧ fcsGood shortFrame = true ∧ isEsmc shortFrame = false := by decide +kernel

theorem loopedDev_sends : powered loopedDev = true ∧ portOn loopedDev 0 = true ∧ cpMode (cpOf loopedDev 0) = 1 ∧
    cpLoop (cpOf loopedDev 0) = 2 ∧ domReady loopedDev (14 + 0 / 16) = true ∧ (cliOf loopedDev 0).txSig = 0 ∧
    qReadable (egQ loopedDev (0 / 16) (0 % 16 * 8 + 7)) = some { bytes := shortFrame } := by decide +kernel

theorem loopedSent_receives : portOn loopedSent 0 = true ∧ cpMode (cpOf loopedSent 0) = 1 ∧ clientFailed loopedSent 0 = false ∧
    shortFrame.length ≤ cpMaxFrame (cpOf loopedSent 0) ∧ domReady loopedSent (14 + 0 / 16) = true := by decide +kernel

theorem loopedIn_polices : classify loopedIn (0 / 16) (0 % 16) shortFrame = some 0 ∧ serv loopedIn 5 0 = some (zeros 24) ∧
    flPolice (flowRec loopedIn 0) = true ∧ flMode (flowRec loopedIn 0) ≠ 2 ∧ tfind (psl loopedIn (ctxSlice 0)).buckets 0 = none ∧
    following loopedIn = false := by decide +kernel

theorem zeros_police : plTwoRate (zeros 24) = false ∧ plCbs (zeros 24) = 0 ∧ 0 < plBytes (zeros 24) shortFrame.length := by decide +kernel

/-- The wrap posts an event, which takes stamp 0 (R522). -/
theorem loopedDev_stamps : loopedDev.time.stamps = 0 ∧ loopedSent.time.stamps = 1 := by decide +kernel

theorem loopedSent_bucket (ns : Nat) : tfind (psl (loopedBack 0 shortFrame ns loopedSent) (ctxSlice 0)).buckets 0 =
    some (fillBucket (zeros 24) none (now loopedSent * 1000000 + ns)) := by
  obtain ⟨hmin, hg, he⟩ := shortFrame_good
  obtain ⟨on, mode, sound, hmax, ready⟩ := loopedSent_receives
  obtain ⟨flow, policer, policed, hm, fresh, alone⟩ := loopedIn_polices
  obtain ⟨oneRate, burst, bytes⟩ := zeros_police
  exact loopedBack_red policer policed fresh oneRate burst on mode sound hmin hmax hg he ready (by rw [loopedIn]) flow bytes hm alone

theorem ends_unique {c : Instr} {s : State} {d e : Dev} (h : Ends c s d) (k : Ends c s e) : d = e := by
  have same := h.symm.trans k
  injection same with same
  exact congrArg State.dev same

/-- O39 gives a looped frame the time of the stamp before the sending, the model that of the stamp after it. -/
theorem loopedBack_of_clientPortsReceiveAndSend (h : Obligations.ClientPortsReceiveAndSend) {i k : Nat} {x : QFrame} {d e : Dev}
    (on : powered d = true) (hi : i < 64) (up : portOn d i = true) (hm : cpMode (cpOf d i) = 1) (hl : cpLoop (cpOf d i) = 2)
    (hr : domReady d (14 + i / 16) = true) (hs : (cliOf d i).txSig = 0) (hk : k < 8)
    (hx : qReadable (egQ d (i / 16) (i % 16 * 8 + k)) = some x)
    (top : ∀ j, k < j → j < 8 → qReadable (egQ d (i / 16) (i % 16 * 8 + j)) = none)
    (he : macGone i x.bytes (egressRead (i / 16) (i % 16 * 8 + k) d) = e) :
    loopedBack i x.bytes (Config.freeNs d.time.stamps % 1000000) e = loopedBack i x.bytes (Config.freeNs e.time.stamps % 1000000) e := by
  subst he
  obtain ⟨-, -, -, -, -, -, -, -, -, -, -, sends, -⟩ := h { dev := d } i on hi up
  have stated := sends k x hm hr hs hk hx top
  dsimp only at stated
  rw [if_pos hl] at stated
  have loop := congrArg cpLoop (cpOf_of_prov (egressRead_prov (i / 16) (i % 16 * 8 + k) d) i)
  have sent := (egressTx_sends up hm hs hr hk hx top).trans ((macSend_eq x.bytes (loop.trans hl)).trans (if_pos rfl))
  have done : Ends (.egressFrameTx i) { dev := d } _ := runDev_ends (exec_egressFrameTx i _) on (decide_eq_true hi) sent
  exact ends_unique stated done

/-- No settlement of O39, but what it demands: the wrap of a counter posts an event between the two stamps, and the policer's bucket shows
which of them timed the frame, so the first two stamps would have one sub-epoch time. With that time left open, O39 is neither
provable nor refutable. -/
theorem stampTimes_eq_of_clientPortsReceiveAndSend (h : Obligations.ClientPortsReceiveAndSend) :
    Config.freeNs 0 % 1000000 = Config.freeNs 1 % 1000000 := by
  obtain ⟨on, up, hm, hl, hr, hs, hx⟩ := loopedDev_sends
  obtain ⟨before, after⟩ := loopedDev_stamps
  have looped := loopedBack_of_clientPortsReceiveAndSend h (k := 7) on (by decide) up hm hl hr hs (by decide) hx (fun j hj hj' => by omega)
    (e := loopedSent) (by rw [loopedSent])
  rw [before, after] at looped
  have shown := congrArg (fun d => tfind (psl d (ctxSlice 0)).buckets 0) looped
  have buckets := (loopedSent_bucket _).symm.trans (shown.trans (loopedSent_bucket _))
  exact Nat.add_left_cancel (congrArg Bucket.at_ (Option.some.inj buckets))

end Sys2Proof.Proofs
end
